-- ==== Sys2Proof/Word.lean ====
section
/-! DEFINITION. The word types of the EBF-6820: registers are 32-bit words (R7), memory is bytes, Clave is a 64-bit tick (R38), a signal is the 32 bits of an IEEE 754 binary32 (R12). -/

namespace Sys2Proof

/-- A byte of memory. -/
abbrev Byte := BitVec 8

/-- A 32-bit register (R7). -/
abbrev Word := BitVec 32

/-- A Clave tick count or stamp (R38). -/
abbrev Tick := BitVec 64

/-- The bits of an IEEE 754 binary32 number (R12); arithmetic on them is in Machine/Float.lean. -/
abbrev F32 := BitVec 32

end Sys2Proof
end

