-- ==== Sys2Proof/Syntax.lean ====
section
/-! DEFINITION. The commands the block takes: one constructor per row of spec/opcode_table.json, with the operands its step needs. -/

namespace Sys2Proof

/-- A half of a lockstep pair: the leading core, which also stands for a joined pair, or the trailing core of a split pair (R71, R517). -/
inductive Half where
  | leading | trailing
deriving DecidableEq, Repr

/-- A DMA master on the bus (R32). -/
inductive Dma where
  | hif | olk | nvc
deriving DecidableEq, Repr

/-- A bus master: a core of pair `p` in Machine or User mode, a DMA engine, or the boot ROM before firmware starts. -/
inductive Master where
  | core (p : Fin 3) (h : Half) (machine : Bool)
  | dma (d : Dma)
  | bootRom
deriving DecidableEq, Repr

/-- The width of a bus access (R6, R716). -/
inductive AccSize where
  | byte | half | word
deriving DecidableEq, Repr

/-- One lane's copy of an inter-die frame: header and data (48 bits) and whether its CRC is good (R14). -/
structure IdlCopy where
  good : Bool
  frame : BitVec 48
deriving DecidableEq, Repr

/-- The receiving die of an inter-die frame. -/
inductive Die where
  | lDie | dDie
deriving DecidableEq, Repr

/-- A safety channel: SMON-A on the L-die, SMON-B on the D-die. -/
inductive Chan where
  | smonA | smonB
deriving DecidableEq, Repr

/-- A traction system. -/
inductive Sys where
  | tsA | tsB
deriving DecidableEq, Repr

/-- The 16 payload bytes of a journal record as four little-endian words (R58). -/
structure Payload where
  w0 : Word := 0
  w1 : Word := 0
  w2 : Word := 0
  w3 : Word := 0
deriving DecidableEq, Repr

/-- A wake source in the bit order of SYS_WAKE_EN (R101). -/
inductive WakeSrc where
  | can | olk | pilot | enable | alarm
deriving DecidableEq, Repr

/-- What an integrity check of a run found (R167, R168, R170): an address is an offset in coefficient RAM, or in the context range with bit 31 set. -/
inductive CleError where
  | corrected (addr : Word)
  | uncorrectable (addr : Word) (pos : Fin 8)
  | residue
deriving DecidableEq, Repr

/-- One pair of the resolver's converters: the codes of sine and cosine, and the voltage at RES_EXC_P/N at their hold edge (R257, R265). -/
structure ResPair where
  s : BitVec 16
  c : BitVec 16
  exc : F32
deriving DecidableEq, Repr
/-- What the sender of RES_LOSS sees (R265, R270): the pairs converted since those the state holds; how long the excitation's current limit
has acted, in ticks; the tracking error, which the state holds; the deviation a converter's check finds. -/
inductive ResCond where
  | samples (pairs : List ResPair)
  | current (acting : Nat)
  | tracking
  | converter (cosine : Bool) (dev : BitVec 16)
deriving DecidableEq, Repr

/-- What the off-state diagnostics measure on one LG leg: T1 and T2 node voltages and the T3 voltage taken as leg b of its pair, in 20 mV, and whether a gate was sensed above the confirm-off threshold (R346). -/
structure DiagLeg where
  t1 : BitVec 12
  t2 : BitVec 12
  t3 : BitVec 12
  gate : Bool
deriving DecidableEq, Repr

/-- One pilot period as measured (R401): the averages of its high and low plateau in mV, its high time and its length in ticks. -/
structure PilotPulse where
  high : BitVec 16
  low : BitVec 16
  on : BitVec 32
  per : BitVec 32
deriving DecidableEq, Repr

/-- What the pilot measurement gives (R401): three consecutive periods, newest last; or, with no edge for 2 ms, the levels averaged over the
last three milliseconds, in mV, newest last. -/
inductive PilotMeas where
  | pulses (a b c : PilotPulse)
  | quiet (a b c : BitVec 16)
deriving DecidableEq, Repr

/-- A sealed parameter set of the safety pod (R485). -/
structure Params where
  xover : BitVec 16
  maxRpm : BitVec 16
  plRpm : BitVec 16
  /-- 0 SPEED, 1 OFF_ONLY, 2 ASC_ONLY. -/
  policy : BitVec 2
  /-- SMON-B over-voltage threshold, V. -/
  ovB : F32
  /-- SMON-B scale and offset of AIN88 to AIN94 (R456), index 0 to 6. -/
  scaleB : List F32
  ofsB : List F32
  /-- Resolver for SMON-B: pole pairs, nominal period in µs, amplitude window. -/
  rpole : BitVec 4
  nomPer : F32
  ampLo : F32
  ampHi : F32
  /-- Park lock: Hall map in the form of PFB_HALL_MAP, engage direction (true: backward). -/
  hallMap : Word
  engBack : Bool
  /-- The RWS registers the boot ROM loads: address and value (R485). -/
  rws : List (Nat × Word)
deriving DecidableEq, Repr
/-- A safety pod as a channel holds it: its CRC-32C, whether its own CRC is good, and its parameter sets by strap value (R483). -/
structure SafetyPod where
  crc : Word
  good : Bool
  sets : List (BitVec 8 × Params)
deriving DecidableEq, Repr
/-- A sampling instant of SMON-B's resolver (R454): none is due; missed; or RES_SIN and RES_COS relative to the nominal amplitude, taken at
the negative peak of the excitation (`neg`) or the positive one, with the excitation period as last measured and the time since the last sample
taken, both in 16 MHz cycles of its clock. -/
inductive SadcRes where
  | none
  | missed
  | taken (sn cs : F32) (neg : Bool) (period clk : BitVec 32)
deriving DecidableEq, Repr

/-- What SMON-B's safety ADC and inputs give at an evaluation (R445, R454, R456): the resolver, the codes of AIN88 (the DC link) and of AIN89
to AIN94 (the phases), and the raw levels of the park-lock Halls with the peripheral clocks they have stood. -/
structure SadcIn where
  res : SadcRes
  vdc : BitVec 16
  ph : List (BitVec 16)
  hall : Fin 8
  stable : Nat
deriving DecidableEq, Repr

/-- What a checker compares (R493): its code in LKS_PAIR_LAST.ITEM. -/
inductive LksItem where
  | bus | regWrite | csrWrite | branch | parity
deriving DecidableEq, Repr
/-- The verified state of a pair at an event: program counter, instruction count, and the register file's words (R495). -/
structure Verified where
  pc : Word
  count : BitVec 64
  file : List Word
deriving DecidableEq, Repr
/-- An error found in a word of a verified register file (R507). -/
structure VrfErr where
  word : BitVec 8
  uncorrectable : Bool
deriving DecidableEq, Repr

/-- A sample of one temperature sensor: the ratio of a TIN input to its reference in 1/4,096 (sensors 0 to 15), or an on-die reading in °C (16 to 23) (R531, R532). -/
structure SensRead where
  sensor : Fin 24
  ratio : BitVec 12
  temp : F32
deriving DecidableEq, Repr

/-- The datagram an Ethernet frame carries (R561): addresses, ports, whether it is an IP fragment, and the frame's bytes before the UDP
payload, with a VLAN tag stripped (R560). -/
structure Datagram where
  src : Word
  dst : Word
  srcPort : BitVec 16
  dstPort : BitVec 16
  fragment : Bool
  head : List Byte
deriving DecidableEq, Repr
/-- An ACP frame as it arrives from the host: its path (0 CAN0, 1 CAN1, 2 Ethernet), whether a CAN frame is an FD frame, the header but for TYPE, the bytes after the header, on Ethernet the datagram around it, and the ticks since the instant R56 stamps (R556, R561, R564). -/
structure AcpFrame where
  path : Fin 3
  fd : Bool
  flags : Byte
  seq : BitVec 16
  ack : BitVec 16
  len : BitVec 16
  crc : BitVec 16
  payload : List Byte
  udp : Datagram
  age : Nat
deriving DecidableEq, Repr
/-- A frame that an OmterLink port has received whole with a good CRC: port, and the header but for TYPE, and payload (R590, R591). -/
structure OlkRx where
  port : Fin 2
  hop : Byte
  src : Fin 8
  seq : BitVec 16
  payload : List Byte
deriving DecidableEq, Repr
/-- The contents of a TIME_REQ or the tail of a TIME_RESP: unit, HOPS, ROLE, LOCKED, MASTER_ID (R597, R599). -/
structure TimeInfo where
  unit : Fin 8
  hops : Fin 8
  role : Fin 3
  locked : Bool
  master : Fin 8
deriving DecidableEq, Repr

/-- What the boot ROM finds when it reads SFDP (R622): the flash size in MiB, and why it stays in 1S-1S-1S: no table (false) or the switch failed (true). -/
structure FlashBoot where
  size : BitVec 16
  slow : Option Bool
deriving DecidableEq, Repr
/-- The contents of a system pod: the registers the boot ROM loads from it, and whether it enables the full memory BIST (R106). -/
structure SystemPod where
  loads : List (Nat × Word)
  memBist : Bool
deriving DecidableEq, Repr

/-- An operation of the test port's DBG instruction (R707): halt or resume core `c`, step it, or the debug reset (R116). -/
inductive DbgOp where
  | halt (c : Fin 6) | resume (c : Fin 6) | step (c : Fin 6) | reset (f : FlashBoot)
deriving DecidableEq, Repr

/-- A command: a bus access, a frame, a measurement or an event of the device, one whole step each. -/
inductive Instr where
  /-- REGISTER_WRITE (R9): master `m` writes `value` at `addr`; `hwSet` are the bits hardware sets in the same cycle (R10). -/
  | registerWrite (m : Master) (addr : Word) (size : AccSize) (value hwSet : Word)
  /-- RC_READ (R11): master `m` reads `addr` with a width; `added` is what hardware adds to the register's RC fields in the same cycle, `ecc` says that a word of coefficient RAM or a state word read holds a single-bit error (R167), `tag` the instruction count of a core's load (R498). -/
  | rcRead (m : Master) (addr : Word) (size : AccSize) (added : Word) (ecc : Bool) (tag : BitVec 64)
  /-- LO_HI_LATCH_READ (R41): master `m` reads the LO or HI register at `addr` of a 64-bit pair; `tag` is the instruction count of a core's load (R498). -/
  | loHiLatchRead (m : Master) (addr : Word) (tag : BitVec 64)
  /-- IDL_FRAME_RECEIVE (R14): the copies of one frame that reach `die` on lanes 0 and 1. -/
  | idlFrameReceive (die : Die) (copy0 copy1 : Option IdlCopy)
  /-- IDL_LANE_DOWN (R16): the lane gave no good frame for 1 µs. -/
  | idlLaneDown (lane : Fin 2)
  /-- IDL_LOST (R18): neither lane gave a good frame for 1 µs. -/
  | idlLost
  /-- IDL_LANE_RETRY (R19): a lane that is down is trained again. -/
  | idlLaneRetry (lane : Fin 2)
  /-- IDL_LANE_RESTORED (R19): a lane in training has given 1,000 good frames. -/
  | idlLaneRestored (lane : Fin 2)
  /-- D_DIE_ACCESS (R20): master `m` issues a read or a write of a D-die register; `hwSet` are the bits hardware sets in the cycle of the write (R10), `tag` the instruction count of a core's load. -/
  | dDieAccess (m : Master) (addr : Word) (size : AccSize) (write : Bool) (value hwSet : Word) (tag : BitVec 64)
  /-- D_DIE_ACCESS_COMPLETE (R20): the oldest access to the D-die is answered. -/
  | dDieAccessComplete
  /-- SMB_ACCESS_TIMEOUT (R21): the oldest access to the D-die was not answered within 4 µs. -/
  | smbAccessTimeout
  /-- CLK_MON_CPU (R25): PLL-A left ±2 % for 1 µs. -/
  | clkMonCpu
  /-- CLK_MON_CTRL (R25): PLL-B left ±2 % for 1 µs. -/
  | clkMonCtrl
  /-- SMONB_CLOCK_FAULT (R26): the check clock left ±8 % of SMON-B's oscillator for 10 µs. -/
  | smonbClockFault
  /-- XTAL25_LOSS (R27): XTAL25 stopped for 1 µs. -/
  | xtal25Loss
  /-- XTAL32_LOSS (R28): XTAL32 stopped for 250 ms. -/
  | xtal32Loss
  /-- CLV_ALARM_FIRE (R45): the count has reached the armed alarm. -/
  | clvAlarmFire
  /-- CLV_ALARM_REARM (R45): master `m` writes CLV_ALARM_HI (`hi`) or CLV_ALARM_CTRL with `value`. -/
  | clvAlarmRearm (m : Master) (hi : Bool) (value : Word)
  /-- TIME_EXCHANGE (R46): the 1 ms exchange on the port toward the master begins with a request sent at t1. -/
  | timeExchange
  /-- CLV_SYNC_TIMEOUT (R49): no exchange completed for 5 ms. -/
  | clvSyncTimeout
  /-- CLV_RATE_LIMIT (R52): the servo has needed more than ±500 ppm for 100 ms; `demand` is the correction in ppb. -/
  | clvRateLimit (demand : Word)
  /-- CLV_PTP_RATE_WRITE (R55): master `m` writes CLV_PTP_RATE. -/
  | clvPtpRateWrite (m : Master) (value : Word)
  /-- CLV_PERIODIC (R75): periodic `n` is due at the present Clave. -/
  | clvPeriodic (n : Fin 16)
  /-- CLV_PER_PERIOD_WRITE (R713): master `m` writes CLV_PER_PERIOD[n]. -/
  | clvPerPeriodWrite (m : Master) (n : Fin 16) (value : Word)
  /-- JRN_INSERT (R60): the journal writer inserts the next waiting record. -/
  | jrnInsert
  /-- JRN_INSERT_TIMEOUT (R63): waiting records older than 2 µs are discarded. -/
  | jrnInsertTimeout
  /-- JRN_OVERRUN (R63): the backlog is clear; the overrun of the first source that has one is reported. -/
  | jrnOverrun
  /-- JRN_PIN_RELEASE (R67): master `m` writes JRN_PIN_RELEASE. -/
  | jrnPinRelease (m : Master) (value : Word)
  /-- JRN_START (R69): the journal writer runs after a reset or wake and inserts its first record. -/
  | jrnStart
  /-- JRN_FW_COMMIT (R70): master `m` writes JRN_FW_COMMIT[c]. -/
  | jrnFwCommit (m : Master) (c : Fin 6)
  /-- MODE_REQ_ARMING (R80): master `m` requests ARMING. -/
  | modeReqArming (m : Master)
  /-- MODE_REQ_DRIVE (R90): master `m` requests DRIVE. -/
  | modeReqDrive (m : Master)
  /-- MODE_REQ_CHARGE (R80): master `m` requests CHARGE. -/
  | modeReqCharge (m : Master)
  /-- MODE_REQ_SERVICE (R80): master `m` requests SERVICE. -/
  | modeReqService (m : Master)
  /-- MODE_REQ_SLEEP (R80): master `m` requests DORMANT. -/
  | modeReqSleep (m : Master)
  /-- MODE_REQ_CLEAR_SAFE (R80): master `m` requests CLEAR_SAFE. -/
  | modeReqClearSafe (m : Master)
  /-- MODE_REQ_CLEAR_DEGRADE (R95): master `m` requests CLEAR_DEGRADE. -/
  | modeReqClearDegrade (m : Master)
  /-- MODE_REQ_INVALID (R84): master `m` writes SYS_MODE_REQ with a value it does not list. -/
  | modeReqInvalid (m : Master) (value : BitVec 4)
  /-- SLEEP_TIMEOUT (R717): the sleep timeout of ARMING expires. -/
  | sleepTimeout
  /-- SLEEP_DEFERRED (R717): the conditions of SLEEP hold after the timeout had expired without them. -/
  | sleepDeferred
  /-- DORMANT_NVM_IDLE (R104): the NVM operation in flight at entry into DORMANT has ended. -/
  | dormantNvmIdle
  /-- DORMANT_RAILS_OFF (R104): the entry into DORMANT ends and the L-die rails are removed. -/
  | dormantRailsOff
  /-- WAKE_AFTER_ENTRY (R103): a wake source that fired during the entry starts the wake. -/
  | wakeAfterEntry (f : FlashBoot)
  /-- SAFE_DECISION (R463): SMON-A decides SAFE on the first waiting SAFE-class record. -/
  | safeDecision
  /-- DEGRADE_REACTION (R89): the first waiting DEGRADE-class record changes the sub-state. -/
  | degradeReaction
  /-- EN_LEVEL_CHANGE (R96): channel `c` takes new filtered levels of EN_A and EN_B. -/
  | enLevelChange (c : Chan) (enA enB : Bool)
  /-- OPEN_ONCE_LOW_OK (R97): both lines have been low for 10 ms in channel `c`. -/
  | openOnceLowOk (c : Chan)
  /-- EN_DISCREPANCY (R97): the lines have differed for 20 ms in channel `c`. -/
  | enDiscrepancy (c : Chan)
  /-- WAKE_EVENT (R101): a wake source fires. -/
  | wakeEvent (src : WakeSrc) (f : FlashBoot)
  /-- SMON_FIRST_SELECTION (R105): channel `c` completes its first safe-state selection. -/
  | smonFirstSelection (c : Chan)
  /-- LOGIC_BIST_DONE (R106): logic BIST ends; `fail` names the first failing pair and its scan chain. -/
  | logicBistDone (fail : Option (Fin 3 × Word))
  /-- MEMORY_BIST_DONE (R106): full SRAM BIST ends; `fail` names the failing region and address. -/
  | memoryBistDone (fail : Option (BitVec 8 × Word))
  /-- CLE_CTX_SWTRIG (R143): master `m` writes CLE_CTX_SWTRIG[n]. -/
  | cleCtxSwtrig (m : Master) (n : Fin 128)
  /-- CLE_RATE_GEN (R144): rate generator `g` is due; `pairs` are the resolver's pairs converted since its last firing that
  the state does not hold yet, oldest first (R257). -/
  | cleRateGen (g : Fin 8) (pairs : List ResPair)
  /-- CLE_RUN_START (R152): the first context in order that may run starts on the free lane. -/
  | cleRunStart (lane : Fin 4)
  /-- CLE_RUN_COMMIT (R119): the run on the lane ends; `errs` is what the integrity checks found in it, in order. -/
  | cleRunCommit (lane : Fin 4) (errs : List CleError)
  /-- CLE_DELIVER (R155): the oldest committed output reaches its destination latch. -/
  | cleDeliver
  /-- CLE_CTX_ENABLE (R160): master `m` writes CLE_CTX_CTRL[n] with EN = 1. -/
  | cleCtxEnable (m : Master) (n : Fin 128) (value : Word)
  /-- CLE_CTX_DISABLE (R161): master `m` writes CLE_CTX_CTRL[n] with EN = 0. -/
  | cleCtxDisable (m : Master) (n : Fin 128) (value : Word)
  /-- CLE_BANK_WRITE (R136): master `m` writes CLE_CTX_CTRL[n] with a bank. -/
  | cleBankWrite (m : Master) (n : Fin 128) (value : Word)
  /-- CLE_CHAIN_WRITE (R138): master `m` writes CLE_CTX_CHAIN[n]. -/
  | cleChainWrite (m : Master) (n : Fin 128) (value : Word)
  /-- CLE_STATE_WRITE (R163): master `m` writes state word 1 or 2 (`two`) of section position `i` of context `n`. -/
  | cleStateWrite (m : Master) (n : Fin 128) (i : Fin 8) (two : Bool) (value : Word)
  /-- CLE_COEF_WRITE (R133): master `m` writes word `w` of coefficient section `sec`. -/
  | cleCoefWrite (m : Master) (sec : Fin 1024) (w : Fin 8) (value : Word)
  /-- CLE_RSV_WRITE (R154): master `m` writes CLE_GLB_CTRL. -/
  | cleRsvWrite (m : Master) (value : Word)
  /-- CLE_SCRUB (R169): the scrub reads a word of coefficient RAM; `err` says that it held a single-bit error. -/
  | cleScrub (word : Fin 8192) (err : Bool)
  /-- ADC_SEQ_SWTRIG (R177): master `m` writes ADC_SEQ_SWTRIG[q]. -/
  | adcSeqSwtrig (m : Master) (q : Fin 32)
  /-- ADC_SEQ_HOLD (R175): enough converters are free for the sequence that waits first. -/
  | adcSeqHold
  /-- ADC_SEQ_COMPLETE (R176): the last slot of sequence `q` completes; `codes` are the results in slot order. -/
  | adcSeqComplete (q : Fin 32) (codes : List (BitVec 16))
  /-- ADC_HANDOVER (R181): the position of the next core goes to the spare. -/
  | adcHandover
  /-- ADC_SPARE_CAL_DONE (R182): the spare's calibration ends with this deviation at 50 %, in LSB. -/
  | adcSpareCalDone (dev : BitVec 16)
  /-- ADC_REF_CHECK (R183): core `core` converted the 50 % reference with this deviation, in LSB. -/
  | adcRefCheck (core : Fin 16) (dev : BitVec 16)
  /-- ADC_CAL_NOW (R186): master `m` writes ADC_CTRL. -/
  | adcCalNow (m : Master) (value : Word)
  /-- ADC_WC_TRIP (R188): the input of comparator `k` is above HI (`above`), or below LO (`below`), after its filter. -/
  | adcWcTrip (k : Fin 16) (above below : Bool)
  /-- ADC_SD_RESULT (R190): input `n` gives filter output `y`, normalised to [-1, 1]. -/
  | adcSdResult (n : Fin 8) (y : F32)
  /-- ADC_SD_CMP_TRIP (R191): the sinc2 comparator of input `n` reads `value` in scaled units. -/
  | adcSdCmpTrip (n : Fin 8) (value : F32)
  /-- ADC_SD_LOSS (R192): input `n` lost its clock (`data` false) or its data. -/
  | adcSdLoss (n : Fin 8) (data : Bool)
  /-- TMU_OFFSET_CAL_REQ (R197): master `m` writes TMU_SYS_CAL of a system. -/
  | tmuOffsetCalReq (m : Master) (sys : Fin 2) (value : Word)
  /-- TMU_OFFSET_CAL_DONE (R197): the 1,024 samples of a system's offset measurement are complete. -/
  | tmuOffsetCalDone (sys : Fin 2)
  /-- TMU_ENABLE (R220): master `m` writes TMU_CFG with EN = 1. -/
  | tmuEnable (m : Master) (value : Word)
  /-- TMU_DISABLE (R231): master `m` writes TMU_CFG with EN = 0. -/
  | tmuDisable (m : Master) (value : Word)
  /-- TMU_START (R229): the systems of the present arrangement start at their update event. -/
  | tmuStart
  /-- TMU_POS_REENTRY (R236): the systems restart after position has been valid again for 10 ms. -/
  | tmuPosReentry
  /-- TMU_PLANE_CHANGE (R238): the arrangement changes at the update event of the running system's group. -/
  | tmuPlaneChange
  /-- TMU_BC_BUDGET (R242): the on-time of GC12 reaches its budget. -/
  | tmuBcBudget
  /-- BC_BUDGET_CLEAR (R242): the on-time of GC12 has fallen below half its budget. -/
  | bcBudgetClear
  /-- BC_TEST_DONE (R244): the 100 pulses of the brake-chopper test are over; `gsFail` is the first pulse GS12 did not follow, `v0` and `v1` the DC-link voltage at start and end. -/
  | bcTestDone (gsFail : Option (Fin 100)) (v0 v1 : F32)
  /-- PFB_ENABLE (R253): master `m` writes PFB_CFG. -/
  | pfbEnable (m : Master) (value : Word)
  /-- PFB_RES_ENABLE (R256): master `m` writes PFB_RES_CTRL. -/
  | pfbResEnable (m : Master) (value : Word)
  /-- RES_ACQUIRE (R262): both results after a clean excitation period are there and tracking starts. -/
  | resAcquire
  /-- RES_LOCK (R264): 32 results within the lock limit. -/
  | resLock
  /-- RES_LOSS (R266): a loss condition is declared. -/
  | resLoss (cond : ResCond)
  /-- RES_CAL_FIT (R269): the fit over a complete resolver revolution is there. -/
  | resCalFit
  /-- RES_CHECK_PASS (R272): VALID has held 10 ms in ARMING. -/
  | resCheckPass
  /-- PFB_RES_CHECK_FAIL (R272): VALID has not held 10 ms within 100 ms of the excitation's start. -/
  | pfbResCheckFail
  /-- ENC_EDGE (R273): ENC_A and ENC_B have stood at `a`, `b` for `na`, `nb` control cycles. -/
  | encEdge (a b : Bool) (na nb : Nat)
  /-- ENC_INDEX (R276): ENC_Z has risen and been high for `n` control cycles. -/
  | encIndex (n : Nat)
  /-- ENC_SPEED_TIMEOUT (R280): no encoder edge for PFB_ENC_TMO. -/
  | encSpeedTimeout
  /-- HALL_SECTOR_CHANGE (R282): the levels of actuator `m` form `code`, those that differ stable for `stable` peripheral clocks; `jitter` is the stamp's uncertainty less its lower bound of -16 ticks (R283). -/
  | hallSectorChange (m : Fin 3) (code : Fin 8) (stable : Nat) (jitter : Fin 33)
  /-- HALL_TIMEOUT (R285): no change of actuator `m` for PFB_HALL_TMO. -/
  | hallTimeout (m : Fin 3)
  /-- CMP_ARM (R287): master `m` writes PFB_CMP_VAL[c]. -/
  | cmpArm (m : Master) (c : Fin 8) (value : Word)
  /-- PWM_RUN_START (R299): master `m` writes PWM_GRP_CTRL[g] with RUN = 1. -/
  | pwmRunStart (m : Master) (g : Fin 12) (value : Word)
  /-- PWM_CARRIER_START (R299): the carrier of group `g` starts. -/
  | pwmCarrierStart (g : Fin 12)
  /-- PWM_RUN_STOP (R301): master `m` writes PWM_GRP_CTRL[g] with RUN = 0. -/
  | pwmRunStop (m : Master) (g : Fin 12) (value : Word)
  /-- PWM_CENTRE_EVENT (R298): the carrier of group `g` reaches its centre. -/
  | pwmCentreEvent (g : Fin 12)
  /-- PWM_PEAK_EVENT (R298): the carrier of group `g` reaches its peak. -/
  | pwmPeakEvent (g : Fin 12)
  /-- PWM_UPDATE_EVENT (R306): group `g` loads its shadows. -/
  | pwmUpdateEvent (g : Fin 12)
  /-- SAFE_PATTERN_APPLY (R311): a new safe pattern or the global disable takes effect on group `g`. -/
  | safePatternApply (g : Fin 12)
  /-- GATE_TURN_ON (R315): the interlock releases channel `ch`; `confirmed` says that the opposite switch is confirmed off, `boot` that BSTk of a high side stands at or above the undervoltage level (R337). -/
  | gateTurnOn (ch : Fin 69) (confirmed boot : Bool)
  /-- PWM_CONFIRM_TMO (R317): channel `ch`, commanded on, has waited CONF_TMO for the opposite switch. -/
  | pwmConfirmTmo (ch : Fin 69)
  /-- PWM_GATE_UNCMD (R322): GS of channel `n` has been low for `low` control cycles without a command, after `high` cycles high. -/
  | pwmGateUncmd (n : Fin 31) (low high : Nat)
  /-- PWM_GATE_NO_ON (R323): channel `ch` has not turned on within GS_ON_TMO of its release. -/
  | pwmGateNoOn (ch : Fin 69)
  /-- GDR_GC_FAULT (R324): GF of channel `n` has been low for `low` control cycles. -/
  | gdrGcFault (n : Fin 31) (low : Nat)
  /-- GDR_LATCH_CLEAR (R333): master `m` writes GDR_LATCH_GC, LG_LO or LG_HI (`which` 0 to 2); `gs`, `gf` are the levels of GS (high: off) and GF (high: no fault), `lgOff` and `lgClear` the D-die's confirmed-off and flags-clear lines. -/
  | gdrLatchClear (m : Master) (which : Fin 3) (value : Word) (gs gf : BitVec 31) (lgOff lgClear : BitVec 38)
  /-- GDR_BOOT_UV (R337): the turn-on of high side LG`k` has waited CONF_TMO for its bootstrap. -/
  | gdrBootUv (k : Fin 38)
  /-- GDR_CP_FAIL (R341): the charge pump of high side LG`k` stayed below the undervoltage level for 10 µs. -/
  | gdrCpFail (k : Fin 38)
  /-- GDR_LG_VDS (R342): LG`k` shows a drain voltage over the threshold after blanking. -/
  | gdrLgVds (k : Fin 38)
  /-- GDR_LG_CC (R344): the current comparator of bridge `b` trips. -/
  | gdrLgCc (b : Fin 12)
  /-- LG_DIAG_DONE (R347): the off-state diagnostics end with `legs` (19 of them), VBAT in 20 mV and the conversion of the output voltage. -/
  | lgDiagDone (legs : List DiagLeg) (vbat : BitVec 12) (vo : BitVec 16)
  /-- ABC_SWITCH (R349): VSNS_ACT, in mV, has crossed ABC_ON or ABC_OFF. -/
  | abcSwitch (mv : BitVec 16)
  /-- GDR_ABC_BUDGET (R350): ABC has been on for ABC_MAXON in the last 100 ms. -/
  | gdrAbcBudget
  /-- LVC_ENABLE (R370): master `m` writes LVC_CTRL with EN = 1. -/
  | lvcEnable (m : Master) (value : Word)
  /-- LVC_DCX_SS_END (R371): LVC_DCX_SS has elapsed. -/
  | lvcDcxSsEnd
  /-- LVC_DCX_SR_ON (R371): the bus has been in its window for 1 ms. -/
  | lvcDcxSrOn
  /-- LVC_DCX_START_FAIL (R371): the bus is not in its window within 5 ms. -/
  | lvcDcxStartFail
  /-- LVC_RUN_ENTRY (R371): the compensation context has ended a run with RAMP_DONE. -/
  | lvcRunEntry
  /-- LVC_SHED (R375): I_out has been below LVC_SHED_DN for the hold. -/
  | lvcShed
  /-- LVC_ORDERLY_STOP (R372): master `m` writes LVC_CTRL with EN = 0. -/
  | lvcOrderlyStop (m : Master) (value : Word)
  /-- LVC_STOP_DONE (R372): the stop ramp ends. -/
  | lvcStopDone
  /-- LVC_VIN_LOW (R359): Vdc has been below LVC_VIN_MIN for 1 ms. -/
  | lvcVinLow
  /-- LVC_OUT_UV (R386): V_fb has been below LVC_UV_THR for 1 ms. -/
  | lvcOutUv
  /-- LVC_HEADROOM (R367): the compensation context has saturated high for 1 ms. -/
  | lvcHeadroom
  /-- LVC_ILIM (R390): ILIM has been set for 10 ms. -/
  | lvcIlim
  /-- LVC_RS_RETRY (R384): master `m` writes LVC_CTRL with RS_RETRY. -/
  | lvcRsRetry (m : Master) (value : Word)
  /-- CHG_ENABLE (R411): master `m` writes CHG_CTRL with EN = 1. -/
  | chgEnable (m : Master) (value : Word)
  /-- CHG_FE_START (R412): the grid conditions hold and the front end starts. -/
  | chgFeStart
  /-- CHG_GRID_TIMEOUT (R412): WAIT_GRID has not ended within 5 s. -/
  | chgGridTimeout
  /-- CHG_PILOT_CHANGE (R401): three agreeing pilot periods. -/
  | chgPilotChange (p : PilotMeas)
  /-- PP_MEASURE (R403): the proximity resistance in Ω. -/
  | ppMeasure (ohms : BitVec 24)
  /-- CHG_ORDERLY_STOP (R414): master `m` writes CHG_CTRL with EN = 0. -/
  | chgOrderlyStop (m : Master) (value : Word)
  /-- CHG_STOP_DONE (R414): the update event of TG3 that follows the end of the stop ramp. -/
  | chgStopDone
  /-- CHG_GRID_FAULT (R419): grid voltage or frequency (`freq`) out of range for its time. -/
  | chgGridFault (freq : Bool)
  /-- CHG_PLL_UNLOCK (R413): |vq| > 0.15 × vd for 2 ms. -/
  | chgPllUnlock
  /-- ACT_ENABLE (R429): master `m` writes ACT_CFG[a]. -/
  | actEnable (m : Master) (a : Fin 3) (value : Word)
  /-- ACT_GO (R431): master `m` writes ACT_CMD[a] with GO. -/
  | actGo (m : Master) (a : Fin 3) (value : Word)
  /-- ACT_STOP (R435): master `m` writes ACT_CMD[a] with STOP. -/
  | actStop (m : Master) (a : Fin 3) (value : Word)
  /-- ACT_STILL (R430): actuator `a` has been still for ACT_STILL_T. -/
  | actStill (a : Fin 3)
  /-- ACT_STALL (R437): actuator `a` has been still in RUN or CREEP for ACT_STALL_T. -/
  | actStall (a : Fin 3)
  /-- ACT_MOVE_TMO (R437): the move of `a` has not ended ACT_MOVE_TMO after its GO. -/
  | actMoveTmo (a : Fin 3)
  /-- ACT_SUP_LOW (R438): V_act has stayed below ACT_VMIN for 1 ms during a move of `a`. -/
  | actSupLow (a : Fin 3)
  /-- ACT_PL_REF (R442): master `m` writes ACT_PL_CTRL. -/
  | actPlRef (m : Master) (value : Word)
  /-- PL_INHIBIT_CUT (R449): channel `c`'s inhibit is active and the park-lock pattern is engage-directed. -/
  | plInhibitCut (c : Chan)
  /-- PL_INHIBIT_END (R449): the inhibit of `c` ends or the pattern stops being engage-directed. -/
  | plInhibitEnd (c : Chan)
  /-- SMON_EVALUATE (R463): channel `c` re-evaluates its codes; `inp` is what SMON-B measures (not used by SMON-A). -/
  | smonEvaluate (c : Chan) (inp : SadcIn)
  /-- SMONB_VDC_OV (R457): SMON-B's DC-link reading has exceeded its threshold for 20 µs. -/
  | smonbVdcOv
  /-- SMONB_OVERSPEED (R457): SMON-B's speed exceeded 1.05 × maximum in two consecutive samples. -/
  | smonbOverspeed
  /-- SMONB_ASC_IMPLAUS (R464): phase input AIN89 + `phase` has contradicted SMON-B's ASC for 20 µs. -/
  | smonbAscImplaus (phase : Fin 6)
  /-- SMON_OUT_FAULT (R467): the readback of channel `c`'s output pair has differed from its code for 1 µs. -/
  | smonOutFault (c : Chan) (back : BitVec 2)
  /-- SMONB_SUPPLY_RESTORE (R469): the conditions of the supplies have held for 1 ms after a reset or wake. -/
  | smonbSupplyRestore
  /-- SMONB_POD_RECEIVE (R458): SMON-B has read the safety pod over the inter-die link. -/
  | smonbPodReceive
  /-- WD_PERIOD_START (R471): channel `c` starts the next watchdog period of pair `p`. -/
  | wdPeriodStart (c : Chan) (p : Fin 3)
  /-- WD_ANSWER (R472): the oldest 0x04FF record reaches the channels; `bClock` is the time since the start of SMON-B's period in 16 MHz cycles of its clock. -/
  | wdAnswer (bClock : BitVec 32)
  /-- WD_HOLD_EXPIRE (R475): the hold timer of pair `p` in channel `c` reaches HOLD_MAX. -/
  | wdHoldExpire (c : Chan) (p : Fin 3)
  /-- WD_PAUSE (R476): master `m` writes SMA_WD_PAUSE[p]. -/
  | wdPause (m : Master) (p : Fin 3) (value : Word)
  /-- XCMP_EXCHANGE (R479): the channels exchange and compare snapshots. -/
  | xcmpExchange
  /-- SMON_XCMP_LOST (R479): no exchange completed for 300 µs. -/
  | smonXcmpLost
  /-- SEAL_READ (R482): channel `c` reads the straps. -/
  | sealRead (c : Chan) (a b : BitVec 8)
  /-- SEAL_KEY_WRITE (R486): master `m` writes SMA_SEAL_KEY. -/
  | sealKeyWrite (m : Master) (value : Word)
  /-- SEAL_PROG_GO (R486): master `m` writes SMA_SEAL_PROG; `supply` and `cool` say that VBAT and the junction permit blowing. -/
  | sealProgGo (m : Master) (value : Word) (supply cool : Bool)
  /-- SEAL_PROG_DONE (R486): the blown slot is read back. -/
  | sealProgDone (ok : Bool)
  /-- SMON_SADC_FAULT: the reference of the safety ADC on input `i` is off by more than 2 % (spec/11, fault codes). -/
  | smonSadcFault (i : BitVec 8)
  /-- LKS_MISMATCH (R496): the checkers that flagged (`a`, `b`) find a difference in `item` of pair `p`; `v` is the verified state, `err` what reading it for the reload finds (R507). -/
  | lksMismatch (p : Fin 3) (item : LksItem) (a b : Bool) (v : Verified) (err : Option VrfErr)
  /-- LKS_RESUME (R502): the recovery or rejoin of pair `p` ends; the checkers that flagged the injection on the test lane (R501). -/
  | lksResume (p : Fin 3) (a b : Bool)
  /-- PERIPH_LOAD_ISSUE (R499): pair `p`'s load of `addr`, at instruction count `tag`, is oldest and everything older has compared. -/
  | periphLoadIssue (p : Fin 3) (addr : Word) (size : AccSize) (tag : BitVec 64)
  /-- LKS_TEST_INJECT (R509): the injections; bit p of `missA`, `missB` says that the checker (or voter) missed pair (or triad) p's. -/
  | lksTestInject (missA missB : BitVec 3)
  /-- LKS_VRF_SCRUB (R507): the periodic read of pair `p`'s file, and the error it found. -/
  | lksVrfScrub (p : Fin 3) (err : Option VrfErr)
  /-- LKS_TAKEOVER_OFFER (R512): the standby of untrusted pair `p` is joined and trusted. -/
  | lksTakeoverOffer (p : Fin 3)
  /-- LKS_TAKEOVER (R513): pair `q` writes CMD = 3 to LKSHO. -/
  | lksTakeover (q : Fin 3)
  /-- LKS_SPLIT_REQ (R517): master `m` writes LKS_PAIR_CTRL[p] with SPLIT_REQ. -/
  | lksSplitReq (m : Master) (p : Fin 3) (value : Word)
  /-- LKSHO_SPLIT_READY (R517): pair `p` writes CMD = 1 to LKSHO. -/
  | lkshoSplitReady (p : Fin 3)
  /-- LKS_SPLIT (R517): the write has compared, the stores have drained and the cores separate. -/
  | lksSplit (p : Fin 3)
  /-- LKS_REJOIN_REQ (R519): master `m` writes LKS_PAIR_CTRL[p] with REJOIN_REQ. -/
  | lksRejoinReq (m : Master) (p : Fin 3) (value : Word)
  /-- LKSHO_REJOIN_READY (R519): core `h` of pair `p` writes CMD = 2; `v` is the leading core's state (used when the second write completes the pair). -/
  | lkshoRejoinReady (p : Fin 3) (h : Half) (v : Verified)
  /-- LKS_HO_TMO (R520): HO_TMO of pair `p` has passed; `v` is the leading core's state (used by a forced rejoin). -/
  | lksHoTmo (p : Fin 3) (v : Verified)
  /-- LKS_TRI_DISSENT (R526): core `k` of triad `t` dissents in `item`. -/
  | lksTriDissent (t : Fin 2) (k : Fin 3) (item : LksItem)
  /-- LKS_TRI_RELOAD (R526): the masked core of triad `t` is reloaded. -/
  | lksTriReload (t : Fin 2)
  /-- LKS_TRI_ROLLBACK (R527): triad `t` has no majority in `item` and rolls back; `v`, `err` as for LKS_MISMATCH. -/
  | lksTriRollback (t : Fin 2) (item : LksItem) (v : Verified) (err : Option VrfErr)
  /-- THM_SAMPLE (R534): the sensors of zone `z` are sampled. -/
  | thmSample (z : Fin 16) (reads : List SensRead)
  /-- THM_SENS_BROKEN_CLEAR (R543): master `m` writes THM_SENS_BROKEN. -/
  | thmSensBrokenClear (m : Master) (value : Word)
  /-- THM_HARD_CUT_TRIP (R546): the 158 °C comparator of on-die sensor 16 + `k` trips. -/
  | thmHardCutTrip (k : Fin 8)
  /-- THM_HARD_CUT_RESTORE (R547): every on-die sensor has read below 140 °C for 1 s. -/
  | thmHardCutRestore (f : FlashBoot)
  /-- SUP_VBAT_UV (R548): VBAT, `v` in V, is below its low threshold. -/
  | supVbatUv (v : F32)
  /-- SUP_VBAT_OV (R548): VBAT is above its high threshold. -/
  | supVbatOv (v : F32)
  /-- SUP_VGD_FAULT (R549): VGD, `v` in V, has left its window, above it (`high`) or below. -/
  | supVgdFault (high : Bool) (v : F32)
  /-- SUP_RAIL_FAULT (R548, R550): an L-die rail (0 VCORE, 1 VDDA, 2 VIO, 3 VAON) left its window at the D-die's monitor, or at the L-die's second monitor (`second`). -/
  | supRailFault (rail : Fin 4) (high second : Bool)
  /-- SUP_RAIL_RECOVER (R550): every rail has been within its window for 1 ms. -/
  | supRailRecover (f : FlashBoot)
  /-- SMONB_REG_FAULT (R551): the SMON-B regulator left its window. -/
  | smonbRegFault
  /-- ACP_COMMAND (R569): a frame of TYPE 0x01 arrives. -/
  | acpCommand (f : AcpFrame)
  /-- ACP_KEEPALIVE (R570): a frame of TYPE 0x02 arrives. -/
  | acpKeepalive (f : AcpFrame)
  /-- ACP_STATUS_REQ (R571): a frame of TYPE 0x03 arrives. -/
  | acpStatusReq (f : AcpFrame)
  /-- ACP_JOURNAL_REQ (R583): a frame of TYPE 0x04 arrives. -/
  | acpJournalReq (f : AcpFrame)
  /-- ACP_UPDATE_BLOCK (R648): a frame of TYPE 0x05 arrives. -/
  | acpUpdateBlock (f : AcpFrame)
  /-- ACP_ACTIVATE (R650): a frame of TYPE 0x06 arrives. -/
  | acpActivate (f : AcpFrame)
  /-- ACP_CONFIRM (R664): a frame of TYPE 0x07 arrives. -/
  | acpConfirm (f : AcpFrame)
  /-- ACP_FW_DEFINED (R567): a frame of TYPE 0x40 + `t` arrives. -/
  | acpFwDefined (t : Fin 64) (f : AcpFrame)
  /-- ACP_FRAME_INVALID (R568): a frame of any TYPE `t` arrives whose type or length may be wrong. -/
  | acpFrameInvalid (t : Byte) (f : AcpFrame)
  /-- CAN_RAW_FRAME (R558): controller `c` receives a frame on identifier `id` (`ide`: 29 bits) with `data`, `age` ticks after the instant R56 stamps. -/
  | canRawFrame (c : Fin 2) (ide : Bool) (id : BitVec 29) (data : List Byte) (age : Nat)
  /-- ETH_RAW_FRAME (R563): an Ethernet frame that is not ACP, `age` ticks after its SFD. -/
  | ethRawFrame (data : List Byte) (age : Nat)
  /-- HIF_CAN_BUSOFF (R555): controller `c` enters bus-off with this transmit error count. -/
  | hifCanBusoff (c : Fin 2) (tec : Byte)
  /-- CAN_BUSOFF_RECOVER (R555): controller `c` has seen 128 × 11 recessive bits. -/
  | canBusoffRecover (c : Fin 2)
  /-- HOST_LOST (R577): the host timer expires. -/
  | hostLost
  /-- STATUS_SEND (R581): HIF_STAT_PER has passed. -/
  | statusSend
  /-- HIF_TX_START (R574): the next frame to the host starts; a JOURNAL_DATA on UDP carries up to `n` + 1 records. -/
  | hifTxStart (n : Fin 32)
  /-- HIF_TXQ_WRITE (R620): master `m` writes HIF_TXQ_WR. -/
  | hifTxqWrite (m : Master) (value : Word)
  /-- OLK_BAD_FRAME (R591): a frame that fails R591 arrives on port `p`. -/
  | olkBadFrame (p : Fin 2)
  /-- OLK_STATUS (R606): a STATUS frame arrives. -/
  | olkStatus (f : OlkRx)
  /-- OLK_FAULT (R610): a FAULT frame arrives. -/
  | olkFault (f : OlkRx)
  /-- OLK_FW_SEG (R612): a FW_SEG frame arrives. -/
  | olkFwSeg (f : OlkRx)
  /-- OLK_FW_BLOCK_END (R612): a FW_BLOCK_END frame arrives. -/
  | olkFwBlockEnd (f : OlkRx)
  /-- OLK_ACTIVATE (R650): an ACTIVATE frame arrives. -/
  | olkActivate (f : OlkRx)
  /-- OLK_UPDATE_REVERTED (R663): an UPDATE_REVERTED frame arrives. -/
  | olkUpdateReverted (f : OlkRx)
  /-- OLK_APP (R598): an APP frame arrives. -/
  | olkApp (f : OlkRx)
  /-- OLK_TIME_REQ (R599): a TIME_REQ arrives on port `p` with SEQ bits 7:0 `seq`. -/
  | olkTimeReq (p : Fin 2) (seq : Byte) (i : TimeInfo)
  /-- OLK_TIME_RESP (R46): a TIME_RESP arrives on port `p`. -/
  | olkTimeResp (p : Fin 2) (seq : Byte) (t2 t3 : BitVec 64) (i : TimeInfo)
  /-- OLK_PROBE (R597): a PROBE arrives on port `p`. -/
  | olkProbe (p : Fin 2) (seq : Byte)
  /-- OLK_ACK_RX (R595): port `p` receives ACK with `sym`. -/
  | olkAckRx (p : Fin 2) (sym : Byte)
  /-- OLK_NAK_RX (R596): port `p` receives NAK with `sym`. -/
  | olkNakRx (p : Fin 2) (sym : Byte)
  /-- OLK_NAK_RETRY (R596): 2 µs after a NAK on port `p`. -/
  | olkNakRetry (p : Fin 2)
  /-- OLK_ACK_TIMEOUT (R595): 2 µs after the end of a frame on port `p` without ACK or NAK; `fault`: of its FAULT frame. -/
  | olkAckTimeout (p : Fin 2) (fault : Bool)
  /-- OLK_PROBE_SEND (R597): 1 ms on a port that is down. -/
  | olkProbeSend (p : Fin 2)
  /-- OLK_STATUS_SEND (R606): OLK_STAT_PER has passed. -/
  | olkStatusSend
  /-- OLK_PEER_LOST (R606): no chain frame from unit `u` for OLK_PEER_TMO. -/
  | olkPeerLost (u : Fin 8)
  /-- OLK_RING_RESTORED (R603): the ring's conditions have held for 100 ms. -/
  | olkRingRestored
  /-- OLK_FAULT_SEND (R607): the FAULT frame of a SAFE-HOLD entry starts. -/
  | olkFaultSend
  /-- OLK_TXQ_WRITE (R611): master `m` writes OLK_TXQ_WR. -/
  | olkTxqWrite (m : Master) (value : Word)
  /-- OLK_FWB_REL (R615): master `m` writes OLK_FWB_REL. -/
  | olkFwbRel (m : Master) (value : Word)
  /-- OLK_WAKE (R617): master `m` writes OLK_WAKE. -/
  | olkWake (m : Master) (value : Word)
  /-- HIF_ETH_LINK (R560): the PHY link comes up or is lost. -/
  | hifEthLink (up : Bool)
  /-- IMAGE_LOAD_DONE (R640): the boot ROM has loaded and verified each pair's image. -/
  | imageLoadDone
  /-- POD_READ_DONE (R643): the boot ROM has read the pods; a pod it cannot use is none; `fmt` is the FMT reported of one that is missing. -/
  | podReadDone (sys : Option SystemPod) (safety : Option SafetyPod) (fmt : Byte)
  /-- SEAL_CHECK (R483): each channel checks the seal. -/
  | sealCheck
  /-- FIRMWARE_START (R106): the boot ROM starts firmware. -/
  | firmwareStart
  /-- ARMING_STEPS_DONE (R88): all ARMING steps have passed. -/
  | armingStepsDone
  /-- ARMING_TIMEOUT (R108): the steps have not passed within 1 s. -/
  | armingTimeout
  /-- TEST_REQ_LG_DIAG (R111): master `m` requests test 0. -/
  | testReqLgDiag (m : Master)
  /-- TEST_REQ_LOGIC_BIST (R111): master `m` requests test 1. -/
  | testReqLogicBist (m : Master)
  /-- TEST_REQ_MEMORY_BIST (R111): master `m` requests test 2. -/
  | testReqMemoryBist (m : Master)
  /-- TEST_REQ_BRAKE_CHOPPER (R111): master `m` requests test 3. -/
  | testReqBrakeChopper (m : Master)
  /-- POWER_ON_RESET (R116): VBAT is applied, or falls below the always-on hold level. -/
  | powerOnReset (f : FlashBoot)
  /-- PIN_RESET (R116): NRESET has been low for 1 µs. -/
  | pinReset (f : FlashBoot)
  /-- SOFTWARE_RESET (R117): master `m` writes SYS_RST. -/
  | softwareReset (m : Master) (value : Word) (f : FlashBoot)
  /-- FATAL_RESET (R679): 5 ms after a FATAL stamp. -/
  | fatalReset (f : FlashBoot)
  /-- NVC_FIND_POD (R629): pair `p` writes `value` to NVC_CMD[p]. -/
  | nvcFindPod (m : Master) (p : Fin 3) (value : Word)
  /-- NVC_APPEND_POD (R628): as NVC_FIND_POD, OP 2. -/
  | nvcAppendPod (m : Master) (p : Fin 3) (value : Word)
  /-- NVC_APPEND_LOG (R634): OP 3. -/
  | nvcAppendLog (m : Master) (p : Fin 3) (value : Word)
  /-- NVC_READ (R626): OP 4. -/
  | nvcRead (m : Master) (p : Fin 3) (value : Word)
  /-- NVC_PROGRAM (R626): OP 5. -/
  | nvcProgram (m : Master) (p : Fin 3) (value : Word)
  /-- NVC_ERASE (R626): OP 6. -/
  | nvcErase (m : Master) (p : Fin 3) (value : Word)
  /-- NVC_COMPACT (R633): OP 7. -/
  | nvcCompact (m : Master) (p : Fin 3) (value : Word)
  /-- NVC_OP_COMPLETE (R625): the operation of pair `p`'s port completes; `ok`: it verified. -/
  | nvcOpComplete (p : Fin 3) (ok : Bool)
  /-- UPD_BLK_GO (R646): master `m` writes UPD_BLK_GO. -/
  | updBlkGo (m : Master)
  /-- UPD_BLOCK_COMMITTED (R646): the block is programmed and read back; `ok`: its CRC is good. -/
  | updBlockCommitted (ok : Bool)
  /-- UPD_STG_ABANDON (R645): master `m` writes UPD_STG_CTRL. -/
  | updStgAbandon (m : Master) (value : Word)
  /-- UPD_STAGED (R649): verification and bank preparation end. -/
  | updStaged
  /-- UPD_ACT_ARM (R651): master `m` writes UPD_ACT_CTRL with ARM. -/
  | updActArm (m : Master) (value : Word)
  /-- UPD_ACT_CANCEL (R651): master `m` writes UPD_ACT_CTRL with CANCEL. -/
  | updActCancel (m : Master) (value : Word)
  /-- UPD_PRE_INTERRUPT (R652): UPD_PRE_T before T. -/
  | updPreInterrupt
  /-- UPDHO_READY (R652): pair `p` writes CMD = 1 to UPDHO. -/
  | updhoReady (p : Fin 3)
  /-- UPD_ACTIVATE (R653): T has come, or a pair that was recovering has resumed. -/
  | updActivate
  /-- UPD_ACT_DONE (R654): the copy of pair `p`'s segments ends. -/
  | updActDone (p : Fin 3)
  /-- UPDHO_MIG_DONE (R661): pair `p` writes CMD = 2 to UPDHO. -/
  | updhoMigDone (p : Fin 3)
  /-- UPDHO_MIG_FAIL (R662): pair `p` writes CMD = 3 to UPDHO. -/
  | updhoMigFail (p : Fin 3)
  /-- UPD_MIG_TIMEOUT (R661): UPD_MIG_TMO has passed for pair `p`. -/
  | updMigTimeout (p : Fin 3)
  /-- UPD_CMD_CONFIRM (R664): master `m` writes UPD_CMD. -/
  | updCmdConfirm (m : Master) (value : Word)
  /-- UPD_CONFIRM_TIMEOUT (R664): UPD_CONF_T has passed. -/
  | updConfirmTimeout
  /-- PMC_CNT_LO_READ (R671): master `m` reads PMC_CNT_LO[n]. -/
  | pmcCntLoRead (m : Master) (n : Fin 512) (tag : BitVec 64)
  /-- PMC_MODE_WRITE (R668): master `m` writes PMC_MODE[w]. -/
  | pmcModeWrite (m : Master) (w : Fin 16) (value : Word)
  /-- PMC_CLR (R672): master `m` writes PMC_CLR[w]. -/
  | pmcClr (m : Master) (w : Fin 16) (value : Word)
  /-- PMC_OVERFLOW (R669): event `n`, which no other command delivers, occurs `c` times in this control cycle, and its counter wraps if that takes it past its end. -/
  | pmcOverflow (n : Fin 512) (c : Fin 4)
  /-- GONG_FREEZE (R675): the control cycle after the stamp of a FATAL record; `v` is the verified state of the pairs. -/
  | gongFreeze (v0 v1 v2 : Verified)
  /-- PMC_GNG_DONE (R679): master `m` writes PMC_GNG_CTRL. -/
  | pmcGngDone (m : Master) (value : Word) (f : FlashBoot)
  /-- RTL_KEY (R681): master `m` writes RTL_KEY. -/
  | rtlKey (m : Master) (value : Word)
  /-- RTL_MISM_GO (R685): master `m` writes RTL_MISM with GO; `v`, `err` as for LKS_MISMATCH of the next instruction. -/
  | rtlMismGo (m : Master) (value : Word) (v : Verified) (err : Option VrfErr)
  /-- RTL_STEP_GO (R687): master `m` writes RTL_STEP_GO. -/
  | rtlStepGo (m : Master)
  /-- JTAG_BYPASS (R707): the bits `tdi` pass through one cell. -/
  | jtagBypass (tdi : List Byte)
  /-- JTAG_IDCODE (R707). -/
  | jtagIdcode
  /-- JTAG_SAMPLE_PRELOAD (R707): the boundary register is sampled, and loaded with `cells`. -/
  | jtagSamplePreload (cells : List Bool)
  /-- JTAG_DBG_CHAL (R707). -/
  | jtagDbgChal
  /-- JTAG_DBG_RESP (R708): a 64-byte signature over the digest of the last challenge and the identity. -/
  | jtagDbgResp (sig : List Byte)
  /-- JTAG_EXTEST (R707). -/
  | jtagExtest
  /-- JTAG_DBG (R707). -/
  | jtagDbg (op : DbgOp)
  /-- ABC_BUDGET_RELEASE (R350): the on-time of ABC in the window has fallen below half of ABC_MAXON. -/
  | abcBudgetRelease
  /-- ADC_SEQ_CONTINUOUS (R177): the interval of continuous sequence `q` has passed. -/
  | adcSeqContinuous (q : Fin 32)
deriving DecidableEq, Repr

end Sys2Proof
end

