-- ==== Sys2Proof/Decode.lean ====
section
/-! DEFINITION. Decoding words to commands. The table of commands gives no row any bits: no word spells a command. -/

namespace Sys2Proof

/-- The command that a word spells by the table's bits: no row has bits, so none. -/
def decodeTableWord (_nbits _w : Nat) : Option Instr := none

end Sys2Proof
end

