-- ==== Sys2Proof/Config.lean ====
section
/-! DEFINITION. What the spec leaves open, as constants without a body: free values, the functions whose rounding or method the spec does not give, and the cryptographic functions. No statement rests on a value of them. -/

namespace Sys2Proof

/-- The `k`-th free value: a value the spec leaves open; the state's counter gives `k`. -/
opaque Config.freeValue : Nat → BitVec 64

/-- What a field holds after a write out of the range the spec states for it, where the spec states no consequence: by the register's
address, the field's lowest bit, the register's value before and the value written. -/
opaque Config.outOfRange : Nat → Nat → Word → Word → Word

/-- A section state held to ± a magnitude that is negative or a NaN (R119 gives no result there): by the magnitude and the state. -/
opaque Config.openClamp : F32 → F32 → F32

/-- The sign of a NaN, by which a ramp with a NaN as its target moves (R119 gives none). -/
opaque Config.signOfNaN : F32 → F32

/-- The step of the pseudo-random generator of the Rattle registers (RTL_SEED), whose polynomial is not stated. -/
opaque Config.lfsrNext : Word → Word

/-- sin of an angle in rad, as a binary32 (the spec gives no rounding of it). -/
opaque Config.sin : F32 → F32

/-- cos of an angle in rad. -/
opaque Config.cos : F32 → F32

/-- The angle of (y, x) in (-π, π], in rad. -/
opaque Config.atan2 : F32 → F32 → F32

/-- A parameter of the ellipse fitted to the results (S, C) of a resolver revolution: 0 S0, 1 C0, 2 G, 3 δ (R269 gives no method). -/
opaque Config.ellipseFit : List (F32 × F32) → Nat → F32

/-- SHA-256 of a byte string, as eight words of four bytes each, low byte first (R638). -/
opaque Config.sha256 : List Byte → List Word

/-- ECDSA P-256 verification of a digest (eight words) with a key and a signature (R638, R708). -/
opaque Config.ecdsaVerify : List Word → List Byte → List Byte → Bool

/-- A signature over a digest verifies against a key of which the fuses hold the hash (R708). -/
opaque Config.debugVerify : List Word → List Word → List Byte → Bool

/-- The 8-byte device identity that DBG_CHAL shifts out (R707): the spec gives no value. -/
opaque Config.identity : BitVec 64

end Sys2Proof
end

