-- ==== Sys2Proof/Machine/Addr.lean ====
section
/-! DEFINITION. The registers and their fields by the spec's names: `R.X i` is the address of register X (instance i), `F.X_FIELD i` its field. The addresses and bit positions are those of the register tables of spec/01 to spec/16. -/

namespace Sys2Proof.Machine

/-- A field of a register: its address and its highest and lowest bit. -/
structure Fld where
  addr : Nat
  hi : Nat
  lo : Nat
deriving DecidableEq, Repr

/-- SYS_FW_CTRL (01, Firewall registers). -/
def R.SYS_FW_CTRL : Nat := 0x20000100
/-- SYS_FW_CTRL.LOCK, bits 0:0, W1S. -/
def F.SYS_FW_CTRL_LOCK : Fld := ⟨R.SYS_FW_CTRL, 0, 0⟩
/-- SYS_FW_BLK_WR (01, Firewall registers). -/
def R.SYS_FW_BLK_WR (i : Nat) : Nat := 0x20000110 + 4 * i
/-- SYS_FW_BLK_WR.WR, bits 25:0, RW. -/
def F.SYS_FW_BLK_WR_WR (i : Nat) : Fld := ⟨R.SYS_FW_BLK_WR i, 25, 0⟩
/-- SYS_FW_CLE_OWN (01, Firewall registers). -/
def R.SYS_FW_CLE_OWN (i : Nat) : Nat := 0x20000120 + 4 * i
/-- SYS_FW_COEF_OWN (01, Firewall registers). -/
def R.SYS_FW_COEF_OWN : Nat := 0x20000140
/-- SYS_FW_TG_OWN (01, Firewall registers). -/
def R.SYS_FW_TG_OWN : Nat := 0x20000144
/-- SYS_FW_TG_OWN.OWN, bits 23:0, RW. -/
def F.SYS_FW_TG_OWN_OWN : Fld := ⟨R.SYS_FW_TG_OWN, 23, 0⟩
/-- SYS_FW_VIOL (01, R32). -/
def R.SYS_FW_VIOL : Nat := 0x20000150
/-- SYS_FW_VIOL.PAIR, bits 31:30, RO. -/
def F.SYS_FW_VIOL_PAIR : Fld := ⟨R.SYS_FW_VIOL, 31, 30⟩
/-- SYS_FW_VIOL.ROM, bits 28:28, RO. -/
def F.SYS_FW_VIOL_ROM : Fld := ⟨R.SYS_FW_VIOL, 28, 28⟩
/-- SYS_FW_VIOL.ADDR, bits 27:2, RO. -/
def F.SYS_FW_VIOL_ADDR : Fld := ⟨R.SYS_FW_VIOL, 27, 2⟩
/-- SYS_FW_VIOL.PERIPH, bits 1:1, RO. -/
def F.SYS_FW_VIOL_PERIPH : Fld := ⟨R.SYS_FW_VIOL, 1, 1⟩
/-- SYS_FW_VIOL.VALID, bits 0:0, W1C. -/
def F.SYS_FW_VIOL_VALID : Fld := ⟨R.SYS_FW_VIOL, 0, 0⟩
/-- CLV_NOW_LO (02, R41). -/
def R.CLV_NOW_LO : Nat := 0x20010000
/-- CLV_NOW_HI (02, R41). -/
def R.CLV_NOW_HI : Nat := 0x20010004
/-- CLV_CTRL (02, R54). -/
def R.CLV_CTRL : Nat := 0x20010010
/-- CLV_CTRL.MASTER_ID, bits 6:4, RW. -/
def F.CLV_CTRL_MASTER_ID : Fld := ⟨R.CLV_CTRL, 6, 4⟩
/-- CLV_CTRL.SRC, bits 1:0, RW. -/
def F.CLV_CTRL_SRC : Fld := ⟨R.CLV_CTRL, 1, 0⟩
/-- CLV_STATUS (02, R49). -/
def R.CLV_STATUS : Nat := 0x20010014
/-- CLV_STATUS.XTAL32_FB, bits 16:16, RO. -/
def F.CLV_STATUS_XTAL32_FB : Fld := ⟨R.CLV_STATUS, 16, 16⟩
/-- CLV_STATUS.HOPS, bits 10:8, RO. -/
def F.CLV_STATUS_HOPS : Fld := ⟨R.CLV_STATUS, 10, 8⟩
/-- CLV_STATUS.PORT, bits 4:4, RO. -/
def F.CLV_STATUS_PORT : Fld := ⟨R.CLV_STATUS, 4, 4⟩
/-- CLV_STATUS.ROLE, bits 2:1, RO. -/
def F.CLV_STATUS_ROLE : Fld := ⟨R.CLV_STATUS, 2, 1⟩
/-- CLV_STATUS.LOCKED, bits 0:0, RO. -/
def F.CLV_STATUS_LOCKED : Fld := ⟨R.CLV_STATUS, 0, 0⟩
/-- CLV_OFFSET (02, CLV registers). -/
def R.CLV_OFFSET : Nat := 0x20010018
/-- CLV_RATE (02, CLV registers). -/
def R.CLV_RATE : Nat := 0x2001001C
/-- CLV_ALARM_LO (02, R45). -/
def R.CLV_ALARM_LO : Nat := 0x20010020
/-- CLV_ALARM_HI (02, R45). -/
def R.CLV_ALARM_HI : Nat := 0x20010024
/-- CLV_ALARM_CTRL (02, R45). -/
def R.CLV_ALARM_CTRL : Nat := 0x20010028
/-- CLV_ALARM_CTRL.FIRED, bits 2:2, W1C. -/
def F.CLV_ALARM_CTRL_FIRED : Fld := ⟨R.CLV_ALARM_CTRL, 2, 2⟩
/-- CLV_ALARM_CTRL.WAKE, bits 1:1, RW. -/
def F.CLV_ALARM_CTRL_WAKE : Fld := ⟨R.CLV_ALARM_CTRL, 1, 1⟩
/-- CLV_ALARM_CTRL.EN, bits 0:0, RW. -/
def F.CLV_ALARM_CTRL_EN : Fld := ⟨R.CLV_ALARM_CTRL, 0, 0⟩
/-- CLV_PTP_BASE_CLV_LO (02, R55). -/
def R.CLV_PTP_BASE_CLV_LO : Nat := 0x20010040
/-- CLV_PTP_BASE_CLV_HI (02, R55). -/
def R.CLV_PTP_BASE_CLV_HI : Nat := 0x20010044
/-- CLV_PTP_BASE_NS_LO (02, R55). -/
def R.CLV_PTP_BASE_NS_LO : Nat := 0x20010048
/-- CLV_PTP_BASE_NS_HI (02, R55). -/
def R.CLV_PTP_BASE_NS_HI : Nat := 0x2001004C
/-- CLV_PTP_RATE (02, R55). -/
def R.CLV_PTP_RATE : Nat := 0x20010050
/-- CLV_PER_PERIOD (02, R713). -/
def R.CLV_PER_PERIOD (i : Nat) : Nat := 0x20010100 + 8 * i
/-- CLV_PER_CTRL (02, R75 R76). -/
def R.CLV_PER_CTRL (i : Nat) : Nat := 0x20010104 + 8 * i
/-- CLV_PER_CTRL.MISSED, bits 23:16, RC. -/
def F.CLV_PER_CTRL_MISSED (i : Nat) : Fld := ⟨R.CLV_PER_CTRL i, 23, 16⟩
/-- CLV_PER_CTRL.HALF, bits 3:3, RW. -/
def F.CLV_PER_CTRL_HALF (i : Nat) : Fld := ⟨R.CLV_PER_CTRL i, 3, 3⟩
/-- CLV_PER_CTRL.TARGET, bits 2:1, RW. -/
def F.CLV_PER_CTRL_TARGET (i : Nat) : Fld := ⟨R.CLV_PER_CTRL i, 2, 1⟩
/-- CLV_PER_CTRL.EN, bits 0:0, RW. -/
def F.CLV_PER_CTRL_EN (i : Nat) : Fld := ⟨R.CLV_PER_CTRL i, 0, 0⟩
/-- JRN_NEXT_SEQ (02, R60). -/
def R.JRN_NEXT_SEQ : Nat := 0x20020000
/-- JRN_OLDEST_SEQ (02, R61). -/
def R.JRN_OLDEST_SEQ : Nat := 0x20020004
/-- JRN_STATUS (02, R63 R66). -/
def R.JRN_STATUS : Nat := 0x20020008
/-- JRN_STATUS.PIN_LOST, bits 31:31, W1C. -/
def F.JRN_STATUS_PIN_LOST : Fld := ⟨R.JRN_STATUS, 31, 31⟩
/-- JRN_STATUS.PIN_USED, bits 24:16, RO. -/
def F.JRN_STATUS_PIN_USED : Fld := ⟨R.JRN_STATUS, 24, 16⟩
/-- JRN_STATUS.OVERRUN, bits 15:0, RC. -/
def F.JRN_STATUS_OVERRUN : Fld := ⟨R.JRN_STATUS, 15, 0⟩
/-- JRN_SRC_EN (02, R56). -/
def R.JRN_SRC_EN : Nat := 0x20020010
/-- JRN_SRC_EN.OLK_TX, bits 3:3, RW. -/
def F.JRN_SRC_EN_OLK_TX : Fld := ⟨R.JRN_SRC_EN, 3, 3⟩
/-- JRN_SRC_EN.OLK_RX, bits 2:2, RW. -/
def F.JRN_SRC_EN_OLK_RX : Fld := ⟨R.JRN_SRC_EN, 2, 2⟩
/-- JRN_SRC_EN.HOST_TX, bits 1:1, RW. -/
def F.JRN_SRC_EN_HOST_TX : Fld := ⟨R.JRN_SRC_EN, 1, 1⟩
/-- JRN_SRC_EN.HOST_RX, bits 0:0, RW. -/
def F.JRN_SRC_EN_HOST_RX : Fld := ⟨R.JRN_SRC_EN, 0, 0⟩
/-- JRN_PIN_RELEASE (02, R67). -/
def R.JRN_PIN_RELEASE : Nat := 0x20020014
/-- JRN_FW_HDR (02, R70 R72). -/
def R.JRN_FW_HDR (i : Nat) : Nat := 0x20020100 + 32 * i
/-- JRN_FW_HDR.CLASS, bits 19:16, RW. -/
def F.JRN_FW_HDR_CLASS (i : Nat) : Fld := ⟨R.JRN_FW_HDR i, 19, 16⟩
/-- JRN_FW_HDR.CODE, bits 15:0, RW. -/
def F.JRN_FW_HDR_CODE (i : Nat) : Fld := ⟨R.JRN_FW_HDR i, 15, 0⟩
/-- JRN_FW_DATA (02, R70). -/
def R.JRN_FW_DATA (i : Nat) (j : Nat) : Nat := 0x20020104 + 32 * i + 4 * j
/-- JRN_FW_COMMIT (02, R70). -/
def R.JRN_FW_COMMIT (i : Nat) : Nat := 0x20020114 + 32 * i
/-- SYS_MODE (03, R78 R87 R89). -/
def R.SYS_MODE : Nat := 0x20000000
/-- SYS_MODE.SAFE_LATCH, bits 11:11, RO. -/
def F.SYS_MODE_SAFE_LATCH : Fld := ⟨R.SYS_MODE, 11, 11⟩
/-- SYS_MODE.RED_PEND, bits 10:10, RO. -/
def F.SYS_MODE_RED_PEND : Fld := ⟨R.SYS_MODE, 10, 10⟩
/-- SYS_MODE.SUB, bits 5:4, RO. -/
def F.SYS_MODE_SUB : Fld := ⟨R.SYS_MODE, 5, 4⟩
/-- SYS_MODE.MODE, bits 2:0, RO. -/
def F.SYS_MODE_MODE : Fld := ⟨R.SYS_MODE, 2, 0⟩
/-- SYS_MODE_REQ (03, R80 R84). -/
def R.SYS_MODE_REQ : Nat := 0x20000004
/-- SYS_MODE_REQ.REQ, bits 3:0, WO. -/
def F.SYS_MODE_REQ_REQ : Fld := ⟨R.SYS_MODE_REQ, 3, 0⟩
/-- SYS_MODE_STAT (03, R82). -/
def R.SYS_MODE_STAT : Nat := 0x20000008
/-- SYS_MODE_STAT.LAST_REQ, bits 11:8, RO. -/
def F.SYS_MODE_STAT_LAST_REQ : Fld := ⟨R.SYS_MODE_STAT, 11, 8⟩
/-- SYS_MODE_STAT.RESULT, bits 3:0, RO. -/
def F.SYS_MODE_STAT_RESULT : Fld := ⟨R.SYS_MODE_STAT, 3, 0⟩
/-- SYS_ARM_STAT (03, R106 R107 R110). -/
def R.SYS_ARM_STAT : Nat := 0x20000010
/-- SYS_ARM_STAT.TORQUE_READY, bits 31:31, RO. -/
def F.SYS_ARM_STAT_TORQUE_READY : Fld := ⟨R.SYS_ARM_STAT, 31, 31⟩
/-- SYS_ARM_STAT.FAILED, bits 13:8, RO. -/
def F.SYS_ARM_STAT_FAILED : Fld := ⟨R.SYS_ARM_STAT, 13, 8⟩
/-- SYS_ARM_STAT.DONE, bits 5:0, RO. -/
def F.SYS_ARM_STAT_DONE : Fld := ⟨R.SYS_ARM_STAT, 5, 0⟩
/-- SYS_EN_STAT (03, R96 R97 R99). -/
def R.SYS_EN_STAT : Nat := 0x20000018
/-- SYS_EN_STAT.TORQUE_INH, bits 16:16, RO. -/
def F.SYS_EN_STAT_TORQUE_INH : Fld := ⟨R.SYS_EN_STAT, 16, 16⟩
/-- SYS_EN_STAT.STATE_B, bits 13:12, RO. -/
def F.SYS_EN_STAT_STATE_B : Fld := ⟨R.SYS_EN_STAT, 13, 12⟩
/-- SYS_EN_STAT.STATE_A, bits 11:10, RO. -/
def F.SYS_EN_STAT_STATE_A : Fld := ⟨R.SYS_EN_STAT, 11, 10⟩
/-- SYS_EN_STAT.DISC_MS, bits 9:2, RO. -/
def F.SYS_EN_STAT_DISC_MS : Fld := ⟨R.SYS_EN_STAT, 9, 2⟩
/-- SYS_EN_STAT.EN_B, bits 1:1, RO. -/
def F.SYS_EN_STAT_EN_B : Fld := ⟨R.SYS_EN_STAT, 1, 1⟩
/-- SYS_EN_STAT.EN_A, bits 0:0, RO. -/
def F.SYS_EN_STAT_EN_A : Fld := ⟨R.SYS_EN_STAT, 0, 0⟩
/-- SYS_WAKE_EN (03, R101). -/
def R.SYS_WAKE_EN : Nat := 0x20000020
/-- SYS_WAKE_EN.EN, bits 4:0, RW. -/
def F.SYS_WAKE_EN_EN : Fld := ⟨R.SYS_WAKE_EN, 4, 0⟩
/-- SYS_WAKE_SRC (03, R102). -/
def R.SYS_WAKE_SRC : Nat := 0x20000024
/-- SYS_WAKE_SRC.SEEN, bits 12:8, W1C. -/
def F.SYS_WAKE_SRC_SEEN : Fld := ⟨R.SYS_WAKE_SRC, 12, 8⟩
/-- SYS_WAKE_SRC.FIRST, bits 2:0, RO. -/
def F.SYS_WAKE_SRC_FIRST : Fld := ⟨R.SYS_WAKE_SRC, 2, 0⟩
/-- SYS_RESET_CAUSE (03, R118). -/
def R.SYS_RESET_CAUSE : Nat := 0x20000028
/-- SYS_RESET_CAUSE.CAUSE, bits 2:0, RO. -/
def F.SYS_RESET_CAUSE_CAUSE : Fld := ⟨R.SYS_RESET_CAUSE, 2, 0⟩
/-- SYS_RST (03, R117). -/
def R.SYS_RST : Nat := 0x2000002C
/-- SYS_RST.SW, bits 0:0, WO. -/
def F.SYS_RST_SW : Fld := ⟨R.SYS_RST, 0, 0⟩
/-- SYS_TEST_REQ (03, R111). -/
def R.SYS_TEST_REQ : Nat := 0x20000030
/-- SYS_TEST_REQ.TEST, bits 1:0, WO. -/
def F.SYS_TEST_REQ_TEST : Fld := ⟨R.SYS_TEST_REQ, 1, 0⟩
/-- SYS_TEST_STAT (03, R112 R115). -/
def R.SYS_TEST_STAT : Nat := 0x20000034
/-- SYS_TEST_STAT.STATUS, bits 6:4, RO. -/
def F.SYS_TEST_STAT_STATUS : Fld := ⟨R.SYS_TEST_STAT, 6, 4⟩
/-- SYS_TEST_STAT.TEST, bits 1:0, RO. -/
def F.SYS_TEST_STAT_TEST : Fld := ⟨R.SYS_TEST_STAT, 1, 0⟩
/-- SYS_TEST_QUEUE (03, R112 R114). -/
def R.SYS_TEST_QUEUE : Nat := 0x20000038
/-- SYS_TEST_QUEUE.Q, bits 3:0, RO. -/
def F.SYS_TEST_QUEUE_Q : Fld := ⟨R.SYS_TEST_QUEUE, 3, 0⟩
/-- SYS_SLEEP_CFG (03, R717). -/
def R.SYS_SLEEP_CFG : Nat := 0x20000040
/-- SYS_SLEEP_CFG.TMO, bits 9:0, RW. -/
def F.SYS_SLEEP_CFG_TMO : Fld := ⟨R.SYS_SLEEP_CFG, 9, 0⟩
/-- CLE_CTX_CTRL (04, R160 R162). -/
def R.CLE_CTX_CTRL (i : Nat) : Nat := 0x20050000 + 256 * i
/-- CLE_CTX_CTRL.SGRP, bits 19:16, RW. -/
def F.CLE_CTX_CTRL_SGRP (i : Nat) : Fld := ⟨R.CLE_CTX_CTRL i, 19, 16⟩
/-- CLE_CTX_CTRL.PRIO, bits 13:12, RW. -/
def F.CLE_CTX_CTRL_PRIO (i : Nat) : Fld := ⟨R.CLE_CTX_CTRL i, 13, 12⟩
/-- CLE_CTX_CTRL.ZERO_ON_EN, bits 11:11, RW. -/
def F.CLE_CTX_CTRL_ZERO_ON_EN (i : Nat) : Fld := ⟨R.CLE_CTX_CTRL i, 11, 11⟩
/-- CLE_CTX_CTRL.FREEZE_EN, bits 10:10, RW. -/
def F.CLE_CTX_CTRL_FREEZE_EN (i : Nat) : Fld := ⟨R.CLE_CTX_CTRL i, 10, 10⟩
/-- CLE_CTX_CTRL.RAMP_EN, bits 9:9, RW. -/
def F.CLE_CTX_CTRL_RAMP_EN (i : Nat) : Fld := ⟨R.CLE_CTX_CTRL i, 9, 9⟩
/-- CLE_CTX_CTRL.ERR_MODE, bits 8:8, RW. -/
def F.CLE_CTX_CTRL_ERR_MODE (i : Nat) : Fld := ⟨R.CLE_CTX_CTRL i, 8, 8⟩
/-- CLE_CTX_CTRL.SWAP_ZERO, bits 3:3, RW. -/
def F.CLE_CTX_CTRL_SWAP_ZERO (i : Nat) : Fld := ⟨R.CLE_CTX_CTRL i, 3, 3⟩
/-- CLE_CTX_CTRL.BANK_ACT, bits 2:2, RO. -/
def F.CLE_CTX_CTRL_BANK_ACT (i : Nat) : Fld := ⟨R.CLE_CTX_CTRL i, 2, 2⟩
/-- CLE_CTX_CTRL.BANK, bits 1:1, RW. -/
def F.CLE_CTX_CTRL_BANK (i : Nat) : Fld := ⟨R.CLE_CTX_CTRL i, 1, 1⟩
/-- CLE_CTX_CTRL.EN, bits 0:0, RW. -/
def F.CLE_CTX_CTRL_EN (i : Nat) : Fld := ⟨R.CLE_CTX_CTRL i, 0, 0⟩
/-- CLE_CTX_TRIG (04, R143). -/
def R.CLE_CTX_TRIG (i : Nat) : Nat := 0x20050004 + 256 * i
/-- CLE_CTX_TRIG.DIVM1, bits 31:24, RW. -/
def F.CLE_CTX_TRIG_DIVM1 (i : Nat) : Fld := ⟨R.CLE_CTX_TRIG i, 31, 24⟩
/-- CLE_CTX_TRIG.SRC, bits 15:12, RW. -/
def F.CLE_CTX_TRIG_SRC (i : Nat) : Fld := ⟨R.CLE_CTX_TRIG i, 15, 12⟩
/-- CLE_CTX_TRIG.SEL, bits 11:0, RW. -/
def F.CLE_CTX_TRIG_SEL (i : Nat) : Fld := ⟨R.CLE_CTX_TRIG i, 11, 0⟩
/-- CLE_CTX_MSEL (04, R119). -/
def R.CLE_CTX_MSEL (i : Nat) : Nat := 0x20050008 + 256 * i
/-- CLE_CTX_MSEL.SIG, bits 8:0, RW. -/
def F.CLE_CTX_MSEL_SIG (i : Nat) : Fld := ⟨R.CLE_CTX_MSEL i, 8, 0⟩
/-- CLE_CTX_SSEL (04, R119). -/
def R.CLE_CTX_SSEL (i : Nat) : Nat := 0x2005000C + 256 * i
/-- CLE_CTX_SSEL.SRC, bits 16:16, RW. -/
def F.CLE_CTX_SSEL_SRC (i : Nat) : Fld := ⟨R.CLE_CTX_SSEL i, 16, 16⟩
/-- CLE_CTX_SSEL.SIG, bits 8:0, RW. -/
def F.CLE_CTX_SSEL_SIG (i : Nat) : Fld := ⟨R.CLE_CTX_SSEL i, 8, 0⟩
/-- CLE_CTX_FFSEL (04, R119). -/
def R.CLE_CTX_FFSEL (i : Nat) : Nat := 0x20050010 + 256 * i
/-- CLE_CTX_FFSEL.MODE, bits 17:16, RW. -/
def F.CLE_CTX_FFSEL_MODE (i : Nat) : Fld := ⟨R.CLE_CTX_FFSEL i, 17, 16⟩
/-- CLE_CTX_FFSEL.SIG, bits 8:0, RW. -/
def F.CLE_CTX_FFSEL_SIG (i : Nat) : Fld := ⟨R.CLE_CTX_FFSEL i, 8, 0⟩
/-- CLE_CTX_LIMSEL (04, R119). -/
def R.CLE_CTX_LIMSEL (i : Nat) : Nat := 0x20050014 + 256 * i
/-- CLE_CTX_LIMSEL.HI_SIG_EN, bits 31:31, RW. -/
def F.CLE_CTX_LIMSEL_HI_SIG_EN (i : Nat) : Fld := ⟨R.CLE_CTX_LIMSEL i, 31, 31⟩
/-- CLE_CTX_LIMSEL.HI_SIG, bits 24:16, RW. -/
def F.CLE_CTX_LIMSEL_HI_SIG (i : Nat) : Fld := ⟨R.CLE_CTX_LIMSEL i, 24, 16⟩
/-- CLE_CTX_LIMSEL.LO_SIG_EN, bits 15:15, RW. -/
def F.CLE_CTX_LIMSEL_LO_SIG_EN (i : Nat) : Fld := ⟨R.CLE_CTX_LIMSEL i, 15, 15⟩
/-- CLE_CTX_LIMSEL.LO_MIRROR, bits 14:14, RW. -/
def F.CLE_CTX_LIMSEL_LO_MIRROR (i : Nat) : Fld := ⟨R.CLE_CTX_LIMSEL i, 14, 14⟩
/-- CLE_CTX_LIMSEL.LO_SIG, bits 8:0, RW. -/
def F.CLE_CTX_LIMSEL_LO_SIG (i : Nat) : Fld := ⟨R.CLE_CTX_LIMSEL i, 8, 0⟩
/-- CLE_CTX_DST (04, R160). -/
def R.CLE_CTX_DST (i : Nat) : Nat := 0x20050018 + 256 * i
/-- CLE_CTX_DST.KIND, bits 17:16, RW. -/
def F.CLE_CTX_DST_KIND (i : Nat) : Fld := ⟨R.CLE_CTX_DST i, 17, 16⟩
/-- CLE_CTX_DST.INDEX, bits 11:0, RW. -/
def F.CLE_CTX_DST_INDEX (i : Nat) : Fld := ⟨R.CLE_CTX_DST i, 11, 0⟩
/-- CLE_CTX_CHAIN (04, R131). -/
def R.CLE_CTX_CHAIN (i : Nat) : Nat := 0x2005001C + 256 * i
/-- CLE_CTX_CHAIN.CNT1, bits 31:28, RW. -/
def F.CLE_CTX_CHAIN_CNT1 (i : Nat) : Fld := ⟨R.CLE_CTX_CHAIN i, 31, 28⟩
/-- CLE_CTX_CHAIN.START1, bits 25:16, RW. -/
def F.CLE_CTX_CHAIN_START1 (i : Nat) : Fld := ⟨R.CLE_CTX_CHAIN i, 25, 16⟩
/-- CLE_CTX_CHAIN.CNT0, bits 15:12, RW. -/
def F.CLE_CTX_CHAIN_CNT0 (i : Nat) : Fld := ⟨R.CLE_CTX_CHAIN i, 15, 12⟩
/-- CLE_CTX_CHAIN.START0, bits 9:0, RW. -/
def F.CLE_CTX_CHAIN_START0 (i : Nat) : Fld := ⟨R.CLE_CTX_CHAIN i, 9, 0⟩
/-- CLE_CTX_STAT (04, R142 R158 R164). -/
def R.CLE_CTX_STAT (i : Nat) : Nat := 0x20050020 + 256 * i
/-- CLE_CTX_STAT.DIVCNT, bits 23:16, RO. -/
def F.CLE_CTX_STAT_DIVCNT (i : Nat) : Fld := ⟨R.CLE_CTX_STAT i, 23, 16⟩
/-- CLE_CTX_STAT.SWAP_PEND, bits 9:9, RO. -/
def F.CLE_CTX_STAT_SWAP_PEND (i : Nat) : Fld := ⟨R.CLE_CTX_STAT i, 9, 9⟩
/-- CLE_CTX_STAT.NUM, bits 8:8, W1C. -/
def F.CLE_CTX_STAT_NUM (i : Nat) : Fld := ⟨R.CLE_CTX_STAT i, 8, 8⟩
/-- CLE_CTX_STAT.SUSP, bits 7:7, RO. -/
def F.CLE_CTX_STAT_SUSP (i : Nat) : Fld := ⟨R.CLE_CTX_STAT i, 7, 7⟩
/-- CLE_CTX_STAT.HELD, bits 6:6, RO. -/
def F.CLE_CTX_STAT_HELD (i : Nat) : Fld := ⟨R.CLE_CTX_STAT i, 6, 6⟩
/-- CLE_CTX_STAT.FE, bits 5:5, W1C. -/
def F.CLE_CTX_STAT_FE (i : Nat) : Fld := ⟨R.CLE_CTX_STAT i, 5, 5⟩
/-- CLE_CTX_STAT.RAMP_DONE, bits 4:4, RO. -/
def F.CLE_CTX_STAT_RAMP_DONE (i : Nat) : Fld := ⟨R.CLE_CTX_STAT i, 4, 4⟩
/-- CLE_CTX_STAT.FROZEN, bits 3:3, RO. -/
def F.CLE_CTX_STAT_FROZEN (i : Nat) : Fld := ⟨R.CLE_CTX_STAT i, 3, 3⟩
/-- CLE_CTX_STAT.SAT_LO, bits 2:2, RO. -/
def F.CLE_CTX_STAT_SAT_LO (i : Nat) : Fld := ⟨R.CLE_CTX_STAT i, 2, 2⟩
/-- CLE_CTX_STAT.SAT_HI, bits 1:1, RO. -/
def F.CLE_CTX_STAT_SAT_HI (i : Nat) : Fld := ⟨R.CLE_CTX_STAT i, 1, 1⟩
/-- CLE_CTX_STAT.BUSY, bits 0:0, RO. -/
def F.CLE_CTX_STAT_BUSY (i : Nat) : Fld := ⟨R.CLE_CTX_STAT i, 0, 0⟩
/-- CLE_CTX_SWTRIG (04, R143). -/
def R.CLE_CTX_SWTRIG (i : Nat) : Nat := 0x20050024 + 256 * i
/-- CLE_CTX_FE_CFG (04, R158). -/
def R.CLE_CTX_FE_CFG (i : Nat) : Nat := 0x20050028 + 256 * i
/-- CLE_CTX_FE_CFG.CLASS, bits 30:28, RW. -/
def F.CLE_CTX_FE_CFG_CLASS (i : Nat) : Fld := ⟨R.CLE_CTX_FE_CFG i, 30, 28⟩
/-- CLE_CTX_FE_CFG.REACT, bits 25:24, RW. -/
def F.CLE_CTX_FE_CFG_REACT (i : Nat) : Fld := ⟨R.CLE_CTX_FE_CFG i, 25, 24⟩
/-- CLE_CTX_FE_CFG.TIME, bits 23:0, RW. -/
def F.CLE_CTX_FE_CFG_TIME (i : Nat) : Fld := ⟨R.CLE_CTX_FE_CFG i, 23, 0⟩
/-- CLE_CTX_LAT (04, Context registers). -/
def R.CLE_CTX_LAT (i : Nat) : Nat := 0x2005002C + 256 * i
/-- CLE_CTX_LAT.MAX, bits 31:16, RC. -/
def F.CLE_CTX_LAT_MAX (i : Nat) : Fld := ⟨R.CLE_CTX_LAT i, 31, 16⟩
/-- CLE_CTX_LAT.LAST, bits 15:0, RO. -/
def F.CLE_CTX_LAT_LAST (i : Nat) : Fld := ⟨R.CLE_CTX_LAT i, 15, 0⟩
/-- CLE_CTX_OVR (04, R150). -/
def R.CLE_CTX_OVR (i : Nat) : Nat := 0x20050030 + 256 * i
/-- CLE_CTX_OVR.COUNT, bits 15:0, RC. -/
def F.CLE_CTX_OVR_COUNT (i : Nat) : Fld := ⟨R.CLE_CTX_OVR i, 15, 0⟩
/-- CLE_CTX_SETP (04, R119). -/
def R.CLE_CTX_SETP (i : Nat) : Nat := 0x20050040 + 256 * i
/-- CLE_CTX_GAIN (04, R119). -/
def R.CLE_CTX_GAIN (i : Nat) : Nat := 0x20050044 + 256 * i
/-- CLE_CTX_FF (04, R119). -/
def R.CLE_CTX_FF (i : Nat) : Nat := 0x20050048 + 256 * i
/-- CLE_CTX_LIM_HI (04, R119). -/
def R.CLE_CTX_LIM_HI (i : Nat) : Nat := 0x2005004C + 256 * i
/-- CLE_CTX_LIM_LO (04, R119). -/
def R.CLE_CTX_LIM_LO (i : Nat) : Nat := 0x20050050 + 256 * i
/-- CLE_CTX_RAMP_RATE (04, R140). -/
def R.CLE_CTX_RAMP_RATE (i : Nat) : Nat := 0x20050054 + 256 * i
/-- CLE_CTX_FE_LIMIT (04, R157). -/
def R.CLE_CTX_FE_LIMIT (i : Nat) : Nat := 0x20050058 + 256 * i
/-- CLE_CTX_MEAS (04, R119). -/
def R.CLE_CTX_MEAS (i : Nat) : Nat := 0x20050060 + 256 * i
/-- CLE_CTX_SPR (04, R119). -/
def R.CLE_CTX_SPR (i : Nat) : Nat := 0x20050064 + 256 * i
/-- CLE_CTX_ERR (04, R119). -/
def R.CLE_CTX_ERR (i : Nat) : Nat := 0x20050068 + 256 * i
/-- CLE_CTX_UNSAT (04, R119). -/
def R.CLE_CTX_UNSAT (i : Nat) : Nat := 0x2005006C + 256 * i
/-- CLE_CTX_OUT (04, R119). -/
def R.CLE_CTX_OUT (i : Nat) : Nat := 0x20050070 + 256 * i
/-- CLE_CTX_STAMP_LO (04, R41). -/
def R.CLE_CTX_STAMP_LO (i : Nat) : Nat := 0x20050074 + 256 * i
/-- CLE_CTX_STAMP_HI (04, R41). -/
def R.CLE_CTX_STAMP_HI (i : Nat) : Nat := 0x20050078 + 256 * i
/-- CLE_CTX_FE_TMR (04, R157). -/
def R.CLE_CTX_FE_TMR (i : Nat) : Nat := 0x2005007C + 256 * i
/-- CLE_CTX_S1 (04, R163). -/
def R.CLE_CTX_S1 (i : Nat) (j : Nat) : Nat := 0x20050080 + 256 * i + 8 * j
/-- CLE_CTX_S2 (04, R163). -/
def R.CLE_CTX_S2 (i : Nat) (j : Nat) : Nat := 0x20050084 + 256 * i + 8 * j
/-- CLE_GLB_CTRL (04, R154 R166 R171). -/
def R.CLE_GLB_CTRL : Nat := 0x20060000
/-- CLE_GLB_CTRL.LANE_EN, bits 11:8, RO. -/
def F.CLE_GLB_CTRL_LANE_EN : Fld := ⟨R.CLE_GLB_CTRL, 11, 8⟩
/-- CLE_GLB_CTRL.RSV, bits 7:4, RW. -/
def F.CLE_GLB_CTRL_RSV : Fld := ⟨R.CLE_GLB_CTRL, 7, 4⟩
/-- CLE_GLB_CTRL.EN, bits 0:0, RW. -/
def F.CLE_GLB_CTRL_EN : Fld := ⟨R.CLE_GLB_CTRL, 0, 0⟩
/-- CLE_GLB_RATE (04, R144). -/
def R.CLE_GLB_RATE (i : Nat) : Nat := 0x20060010 + 4 * i
/-- CLE_GLB_LOAD (04, Global registers). -/
def R.CLE_GLB_LOAD (i : Nat) : Nat := 0x20060040 + 4 * i
/-- CLE_GLB_LOAD.PEAK, bits 31:16, RC. -/
def F.CLE_GLB_LOAD_PEAK (i : Nat) : Fld := ⟨R.CLE_GLB_LOAD i, 31, 16⟩
/-- CLE_GLB_LOAD.LAST, bits 15:0, RO. -/
def F.CLE_GLB_LOAD_LAST (i : Nat) : Fld := ⟨R.CLE_GLB_LOAD i, 15, 0⟩
/-- CLE_GLB_LANE_FLT (04, R171). -/
def R.CLE_GLB_LANE_FLT : Nat := 0x20060050
/-- CLE_GLB_INUSE (04, R132). -/
def R.CLE_GLB_INUSE (i : Nat) : Nat := 0x20060080 + 4 * i
/-- CLE_GLB_ECC_CNT (04, R167). -/
def R.CLE_GLB_ECC_CNT : Nat := 0x20060100
/-- CLE_GLB_ECC_ADDR (04, R167). -/
def R.CLE_GLB_ECC_ADDR : Nat := 0x20060104
/-- CLE_COEF (04, R129 R133). -/
def R.CLE_COEF (i : Nat) (j : Nat) : Nat := 0x20068000 + 32 * i + 4 * j
/-- CLE_COEF_FLAGS (04, R129). -/
def R.CLE_COEF_FLAGS (i : Nat) : Nat := 0x20068018 + 32 * i
/-- CLE_COEF_FLAGS.SLIM_EN, bits 1:1, RW. -/
def F.CLE_COEF_FLAGS_SLIM_EN (i : Nat) : Fld := ⟨R.CLE_COEF_FLAGS i, 1, 1⟩
/-- CLE_COEF_FLAGS.INTEG, bits 0:0, RW. -/
def F.CLE_COEF_FLAGS_INTEG (i : Nat) : Fld := ⟨R.CLE_COEF_FLAGS i, 0, 0⟩
/-- TMU_CFG (05, R172 R174). -/
def R.TMU_CFG : Nat := 0x20070000
/-- TMU_CFG.EN, bits 16:16, RW. -/
def F.TMU_CFG_EN : Fld := ⟨R.TMU_CFG, 16, 16⟩
/-- TMU_CFG.DRAG_SRC, bits 9:8, RW. -/
def F.TMU_CFG_DRAG_SRC : Fld := ⟨R.TMU_CFG, 9, 8⟩
/-- TMU_CFG.FW_EN, bits 6:6, RW. -/
def F.TMU_CFG_FW_EN : Fld := ⟨R.TMU_CFG, 6, 6⟩
/-- TMU_CFG.REACQ_EN, bits 5:5, RWS. -/
def F.TMU_CFG_REACQ_EN : Fld := ⟨R.TMU_CFG, 5, 5⟩
/-- TMU_CFG.DUAL, bits 4:4, RW. -/
def F.TMU_CFG_DUAL : Fld := ⟨R.TMU_CFG, 4, 4⟩
/-- TMU_CFG.MOD, bits 3:2, RW. -/
def F.TMU_CFG_MOD : Fld := ⟨R.TMU_CFG, 3, 2⟩
/-- TMU_CFG.MACH, bits 1:0, RW. -/
def F.TMU_CFG_MACH : Fld := ⟨R.TMU_CFG, 1, 0⟩
/-- TMU_STAT (05, R199 R217 R235). -/
def R.TMU_STAT : Nat := 0x20070004
/-- TMU_STAT.CONT_OPEN_REQ, bits 15:15, RO. -/
def F.TMU_STAT_CONT_OPEN_REQ : Fld := ⟨R.TMU_STAT, 15, 15⟩
/-- TMU_STAT.BC_BUDGET, bits 14:14, RO. -/
def F.TMU_STAT_BC_BUDGET : Fld := ⟨R.TMU_STAT, 14, 14⟩
/-- TMU_STAT.BC_ON, bits 13:13, RO. -/
def F.TMU_STAT_BC_ON : Fld := ⟨R.TMU_STAT, 13, 13⟩
/-- TMU_STAT.POS_HOLD, bits 12:12, RO. -/
def F.TMU_STAT_POS_HOLD : Fld := ⟨R.TMU_STAT, 12, 12⟩
/-- TMU_STAT.NARROW, bits 11:11, W1C. -/
def F.TMU_STAT_NARROW : Fld := ⟨R.TMU_STAT, 11, 11⟩
/-- TMU_STAT.VSAT, bits 10:10, W1C. -/
def F.TMU_STAT_VSAT : Fld := ⟨R.TMU_STAT, 10, 10⟩
/-- TMU_STAT.PLANE, bits 9:8, RO. -/
def F.TMU_STAT_PLANE : Fld := ⟨R.TMU_STAT, 9, 8⟩
/-- TMU_STAT.STATE_B, bits 6:4, RO. -/
def F.TMU_STAT_STATE_B : Fld := ⟨R.TMU_STAT, 6, 4⟩
/-- TMU_STAT.STATE_A, bits 2:0, RO. -/
def F.TMU_STAT_STATE_A : Fld := ⟨R.TMU_STAT, 2, 0⟩
/-- TMU_VDC_SEL (05, R194). -/
def R.TMU_VDC_SEL : Nat := 0x20070008
/-- TMU_VDC_SEL.SIG, bits 8:0, RW. -/
def F.TMU_VDC_SEL_SIG : Fld := ⟨R.TMU_VDC_SEL, 8, 0⟩
/-- TMU_POS_SEL (05, R250). -/
def R.TMU_POS_SEL : Nat := 0x2007000C
/-- TMU_POS_SEL.SPD_SIG, bits 24:16, RW. -/
def F.TMU_POS_SEL_SPD_SIG : Fld := ⟨R.TMU_POS_SEL, 24, 16⟩
/-- TMU_POS_SEL.ANG_SIG, bits 8:0, RW. -/
def F.TMU_POS_SEL_ANG_SIG : Fld := ⟨R.TMU_POS_SEL, 8, 0⟩
/-- TMU_PCTX (05, R172). -/
def R.TMU_PCTX : Nat := 0x20070010
/-- TMU_PCTX.Y_USE, bits 31:31, RW. -/
def F.TMU_PCTX_Y_USE : Fld := ⟨R.TMU_PCTX, 31, 31⟩
/-- TMU_PCTX.Y, bits 30:24, RW. -/
def F.TMU_PCTX_Y : Fld := ⟨R.TMU_PCTX, 30, 24⟩
/-- TMU_PCTX.X_USE, bits 23:23, RW. -/
def F.TMU_PCTX_X_USE : Fld := ⟨R.TMU_PCTX, 23, 23⟩
/-- TMU_PCTX.X, bits 22:16, RW. -/
def F.TMU_PCTX_X : Fld := ⟨R.TMU_PCTX, 22, 16⟩
/-- TMU_PCTX.Q_USE, bits 15:15, RW. -/
def F.TMU_PCTX_Q_USE : Fld := ⟨R.TMU_PCTX, 15, 15⟩
/-- TMU_PCTX.Q, bits 14:8, RW. -/
def F.TMU_PCTX_Q : Fld := ⟨R.TMU_PCTX, 14, 8⟩
/-- TMU_PCTX.D_USE, bits 7:7, RW. -/
def F.TMU_PCTX_D_USE : Fld := ⟨R.TMU_PCTX, 7, 7⟩
/-- TMU_PCTX.D, bits 6:0, RW. -/
def F.TMU_PCTX_D : Fld := ⟨R.TMU_PCTX, 6, 0⟩
/-- TMU_PFW (05, R228). -/
def R.TMU_PFW : Nat := 0x20070014
/-- TMU_PFW.FW_USE, bits 7:7, RW. -/
def F.TMU_PFW_FW_USE : Fld := ⟨R.TMU_PFW, 7, 7⟩
/-- TMU_PFW.FW, bits 6:0, RW. -/
def F.TMU_PFW_FW : Fld := ⟨R.TMU_PFW, 6, 0⟩
/-- TMU_POLE (05, TMU registers). -/
def R.TMU_POLE : Nat := 0x20070018
/-- TMU_POLE.P, bits 4:0, RW. -/
def F.TMU_POLE_P : Fld := ⟨R.TMU_POLE, 4, 0⟩
/-- TMU_TQ_REF (05, R204). -/
def R.TMU_TQ_REF : Nat := 0x20070020
/-- TMU_TQ_RATE (05, R208). -/
def R.TMU_TQ_RATE : Nat := 0x20070024
/-- TMU_TQ_MAX (05, R204). -/
def R.TMU_TQ_MAX : Nat := 0x20070028
/-- TMU_M_FW (05, R214). -/
def R.TMU_M_FW : Nat := 0x2007002C
/-- TMU_T_ADV (05, R203). -/
def R.TMU_T_ADV : Nat := 0x20070030
/-- TMU_IDMAX (05, R211). -/
def R.TMU_IDMAX : Nat := 0x20070034
/-- TMU_VXY_FRAC (05, R213). -/
def R.TMU_VXY_FRAC : Nat := 0x20070038
/-- TMU_VDC_LOW (05, R206). -/
def R.TMU_VDC_LOW : Nat := 0x2007003C
/-- TMU_VDC_MIN (05, R206). -/
def R.TMU_VDC_MIN : Nat := 0x20070040
/-- TMU_VDC_OV (05, R243). -/
def R.TMU_VDC_OV : Nat := 0x20070044
/-- TMU_PSI (05, R213). -/
def R.TMU_PSI : Nat := 0x20070048
/-- TMU_LD (05, R213). -/
def R.TMU_LD : Nat := 0x2007004C
/-- TMU_LQ (05, R213). -/
def R.TMU_LQ : Nat := 0x20070050
/-- TMU_B_OFFSET (05, R202). -/
def R.TMU_B_OFFSET : Nat := 0x20070054
/-- TMU_MAP_TQMAX (05, R210). -/
def R.TMU_MAP_TQMAX : Nat := 0x20070058
/-- TMU_MAP_WMAX (05, R210). -/
def R.TMU_MAP_WMAX : Nat := 0x2007005C
/-- TMU_MAP_ISCALE (05, R210). -/
def R.TMU_MAP_ISCALE : Nat := 0x20070060
/-- TMU_NARROW_DIST (05, R199). -/
def R.TMU_NARROW_DIST : Nat := 0x20070064
/-- TMU_DRAG_WMAX (05, R239). -/
def R.TMU_DRAG_WMAX : Nat := 0x20070068
/-- TMU_SEAL_WMAX (05, R205 (Seal)). -/
def R.TMU_SEAL_WMAX : Nat := 0x20070070
/-- TMU_SEAL_THALF (05, R204 (Seal)). -/
def R.TMU_SEAL_THALF : Nat := 0x20070074
/-- TMU_TQ_EST (05, R215). -/
def R.TMU_TQ_EST : Nat := 0x20070080
/-- TMU_TQ_APPLIED (05, R208). -/
def R.TMU_TQ_APPLIED : Nat := 0x20070084
/-- TMU_SYS_ISEL (05, R193). -/
def R.TMU_SYS_ISEL (i : Nat) : Nat := 0x20070100 + 64 * i
/-- TMU_SYS_ISEL.IV_SIG, bits 24:16, RW. -/
def F.TMU_SYS_ISEL_IV_SIG (i : Nat) : Fld := ⟨R.TMU_SYS_ISEL i, 24, 16⟩
/-- TMU_SYS_ISEL.IU_SIG, bits 8:0, RW. -/
def F.TMU_SYS_ISEL_IU_SIG (i : Nat) : Fld := ⟨R.TMU_SYS_ISEL i, 8, 0⟩
/-- TMU_SYS_CTX (05, R238). -/
def R.TMU_SYS_CTX (i : Nat) : Nat := 0x20070104 + 64 * i
/-- TMU_SYS_CTX.FW_USE, bits 23:23, RW. -/
def F.TMU_SYS_CTX_FW_USE (i : Nat) : Fld := ⟨R.TMU_SYS_CTX i, 23, 23⟩
/-- TMU_SYS_CTX.FW, bits 22:16, RW. -/
def F.TMU_SYS_CTX_FW (i : Nat) : Fld := ⟨R.TMU_SYS_CTX i, 22, 16⟩
/-- TMU_SYS_CTX.Q_USE, bits 15:15, RW. -/
def F.TMU_SYS_CTX_Q_USE (i : Nat) : Fld := ⟨R.TMU_SYS_CTX i, 15, 15⟩
/-- TMU_SYS_CTX.Q, bits 14:8, RW. -/
def F.TMU_SYS_CTX_Q (i : Nat) : Fld := ⟨R.TMU_SYS_CTX i, 14, 8⟩
/-- TMU_SYS_CTX.D_USE, bits 7:7, RW. -/
def F.TMU_SYS_CTX_D_USE (i : Nat) : Fld := ⟨R.TMU_SYS_CTX i, 7, 7⟩
/-- TMU_SYS_CTX.D, bits 6:0, RW. -/
def F.TMU_SYS_CTX_D (i : Nat) : Fld := ⟨R.TMU_SYS_CTX i, 6, 0⟩
/-- TMU_SYS_IMAX (05, R212). -/
def R.TMU_SYS_IMAX (i : Nat) : Nat := 0x20070108 + 64 * i
/-- TMU_SYS_OC (05, R196). -/
def R.TMU_SYS_OC (i : Nat) : Nat := 0x2007010C + 64 * i
/-- TMU_SYS_IOFS_U (05, R197). -/
def R.TMU_SYS_IOFS_U (i : Nat) : Nat := 0x20070110 + 64 * i
/-- TMU_SYS_IOFS_V (05, R197). -/
def R.TMU_SYS_IOFS_V (i : Nat) : Nat := 0x20070114 + 64 * i
/-- TMU_SYS_IOFS_MAX (05, R197). -/
def R.TMU_SYS_IOFS_MAX (i : Nat) : Nat := 0x20070118 + 64 * i
/-- TMU_SYS_CAL (05, R197). -/
def R.TMU_SYS_CAL (i : Nat) : Nat := 0x2007011C + 64 * i
/-- TMU_SYS_CAL.FAIL, bits 2:2, RO. -/
def F.TMU_SYS_CAL_FAIL (i : Nat) : Fld := ⟨R.TMU_SYS_CAL i, 2, 2⟩
/-- TMU_SYS_CAL.DONE, bits 1:1, RO. -/
def F.TMU_SYS_CAL_DONE (i : Nat) : Fld := ⟨R.TMU_SYS_CAL i, 1, 1⟩
/-- TMU_SYS_CAL.REQ, bits 0:0, W1S. -/
def F.TMU_SYS_CAL_REQ (i : Nat) : Fld := ⟨R.TMU_SYS_CAL i, 0, 0⟩
/-- TMU_SYS_NARROW_CNT (05, R199). -/
def R.TMU_SYS_NARROW_CNT (i : Nat) : Nat := 0x20070120 + 64 * i
/-- TMU_SYS_VSAT_CNT (05, R217). -/
def R.TMU_SYS_VSAT_CNT (i : Nat) : Nat := 0x20070124 + 64 * i
/-- TMU_DRAG (05, R239). -/
def R.TMU_DRAG (i : Nat) : Nat := 0x20070200 + 4 * i
/-- TMU_BC_CTRL (05, R241 R245). -/
def R.TMU_BC_CTRL : Nat := 0x20070300
/-- TMU_BC_CTRL.TEST_FAIL, bits 17:17, RO. -/
def F.TMU_BC_CTRL_TEST_FAIL : Fld := ⟨R.TMU_BC_CTRL, 17, 17⟩
/-- TMU_BC_CTRL.TEST_PASS, bits 16:16, RO. -/
def F.TMU_BC_CTRL_TEST_PASS : Fld := ⟨R.TMU_BC_CTRL, 16, 16⟩
/-- TMU_BC_CTRL.WC, bits 7:4, RW. -/
def F.TMU_BC_CTRL_WC : Fld := ⟨R.TMU_BC_CTRL, 7, 4⟩
/-- TMU_BC_CTRL.EN, bits 0:0, RW. -/
def F.TMU_BC_CTRL_EN : Fld := ⟨R.TMU_BC_CTRL, 0, 0⟩
/-- TMU_BC_MAXON (05, R242). -/
def R.TMU_BC_MAXON : Nat := 0x20070304
/-- TMU_BC_MAXON.MAXON, bits 19:0, RW. -/
def F.TMU_BC_MAXON_MAXON : Fld := ⟨R.TMU_BC_MAXON, 19, 0⟩
/-- TMU_BC_WIN (05, R242). -/
def R.TMU_BC_WIN : Nat := 0x20070308
/-- TMU_BC_WIN.WIN, bits 9:0, RW. -/
def F.TMU_BC_WIN_WIN : Fld := ⟨R.TMU_BC_WIN, 9, 0⟩
/-- TMU_BC_USED (05, R242). -/
def R.TMU_BC_USED : Nat := 0x2007030C
/-- TMU_BC_USED.USED, bits 19:0, RO. -/
def F.TMU_BC_USED_USED : Fld := ⟨R.TMU_BC_USED, 19, 0⟩
/-- TMU_BC_TEST_DV (05, R244). -/
def R.TMU_BC_TEST_DV : Nat := 0x20070310
/-- TMU_MAP (05, R210 R249). -/
def R.TMU_MAP (i : Nat) : Nat := 0x20078000 + 4 * i
/-- TMU_MAP.IQ, bits 31:16, RW. -/
def F.TMU_MAP_IQ (i : Nat) : Fld := ⟨R.TMU_MAP i, 31, 16⟩
/-- TMU_MAP.ID, bits 15:0, RW. -/
def F.TMU_MAP_ID (i : Nat) : Fld := ⟨R.TMU_MAP i, 15, 0⟩
/-- ADC_CTRL (05, R181 R186). -/
def R.ADC_CTRL : Nat := 0x200B0000
/-- ADC_CTRL.CAL_NOW, bits 2:2, W1S. -/
def F.ADC_CTRL_CAL_NOW : Fld := ⟨R.ADC_CTRL, 2, 2⟩
/-- ADC_CTRL.ROT_EN, bits 1:1, RW. -/
def F.ADC_CTRL_ROT_EN : Fld := ⟨R.ADC_CTRL, 1, 1⟩
/-- ADC_CTRL.EN, bits 0:0, RW. -/
def F.ADC_CTRL_EN : Fld := ⟨R.ADC_CTRL, 0, 0⟩
/-- ADC_STAT (05, R182). -/
def R.ADC_STAT : Nat := 0x200B0004
/-- ADC_STAT.RETIRED, bits 31:16, RO. -/
def F.ADC_STAT_RETIRED : Fld := ⟨R.ADC_STAT, 31, 16⟩
/-- ADC_STAT.ACTIVE, bits 12:8, RO. -/
def F.ADC_STAT_ACTIVE : Fld := ⟨R.ADC_STAT, 12, 8⟩
/-- ADC_STAT.NO_SPARE, bits 4:4, RO. -/
def F.ADC_STAT_NO_SPARE : Fld := ⟨R.ADC_STAT, 4, 4⟩
/-- ADC_STAT.SPARE, bits 3:0, RO. -/
def F.ADC_STAT_SPARE : Fld := ⟨R.ADC_STAT, 3, 0⟩
/-- ADC_SEQ_CTRL (05, ADC registers). -/
def R.ADC_SEQ_CTRL (i : Nat) : Nat := 0x200B0100 + 64 * i
/-- ADC_SEQ_CTRL.NSLOT, bits 27:24, RW. -/
def F.ADC_SEQ_CTRL_NSLOT (i : Nat) : Fld := ⟨R.ADC_SEQ_CTRL i, 27, 24⟩
/-- ADC_SEQ_CTRL.SEL, bits 19:8, RW. -/
def F.ADC_SEQ_CTRL_SEL (i : Nat) : Fld := ⟨R.ADC_SEQ_CTRL i, 19, 8⟩
/-- ADC_SEQ_CTRL.SRC, bits 7:4, RW. -/
def F.ADC_SEQ_CTRL_SRC (i : Nat) : Fld := ⟨R.ADC_SEQ_CTRL i, 7, 4⟩
/-- ADC_SEQ_CTRL.EN, bits 0:0, RW. -/
def F.ADC_SEQ_CTRL_EN (i : Nat) : Fld := ⟨R.ADC_SEQ_CTRL i, 0, 0⟩
/-- ADC_SEQ_INTV (05, ADC registers). -/
def R.ADC_SEQ_INTV (i : Nat) : Nat := 0x200B0104 + 64 * i
/-- ADC_SEQ_SLOT (05, R180). -/
def R.ADC_SEQ_SLOT (i : Nat) (j : Nat) : Nat := 0x200B0108 + 64 * i + 4 * j
/-- ADC_SEQ_SLOT.B3, bits 30:24, RW. -/
def F.ADC_SEQ_SLOT_B3 (i : Nat) (j : Nat) : Fld := ⟨R.ADC_SEQ_SLOT i j, 30, 24⟩
/-- ADC_SEQ_SLOT.B2, bits 22:16, RW. -/
def F.ADC_SEQ_SLOT_B2 (i : Nat) (j : Nat) : Fld := ⟨R.ADC_SEQ_SLOT i j, 22, 16⟩
/-- ADC_SEQ_SLOT.B1, bits 14:8, RW. -/
def F.ADC_SEQ_SLOT_B1 (i : Nat) (j : Nat) : Fld := ⟨R.ADC_SEQ_SLOT i j, 14, 8⟩
/-- ADC_SEQ_SLOT.B0, bits 6:0, RW. -/
def F.ADC_SEQ_SLOT_B0 (i : Nat) (j : Nat) : Fld := ⟨R.ADC_SEQ_SLOT i j, 6, 0⟩
/-- ADC_SEQ_STAMP_LO (05, R175). -/
def R.ADC_SEQ_STAMP_LO (i : Nat) : Nat := 0x200B0118 + 64 * i
/-- ADC_SEQ_STAMP_HI (05, R175). -/
def R.ADC_SEQ_STAMP_HI (i : Nat) : Nat := 0x200B011C + 64 * i
/-- ADC_SEQ_SWTRIG (05, R177). -/
def R.ADC_SEQ_SWTRIG (i : Nat) : Nat := 0x200B0120 + 64 * i
/-- ADC_SEQ_LATE (05, R177 R178). -/
def R.ADC_SEQ_LATE (i : Nat) : Nat := 0x200B0124 + 64 * i
/-- ADC_AIN_SCALE (05, R179). -/
def R.ADC_AIN_SCALE (i : Nat) : Nat := 0x200B1000 + 8 * i
/-- ADC_AIN_OFS (05, R179). -/
def R.ADC_AIN_OFS (i : Nat) : Nat := 0x200B1004 + 8 * i
/-- ADC_AIN_RAW (05, R176). -/
def R.ADC_AIN_RAW (i : Nat) : Nat := 0x200B1400 + 4 * i
/-- ADC_AIN_RAW.CODE, bits 15:0, RO. -/
def F.ADC_AIN_RAW_CODE (i : Nat) : Fld := ⟨R.ADC_AIN_RAW i, 15, 0⟩
/-- ADC_SD_CFG (05, R189). -/
def R.ADC_SD_CFG (i : Nat) : Nat := 0x200B2000 + 32 * i
/-- ADC_SD_CFG.OSR, bits 24:16, RW. -/
def F.ADC_SD_CFG_OSR (i : Nat) : Fld := ⟨R.ADC_SD_CFG i, 24, 16⟩
/-- ADC_SD_CFG.CLKDIV, bits 10:4, RW. -/
def F.ADC_SD_CFG_CLKDIV (i : Nat) : Fld := ⟨R.ADC_SD_CFG i, 10, 4⟩
/-- ADC_SD_CFG.CLK_OUT, bits 1:1, RW. -/
def F.ADC_SD_CFG_CLK_OUT (i : Nat) : Fld := ⟨R.ADC_SD_CFG i, 1, 1⟩
/-- ADC_SD_CFG.EN, bits 0:0, RW. -/
def F.ADC_SD_CFG_EN (i : Nat) : Fld := ⟨R.ADC_SD_CFG i, 0, 0⟩
/-- ADC_SD_SCALE (05, R190). -/
def R.ADC_SD_SCALE (i : Nat) : Nat := 0x200B2004 + 32 * i
/-- ADC_SD_OFS (05, R190). -/
def R.ADC_SD_OFS (i : Nat) : Nat := 0x200B2008 + 32 * i
/-- ADC_SD_CMP_HI (05, R191). -/
def R.ADC_SD_CMP_HI (i : Nat) : Nat := 0x200B200C + 32 * i
/-- ADC_SD_CMP_LO (05, R191). -/
def R.ADC_SD_CMP_LO (i : Nat) : Nat := 0x200B2010 + 32 * i
/-- ADC_SD_CMP_CTRL (05, R191). -/
def R.ADC_SD_CMP_CTRL (i : Nat) : Nat := 0x200B2014 + 32 * i
/-- ADC_SD_CMP_CTRL.TRIP, bits 8:8, W1C. -/
def F.ADC_SD_CMP_CTRL_TRIP (i : Nat) : Fld := ⟨R.ADC_SD_CMP_CTRL i, 8, 8⟩
/-- ADC_SD_CMP_CTRL.SYS, bits 4:4, RW. -/
def F.ADC_SD_CMP_CTRL_SYS (i : Nat) : Fld := ⟨R.ADC_SD_CMP_CTRL i, 4, 4⟩
/-- ADC_SD_CMP_CTRL.ACTION, bits 2:1, RW. -/
def F.ADC_SD_CMP_CTRL_ACTION (i : Nat) : Fld := ⟨R.ADC_SD_CMP_CTRL i, 2, 1⟩
/-- ADC_SD_CMP_CTRL.EN, bits 0:0, RW. -/
def F.ADC_SD_CMP_CTRL_EN (i : Nat) : Fld := ⟨R.ADC_SD_CMP_CTRL i, 0, 0⟩
/-- ADC_SD_ALIGN (05, R190). -/
def R.ADC_SD_ALIGN (i : Nat) : Nat := 0x200B2018 + 32 * i
/-- ADC_SD_ALIGN.EV, bits 11:0, RW. -/
def F.ADC_SD_ALIGN_EV (i : Nat) : Fld := ⟨R.ADC_SD_ALIGN i, 11, 0⟩
/-- ADC_WC_CTRL (05, R188). -/
def R.ADC_WC_CTRL (i : Nat) : Nat := 0x200B3000 + 16 * i
/-- ADC_WC_CTRL.TRIP, bits 16:16, W1C. -/
def F.ADC_WC_CTRL_TRIP (i : Nat) : Fld := ⟨R.ADC_WC_CTRL i, 16, 16⟩
/-- ADC_WC_CTRL.SYS, bits 12:12, RW. -/
def F.ADC_WC_CTRL_SYS (i : Nat) : Fld := ⟨R.ADC_WC_CTRL i, 12, 12⟩
/-- ADC_WC_CTRL.ACTION, bits 9:8, RW. -/
def F.ADC_WC_CTRL_ACTION (i : Nat) : Fld := ⟨R.ADC_WC_CTRL i, 9, 8⟩
/-- ADC_WC_CTRL.AIN, bits 7:1, RW. -/
def F.ADC_WC_CTRL_AIN (i : Nat) : Fld := ⟨R.ADC_WC_CTRL i, 7, 1⟩
/-- ADC_WC_CTRL.EN, bits 0:0, RW. -/
def F.ADC_WC_CTRL_EN (i : Nat) : Fld := ⟨R.ADC_WC_CTRL i, 0, 0⟩
/-- ADC_WC_THR (05, R187). -/
def R.ADC_WC_THR (i : Nat) : Nat := 0x200B3004 + 16 * i
/-- ADC_WC_THR.HI, bits 25:16, RW. -/
def F.ADC_WC_THR_HI (i : Nat) : Fld := ⟨R.ADC_WC_THR i, 25, 16⟩
/-- ADC_WC_THR.LO, bits 9:0, RW. -/
def F.ADC_WC_THR_LO (i : Nat) : Fld := ⟨R.ADC_WC_THR i, 9, 0⟩
/-- PFB_CFG (06, R253). -/
def R.PFB_CFG : Nat := 0x20080000
/-- PFB_CFG.EN, bits 31:31, RW. -/
def F.PFB_CFG_EN : Fld := ⟨R.PFB_CFG, 31, 31⟩
/-- PFB_CFG.POLE, bits 20:16, RW. -/
def F.PFB_CFG_POLE : Fld := ⟨R.PFB_CFG, 20, 16⟩
/-- PFB_CFG.RPOLE, bits 11:8, RW. -/
def F.PFB_CFG_RPOLE : Fld := ⟨R.PFB_CFG, 11, 8⟩
/-- PFB_CFG.SRC, bits 1:0, RW. -/
def F.PFB_CFG_SRC : Fld := ⟨R.PFB_CFG, 1, 0⟩
/-- PFB_THETA_OFS (06, R251). -/
def R.PFB_THETA_OFS : Nat := 0x20080004
/-- PFB_STAT (06, R264 R267). -/
def R.PFB_STAT : Nat := 0x20080008
/-- PFB_STAT.CAUSE, bits 11:8, RO. -/
def F.PFB_STAT_CAUSE : Fld := ⟨R.PFB_STAT, 11, 8⟩
/-- PFB_STAT.ENC_REF, bits 3:3, RO. -/
def F.PFB_STAT_ENC_REF : Fld := ⟨R.PFB_STAT, 3, 3⟩
/-- PFB_STAT.LOCK, bits 2:2, RO. -/
def F.PFB_STAT_LOCK : Fld := ⟨R.PFB_STAT, 2, 2⟩
/-- PFB_STAT.ACQ, bits 1:1, RO. -/
def F.PFB_STAT_ACQ : Fld := ⟨R.PFB_STAT, 1, 1⟩
/-- PFB_STAT.VALID, bits 0:0, RO. -/
def F.PFB_STAT_VALID : Fld := ⟨R.PFB_STAT, 0, 0⟩
/-- PFB_RES_CTRL (06, R256). -/
def R.PFB_RES_CTRL : Nat := 0x20080100
/-- PFB_RES_CTRL.DLY, bits 31:24, RW. -/
def F.PFB_RES_CTRL_DLY : Fld := ⟨R.PFB_RES_CTRL, 31, 24⟩
/-- PFB_RES_CTRL.TRK_CTX, bits 22:16, RW. -/
def F.PFB_RES_CTRL_TRK_CTX : Fld := ⟨R.PFB_RES_CTRL, 22, 16⟩
/-- PFB_RES_CTRL.GEN, bits 6:4, RW. -/
def F.PFB_RES_CTRL_GEN : Fld := ⟨R.PFB_RES_CTRL, 6, 4⟩
/-- PFB_RES_CTRL.CAL_EN, bits 1:1, RW. -/
def F.PFB_RES_CTRL_CAL_EN : Fld := ⟨R.PFB_RES_CTRL, 1, 1⟩
/-- PFB_RES_CTRL.EN, bits 0:0, RW. -/
def F.PFB_RES_CTRL_EN : Fld := ⟨R.PFB_RES_CTRL, 0, 0⟩
/-- PFB_RES_EXC_AMP (06, R255). -/
def R.PFB_RES_EXC_AMP : Nat := 0x20080104
/-- PFB_RES_AMP_NOM (06, R258). -/
def R.PFB_RES_AMP_NOM : Nat := 0x2008010C
/-- PFB_RES_AMP_LO (06, R258). -/
def R.PFB_RES_AMP_LO : Nat := 0x20080110
/-- PFB_RES_AMP_HI (06, R265). -/
def R.PFB_RES_AMP_HI : Nat := 0x20080114
/-- PFB_RES_TRK_LIM (06, R265). -/
def R.PFB_RES_TRK_LIM : Nat := 0x20080118
/-- PFB_RES_LOCK_LIM (06, R264). -/
def R.PFB_RES_LOCK_LIM : Nat := 0x2008011C
/-- PFB_RES_CAL_WMIN (06, R269). -/
def R.PFB_RES_CAL_WMIN : Nat := 0x20080120
/-- PFB_RES_CAL_WMAX (06, R269). -/
def R.PFB_RES_CAL_WMAX : Nat := 0x20080124
/-- PFB_RES_CAL_S0 (06, R268). -/
def R.PFB_RES_CAL_S0 : Nat := 0x20080128
/-- PFB_RES_CAL_C0 (06, R268). -/
def R.PFB_RES_CAL_C0 : Nat := 0x2008012C
/-- PFB_RES_CAL_G (06, R268). -/
def R.PFB_RES_CAL_G : Nat := 0x20080130
/-- PFB_RES_CAL_DELTA (06, R268). -/
def R.PFB_RES_CAL_DELTA : Nat := 0x20080134
/-- PFB_RES_ANGLE (06, R259). -/
def R.PFB_RES_ANGLE : Nat := 0x20080140
/-- PFB_RES_ANGLE.TURNS, bits 31:16, RO. -/
def F.PFB_RES_ANGLE_TURNS : Fld := ⟨R.PFB_RES_ANGLE, 31, 16⟩
/-- PFB_RES_ANGLE.ANGLE, bits 15:0, RO. -/
def F.PFB_RES_ANGLE_ANGLE : Fld := ⟨R.PFB_RES_ANGLE, 15, 0⟩
/-- PFB_RES_FINE (06, R259). -/
def R.PFB_RES_FINE : Nat := 0x20080144
/-- PFB_ENC_CFG (06, R273). -/
def R.PFB_ENC_CFG : Nat := 0x20080200
/-- PFB_ENC_CFG.ZQUAL, bits 9:9, RW. -/
def F.PFB_ENC_CFG_ZQUAL : Fld := ⟨R.PFB_ENC_CFG, 9, 9⟩
/-- PFB_ENC_CFG.DIR_INV, bits 8:8, RW. -/
def F.PFB_ENC_CFG_DIR_INV : Fld := ⟨R.PFB_ENC_CFG, 8, 8⟩
/-- PFB_ENC_CFG.FILT, bits 7:4, RW. -/
def F.PFB_ENC_CFG_FILT : Fld := ⟨R.PFB_ENC_CFG, 7, 4⟩
/-- PFB_ENC_CFG.EN, bits 0:0, RW. -/
def F.PFB_ENC_CFG_EN : Fld := ⟨R.PFB_ENC_CFG, 0, 0⟩
/-- PFB_ENC_CPR (06, R251). -/
def R.PFB_ENC_CPR : Nat := 0x20080204
/-- PFB_ENC_IDX_POS (06, R276). -/
def R.PFB_ENC_IDX_POS : Nat := 0x20080208
/-- PFB_ENC_IDX_TOL (06, R277). -/
def R.PFB_ENC_IDX_TOL : Nat := 0x2008020C
/-- PFB_ENC_IDX_TOL.TOL, bits 15:0, RW. -/
def F.PFB_ENC_IDX_TOL_TOL : Fld := ⟨R.PFB_ENC_IDX_TOL, 15, 0⟩
/-- PFB_ENC_COUNT (06, R273). -/
def R.PFB_ENC_COUNT : Nat := 0x20080210
/-- PFB_ENC_IDX_DEV (06, R277). -/
def R.PFB_ENC_IDX_DEV : Nat := 0x20080214
/-- PFB_ENC_TMO (06, R280). -/
def R.PFB_ENC_TMO : Nat := 0x20080218
/-- PFB_ENC_TMO.TMO, bits 23:0, RW. -/
def F.PFB_ENC_TMO_TMO : Fld := ⟨R.PFB_ENC_TMO, 23, 0⟩
/-- PFB_HALL_CFG (06, R281). -/
def R.PFB_HALL_CFG (i : Nat) : Nat := 0x20080300 + 32 * i
/-- PFB_HALL_CFG.N, bits 25:16, RW. -/
def F.PFB_HALL_CFG_N (i : Nat) : Fld := ⟨R.PFB_HALL_CFG i, 25, 16⟩
/-- PFB_HALL_CFG.EN, bits 0:0, RW. -/
def F.PFB_HALL_CFG_EN (i : Nat) : Fld := ⟨R.PFB_HALL_CFG i, 0, 0⟩
/-- PFB_HALL_MAP (06, R282). -/
def R.PFB_HALL_MAP (i : Nat) : Nat := 0x20080304 + 32 * i
/-- PFB_HALL_MAP.S6, bits 22:20, RW. -/
def F.PFB_HALL_MAP_S6 (i : Nat) : Fld := ⟨R.PFB_HALL_MAP i, 22, 20⟩
/-- PFB_HALL_MAP.S5, bits 18:16, RW. -/
def F.PFB_HALL_MAP_S5 (i : Nat) : Fld := ⟨R.PFB_HALL_MAP i, 18, 16⟩
/-- PFB_HALL_MAP.S4, bits 14:12, RW. -/
def F.PFB_HALL_MAP_S4 (i : Nat) : Fld := ⟨R.PFB_HALL_MAP i, 14, 12⟩
/-- PFB_HALL_MAP.S3, bits 10:8, RW. -/
def F.PFB_HALL_MAP_S3 (i : Nat) : Fld := ⟨R.PFB_HALL_MAP i, 10, 8⟩
/-- PFB_HALL_MAP.S2, bits 6:4, RW. -/
def F.PFB_HALL_MAP_S2 (i : Nat) : Fld := ⟨R.PFB_HALL_MAP i, 6, 4⟩
/-- PFB_HALL_MAP.S1, bits 2:0, RW. -/
def F.PFB_HALL_MAP_S1 (i : Nat) : Fld := ⟨R.PFB_HALL_MAP i, 2, 0⟩
/-- PFB_HALL_STAT (06, R282). -/
def R.PFB_HALL_STAT (i : Nat) : Nat := 0x20080308 + 32 * i
/-- PFB_HALL_STAT.LAST, bits 10:8, RO. -/
def F.PFB_HALL_STAT_LAST (i : Nat) : Fld := ⟨R.PFB_HALL_STAT i, 10, 8⟩
/-- PFB_HALL_STAT.SECTOR, bits 6:4, RO. -/
def F.PFB_HALL_STAT_SECTOR (i : Nat) : Fld := ⟨R.PFB_HALL_STAT i, 6, 4⟩
/-- PFB_HALL_STAT.CODE, bits 2:0, RO. -/
def F.PFB_HALL_STAT_CODE (i : Nat) : Fld := ⟨R.PFB_HALL_STAT i, 2, 0⟩
/-- PFB_HALL_STEP (06, R284). -/
def R.PFB_HALL_STEP (i : Nat) : Nat := 0x2008030C + 32 * i
/-- PFB_HALL_INV_CNT (06, R282 R284). -/
def R.PFB_HALL_INV_CNT (i : Nat) : Nat := 0x20080310 + 32 * i
/-- PFB_HALL_INV_CNT.AMB, bits 31:16, RC. -/
def F.PFB_HALL_INV_CNT_AMB (i : Nat) : Fld := ⟨R.PFB_HALL_INV_CNT i, 31, 16⟩
/-- PFB_HALL_INV_CNT.INV, bits 15:0, RC. -/
def F.PFB_HALL_INV_CNT_INV (i : Nat) : Fld := ⟨R.PFB_HALL_INV_CNT i, 15, 0⟩
/-- PFB_HALL_STAMP_LO (06, R283). -/
def R.PFB_HALL_STAMP_LO (i : Nat) : Nat := 0x20080314 + 32 * i
/-- PFB_HALL_STAMP_HI (06, R283). -/
def R.PFB_HALL_STAMP_HI (i : Nat) : Nat := 0x20080318 + 32 * i
/-- PFB_HALL_TMO (06, R285). -/
def R.PFB_HALL_TMO (i : Nat) : Nat := 0x2008031C + 32 * i
/-- PFB_CMP_CTRL (06, R287). -/
def R.PFB_CMP_CTRL (i : Nat) : Nat := 0x20080400 + 32 * i
/-- PFB_CMP_CTRL.JRN, bits 12:12, RW. -/
def F.PFB_CMP_CTRL_JRN (i : Nat) : Fld := ⟨R.PFB_CMP_CTRL i, 12, 12⟩
/-- PFB_CMP_CTRL.DIR, bits 9:8, RW. -/
def F.PFB_CMP_CTRL_DIR (i : Nat) : Fld := ⟨R.PFB_CMP_CTRL i, 9, 8⟩
/-- PFB_CMP_CTRL.SRC, bits 6:4, RW. -/
def F.PFB_CMP_CTRL_SRC (i : Nat) : Fld := ⟨R.PFB_CMP_CTRL i, 6, 4⟩
/-- PFB_CMP_CTRL.EN, bits 0:0, RW. -/
def F.PFB_CMP_CTRL_EN (i : Nat) : Fld := ⟨R.PFB_CMP_CTRL i, 0, 0⟩
/-- PFB_CMP_VAL (06, R287). -/
def R.PFB_CMP_VAL (i : Nat) : Nat := 0x20080404 + 32 * i
/-- PFB_CMP_STAT (06, R291). -/
def R.PFB_CMP_STAT (i : Nat) : Nat := 0x20080408 + 32 * i
/-- PFB_CMP_STAT.D, bits 3:3, RO. -/
def F.PFB_CMP_STAT_D (i : Nat) : Fld := ⟨R.PFB_CMP_STAT i, 3, 3⟩
/-- PFB_CMP_STAT.ARMED, bits 2:2, RO. -/
def F.PFB_CMP_STAT_ARMED (i : Nat) : Fld := ⟨R.PFB_CMP_STAT i, 2, 2⟩
/-- PFB_CMP_STAT.CMP_BEHIND, bits 1:1, RO. -/
def F.PFB_CMP_STAT_CMP_BEHIND (i : Nat) : Fld := ⟨R.PFB_CMP_STAT i, 1, 1⟩
/-- PFB_CMP_STAT.FIRED, bits 0:0, W1C. -/
def F.PFB_CMP_STAT_FIRED (i : Nat) : Fld := ⟨R.PFB_CMP_STAT i, 0, 0⟩
/-- PFB_CMP_STAMP_LO (06, R288). -/
def R.PFB_CMP_STAMP_LO (i : Nat) : Nat := 0x2008040C + 32 * i
/-- PFB_CMP_STAMP_HI (06, R288). -/
def R.PFB_CMP_STAMP_HI (i : Nat) : Nat := 0x20080410 + 32 * i
/-- PWM_GLB_STAT (07, R311). -/
def R.PWM_GLB_STAT : Nat := 0x20090000
/-- PWM_GLB_STAT.GD, bits 0:0, RO. -/
def F.PWM_GLB_STAT_GD : Fld := ⟨R.PWM_GLB_STAT, 0, 0⟩
/-- PWM_GLB_GD_MASK_GC (07, R309 R490). -/
def R.PWM_GLB_GD_MASK_GC : Nat := 0x20090004
/-- PWM_GLB_GD_MASK_GC.MASK, bits 30:0, RWS. -/
def F.PWM_GLB_GD_MASK_GC_MASK : Fld := ⟨R.PWM_GLB_GD_MASK_GC, 30, 0⟩
/-- PWM_GLB_GD_MASK_LG (07, R309 R490). -/
def R.PWM_GLB_GD_MASK_LG : Nat := 0x20090008
/-- PWM_GLB_GD_MASK_LG.MASK, bits 18:0, RWS. -/
def F.PWM_GLB_GD_MASK_LG_MASK : Fld := ⟨R.PWM_GLB_GD_MASK_LG, 18, 0⟩
/-- PWM_GLB_SAFE (07, R310 R462). -/
def R.PWM_GLB_SAFE : Nat := 0x2009000C
/-- PWM_GLB_SAFE.CODE, bits 23:0, RO. -/
def F.PWM_GLB_SAFE_CODE : Fld := ⟨R.PWM_GLB_SAFE, 23, 0⟩
/-- PWM_GRP_CFG (07, R295 R298). -/
def R.PWM_GRP_CFG (i : Nat) : Nat := 0x20090100 + 128 * i
/-- PWM_GRP_CFG.SYNC_G, bits 11:8, RW. -/
def F.PWM_GRP_CFG_SYNC_G (i : Nat) : Fld := ⟨R.PWM_GRP_CFG i, 11, 8⟩
/-- PWM_GRP_CFG.START_MODE, bits 5:4, RW. -/
def F.PWM_GRP_CFG_START_MODE (i : Nat) : Fld := ⟨R.PWM_GRP_CFG i, 5, 4⟩
/-- PWM_GRP_CFG.UPD, bits 2:1, RW. -/
def F.PWM_GRP_CFG_UPD (i : Nat) : Fld := ⟨R.PWM_GRP_CFG i, 2, 1⟩
/-- PWM_GRP_CFG.CARR, bits 0:0, RW. -/
def F.PWM_GRP_CFG_CARR (i : Nat) : Fld := ⟨R.PWM_GRP_CFG i, 0, 0⟩
/-- PWM_GRP_PER (07, R296). -/
def R.PWM_GRP_PER (i : Nat) : Nat := 0x20090104 + 128 * i
/-- PWM_GRP_PER.PER, bits 23:0, RW. -/
def F.PWM_GRP_PER_PER (i : Nat) : Fld := ⟨R.PWM_GRP_PER i, 23, 0⟩
/-- PWM_GRP_DT (07, R314 R317). -/
def R.PWM_GRP_DT (i : Nat) : Nat := 0x20090108 + 128 * i
/-- PWM_GRP_DT.CONF_TMO, bits 27:16, RW. -/
def F.PWM_GRP_DT_CONF_TMO (i : Nat) : Fld := ⟨R.PWM_GRP_DT i, 27, 16⟩
/-- PWM_GRP_DT.DT, bits 15:0, RW. -/
def F.PWM_GRP_DT_DT (i : Nat) : Fld := ⟨R.PWM_GRP_DT i, 15, 0⟩
/-- PWM_GRP_CTRL (07, R296 R306). -/
def R.PWM_GRP_CTRL (i : Nat) : Nat := 0x2009010C + 128 * i
/-- PWM_GRP_CTRL.HOLD, bits 1:1, RW. -/
def F.PWM_GRP_CTRL_HOLD (i : Nat) : Fld := ⟨R.PWM_GRP_CTRL i, 1, 1⟩
/-- PWM_GRP_CTRL.RUN, bits 0:0, RW. -/
def F.PWM_GRP_CTRL_RUN (i : Nat) : Fld := ⟨R.PWM_GRP_CTRL i, 0, 0⟩
/-- PWM_GRP_SYNC_PH (07, R300). -/
def R.PWM_GRP_SYNC_PH (i : Nat) : Nat := 0x20090110 + 128 * i
/-- PWM_GRP_START_LO (07, R299). -/
def R.PWM_GRP_START_LO (i : Nat) : Nat := 0x20090114 + 128 * i
/-- PWM_GRP_START_HI (07, R299). -/
def R.PWM_GRP_START_HI (i : Nat) : Nat := 0x20090118 + 128 * i
/-- PWM_GRP_LEGMODE (07, R302 R306). -/
def R.PWM_GRP_LEGMODE (i : Nat) : Nat := 0x2009011C + 128 * i
/-- PWM_GRP_LEGMODE.ACT3, bits 31:28, RO. -/
def F.PWM_GRP_LEGMODE_ACT3 (i : Nat) : Fld := ⟨R.PWM_GRP_LEGMODE i, 31, 28⟩
/-- PWM_GRP_LEGMODE.ACT2, bits 27:24, RO. -/
def F.PWM_GRP_LEGMODE_ACT2 (i : Nat) : Fld := ⟨R.PWM_GRP_LEGMODE i, 27, 24⟩
/-- PWM_GRP_LEGMODE.ACT1, bits 23:20, RO. -/
def F.PWM_GRP_LEGMODE_ACT1 (i : Nat) : Fld := ⟨R.PWM_GRP_LEGMODE i, 23, 20⟩
/-- PWM_GRP_LEGMODE.ACT0, bits 19:16, RO. -/
def F.PWM_GRP_LEGMODE_ACT0 (i : Nat) : Fld := ⟨R.PWM_GRP_LEGMODE i, 19, 16⟩
/-- PWM_GRP_LEGMODE.SHD3, bits 15:12, RW. -/
def F.PWM_GRP_LEGMODE_SHD3 (i : Nat) : Fld := ⟨R.PWM_GRP_LEGMODE i, 15, 12⟩
/-- PWM_GRP_LEGMODE.SHD2, bits 11:8, RW. -/
def F.PWM_GRP_LEGMODE_SHD2 (i : Nat) : Fld := ⟨R.PWM_GRP_LEGMODE i, 11, 8⟩
/-- PWM_GRP_LEGMODE.SHD1, bits 7:4, RW. -/
def F.PWM_GRP_LEGMODE_SHD1 (i : Nat) : Fld := ⟨R.PWM_GRP_LEGMODE i, 7, 4⟩
/-- PWM_GRP_LEGMODE.SHD0, bits 3:0, RW. -/
def F.PWM_GRP_LEGMODE_SHD0 (i : Nat) : Fld := ⟨R.PWM_GRP_LEGMODE i, 3, 0⟩
/-- PWM_GRP_DUTY (07, R304). -/
def R.PWM_GRP_DUTY (i : Nat) (j : Nat) : Nat := 0x20090120 + 128 * i + 4 * j
/-- PWM_GRP_PHASE (07, R304). -/
def R.PWM_GRP_PHASE (i : Nat) (j : Nat) : Nat := 0x20090130 + 128 * i + 4 * j
/-- PWM_GRP_DUTYL (07, R304). -/
def R.PWM_GRP_DUTYL (i : Nat) (j : Nat) : Nat := 0x20090140 + 128 * i + 4 * j
/-- PWM_GRP_STAT (07, R304 R313 R320 R338). -/
def R.PWM_GRP_STAT (i : Nat) : Nat := 0x20090150 + 128 * i
/-- PWM_GRP_STAT.GATED, bits 28:28, RO. -/
def F.PWM_GRP_STAT_GATED (i : Nat) : Fld := ⟨R.PWM_GRP_STAT i, 28, 28⟩
/-- PWM_GRP_STAT.OVR_SRC, bits 27:26, RO. -/
def F.PWM_GRP_STAT_OVR_SRC (i : Nat) : Fld := ⟨R.PWM_GRP_STAT i, 27, 26⟩
/-- PWM_GRP_STAT.OVR_CODE, bits 25:24, RO. -/
def F.PWM_GRP_STAT_OVR_CODE (i : Nat) : Fld := ⟨R.PWM_GRP_STAT i, 25, 24⟩
/-- PWM_GRP_STAT.BADVAL, bits 23:16, RC. -/
def F.PWM_GRP_STAT_BADVAL (i : Nat) : Fld := ⟨R.PWM_GRP_STAT i, 23, 16⟩
/-- PWM_GRP_STAT.BOOTLIM, bits 15:12, W1C. -/
def F.PWM_GRP_STAT_BOOTLIM (i : Nat) : Fld := ⟨R.PWM_GRP_STAT i, 15, 12⟩
/-- PWM_GRP_STAT.CONFLICT, bits 11:8, W1C. -/
def F.PWM_GRP_STAT_CONFLICT (i : Nat) : Fld := ⟨R.PWM_GRP_STAT i, 11, 8⟩
/-- PWM_GRP_STAT.LATCHED, bits 3:0, RO. -/
def F.PWM_GRP_STAT_LATCHED (i : Nat) : Fld := ⟨R.PWM_GRP_STAT i, 3, 0⟩
/-- PWM_GRP_DTEXT (07, R315). -/
def R.PWM_GRP_DTEXT (i : Nat) : Nat := 0x20090154 + 128 * i
/-- PWM_GRP_DTEXT.MAX, bits 31:16, RC. -/
def F.PWM_GRP_DTEXT_MAX (i : Nat) : Fld := ⟨R.PWM_GRP_DTEXT i, 31, 16⟩
/-- PWM_GRP_DTEXT.LAST, bits 15:0, RO. -/
def F.PWM_GRP_DTEXT_LAST (i : Nat) : Fld := ⟨R.PWM_GRP_DTEXT i, 15, 0⟩
/-- PWM_GRP_SWALLOW (07, R316). -/
def R.PWM_GRP_SWALLOW (i : Nat) : Nat := 0x20090158 + 128 * i
/-- PWM_GRP_SWALLOW.CNT, bits 15:0, RC. -/
def F.PWM_GRP_SWALLOW_CNT (i : Nat) : Fld := ⟨R.PWM_GRP_SWALLOW i, 15, 0⟩
/-- PWM_GRP_CNT (07, R295). -/
def R.PWM_GRP_CNT (i : Nat) : Nat := 0x2009015C + 128 * i
/-- PWM_GRP_CNT.CNT, bits 23:0, RO. -/
def F.PWM_GRP_CNT_CNT (i : Nat) : Fld := ⟨R.PWM_GRP_CNT i, 23, 0⟩
/-- PWM_GRP_EVSTAMP_LO (07, R298). -/
def R.PWM_GRP_EVSTAMP_LO (i : Nat) : Nat := 0x20090160 + 128 * i
/-- PWM_GRP_EVSTAMP_HI (07, R298). -/
def R.PWM_GRP_EVSTAMP_HI (i : Nat) : Nat := 0x20090164 + 128 * i
/-- PWM_GRP_DUTY_ACT (07, R306). -/
def R.PWM_GRP_DUTY_ACT (i : Nat) (j : Nat) : Nat := 0x20090170 + 128 * i + 4 * j
/-- GDR_GC_CFG (07, R323 R324). -/
def R.GDR_GC_CFG (i : Nat) : Nat := 0x200A0000 + 4 * i
/-- GDR_GC_CFG.GS_ON_TMO, bits 15:8, RW. -/
def F.GDR_GC_CFG_GS_ON_TMO (i : Nat) : Fld := ⟨R.GDR_GC_CFG i, 15, 8⟩
/-- GDR_GC_CFG.GF_EN, bits 1:1, RW. -/
def F.GDR_GC_CFG_GF_EN (i : Nat) : Fld := ⟨R.GDR_GC_CFG i, 1, 1⟩
/-- GDR_GC_CFG.USED, bits 0:0, RW. -/
def F.GDR_GC_CFG_USED (i : Nat) : Fld := ⟨R.GDR_GC_CFG i, 0, 0⟩
/-- GDR_GC_GF (07, R321). -/
def R.GDR_GC_GF : Nat := 0x200A0080
/-- GDR_GC_GF.GF, bits 30:0, RO. -/
def F.GDR_GC_GF_GF : Fld := ⟨R.GDR_GC_GF, 30, 0⟩
/-- GDR_GC_GS (07, R321). -/
def R.GDR_GC_GS : Nat := 0x200A0084
/-- GDR_GC_GS.GS, bits 30:0, RO. -/
def F.GDR_GC_GS_GS : Fld := ⟨R.GDR_GC_GS, 30, 0⟩
/-- GDR_LGB_CFG (07, R337 R342 R344). -/
def R.GDR_LGB_CFG (i : Nat) : Nat := 0x200A0100 + 16 * i
/-- GDR_LGB_CFG.CC_THR, bits 27:24, RW. -/
def F.GDR_LGB_CFG_CC_THR (i : Nat) : Fld := ⟨R.GDR_LGB_CFG i, 27, 24⟩
/-- GDR_LGB_CFG.VDS_THR, bits 20:16, RW. -/
def F.GDR_LGB_CFG_VDS_THR (i : Nat) : Fld := ⟨R.GDR_LGB_CFG i, 20, 16⟩
/-- GDR_LGB_CFG.TBLANK, bits 9:4, RW. -/
def F.GDR_LGB_CFG_TBLANK (i : Nat) : Fld := ⟨R.GDR_LGB_CFG i, 9, 4⟩
/-- GDR_LGB_CFG.CC_EN, bits 2:2, RW. -/
def F.GDR_LGB_CFG_CC_EN (i : Nat) : Fld := ⟨R.GDR_LGB_CFG i, 2, 2⟩
/-- GDR_LGB_CFG.HS_SUP, bits 1:1, RW. -/
def F.GDR_LGB_CFG_HS_SUP (i : Nat) : Fld := ⟨R.GDR_LGB_CFG i, 1, 1⟩
/-- GDR_LGB_CFG.EN, bits 0:0, RW. -/
def F.GDR_LGB_CFG_EN (i : Nat) : Fld := ⟨R.GDR_LGB_CFG i, 0, 0⟩
/-- GDR_LGB_REFRESH (07, R338). -/
def R.GDR_LGB_REFRESH (i : Nat) : Nat := 0x200A0104 + 16 * i
/-- GDR_LGB_REFRESH.REFRESH, bits 10:0, RW. -/
def F.GDR_LGB_REFRESH_REFRESH (i : Nat) : Fld := ⟨R.GDR_LGB_REFRESH i, 10, 0⟩
/-- GDR_LGB_STAT (07, GDR registers). -/
def R.GDR_LGB_STAT (i : Nat) : Nat := 0x200A0108 + 16 * i
/-- GDR_LGB_STAT.CP_OK, bits 4:4, RO. -/
def F.GDR_LGB_STAT_CP_OK (i : Nat) : Fld := ⟨R.GDR_LGB_STAT i, 4, 4⟩
/-- GDR_LGB_STAT.BOOT_UV, bits 3:1, RO. -/
def F.GDR_LGB_STAT_BOOT_UV (i : Nat) : Fld := ⟨R.GDR_LGB_STAT i, 3, 1⟩
/-- GDR_LGB_STAT.CC_TRIP, bits 0:0, RO. -/
def F.GDR_LGB_STAT_CC_TRIP (i : Nat) : Fld := ⟨R.GDR_LGB_STAT i, 0, 0⟩
/-- GDR_LATCH_GC (07, R328 R333). -/
def R.GDR_LATCH_GC : Nat := 0x200A0200
/-- GDR_LATCH_GC.LATCH, bits 30:0, W1C. -/
def F.GDR_LATCH_GC_LATCH : Fld := ⟨R.GDR_LATCH_GC, 30, 0⟩
/-- GDR_LATCH_LG_LO (07, R333). -/
def R.GDR_LATCH_LG_LO : Nat := 0x200A0204
/-- GDR_LATCH_LG_HI (07, R333). -/
def R.GDR_LATCH_LG_HI : Nat := 0x200A0208
/-- GDR_LATCH_LG_HI.LATCH, bits 5:0, W1C. -/
def F.GDR_LATCH_LG_HI_LATCH : Fld := ⟨R.GDR_LATCH_LG_HI, 5, 0⟩
/-- GDR_TS_SIDE (07, R331). -/
def R.GDR_TS_SIDE (i : Nat) : Nat := 0x200A0210 + 4 * i
/-- GDR_TS_SIDE.L_STUCK, bits 5:5, RO. -/
def F.GDR_TS_SIDE_L_STUCK (i : Nat) : Fld := ⟨R.GDR_TS_SIDE i, 5, 5⟩
/-- GDR_TS_SIDE.H_STUCK, bits 4:4, RO. -/
def F.GDR_TS_SIDE_H_STUCK (i : Nat) : Fld := ⟨R.GDR_TS_SIDE i, 4, 4⟩
/-- GDR_TS_SIDE.L_OPEN, bits 3:3, RO. -/
def F.GDR_TS_SIDE_L_OPEN (i : Nat) : Fld := ⟨R.GDR_TS_SIDE i, 3, 3⟩
/-- GDR_TS_SIDE.H_OPEN, bits 2:2, RO. -/
def F.GDR_TS_SIDE_H_OPEN (i : Nat) : Fld := ⟨R.GDR_TS_SIDE i, 2, 2⟩
/-- GDR_TS_SIDE.L_SHORT, bits 1:1, RO. -/
def F.GDR_TS_SIDE_L_SHORT (i : Nat) : Fld := ⟨R.GDR_TS_SIDE i, 1, 1⟩
/-- GDR_TS_SIDE.H_SHORT, bits 0:0, RO. -/
def F.GDR_TS_SIDE_H_SHORT (i : Nat) : Fld := ⟨R.GDR_TS_SIDE i, 0, 0⟩
/-- GDR_DETWIN (07, R332). -/
def R.GDR_DETWIN : Nat := 0x200A0220
/-- GDR_DETWIN.US, bits 5:0, RW. -/
def F.GDR_DETWIN_US : Fld := ⟨R.GDR_DETWIN, 5, 0⟩
/-- GDR_DIAG_RES (07, R347). -/
def R.GDR_DIAG_RES (i : Nat) : Nat := 0x200A0300 + 4 * i
/-- GDR_DIAG_RES.T2, bits 25:16, RO. -/
def F.GDR_DIAG_RES_T2 (i : Nat) : Fld := ⟨R.GDR_DIAG_RES i, 25, 16⟩
/-- GDR_DIAG_RES.T1, bits 13:4, RO. -/
def F.GDR_DIAG_RES_T1 (i : Nat) : Fld := ⟨R.GDR_DIAG_RES i, 13, 4⟩
/-- GDR_DIAG_RES.RESULT, bits 2:0, RO. -/
def F.GDR_DIAG_RES_RESULT (i : Nat) : Fld := ⟨R.GDR_DIAG_RES i, 2, 0⟩
/-- GDR_ABC_CFG (07, R349). -/
def R.GDR_ABC_CFG : Nat := 0x200A0400
/-- GDR_ABC_CFG.EN, bits 0:0, RW. -/
def F.GDR_ABC_CFG_EN : Fld := ⟨R.GDR_ABC_CFG, 0, 0⟩
/-- GDR_ABC_ON (07, R349 R351). -/
def R.GDR_ABC_ON : Nat := 0x200A0404
/-- GDR_ABC_ON.V, bits 8:0, RW. -/
def F.GDR_ABC_ON_V : Fld := ⟨R.GDR_ABC_ON, 8, 0⟩
/-- GDR_ABC_OFF (07, R349 R351). -/
def R.GDR_ABC_OFF : Nat := 0x200A0408
/-- GDR_ABC_OFF.V, bits 8:0, RW. -/
def F.GDR_ABC_OFF_V : Fld := ⟨R.GDR_ABC_OFF, 8, 0⟩
/-- GDR_ABC_MAXON (07, R350). -/
def R.GDR_ABC_MAXON : Nat := 0x200A040C
/-- GDR_ABC_MAXON.US, bits 19:0, RW. -/
def F.GDR_ABC_MAXON_US : Fld := ⟨R.GDR_ABC_MAXON, 19, 0⟩
/-- GDR_ABC_STAT (07, R350). -/
def R.GDR_ABC_STAT : Nat := 0x200A0410
/-- GDR_ABC_STAT.US, bits 31:12, RO. -/
def F.GDR_ABC_STAT_US : Fld := ⟨R.GDR_ABC_STAT, 31, 12⟩
/-- GDR_ABC_STAT.BUDGET, bits 1:1, RO. -/
def F.GDR_ABC_STAT_BUDGET : Fld := ⟨R.GDR_ABC_STAT, 1, 1⟩
/-- GDR_ABC_STAT.ON, bits 0:0, RO. -/
def F.GDR_ABC_STAT_ON : Fld := ⟨R.GDR_ABC_STAT, 0, 0⟩
/-- LVC_CTRL (08, R370 R372 R384). -/
def R.LVC_CTRL : Nat := 0x200C0000
/-- LVC_CTRL.SHED_EN, bits 4:4, RW. -/
def F.LVC_CTRL_SHED_EN : Fld := ⟨R.LVC_CTRL, 4, 4⟩
/-- LVC_CTRL.RS_RETRY, bits 3:3, W1S. -/
def F.LVC_CTRL_RS_RETRY : Fld := ⟨R.LVC_CTRL, 3, 3⟩
/-- LVC_CTRL.RS_EN, bits 2:2, RW. -/
def F.LVC_CTRL_RS_EN : Fld := ⟨R.LVC_CTRL, 2, 2⟩
/-- LVC_CTRL.RANGE, bits 1:1, RW. -/
def F.LVC_CTRL_RANGE : Fld := ⟨R.LVC_CTRL, 1, 1⟩
/-- LVC_CTRL.EN, bits 0:0, RW. -/
def F.LVC_CTRL_EN : Fld := ⟨R.LVC_CTRL, 0, 0⟩
/-- LVC_CFG (08, R353 R365). -/
def R.LVC_CFG : Nat := 0x200C0004
/-- LVC_CFG.SEQ, bits 28:24, RW. -/
def F.LVC_CFG_SEQ : Fld := ⟨R.LVC_CFG, 28, 24⟩
/-- LVC_CFG.BAL_USE, bits 23:23, RW. -/
def F.LVC_CFG_BAL_USE : Fld := ⟨R.LVC_CFG, 23, 23⟩
/-- LVC_CFG.BAL_CTX, bits 22:16, RW. -/
def F.LVC_CFG_BAL_CTX : Fld := ⟨R.LVC_CFG, 22, 16⟩
/-- LVC_CFG.COMP_CTX, bits 14:8, RW. -/
def F.LVC_CFG_COMP_CTX : Fld := ⟨R.LVC_CFG, 14, 8⟩
/-- LVC_CFG.NMIN, bits 7:4, RW. -/
def F.LVC_CFG_NMIN : Fld := ⟨R.LVC_CFG, 7, 4⟩
/-- LVC_CFG.NPH, bits 3:0, RW. -/
def F.LVC_CFG_NPH : Fld := ⟨R.LVC_CFG, 3, 0⟩
/-- LVC_STAT (08, R371). -/
def R.LVC_STAT : Nat := 0x200C0008
/-- LVC_STAT.PH_LOST, bits 31:24, RO. -/
def F.LVC_STAT_PH_LOST : Fld := ⟨R.LVC_STAT, 31, 24⟩
/-- LVC_STAT.PH_ACT, bits 23:16, RO. -/
def F.LVC_STAT_PH_ACT : Fld := ⟨R.LVC_STAT, 23, 16⟩
/-- LVC_STAT.HEADROOM, bits 13:13, RO. -/
def F.LVC_STAT_HEADROOM : Fld := ⟨R.LVC_STAT, 13, 13⟩
/-- LVC_STAT.ILIM, bits 12:12, RO. -/
def F.LVC_STAT_ILIM : Fld := ⟨R.LVC_STAT, 12, 12⟩
/-- LVC_STAT.HOLD, bits 11:11, RO. -/
def F.LVC_STAT_HOLD : Fld := ⟨R.LVC_STAT, 11, 11⟩
/-- LVC_STAT.RS_OPEN, bits 10:10, RO. -/
def F.LVC_STAT_RS_OPEN : Fld := ⟨R.LVC_STAT, 10, 10⟩
/-- LVC_STAT.RS_USED, bits 9:9, RO. -/
def F.LVC_STAT_RS_USED : Fld := ⟨R.LVC_STAT, 9, 9⟩
/-- LVC_STAT.SHED_PEND, bits 8:8, RO. -/
def F.LVC_STAT_SHED_PEND : Fld := ⟨R.LVC_STAT, 8, 8⟩
/-- LVC_STAT.SHED_PH, bits 6:4, RO. -/
def F.LVC_STAT_SHED_PH : Fld := ⟨R.LVC_STAT, 6, 4⟩
/-- LVC_STAT.STATE, bits 2:0, RO. -/
def F.LVC_STAT_STATE : Fld := ⟨R.LVC_STAT, 2, 0⟩
/-- LVC_SEL (08, R354 R355). -/
def R.LVC_SEL : Nat := 0x200C000C
/-- LVC_SEL.TZONE, bits 31:28, RW. -/
def F.LVC_SEL_TZONE : Fld := ⟨R.LVC_SEL, 31, 28⟩
/-- LVC_SEL.VBUS_SIG, bits 24:16, RW. -/
def F.LVC_SEL_VBUS_SIG : Fld := ⟨R.LVC_SEL, 24, 16⟩
/-- LVC_SEL.VLOC_SIG, bits 8:0, RW. -/
def F.LVC_SEL_VLOC_SIG : Fld := ⟨R.LVC_SEL, 8, 0⟩
/-- LVC_RS_SEL (08, R180 R381). -/
def R.LVC_RS_SEL : Nat := 0x200C0010
/-- LVC_RS_SEL.BIAS_EN, bits 16:16, RW. -/
def F.LVC_RS_SEL_BIAS_EN : Fld := ⟨R.LVC_RS_SEL, 16, 16⟩
/-- LVC_RS_SEL.N_AIN, bits 14:8, RW. -/
def F.LVC_RS_SEL_N_AIN : Fld := ⟨R.LVC_RS_SEL, 14, 8⟩
/-- LVC_RS_SEL.P_AIN, bits 6:0, RW. -/
def F.LVC_RS_SEL_P_AIN : Fld := ⟨R.LVC_RS_SEL, 6, 0⟩
/-- LVC_PH_ISEL (08, R354). -/
def R.LVC_PH_ISEL (i : Nat) : Nat := 0x200C0020 + 4 * i
/-- LVC_PH_ISEL.SIG, bits 8:0, RW. -/
def F.LVC_PH_ISEL_SIG (i : Nat) : Fld := ⟨R.LVC_PH_ISEL i, 8, 0⟩
/-- LVC_RLL (08, R368). -/
def R.LVC_RLL : Nat := 0x200C0040
/-- LVC_RLL.RLL, bits 9:0, RW. -/
def F.LVC_RLL_RLL : Fld := ⟨R.LVC_RLL, 9, 0⟩
/-- LVC_SHED_HOLD (08, R375). -/
def R.LVC_SHED_HOLD : Nat := 0x200C0044
/-- LVC_SHED_HOLD.MS, bits 6:0, RW. -/
def F.LVC_SHED_HOLD_MS : Fld := ⟨R.LVC_SHED_HOLD, 6, 0⟩
/-- LVC_DCX_SS (08, R371). -/
def R.LVC_DCX_SS : Nat := 0x200C0048
/-- LVC_DCX_SS.US, bits 14:0, RW. -/
def F.LVC_DCX_SS_US : Fld := ⟨R.LVC_DCX_SS, 14, 0⟩
/-- LVC_STOP_T (08, R372). -/
def R.LVC_STOP_T : Nat := 0x200C004C
/-- LVC_STOP_T.US, bits 10:0, RW. -/
def F.LVC_STOP_T_US : Fld := ⟨R.LVC_STOP_T, 10, 0⟩
/-- LVC_VSET (08, R354). -/
def R.LVC_VSET : Nat := 0x200C0060
/-- LVC_DMAX (08, R360). -/
def R.LVC_DMAX : Nat := 0x200C0064
/-- LVC_ILIM (08, R355). -/
def R.LVC_ILIM : Nat := 0x200C0068
/-- LVC_RCL (08, R354). -/
def R.LVC_RCL : Nat := 0x200C006C
/-- LVC_STEP_DV (08, R377). -/
def R.LVC_STEP_DV : Nat := 0x200C0070
/-- LVC_STEP_DI (08, R377). -/
def R.LVC_STEP_DI : Nat := 0x200C0074
/-- LVC_OV_THR (08, R385). -/
def R.LVC_OV_THR : Nat := 0x200C0078
/-- LVC_UV_THR (08, R386). -/
def R.LVC_UV_THR : Nat := 0x200C007C
/-- LVC_PH_OC (08, R387). -/
def R.LVC_PH_OC : Nat := 0x200C0080
/-- LVC_DCX_RATIO (08, R358). -/
def R.LVC_DCX_RATIO : Nat := 0x200C0084
/-- LVC_BUS_TOL (08, R358). -/
def R.LVC_BUS_TOL : Nat := 0x200C0088
/-- LVC_VIN_MIN (08, R359). -/
def R.LVC_VIN_MIN : Nat := 0x200C008C
/-- LVC_RS_WIN (08, R383). -/
def R.LVC_RS_WIN : Nat := 0x200C0090
/-- LVC_SRPH (08, R357). -/
def R.LVC_SRPH : Nat := 0x200C0094
/-- LVC_SHED_UP (08, R376 (index N-1, N = 1 to 7)). -/
def R.LVC_SHED_UP (i : Nat) : Nat := 0x200C00A4 + 4 * i
/-- LVC_SHED_DN (08, R375 (index N-2, N = 2 to 8)). -/
def R.LVC_SHED_DN (i : Nat) : Nat := 0x200C00C8 + 4 * i
/-- CHG_CTRL (09, R411 R414). -/
def R.CHG_CTRL : Nat := 0x200D0000
/-- CHG_CTRL.VENT_OK, bits 2:2, RW. -/
def F.CHG_CTRL_VENT_OK : Fld := ⟨R.CHG_CTRL, 2, 2⟩
/-- CHG_CTRL.DIR, bits 1:1, RW. -/
def F.CHG_CTRL_DIR : Fld := ⟨R.CHG_CTRL, 1, 1⟩
/-- CHG_CTRL.EN, bits 0:0, RW. -/
def F.CHG_CTRL_EN : Fld := ⟨R.CHG_CTRL, 0, 0⟩
/-- CHG_CFG (09, R395). -/
def R.CHG_CFG : Nat := 0x200D0004
/-- CHG_CFG.DSEQ, bits 20:16, RW. -/
def F.CHG_CFG_DSEQ : Fld := ⟨R.CHG_CFG, 20, 16⟩
/-- CHG_CFG.FSEQ, bits 12:8, RW. -/
def F.CHG_CFG_FSEQ : Fld := ⟨R.CHG_CFG, 12, 8⟩
/-- CHG_CFG.EPS, bits 2:2, RW. -/
def F.CHG_CFG_EPS : Fld := ⟨R.CHG_CFG, 2, 2⟩
/-- CHG_CFG.FE_MODE, bits 1:1, RW. -/
def F.CHG_CFG_FE_MODE : Fld := ⟨R.CHG_CFG, 1, 1⟩
/-- CHG_CFG.GRID, bits 0:0, RW. -/
def F.CHG_CFG_GRID : Fld := ⟨R.CHG_CFG, 0, 0⟩
/-- CHG_STAT (09, R412). -/
def R.CHG_STAT : Nat := 0x200D0008
/-- CHG_STAT.DSAT, bits 11:11, RO. -/
def F.CHG_STAT_DSAT : Fld := ⟨R.CHG_STAT, 11, 11⟩
/-- CHG_STAT.VSAT, bits 10:10, W1C. -/
def F.CHG_STAT_VSAT : Fld := ⟨R.CHG_STAT, 10, 10⟩
/-- CHG_STAT.LIM_SRC, bits 9:8, RO. -/
def F.CHG_STAT_LIM_SRC : Fld := ⟨R.CHG_STAT, 9, 8⟩
/-- CHG_STAT.CV, bits 7:7, RO. -/
def F.CHG_STAT_CV : Fld := ⟨R.CHG_STAT, 7, 7⟩
/-- CHG_STAT.S2, bits 6:6, RO. -/
def F.CHG_STAT_S2 : Fld := ⟨R.CHG_STAT, 6, 6⟩
/-- CHG_STAT.PLL_LOCK, bits 5:5, RO. -/
def F.CHG_STAT_PLL_LOCK : Fld := ⟨R.CHG_STAT, 5, 5⟩
/-- CHG_STAT.STATE, bits 2:0, RO. -/
def F.CHG_STAT_STATE : Fld := ⟨R.CHG_STAT, 2, 0⟩
/-- CHG_PILOT (09, R401 R402). -/
def R.CHG_PILOT : Nat := 0x200D000C
/-- CHG_PILOT.PWM, bits 24:24, RO. -/
def F.CHG_PILOT_PWM : Fld := ⟨R.CHG_PILOT, 24, 24⟩
/-- CHG_PILOT.ILIM, bits 23:16, RO. -/
def F.CHG_PILOT_ILIM : Fld := ⟨R.CHG_PILOT, 23, 16⟩
/-- CHG_PILOT.DUTY, bits 13:4, RO. -/
def F.CHG_PILOT_DUTY : Fld := ⟨R.CHG_PILOT, 13, 4⟩
/-- CHG_PILOT.DIG, bits 3:3, RO. -/
def F.CHG_PILOT_DIG : Fld := ⟨R.CHG_PILOT, 3, 3⟩
/-- CHG_PILOT.STATE, bits 2:0, RO. -/
def F.CHG_PILOT_STATE : Fld := ⟨R.CHG_PILOT, 2, 0⟩
/-- CHG_PP (09, R403). -/
def R.CHG_PP : Nat := 0x200D0010
/-- CHG_PP.STATE, bits 25:24, RO. -/
def F.CHG_PP_STATE : Fld := ⟨R.CHG_PP, 25, 24⟩
/-- CHG_PP.CAP, bits 23:16, RO. -/
def F.CHG_PP_CAP : Fld := ⟨R.CHG_PP, 23, 16⟩
/-- CHG_PP.R, bits 15:0, RO. -/
def F.CHG_PP_R : Fld := ⟨R.CHG_PP, 15, 0⟩
/-- CHG_CTX0 (09, R395). -/
def R.CHG_CTX0 : Nat := 0x200D0020
/-- CHG_CTX0.BUS, bits 30:24, RW. -/
def F.CHG_CTX0_BUS : Fld := ⟨R.CHG_CTX0, 30, 24⟩
/-- CHG_CTX0.PLL, bits 22:16, RW. -/
def F.CHG_CTX0_PLL : Fld := ⟨R.CHG_CTX0, 22, 16⟩
/-- CHG_CTX0.CUR_Q, bits 14:8, RW. -/
def F.CHG_CTX0_CUR_Q : Fld := ⟨R.CHG_CTX0, 14, 8⟩
/-- CHG_CTX0.CUR_D, bits 6:0, RW. -/
def F.CHG_CTX0_CUR_D : Fld := ⟨R.CHG_CTX0, 6, 0⟩
/-- CHG_CTX1 (09, R395). -/
def R.CHG_CTX1 : Nat := 0x200D0024
/-- CHG_CTX1.VQ, bits 30:24, RW. -/
def F.CHG_CTX1_VQ : Fld := ⟨R.CHG_CTX1, 30, 24⟩
/-- CHG_CTX1.VD, bits 22:16, RW. -/
def F.CHG_CTX1_VD : Fld := ⟨R.CHG_CTX1, 22, 16⟩
/-- CHG_CTX1.PWR, bits 14:8, RW. -/
def F.CHG_CTX1_PWR : Fld := ⟨R.CHG_CTX1, 14, 8⟩
/-- CHG_CTX1.BAT, bits 6:0, RW. -/
def F.CHG_CTX1_BAT : Fld := ⟨R.CHG_CTX1, 6, 0⟩
/-- CHG_GSEL0 (09, R396). -/
def R.CHG_GSEL0 : Nat := 0x200D0030
/-- CHG_GSEL0.V2, bits 24:16, RW. -/
def F.CHG_GSEL0_V2 : Fld := ⟨R.CHG_GSEL0, 24, 16⟩
/-- CHG_GSEL0.V1, bits 8:0, RW. -/
def F.CHG_GSEL0_V1 : Fld := ⟨R.CHG_GSEL0, 8, 0⟩
/-- CHG_GSEL1 (09, R396). -/
def R.CHG_GSEL1 : Nat := 0x200D0034
/-- CHG_GSEL1.I1, bits 24:16, RW. -/
def F.CHG_GSEL1_I1 : Fld := ⟨R.CHG_GSEL1, 24, 16⟩
/-- CHG_GSEL1.V3, bits 8:0, RW. -/
def F.CHG_GSEL1_V3 : Fld := ⟨R.CHG_GSEL1, 8, 0⟩
/-- CHG_GSEL2 (09, R393). -/
def R.CHG_GSEL2 : Nat := 0x200D0038
/-- CHG_GSEL2.VBUS, bits 24:16, RW. -/
def F.CHG_GSEL2_VBUS : Fld := ⟨R.CHG_GSEL2, 24, 16⟩
/-- CHG_GSEL2.I2, bits 8:0, RW. -/
def F.CHG_GSEL2_I2 : Fld := ⟨R.CHG_GSEL2, 8, 0⟩
/-- CHG_GSEL3 (09, R393). -/
def R.CHG_GSEL3 : Nat := 0x200D003C
/-- CHG_GSEL3.IBAT, bits 24:16, RW. -/
def F.CHG_GSEL3_IBAT : Fld := ⟨R.CHG_GSEL3, 24, 16⟩
/-- CHG_GSEL3.VBAT, bits 8:0, RW. -/
def F.CHG_GSEL3_VBAT : Fld := ⟨R.CHG_GSEL3, 8, 0⟩
/-- CHG_STOP_T (09, R414). -/
def R.CHG_STOP_T : Nat := 0x200D0040
/-- CHG_STOP_T.US, bits 15:0, RW. -/
def F.CHG_STOP_T_US : Fld := ⟨R.CHG_STOP_T, 15, 0⟩
/-- CHG_VCV (09, R393). -/
def R.CHG_VCV : Nat := 0x200D0060
/-- CHG_VMIN (09, R393). -/
def R.CHG_VMIN : Nat := 0x200D0064
/-- CHG_ICHG (09, R405). -/
def R.CHG_ICHG : Nat := 0x200D0068
/-- CHG_IDIS (09, R405). -/
def R.CHG_IDIS : Nat := 0x200D006C
/-- CHG_PMAX (09, R405). -/
def R.CHG_PMAX : Nat := 0x200D0070
/-- CHG_HOST_ILIM (09, R402). -/
def R.CHG_HOST_ILIM : Nat := 0x200D0074
/-- CHG_ILIM_RATE (09, R402). -/
def R.CHG_ILIM_RATE : Nat := 0x200D0078
/-- CHG_IQ_REF (09, R393). -/
def R.CHG_IQ_REF : Nat := 0x200D007C
/-- CHG_FNOM (09, R393). -/
def R.CHG_FNOM : Nat := 0x200D0080
/-- CHG_F_TOL (09, R419). -/
def R.CHG_F_TOL : Nat := 0x200D0084
/-- CHG_VG_MIN (09, R412). -/
def R.CHG_VG_MIN : Nat := 0x200D0088
/-- CHG_VG_MAX (09, R412). -/
def R.CHG_VG_MAX : Nat := 0x200D008C
/-- CHG_LF (09, R398). -/
def R.CHG_LF : Nat := 0x200D0090
/-- CHG_ETA (09, R405). -/
def R.CHG_ETA : Nat := 0x200D0094
/-- CHG_DAB_N (09, R407). -/
def R.CHG_DAB_N : Nat := 0x200D0098
/-- CHG_DAB_L (09, R407). -/
def R.CHG_DAB_L : Nat := 0x200D009C
/-- CHG_DAB_DMAX (09, R408). -/
def R.CHG_DAB_DMAX : Nat := 0x200D00A0
/-- CHG_DAB_D1 (09, R408). -/
def R.CHG_DAB_D1 : Nat := 0x200D00A4
/-- CHG_VL_AMP (09, R409). -/
def R.CHG_VL_AMP : Nat := 0x200D00A8
/-- CHG_VBUS_OV (09, R419). -/
def R.CHG_VBUS_OV : Nat := 0x200D00AC
/-- CHG_VBAT_MAX (09, R419). -/
def R.CHG_VBAT_MAX : Nat := 0x200D00B0
/-- CHG_IG_OC (09, R419). -/
def R.CHG_IG_OC : Nat := 0x200D00B4
/-- CHG_IB_OC (09, R419). -/
def R.CHG_IB_OC : Nat := 0x200D00B8
/-- ACT_SUP_SEL (10, R427). -/
def R.ACT_SUP_SEL : Nat := 0x200E0000
/-- ACT_SUP_SEL.SIG, bits 8:0, RW. -/
def F.ACT_SUP_SEL_SIG : Fld := ⟨R.ACT_SUP_SEL, 8, 0⟩
/-- ACT_VMIN (10, R431). -/
def R.ACT_VMIN : Nat := 0x200E0004
/-- ACT_CFG (10, R429). -/
def R.ACT_CFG (i : Nat) : Nat := 0x200E0100 + 64 * i
/-- ACT_CFG.CTX, bits 14:8, RW. -/
def F.ACT_CFG_CTX (i : Nat) : Fld := ⟨R.ACT_CFG i, 14, 8⟩
/-- ACT_CFG.END, bits 2:2, RW. -/
def F.ACT_CFG_END (i : Nat) : Fld := ⟨R.ACT_CFG i, 2, 2⟩
/-- ACT_CFG.COMM, bits 1:1, RW. -/
def F.ACT_CFG_COMM (i : Nat) : Fld := ⟨R.ACT_CFG i, 1, 1⟩
/-- ACT_CFG.EN, bits 0:0, RW. -/
def F.ACT_CFG_EN (i : Nat) : Fld := ⟨R.ACT_CFG i, 0, 0⟩
/-- ACT_ISEL (10, R427). -/
def R.ACT_ISEL (i : Nat) : Nat := 0x200E0104 + 64 * i
/-- ACT_ISEL.SIG, bits 8:0, RW. -/
def F.ACT_ISEL_SIG (i : Nat) : Fld := ⟨R.ACT_ISEL i, 8, 0⟩
/-- ACT_TARGET (10, R431). -/
def R.ACT_TARGET (i : Nat) : Nat := 0x200E0108 + 64 * i
/-- ACT_CMD (10, R431 R435). -/
def R.ACT_CMD (i : Nat) : Nat := 0x200E010C + 64 * i
/-- ACT_CMD.STOP, bits 1:1, W1S. -/
def F.ACT_CMD_STOP (i : Nat) : Fld := ⟨R.ACT_CMD i, 1, 1⟩
/-- ACT_CMD.GO, bits 0:0, W1S. -/
def F.ACT_CMD_GO (i : Nat) : Fld := ⟨R.ACT_CMD i, 0, 0⟩
/-- ACT_STAT (10, R430). -/
def R.ACT_STAT (i : Nat) : Nat := 0x200E0110 + 64 * i
/-- ACT_STAT.BEHIND, bits 9:9, RO. -/
def F.ACT_STAT_BEHIND (i : Nat) : Fld := ⟨R.ACT_STAT i, 9, 9⟩
/-- ACT_STAT.PEND, bits 8:8, RO. -/
def F.ACT_STAT_PEND (i : Nat) : Fld := ⟨R.ACT_STAT i, 8, 8⟩
/-- ACT_STAT.RESULT, bits 6:4, RO. -/
def F.ACT_STAT_RESULT (i : Nat) : Fld := ⟨R.ACT_STAT i, 6, 4⟩
/-- ACT_STAT.STATE, bits 2:0, RO. -/
def F.ACT_STAT_STATE (i : Nat) : Fld := ⟨R.ACT_STAT i, 2, 0⟩
/-- ACT_IRUN (10, R430). -/
def R.ACT_IRUN (i : Nat) : Nat := 0x200E0114 + 64 * i
/-- ACT_ICREEP (10, R430). -/
def R.ACT_ICREEP (i : Nat) : Nat := 0x200E0118 + 64 * i
/-- ACT_IBRAKE (10, R430). -/
def R.ACT_IBRAKE (i : Nat) : Nat := 0x200E011C + 64 * i
/-- ACT_STILL_W (10, R430). -/
def R.ACT_STILL_W (i : Nat) : Nat := 0x200E0120 + 64 * i
/-- ACT_CREEP (10, R432). -/
def R.ACT_CREEP (i : Nat) : Nat := 0x200E0124 + 64 * i
/-- ACT_CREEP.STEPS, bits 15:0, RW. -/
def F.ACT_CREEP_STEPS (i : Nat) : Fld := ⟨R.ACT_CREEP i, 15, 0⟩
/-- ACT_STILL_T (10, R430). -/
def R.ACT_STILL_T (i : Nat) : Nat := 0x200E0128 + 64 * i
/-- ACT_STILL_T.US, bits 19:0, RW. -/
def F.ACT_STILL_T_US (i : Nat) : Fld := ⟨R.ACT_STILL_T i, 19, 0⟩
/-- ACT_STALL_T (10, R437). -/
def R.ACT_STALL_T (i : Nat) : Nat := 0x200E012C + 64 * i
/-- ACT_STALL_T.MS, bits 11:0, RW. -/
def F.ACT_STALL_T_MS (i : Nat) : Fld := ⟨R.ACT_STALL_T i, 11, 0⟩
/-- ACT_MOVE_TMO (10, R437). -/
def R.ACT_MOVE_TMO (i : Nat) : Nat := 0x200E0130 + 64 * i
/-- ACT_MOVE_TMO.MS, bits 13:0, RW. -/
def F.ACT_MOVE_TMO_MS (i : Nat) : Fld := ⟨R.ACT_MOVE_TMO i, 13, 0⟩
/-- ACT_PL_CTRL (10, R442). -/
def R.ACT_PL_CTRL : Nat := 0x200E0300
/-- ACT_PL_CTRL.REF, bits 0:0, W1S. -/
def F.ACT_PL_CTRL_REF : Fld := ⟨R.ACT_PL_CTRL, 0, 0⟩
/-- ACT_PL_ENG_POS (10, R441). -/
def R.ACT_PL_ENG_POS : Nat := 0x200E0304
/-- ACT_PL_REL_POS (10, R441). -/
def R.ACT_PL_REL_POS : Nat := 0x200E0308
/-- ACT_PL_TOL (10, R441). -/
def R.ACT_PL_TOL : Nat := 0x200E030C
/-- ACT_PL_TOL.STEPS, bits 7:0, RWS. -/
def F.ACT_PL_TOL_STEPS : Fld := ⟨R.ACT_PL_TOL, 7, 0⟩
/-- ACT_PL_STAT (10, R441). -/
def R.ACT_PL_STAT : Nat := 0x200E0310
/-- ACT_PL_STAT.REF, bits 8:8, RO. -/
def F.ACT_PL_STAT_REF : Fld := ⟨R.ACT_PL_STAT, 8, 8⟩
/-- ACT_PL_STAT.INH_B, bits 5:5, RO. -/
def F.ACT_PL_STAT_INH_B : Fld := ⟨R.ACT_PL_STAT, 5, 5⟩
/-- ACT_PL_STAT.INH_A, bits 4:4, RO. -/
def F.ACT_PL_STAT_INH_A : Fld := ⟨R.ACT_PL_STAT, 4, 4⟩
/-- ACT_PL_STAT.STATE, bits 2:0, RO. -/
def F.ACT_PL_STAT_STATE : Fld := ⟨R.ACT_PL_STAT, 2, 0⟩
/-- ACT_PL_SECT (10, R441). -/
def R.ACT_PL_SECT : Nat := 0x200E0314
/-- ACT_PL_SECT.REL_SECT, bits 6:4, RWS. -/
def F.ACT_PL_SECT_REL_SECT : Fld := ⟨R.ACT_PL_SECT, 6, 4⟩
/-- ACT_PL_SECT.ENG_SECT, bits 2:0, RWS. -/
def F.ACT_PL_SECT_ENG_SECT : Fld := ⟨R.ACT_PL_SECT, 2, 0⟩
/-- ACT_PL_SEAL (10, R445 (Seal)). -/
def R.ACT_PL_SEAL : Nat := 0x200E0318
/-- ACT_PL_SEAL.PL_RPM, bits 31:16, RO. -/
def F.ACT_PL_SEAL_PL_RPM : Fld := ⟨R.ACT_PL_SEAL, 31, 16⟩
/-- ACT_PL_SEAL.ENG_DIR, bits 0:0, RO. -/
def F.ACT_PL_SEAL_ENG_DIR : Fld := ⟨R.ACT_PL_SEAL, 0, 0⟩
/-- SMA_STAT (11, R459 R460). -/
def R.SMA_STAT : Nat := 0x20040000
/-- SMA_STAT.GD, bits 11:11, RO. -/
def F.SMA_STAT_GD : Fld := ⟨R.SMA_STAT, 11, 11⟩
/-- SMA_STAT.PARAM_OK, bits 10:10, RO. -/
def F.SMA_STAT_PARAM_OK : Fld := ⟨R.SMA_STAT, 10, 10⟩
/-- SMA_STAT.CAUSE, bits 9:9, RO. -/
def F.SMA_STAT_CAUSE : Fld := ⟨R.SMA_STAT, 9, 9⟩
/-- SMA_STAT.ASC, bits 8:8, RO. -/
def F.SMA_STAT_ASC : Fld := ⟨R.SMA_STAT, 8, 8⟩
/-- SMA_STAT.HELD, bits 7:7, RO. -/
def F.SMA_STAT_HELD : Fld := ⟨R.SMA_STAT, 7, 7⟩
/-- SMA_STAT.REQ, bits 6:6, RO. -/
def F.SMA_STAT_REQ : Fld := ⟨R.SMA_STAT, 6, 6⟩
/-- SMA_STAT.BARS, bits 5:4, RO. -/
def F.SMA_STAT_BARS : Fld := ⟨R.SMA_STAT, 5, 4⟩
/-- SMA_STAT.CODE, bits 1:0, RO. -/
def F.SMA_STAT_CODE : Fld := ⟨R.SMA_STAT, 1, 0⟩
/-- SMA_SEL_SYS (11, R462). -/
def R.SMA_SEL_SYS : Nat := 0x20040004
/-- SMA_SEL_SYS.B, bits 3:2, RO. -/
def F.SMA_SEL_SYS_B : Fld := ⟨R.SMA_SEL_SYS, 3, 2⟩
/-- SMA_SEL_SYS.A, bits 1:0, RO. -/
def F.SMA_SEL_SYS_A : Fld := ⟨R.SMA_SEL_SYS, 1, 0⟩
/-- SMA_SPEED (11, SMA registers). -/
def R.SMA_SPEED : Nat := 0x20040008
/-- SMA_VDC (11, SMA registers). -/
def R.SMA_VDC : Nat := 0x2004000C
/-- SMA_SEAL_STAT (11, R483). -/
def R.SMA_SEAL_STAT : Nat := 0x20040010
/-- SMA_SEAL_STAT.PROG, bits 27:24, RO. -/
def F.SMA_SEAL_STAT_PROG : Fld := ⟨R.SMA_SEAL_STAT, 27, 24⟩
/-- SMA_SEAL_STAT.STRAP_B, bits 23:16, RO. -/
def F.SMA_SEAL_STAT_STRAP_B : Fld := ⟨R.SMA_SEAL_STAT, 23, 16⟩
/-- SMA_SEAL_STAT.STRAP_A, bits 15:8, RO. -/
def F.SMA_SEAL_STAT_STRAP_A : Fld := ⟨R.SMA_SEAL_STAT, 15, 8⟩
/-- SMA_SEAL_STAT.DETAIL, bits 7:5, RO. -/
def F.SMA_SEAL_STAT_DETAIL : Fld := ⟨R.SMA_SEAL_STAT, 7, 5⟩
/-- SMA_SEAL_STAT.UNSEALED, bits 4:4, RO. -/
def F.SMA_SEAL_STAT_UNSEALED : Fld := ⟨R.SMA_SEAL_STAT, 4, 4⟩
/-- SMA_SEAL_STAT.SLOT, bits 3:2, RO. -/
def F.SMA_SEAL_STAT_SLOT : Fld := ⟨R.SMA_SEAL_STAT, 3, 2⟩
/-- SMA_SEAL_STAT.RESULT, bits 1:0, RO. -/
def F.SMA_SEAL_STAT_RESULT : Fld := ⟨R.SMA_SEAL_STAT, 1, 0⟩
/-- SMA_SEAL_KEY (11, R486). -/
def R.SMA_SEAL_KEY : Nat := 0x20040014
/-- SMA_SEAL_PROG (11, R486). -/
def R.SMA_SEAL_PROG : Nat := 0x20040018
/-- SMA_SEAL_PROG.GO, bits 0:0, W1S. -/
def F.SMA_SEAL_PROG_GO : Fld := ⟨R.SMA_SEAL_PROG, 0, 0⟩
/-- SMA_SEAL_SLOT_LO (11, R482 (Fuse)). -/
def R.SMA_SEAL_SLOT_LO (i : Nat) : Nat := 0x20040020 + 8 * i
/-- SMA_SEAL_SLOT_LO.BLOWN, bits 16:16, RO. -/
def F.SMA_SEAL_SLOT_LO_BLOWN (i : Nat) : Fld := ⟨R.SMA_SEAL_SLOT_LO i, 16, 16⟩
/-- SMA_SEAL_SLOT_LO.COMP, bits 15:8, RO. -/
def F.SMA_SEAL_SLOT_LO_COMP (i : Nat) : Fld := ⟨R.SMA_SEAL_SLOT_LO i, 15, 8⟩
/-- SMA_SEAL_SLOT_LO.STRAP, bits 7:0, RO. -/
def F.SMA_SEAL_SLOT_LO_STRAP (i : Nat) : Fld := ⟨R.SMA_SEAL_SLOT_LO i, 7, 0⟩
/-- SMA_SEAL_SLOT_HI (11, R482 (Fuse)). -/
def R.SMA_SEAL_SLOT_HI (i : Nat) : Nat := 0x20040024 + 8 * i
/-- SMA_PAR_XOVER (11, SMA registers (Seal)). -/
def R.SMA_PAR_XOVER : Nat := 0x20040040
/-- SMA_PAR_XOVER.MAX, bits 31:16, RO. -/
def F.SMA_PAR_XOVER_MAX : Fld := ⟨R.SMA_PAR_XOVER, 31, 16⟩
/-- SMA_PAR_XOVER.XOVER, bits 15:0, RO. -/
def F.SMA_PAR_XOVER_XOVER : Fld := ⟨R.SMA_PAR_XOVER, 15, 0⟩
/-- SMA_PAR_POLICY (11, SMA registers (Seal)). -/
def R.SMA_PAR_POLICY : Nat := 0x20040044
/-- SMA_PAR_POLICY.STRAP, bits 15:8, RO. -/
def F.SMA_PAR_POLICY_STRAP : Fld := ⟨R.SMA_PAR_POLICY, 15, 8⟩
/-- SMA_PAR_POLICY.POLICY, bits 1:0, RO. -/
def F.SMA_PAR_POLICY_POLICY : Fld := ⟨R.SMA_PAR_POLICY, 1, 0⟩
/-- SMA_WD_CFG (11, R471 R475). -/
def R.SMA_WD_CFG (i : Nat) : Nat := 0x20040100 + 16 * i
/-- SMA_WD_CFG.HOLD_MAX, bits 30:24, RWS. -/
def F.SMA_WD_CFG_HOLD_MAX (i : Nat) : Fld := ⟨R.SMA_WD_CFG i, 30, 24⟩
/-- SMA_WD_CFG.OPEN, bits 19:16, RWS. -/
def F.SMA_WD_CFG_OPEN (i : Nat) : Fld := ⟨R.SMA_WD_CFG i, 19, 16⟩
/-- SMA_WD_CFG.PER, bits 7:0, RWS. -/
def F.SMA_WD_CFG_PER (i : Nat) : Fld := ⟨R.SMA_WD_CFG i, 7, 0⟩
/-- SMA_WD_CHAL (11, R471). -/
def R.SMA_WD_CHAL (i : Nat) : Nat := 0x20040104 + 16 * i
/-- SMA_WD_STAT (11, R473). -/
def R.SMA_WD_STAT (i : Nat) : Nat := 0x20040108 + 16 * i
/-- SMA_WD_STAT.HOLD, bits 31:16, RO. -/
def F.SMA_WD_STAT_HOLD (i : Nat) : Fld := ⟨R.SMA_WD_STAT i, 31, 16⟩
/-- SMA_WD_STAT.PAUSE, bits 5:5, RO. -/
def F.SMA_WD_STAT_PAUSE (i : Nat) : Fld := ⟨R.SMA_WD_STAT i, 5, 5⟩
/-- SMA_WD_STAT.FAIL, bits 4:4, RO. -/
def F.SMA_WD_STAT_FAIL (i : Nat) : Fld := ⟨R.SMA_WD_STAT i, 4, 4⟩
/-- SMA_WD_STAT.ERR, bits 3:0, RO. -/
def F.SMA_WD_STAT_ERR (i : Nat) : Fld := ⟨R.SMA_WD_STAT i, 3, 0⟩
/-- SMA_WD_PAUSE (11, R476). -/
def R.SMA_WD_PAUSE (i : Nat) : Nat := 0x2004010C + 16 * i
/-- SMA_XCMP_STAT (11, R481). -/
def R.SMA_XCMP_STAT : Nat := 0x20040200
/-- SMA_XCMP_STAT.LOST, bits 31:31, RO. -/
def F.SMA_XCMP_STAT_LOST : Fld := ⟨R.SMA_XCMP_STAT, 31, 31⟩
/-- SMA_XCMP_STAT.ITEM, bits 30:0, RO. -/
def F.SMA_XCMP_STAT_ITEM : Fld := ⟨R.SMA_XCMP_STAT, 30, 0⟩
/-- SMA_XCMP_CNT (11, R481). -/
def R.SMA_XCMP_CNT : Nat := 0x20040204
/-- SMA_REACT (11, R488). -/
def R.SMA_REACT (i : Nat) : Nat := 0x20040300 + 4 * i
/-- SMA_REACT.EN, bits 31:31, RWS. -/
def F.SMA_REACT_EN (i : Nat) : Fld := ⟨R.SMA_REACT i, 31, 31⟩
/-- SMA_REACT.CLASS, bits 18:16, RWS. -/
def F.SMA_REACT_CLASS (i : Nat) : Fld := ⟨R.SMA_REACT i, 18, 16⟩
/-- SMA_REACT.CODE, bits 15:0, RWS. -/
def F.SMA_REACT_CODE (i : Nat) : Fld := ⟨R.SMA_REACT i, 15, 0⟩
/-- SMA_FE_FLOOR0 (11, R489). -/
def R.SMA_FE_FLOOR0 : Nat := 0x20040380
/-- SMA_FE_FLOOR0.G7, bits 30:28, RWS. -/
def F.SMA_FE_FLOOR0_G7 : Fld := ⟨R.SMA_FE_FLOOR0, 30, 28⟩
/-- SMA_FE_FLOOR0.G6, bits 26:24, RWS. -/
def F.SMA_FE_FLOOR0_G6 : Fld := ⟨R.SMA_FE_FLOOR0, 26, 24⟩
/-- SMA_FE_FLOOR0.G5, bits 22:20, RWS. -/
def F.SMA_FE_FLOOR0_G5 : Fld := ⟨R.SMA_FE_FLOOR0, 22, 20⟩
/-- SMA_FE_FLOOR0.G4, bits 18:16, RWS. -/
def F.SMA_FE_FLOOR0_G4 : Fld := ⟨R.SMA_FE_FLOOR0, 18, 16⟩
/-- SMA_FE_FLOOR0.G3, bits 14:12, RWS. -/
def F.SMA_FE_FLOOR0_G3 : Fld := ⟨R.SMA_FE_FLOOR0, 14, 12⟩
/-- SMA_FE_FLOOR0.G2, bits 10:8, RWS. -/
def F.SMA_FE_FLOOR0_G2 : Fld := ⟨R.SMA_FE_FLOOR0, 10, 8⟩
/-- SMA_FE_FLOOR0.G1, bits 6:4, RWS. -/
def F.SMA_FE_FLOOR0_G1 : Fld := ⟨R.SMA_FE_FLOOR0, 6, 4⟩
/-- SMA_FE_FLOOR0.G0, bits 2:0, RWS. -/
def F.SMA_FE_FLOOR0_G0 : Fld := ⟨R.SMA_FE_FLOOR0, 2, 0⟩
/-- SMA_FE_FLOOR1 (11, R489). -/
def R.SMA_FE_FLOOR1 : Nat := 0x20040384
/-- SMA_FE_FLOOR1.G11, bits 14:12, RWS. -/
def F.SMA_FE_FLOOR1_G11 : Fld := ⟨R.SMA_FE_FLOOR1, 14, 12⟩
/-- SMA_FE_FLOOR1.G10, bits 10:8, RWS. -/
def F.SMA_FE_FLOOR1_G10 : Fld := ⟨R.SMA_FE_FLOOR1, 10, 8⟩
/-- SMA_FE_FLOOR1.G9, bits 6:4, RWS. -/
def F.SMA_FE_FLOOR1_G9 : Fld := ⟨R.SMA_FE_FLOOR1, 6, 4⟩
/-- SMA_FE_FLOOR1.G8, bits 2:0, RWS. -/
def F.SMA_FE_FLOOR1_G8 : Fld := ⟨R.SMA_FE_FLOOR1, 2, 0⟩
/-- SMB_STAT (11, SMB window). -/
def R.SMB_STAT : Nat := 0x20048000
/-- SMB_STAT.PLCUT, bits 14:14, RO. -/
def F.SMB_STAT_PLCUT : Fld := ⟨R.SMB_STAT, 14, 14⟩
/-- SMB_STAT.ACUT, bits 13:13, RO. -/
def F.SMB_STAT_ACUT : Fld := ⟨R.SMB_STAT, 13, 13⟩
/-- SMB_STAT.CCUT, bits 12:12, RO. -/
def F.SMB_STAT_CCUT : Fld := ⟨R.SMB_STAT, 12, 12⟩
/-- SMB_STAT.PARAM_OK, bits 10:10, RO. -/
def F.SMB_STAT_PARAM_OK : Fld := ⟨R.SMB_STAT, 10, 10⟩
/-- SMB_STAT.CAUSE, bits 9:9, RO. -/
def F.SMB_STAT_CAUSE : Fld := ⟨R.SMB_STAT, 9, 9⟩
/-- SMB_STAT.ASC, bits 8:8, RO. -/
def F.SMB_STAT_ASC : Fld := ⟨R.SMB_STAT, 8, 8⟩
/-- SMB_STAT.HELD, bits 7:7, RO. -/
def F.SMB_STAT_HELD : Fld := ⟨R.SMB_STAT, 7, 7⟩
/-- SMB_STAT.REQ, bits 6:6, RO. -/
def F.SMB_STAT_REQ : Fld := ⟨R.SMB_STAT, 6, 6⟩
/-- SMB_STAT.BARS, bits 5:4, RO. -/
def F.SMB_STAT_BARS : Fld := ⟨R.SMB_STAT, 5, 4⟩
/-- SMB_STAT.CODE, bits 1:0, RO. -/
def F.SMB_STAT_CODE : Fld := ⟨R.SMB_STAT, 1, 0⟩
/-- SMB_SPEED (11, R454). -/
def R.SMB_SPEED : Nat := 0x20048008
/-- SMB_VDC (11, R456). -/
def R.SMB_VDC : Nat := 0x2004800C
/-- SMB_AMP (11, R454). -/
def R.SMB_AMP : Nat := 0x20048010
/-- SMB_WD_CHAL (11, R471). -/
def R.SMB_WD_CHAL (i : Nat) : Nat := 0x20048100 + 16 * i
/-- SMB_WD_STAT (11, R473). -/
def R.SMB_WD_STAT (i : Nat) : Nat := 0x20048104 + 16 * i
/-- SMB_WD_STAT.HOLD, bits 31:16, RO. -/
def F.SMB_WD_STAT_HOLD (i : Nat) : Fld := ⟨R.SMB_WD_STAT i, 31, 16⟩
/-- SMB_WD_STAT.PAUSE, bits 5:5, RO. -/
def F.SMB_WD_STAT_PAUSE (i : Nat) : Fld := ⟨R.SMB_WD_STAT i, 5, 5⟩
/-- SMB_WD_STAT.FAIL, bits 4:4, RO. -/
def F.SMB_WD_STAT_FAIL (i : Nat) : Fld := ⟨R.SMB_WD_STAT i, 4, 4⟩
/-- SMB_WD_STAT.ERR, bits 3:0, RO. -/
def F.SMB_WD_STAT_ERR (i : Nat) : Fld := ⟨R.SMB_WD_STAT i, 3, 0⟩
/-- LKS_CFG (12, R506 R523). -/
def R.LKS_CFG : Nat := 0x20030000
/-- LKS_CFG.MODE, bits 17:16, RO. -/
def F.LKS_CFG_MODE : Fld := ⟨R.LKS_CFG, 17, 16⟩
/-- LKS_CFG.RET_N, bits 15:12, RWS. -/
def F.LKS_CFG_RET_N : Fld := ⟨R.LKS_CFG, 15, 12⟩
/-- LKS_CFG.RET_WIN, bits 6:0, RWS. -/
def F.LKS_CFG_RET_WIN : Fld := ⟨R.LKS_CFG, 6, 0⟩
/-- LKS_TEST (12, R509). -/
def R.LKS_TEST : Nat := 0x20030004
/-- LKS_TEST.PER, bits 6:0, RWS. -/
def F.LKS_TEST_PER : Fld := ⟨R.LKS_TEST, 6, 0⟩
/-- LKS_STBY (12, R512). -/
def R.LKS_STBY : Nat := 0x20030008
/-- LKS_STBY.SB2, bits 2:2, RWS. -/
def F.LKS_STBY_SB2 : Fld := ⟨R.LKS_STBY, 2, 2⟩
/-- LKS_STBY.SB1, bits 1:1, RWS. -/
def F.LKS_STBY_SB1 : Fld := ⟨R.LKS_STBY, 1, 1⟩
/-- LKS_PAIR_CTRL (12, R517 R519). -/
def R.LKS_PAIR_CTRL (i : Nat) : Nat := 0x20030100 + 64 * i
/-- LKS_PAIR_CTRL.HO_TMO, bits 15:8, RW. -/
def F.LKS_PAIR_CTRL_HO_TMO (i : Nat) : Fld := ⟨R.LKS_PAIR_CTRL i, 15, 8⟩
/-- LKS_PAIR_CTRL.REJOIN_REQ, bits 1:1, W1S. -/
def F.LKS_PAIR_CTRL_REJOIN_REQ (i : Nat) : Fld := ⟨R.LKS_PAIR_CTRL i, 1, 1⟩
/-- LKS_PAIR_CTRL.SPLIT_REQ, bits 0:0, W1S. -/
def F.LKS_PAIR_CTRL_SPLIT_REQ (i : Nat) : Fld := ⟨R.LKS_PAIR_CTRL i, 0, 0⟩
/-- LKS_PAIR_STAT (12, R510). -/
def R.LKS_PAIR_STAT (i : Nat) : Nat := 0x20030104 + 64 * i
/-- LKS_PAIR_STAT.FOR_P, bits 19:18, RO. -/
def F.LKS_PAIR_STAT_FOR_P (i : Nat) : Fld := ⟨R.LKS_PAIR_STAT i, 19, 18⟩
/-- LKS_PAIR_STAT.TAKEN, bits 17:17, RO. -/
def F.LKS_PAIR_STAT_TAKEN (i : Nat) : Fld := ⟨R.LKS_PAIR_STAT i, 17, 17⟩
/-- LKS_PAIR_STAT.SLOW, bits 16:16, W1C. -/
def F.LKS_PAIR_STAT_SLOW (i : Nat) : Fld := ⟨R.LKS_PAIR_STAT i, 16, 16⟩
/-- LKS_PAIR_STAT.UNTR, bits 15:14, RO. -/
def F.LKS_PAIR_STAT_UNTR (i : Nat) : Fld := ⟨R.LKS_PAIR_STAT i, 15, 14⟩
/-- LKS_PAIR_STAT.MWIN, bits 11:8, RO. -/
def F.LKS_PAIR_STAT_MWIN (i : Nat) : Fld := ⟨R.LKS_PAIR_STAT i, 11, 8⟩
/-- LKS_PAIR_STAT.TEST_OK, bits 4:4, RO. -/
def F.LKS_PAIR_STAT_TEST_OK (i : Nat) : Fld := ⟨R.LKS_PAIR_STAT i, 4, 4⟩
/-- LKS_PAIR_STAT.STATE, bits 2:0, RO. -/
def F.LKS_PAIR_STAT_STATE (i : Nat) : Fld := ⟨R.LKS_PAIR_STAT i, 2, 0⟩
/-- LKS_PAIR_MCNT (12, LKS registers). -/
def R.LKS_PAIR_MCNT (i : Nat) : Nat := 0x20030108 + 64 * i
/-- LKS_PAIR_LAST (12, LKS registers). -/
def R.LKS_PAIR_LAST (i : Nat) : Nat := 0x2003010C + 64 * i
/-- LKS_PAIR_LAST.CHK, bits 9:8, RO. -/
def F.LKS_PAIR_LAST_CHK (i : Nat) : Fld := ⟨R.LKS_PAIR_LAST i, 9, 8⟩
/-- LKS_PAIR_LAST.ITEM, bits 3:0, RO. -/
def F.LKS_PAIR_LAST_ITEM (i : Nat) : Fld := ⟨R.LKS_PAIR_LAST i, 3, 0⟩
/-- LKS_PAIR_STAMP_LO (12, LKS registers). -/
def R.LKS_PAIR_STAMP_LO (i : Nat) : Nat := 0x20030110 + 64 * i
/-- LKS_PAIR_STAMP_HI (12, LKS registers). -/
def R.LKS_PAIR_STAMP_HI (i : Nat) : Nat := 0x20030114 + 64 * i
/-- LKS_PAIR_VPC (12, R495). -/
def R.LKS_PAIR_VPC (i : Nat) : Nat := 0x20030118 + 64 * i
/-- LKS_PAIR_VCNT_LO (12, R495). -/
def R.LKS_PAIR_VCNT_LO (i : Nat) : Nat := 0x2003011C + 64 * i
/-- LKS_PAIR_VCNT_HI (12, R495). -/
def R.LKS_PAIR_VCNT_HI (i : Nat) : Nat := 0x20030120 + 64 * i
/-- LKS_PAIR_RTIME (12, LKS registers). -/
def R.LKS_PAIR_RTIME (i : Nat) : Nat := 0x20030124 + 64 * i
/-- LKS_PAIR_RTIME.MAX, bits 31:16, RC. -/
def F.LKS_PAIR_RTIME_MAX (i : Nat) : Fld := ⟨R.LKS_PAIR_RTIME i, 31, 16⟩
/-- LKS_PAIR_RTIME.LAST, bits 15:0, RO. -/
def F.LKS_PAIR_RTIME_LAST (i : Nat) : Fld := ⟨R.LKS_PAIR_RTIME i, 15, 0⟩
/-- LKS_TRI_STAT (12, R526 R528). -/
def R.LKS_TRI_STAT (i : Nat) : Nat := 0x20030200 + 16 * i
/-- LKS_TRI_STAT.STATE, bits 10:8, RO. -/
def F.LKS_TRI_STAT_STATE (i : Nat) : Fld := ⟨R.LKS_TRI_STAT i, 10, 8⟩
/-- LKS_TRI_STAT.RETIRED, bits 6:4, RO. -/
def F.LKS_TRI_STAT_RETIRED (i : Nat) : Fld := ⟨R.LKS_TRI_STAT i, 6, 4⟩
/-- LKS_TRI_STAT.MASKED, bits 1:0, RO. -/
def F.LKS_TRI_STAT_MASKED (i : Nat) : Fld := ⟨R.LKS_TRI_STAT i, 1, 0⟩
/-- LKS_TRI_DCNT (12, R528). -/
def R.LKS_TRI_DCNT (i : Nat) : Nat := 0x20030204 + 16 * i
/-- LKS_TRI_DCNT.K2, bits 19:16, RO. -/
def F.LKS_TRI_DCNT_K2 (i : Nat) : Fld := ⟨R.LKS_TRI_DCNT i, 19, 16⟩
/-- LKS_TRI_DCNT.K1, bits 11:8, RO. -/
def F.LKS_TRI_DCNT_K1 (i : Nat) : Fld := ⟨R.LKS_TRI_DCNT i, 11, 8⟩
/-- LKS_TRI_DCNT.K0, bits 3:0, RO. -/
def F.LKS_TRI_DCNT_K0 (i : Nat) : Fld := ⟨R.LKS_TRI_DCNT i, 3, 0⟩
/-- THM_CTRL (13, THM registers). -/
def R.THM_CTRL : Nat := 0x200F0000
/-- THM_CTRL.EN, bits 0:0, RW. -/
def F.THM_CTRL_EN : Fld := ⟨R.THM_CTRL, 0, 0⟩
/-- THM_BAND (13, R534). -/
def R.THM_BAND : Nat := 0x200F0004
/-- THM_BAND.B2, bits 21:16, RW. -/
def F.THM_BAND_B2 : Fld := ⟨R.THM_BAND, 21, 16⟩
/-- THM_BAND.B1, bits 5:0, RW. -/
def F.THM_BAND_B1 : Fld := ⟨R.THM_BAND, 5, 0⟩
/-- THM_STAT (13, R544). -/
def R.THM_STAT : Nat := 0x200F0008
/-- THM_STAT.NO_NVM, bits 0:0, RO. -/
def F.THM_STAT_NO_NVM : Fld := ⟨R.THM_STAT, 0, 0⟩
/-- THM_SENS_BROKEN (13, R542 R543). -/
def R.THM_SENS_BROKEN : Nat := 0x200F000C
/-- THM_SENS_BROKEN.BROKEN, bits 23:0, W1C. -/
def F.THM_SENS_BROKEN_BROKEN : Fld := ⟨R.THM_SENS_BROKEN, 23, 0⟩
/-- THM_SENS_CFG (13, R531). -/
def R.THM_SENS_CFG (i : Nat) : Nat := 0x200F0100 + 4 * i
/-- THM_SENS_CFG.ZONE, bits 11:8, RW. -/
def F.THM_SENS_CFG_ZONE (i : Nat) : Fld := ⟨R.THM_SENS_CFG i, 11, 8⟩
/-- THM_SENS_CFG.TYPE, bits 5:4, RW. -/
def F.THM_SENS_CFG_TYPE (i : Nat) : Fld := ⟨R.THM_SENS_CFG i, 5, 4⟩
/-- THM_SENS_CFG.EN, bits 0:0, RW. -/
def F.THM_SENS_CFG_EN (i : Nat) : Fld := ⟨R.THM_SENS_CFG i, 0, 0⟩
/-- THM_SENS_CFG_DIE (13, R531 (i = 16 to 23)). -/
def R.THM_SENS_CFG_DIE (i : Nat) : Nat := 0x200F0140 + 4 * i
/-- THM_SENS_CFG_DIE.EN, bits 0:0, RO. -/
def F.THM_SENS_CFG_DIE_EN (i : Nat) : Fld := ⟨R.THM_SENS_CFG_DIE i, 0, 0⟩
/-- THM_SENS_T (13, R542). -/
def R.THM_SENS_T (i : Nat) : Nat := 0x200F0200 + 4 * i
/-- THM_ZONE_CFG (13, R539). -/
def R.THM_ZONE_CFG (i : Nat) : Nat := 0x200F0400 + 32 * i
/-- THM_ZONE_CFG.KIND, bits 2:0, RW. -/
def F.THM_ZONE_CFG_KIND (i : Nat) : Fld := ⟨R.THM_ZONE_CFG i, 2, 0⟩
/-- THM_ZONE_CFG_DIE (13, R539 (z = 14, 15)). -/
def R.THM_ZONE_CFG_DIE (i : Nat) : Nat := 0x200F05C0 + 32 * i
/-- THM_ZONE_CFG_DIE.KIND, bits 2:0, RO. -/
def F.THM_ZONE_CFG_DIE_KIND (i : Nat) : Fld := ⟨R.THM_ZONE_CFG_DIE i, 2, 0⟩
/-- THM_ZONE_WARN (13, R537). -/
def R.THM_ZONE_WARN (i : Nat) : Nat := 0x200F0404 + 32 * i
/-- THM_ZONE_WARN_DIE (13, R544 (z = 14, 15)). -/
def R.THM_ZONE_WARN_DIE (i : Nat) : Nat := 0x200F05C4 + 32 * i
/-- THM_ZONE_DSTART (13, R534). -/
def R.THM_ZONE_DSTART (i : Nat) : Nat := 0x200F0408 + 32 * i
/-- THM_ZONE_DSTART_DIE (13, R544 (z = 14, 15)). -/
def R.THM_ZONE_DSTART_DIE (i : Nat) : Nat := 0x200F05C8 + 32 * i
/-- THM_ZONE_DFULL (13, R536). -/
def R.THM_ZONE_DFULL (i : Nat) : Nat := 0x200F040C + 32 * i
/-- THM_ZONE_DFULL_DIE (13, R544 (z = 14, 15)). -/
def R.THM_ZONE_DFULL_DIE (i : Nat) : Nat := 0x200F05CC + 32 * i
/-- THM_ZONE_TRIP (13, R537). -/
def R.THM_ZONE_TRIP (i : Nat) : Nat := 0x200F0410 + 32 * i
/-- THM_ZONE_TRIP_DIE (13, R544 (z = 14, 15)). -/
def R.THM_ZONE_TRIP_DIE (i : Nat) : Nat := 0x200F05D0 + 32 * i
/-- THM_ZONE_RISE (13, R535). -/
def R.THM_ZONE_RISE (i : Nat) : Nat := 0x200F0414 + 32 * i
/-- THM_ZONE_RISE_DIE (13, R544 (z = 14, 15)). -/
def R.THM_ZONE_RISE_DIE (i : Nat) : Nat := 0x200F05D4 + 32 * i
/-- THM_ZONE_LEAD (13, R535). -/
def R.THM_ZONE_LEAD (i : Nat) : Nat := 0x200F0418 + 32 * i
/-- THM_ZONE_LEAD_DIE (13, R544 (z = 14, 15)). -/
def R.THM_ZONE_LEAD_DIE (i : Nat) : Nat := 0x200F05D8 + 32 * i
/-- THM_ZONE_HYST (13, R537). -/
def R.THM_ZONE_HYST (i : Nat) : Nat := 0x200F041C + 32 * i
/-- THM_ZONE_HYST_DIE (13, R544 (z = 14, 15)). -/
def R.THM_ZONE_HYST_DIE (i : Nat) : Nat := 0x200F05DC + 32 * i
/-- THM_ZONE_T (13, R533). -/
def R.THM_ZONE_T (i : Nat) : Nat := 0x200F0600 + 16 * i
/-- THM_ZONE_F (13, R536). -/
def R.THM_ZONE_F (i : Nat) : Nat := 0x200F0604 + 16 * i
/-- THM_ZONE_STAT (13, R537). -/
def R.THM_ZONE_STAT (i : Nat) : Nat := 0x200F0608 + 16 * i
/-- THM_ZONE_STAT.BAND, bits 5:4, RO. -/
def F.THM_ZONE_STAT_BAND (i : Nat) : Fld := ⟨R.THM_ZONE_STAT i, 5, 4⟩
/-- THM_ZONE_STAT.RISE, bits 3:3, RO. -/
def F.THM_ZONE_STAT_RISE (i : Nat) : Fld := ⟨R.THM_ZONE_STAT i, 3, 3⟩
/-- THM_ZONE_STAT.TRIP, bits 2:2, RO. -/
def F.THM_ZONE_STAT_TRIP (i : Nat) : Fld := ⟨R.THM_ZONE_STAT i, 2, 2⟩
/-- THM_ZONE_STAT.DERATE, bits 1:1, RO. -/
def F.THM_ZONE_STAT_DERATE (i : Nat) : Fld := ⟨R.THM_ZONE_STAT i, 1, 1⟩
/-- THM_ZONE_STAT.WARN, bits 0:0, RO. -/
def F.THM_ZONE_STAT_WARN (i : Nat) : Fld := ⟨R.THM_ZONE_STAT i, 0, 0⟩
/-- THM_LUT (13, R532). -/
def R.THM_LUT (i : Nat) (j : Nat) : Nat := 0x200F1000 + 128 * i + 4 * j
/-- THM_LUT_LIM (13, R541). -/
def R.THM_LUT_LIM (i : Nat) : Nat := 0x200F1200 + 4 * i
/-- THM_LUT_LIM.RMAX, bits 27:16, RW. -/
def F.THM_LUT_LIM_RMAX (i : Nat) : Fld := ⟨R.THM_LUT_LIM i, 27, 16⟩
/-- THM_LUT_LIM.RMIN, bits 11:0, RW. -/
def F.THM_LUT_LIM_RMIN (i : Nat) : Fld := ⟨R.THM_LUT_LIM i, 11, 0⟩
/-- SUP_STAT (13, R548). -/
def R.SUP_STAT : Nat := 0x200F8000
/-- SUP_STAT.OK, bits 7:0, RO. -/
def F.SUP_STAT_OK : Fld := ⟨R.SUP_STAT, 7, 0⟩
/-- SUP_LATCH (13, R546 R550). -/
def R.SUP_LATCH : Nat := 0x200F8004
/-- SUP_LATCH.DIE, bits 10:9, W1C. -/
def F.SUP_LATCH_DIE : Fld := ⟨R.SUP_LATCH, 10, 9⟩
/-- SUP_LATCH.HCUT, bits 8:8, W1C. -/
def F.SUP_LATCH_HCUT : Fld := ⟨R.SUP_LATCH, 8, 8⟩
/-- SUP_LATCH.LEFT, bits 7:0, W1C. -/
def F.SUP_LATCH_LEFT : Fld := ⟨R.SUP_LATCH, 7, 0⟩
/-- SUP_VBAT (13, SUP registers). -/
def R.SUP_VBAT : Nat := 0x200F8008
/-- SUP_VGD (13, SUP registers). -/
def R.SUP_VGD : Nat := 0x200F800C
/-- HIF_CFG (14, HIF registers). -/
def R.HIF_CFG : Nat := 0x20110000
/-- HIF_CFG.DID, bits 23:16, RW. -/
def F.HIF_CFG_DID : Fld := ⟨R.HIF_CFG, 23, 16⟩
/-- HIF_CFG.EVT_MIN, bits 15:12, RW. -/
def F.HIF_CFG_EVT_MIN : Fld := ⟨R.HIF_CFG, 15, 12⟩
/-- HIF_CFG.VLAN, bits 8:8, RW. -/
def F.HIF_CFG_VLAN : Fld := ⟨R.HIF_CFG, 8, 8⟩
/-- HIF_CFG.IDE, bits 4:4, RW. -/
def F.HIF_CFG_IDE : Fld := ⟨R.HIF_CFG, 4, 4⟩
/-- HIF_CFG.PATH, bits 1:0, RW. -/
def F.HIF_CFG_PATH : Fld := ⟨R.HIF_CFG, 1, 0⟩
/-- HIF_CTRL (14, R554). -/
def R.HIF_CTRL : Nat := 0x20110004
/-- HIF_CTRL.EN, bits 0:0, RW. -/
def F.HIF_CTRL_EN : Fld := ⟨R.HIF_CTRL, 0, 0⟩
/-- HIF_STAT (14, R555 R570 R577). -/
def R.HIF_STAT : Nat := 0x20110008
/-- HIF_STAT.BUSOFF1, bits 6:6, RO. -/
def F.HIF_STAT_BUSOFF1 : Fld := ⟨R.HIF_STAT, 6, 6⟩
/-- HIF_STAT.BUSOFF0, bits 5:5, RO. -/
def F.HIF_STAT_BUSOFF0 : Fld := ⟨R.HIF_STAT, 5, 5⟩
/-- HIF_STAT.ETH_UP, bits 4:4, RO. -/
def F.HIF_STAT_ETH_UP : Fld := ⟨R.HIF_STAT, 4, 4⟩
/-- HIF_STAT.REPLAY, bits 3:3, RO. -/
def F.HIF_STAT_REPLAY : Fld := ⟨R.HIF_STAT, 3, 3⟩
/-- HIF_STAT.RST_PEND, bits 2:2, RO. -/
def F.HIF_STAT_RST_PEND : Fld := ⟨R.HIF_STAT, 2, 2⟩
/-- HIF_STAT.RX_SYNC, bits 1:1, RO. -/
def F.HIF_STAT_RX_SYNC : Fld := ⟨R.HIF_STAT, 1, 1⟩
/-- HIF_STAT.HOST_LOST, bits 0:0, RO. -/
def F.HIF_STAT_HOST_LOST : Fld := ⟨R.HIF_STAT, 0, 0⟩
/-- HIF_HOST_TMO (14, R577). -/
def R.HIF_HOST_TMO : Nat := 0x2011000C
/-- HIF_HOST_TMO.MS, bits 6:0, RW. -/
def F.HIF_HOST_TMO_MS : Fld := ⟨R.HIF_HOST_TMO, 6, 0⟩
/-- HIF_LOST_RATE (14, R577). -/
def R.HIF_LOST_RATE : Nat := 0x20110010
/-- HIF_STAT_PER (14, R581). -/
def R.HIF_STAT_PER : Nat := 0x20110014
/-- HIF_STAT_PER.MS, bits 9:0, RW. -/
def F.HIF_STAT_PER_MS : Fld := ⟨R.HIF_STAT_PER, 9, 0⟩
/-- HIF_SEQ (14, R570 R574). -/
def R.HIF_SEQ : Nat := 0x20110018
/-- HIF_SEQ.NEXT_TX, bits 31:16, RO. -/
def F.HIF_SEQ_NEXT_TX : Fld := ⟨R.HIF_SEQ, 31, 16⟩
/-- HIF_SEQ.LAST_RX, bits 15:0, RO. -/
def F.HIF_SEQ_LAST_RX : Fld := ⟨R.HIF_SEQ, 15, 0⟩
/-- HIF_HOST_ACK (14, HIF registers). -/
def R.HIF_HOST_ACK : Nat := 0x2011001C
/-- HIF_HOST_ACK.ACK, bits 15:0, RO. -/
def F.HIF_HOST_ACK_ACK : Fld := ⟨R.HIF_HOST_ACK, 15, 0⟩
/-- HIF_CNT0 (14, R557 R570). -/
def R.HIF_CNT0 : Nat := 0x20110020
/-- HIF_CNT0.OLD, bits 31:16, RC. -/
def F.HIF_CNT0_OLD : Fld := ⟨R.HIF_CNT0, 31, 16⟩
/-- HIF_CNT0.FMT, bits 15:0, RC. -/
def F.HIF_CNT0_FMT : Fld := ⟨R.HIF_CNT0, 15, 0⟩
/-- HIF_CNT1 (14, R570 R573). -/
def R.HIF_CNT1 : Nat := 0x20110024
/-- HIF_CNT1.OVF, bits 31:16, RC. -/
def F.HIF_CNT1_OVF : Fld := ⟨R.HIF_CNT1, 31, 16⟩
/-- HIF_CNT1.MISSED, bits 15:0, RC. -/
def F.HIF_CNT1_MISSED : Fld := ⟨R.HIF_CNT1, 15, 0⟩
/-- HIF_CAN_ID (14, R556). -/
def R.HIF_CAN_ID : Nat := 0x20110030
/-- HIF_CAN_ID.BASE, bits 28:0, RW. -/
def F.HIF_CAN_ID_BASE : Fld := ⟨R.HIF_CAN_ID, 28, 0⟩
/-- HIF_CAN_NBT (14, R553 R554). -/
def R.HIF_CAN_NBT (i : Nat) : Nat := 0x20110040 + 16 * i
/-- HIF_CAN_NBT.SJW, bits 26:20, RW. -/
def F.HIF_CAN_NBT_SJW (i : Nat) : Fld := ⟨R.HIF_CAN_NBT i, 26, 20⟩
/-- HIF_CAN_NBT.TSEG2, bits 19:13, RW. -/
def F.HIF_CAN_NBT_TSEG2 (i : Nat) : Fld := ⟨R.HIF_CAN_NBT i, 19, 13⟩
/-- HIF_CAN_NBT.TSEG1, bits 12:5, RW. -/
def F.HIF_CAN_NBT_TSEG1 (i : Nat) : Fld := ⟨R.HIF_CAN_NBT i, 12, 5⟩
/-- HIF_CAN_NBT.BRP, bits 4:0, RW. -/
def F.HIF_CAN_NBT_BRP (i : Nat) : Fld := ⟨R.HIF_CAN_NBT i, 4, 0⟩
/-- HIF_CAN_DBT (14, R553 R554). -/
def R.HIF_CAN_DBT (i : Nat) : Nat := 0x20110044 + 16 * i
/-- HIF_CAN_DBT.TDC_EN, bits 25:25, RW. -/
def F.HIF_CAN_DBT_TDC_EN (i : Nat) : Fld := ⟨R.HIF_CAN_DBT i, 25, 25⟩
/-- HIF_CAN_DBT.TDCO, bits 24:18, RW. -/
def F.HIF_CAN_DBT_TDCO (i : Nat) : Fld := ⟨R.HIF_CAN_DBT i, 24, 18⟩
/-- HIF_CAN_DBT.SJW, bits 17:14, RW. -/
def F.HIF_CAN_DBT_SJW (i : Nat) : Fld := ⟨R.HIF_CAN_DBT i, 17, 14⟩
/-- HIF_CAN_DBT.TSEG2, bits 13:10, RW. -/
def F.HIF_CAN_DBT_TSEG2 (i : Nat) : Fld := ⟨R.HIF_CAN_DBT i, 13, 10⟩
/-- HIF_CAN_DBT.TSEG1, bits 9:5, RW. -/
def F.HIF_CAN_DBT_TSEG1 (i : Nat) : Fld := ⟨R.HIF_CAN_DBT i, 9, 5⟩
/-- HIF_CAN_DBT.BRP, bits 4:0, RW. -/
def F.HIF_CAN_DBT_BRP (i : Nat) : Fld := ⟨R.HIF_CAN_DBT i, 4, 0⟩
/-- HIF_CAN_FILT_ID (14, R558). -/
def R.HIF_CAN_FILT_ID (i : Nat) (j : Nat) : Nat := 0x20110080 + 64 * i + 8 * j
/-- HIF_CAN_FILT_ID.EN, bits 31:31, RW. -/
def F.HIF_CAN_FILT_ID_EN (i : Nat) (j : Nat) : Fld := ⟨R.HIF_CAN_FILT_ID i j, 31, 31⟩
/-- HIF_CAN_FILT_ID.IDE, bits 30:30, RW. -/
def F.HIF_CAN_FILT_ID_IDE (i : Nat) (j : Nat) : Fld := ⟨R.HIF_CAN_FILT_ID i j, 30, 30⟩
/-- HIF_CAN_FILT_ID.ID, bits 28:0, RW. -/
def F.HIF_CAN_FILT_ID_ID (i : Nat) (j : Nat) : Fld := ⟨R.HIF_CAN_FILT_ID i j, 28, 0⟩
/-- HIF_CAN_FILT_MASK (14, R558). -/
def R.HIF_CAN_FILT_MASK (i : Nat) (j : Nat) : Nat := 0x20110084 + 64 * i + 8 * j
/-- HIF_CAN_FILT_MASK.MASK, bits 28:0, RW. -/
def F.HIF_CAN_FILT_MASK_MASK (i : Nat) (j : Nat) : Fld := ⟨R.HIF_CAN_FILT_MASK i j, 28, 0⟩
/-- HIF_ETH_CFG (14, R560). -/
def R.HIF_ETH_CFG : Nat := 0x20110100
/-- HIF_ETH_CFG.PCP, bits 18:16, RW. -/
def F.HIF_ETH_CFG_PCP : Fld := ⟨R.HIF_ETH_CFG, 18, 16⟩
/-- HIF_ETH_CFG.VID, bits 15:4, RW. -/
def F.HIF_ETH_CFG_VID : Fld := ⟨R.HIF_ETH_CFG, 15, 4⟩
/-- HIF_ETH_CFG.SPEED, bits 1:1, RW. -/
def F.HIF_ETH_CFG_SPEED : Fld := ⟨R.HIF_ETH_CFG, 1, 1⟩
/-- HIF_ETH_CFG.IF, bits 0:0, RW. -/
def F.HIF_ETH_CFG_IF : Fld := ⟨R.HIF_ETH_CFG, 0, 0⟩
/-- HIF_IP (14, R561). -/
def R.HIF_IP : Nat := 0x20110104
/-- HIF_HOST_IP (14, R561). -/
def R.HIF_HOST_IP : Nat := 0x20110108
/-- HIF_MAC_LO (14, HIF registers). -/
def R.HIF_MAC_LO : Nat := 0x2011010C
/-- HIF_MAC_HI (14, HIF registers). -/
def R.HIF_MAC_HI : Nat := 0x20110110
/-- HIF_MAC_HI.MAC, bits 15:0, RW. -/
def F.HIF_MAC_HI_MAC : Fld := ⟨R.HIF_MAC_HI, 15, 0⟩
/-- HIF_RXQ_BASE (14, HIF registers). -/
def R.HIF_RXQ_BASE : Nat := 0x20110200
/-- HIF_RXQ_CFG (14, HIF registers). -/
def R.HIF_RXQ_CFG : Nat := 0x20110204
/-- HIF_RXQ_CFG.LOG2, bits 3:0, RW. -/
def F.HIF_RXQ_CFG_LOG2 : Fld := ⟨R.HIF_RXQ_CFG, 3, 0⟩
/-- HIF_RXQ_WR (14, HIF registers). -/
def R.HIF_RXQ_WR : Nat := 0x20110208
/-- HIF_RXQ_RD (14, HIF registers). -/
def R.HIF_RXQ_RD : Nat := 0x2011020C
/-- HIF_TXQ_BASE (14, HIF registers). -/
def R.HIF_TXQ_BASE : Nat := 0x20110210
/-- HIF_TXQ_CFG (14, HIF registers). -/
def R.HIF_TXQ_CFG : Nat := 0x20110214
/-- HIF_TXQ_CFG.LOG2, bits 3:0, RW. -/
def F.HIF_TXQ_CFG_LOG2 : Fld := ⟨R.HIF_TXQ_CFG, 3, 0⟩
/-- HIF_TXQ_WR (14, R620). -/
def R.HIF_TXQ_WR : Nat := 0x20110218
/-- HIF_TXQ_RD (14, R620). -/
def R.HIF_TXQ_RD : Nat := 0x2011021C
/-- OLK_CFG (14, R600 R613 R617). -/
def R.OLK_CFG : Nat := 0x20120000
/-- OLK_CFG.PORT_EN, bits 13:12, RW. -/
def F.OLK_CFG_PORT_EN : Fld := ⟨R.OLK_CFG, 13, 12⟩
/-- OLK_CFG.FWD_FW, bits 10:10, RW. -/
def F.OLK_CFG_FWD_FW : Fld := ⟨R.OLK_CFG, 10, 10⟩
/-- OLK_CFG.WAKE_FWD, bits 9:9, RW. -/
def F.OLK_CFG_WAKE_FWD : Fld := ⟨R.OLK_CFG, 9, 9⟩
/-- OLK_CFG.TOPO, bits 8:8, RW. -/
def F.OLK_CFG_TOPO : Fld := ⟨R.OLK_CFG, 8, 8⟩
/-- OLK_CFG.NM1, bits 6:4, RW. -/
def F.OLK_CFG_NM1 : Fld := ⟨R.OLK_CFG, 6, 4⟩
/-- OLK_CFG.UNIT, bits 2:0, RW. -/
def F.OLK_CFG_UNIT : Fld := ⟨R.OLK_CFG, 2, 0⟩
/-- OLK_CTRL (14, R597). -/
def R.OLK_CTRL : Nat := 0x20120004
/-- OLK_CTRL.EN, bits 0:0, RW. -/
def F.OLK_CTRL_EN : Fld := ⟨R.OLK_CTRL, 0, 0⟩
/-- OLK_STAT (14, R603 R604). -/
def R.OLK_STAT : Nat := 0x20120008
/-- OLK_STAT.SYNC, bits 23:16, RO. -/
def F.OLK_STAT_SYNC : Fld := ⟨R.OLK_STAT, 23, 16⟩
/-- OLK_STAT.PEERS, bits 15:8, RO. -/
def F.OLK_STAT_PEERS : Fld := ⟨R.OLK_STAT, 15, 8⟩
/-- OLK_STAT.RING_OK, bits 4:4, RO. -/
def F.OLK_STAT_RING_OK : Fld := ⟨R.OLK_STAT, 4, 4⟩
/-- OLK_STAT.DEG1, bits 3:3, W1C. -/
def F.OLK_STAT_DEG1 : Fld := ⟨R.OLK_STAT, 3, 3⟩
/-- OLK_STAT.DEG0, bits 2:2, W1C. -/
def F.OLK_STAT_DEG0 : Fld := ⟨R.OLK_STAT, 2, 2⟩
/-- OLK_STAT.UP1, bits 1:1, RO. -/
def F.OLK_STAT_UP1 : Fld := ⟨R.OLK_STAT, 1, 1⟩
/-- OLK_STAT.UP0, bits 0:0, RO. -/
def F.OLK_STAT_UP0 : Fld := ⟨R.OLK_STAT, 0, 0⟩
/-- OLK_STAT_PER (14, R606). -/
def R.OLK_STAT_PER : Nat := 0x2012000C
/-- OLK_STAT_PER.PER, bits 6:0, RW. -/
def F.OLK_STAT_PER_PER : Fld := ⟨R.OLK_STAT_PER, 6, 0⟩
/-- OLK_PEER_TMO (14, R606). -/
def R.OLK_PEER_TMO : Nat := 0x20120010
/-- OLK_PEER_TMO.MS, bits 6:0, RW. -/
def F.OLK_PEER_TMO_MS : Fld := ⟨R.OLK_PEER_TMO, 6, 0⟩
/-- OLK_SEQ (14, R598). -/
def R.OLK_SEQ : Nat := 0x20120014
/-- OLK_SEQ.SEQ, bits 15:0, RO. -/
def F.OLK_SEQ_SEQ : Fld := ⟨R.OLK_SEQ, 15, 0⟩
/-- OLK_WAKE (14, R617). -/
def R.OLK_WAKE : Nat := 0x20120018
/-- OLK_PEER_SEQ (14, R604). -/
def R.OLK_PEER_SEQ (i : Nat) : Nat := 0x20120020 + 4 * i
/-- OLK_PEER_SEQ.MISS, bits 31:16, RC. -/
def F.OLK_PEER_SEQ_MISS (i : Nat) : Fld := ⟨R.OLK_PEER_SEQ i, 31, 16⟩
/-- OLK_PEER_SEQ.SEQ, bits 15:0, RO. -/
def F.OLK_PEER_SEQ_SEQ (i : Nat) : Fld := ⟨R.OLK_PEER_SEQ i, 15, 0⟩
/-- OLK_PORT_CNT (14, R591 R596). -/
def R.OLK_PORT_CNT (i : Nat) : Nat := 0x20120040 + 4 * i
/-- OLK_PORT_CNT.BAD, bits 31:16, RC. -/
def F.OLK_PORT_CNT_BAD (i : Nat) : Fld := ⟨R.OLK_PORT_CNT i, 31, 16⟩
/-- OLK_PORT_CNT.RETX, bits 15:0, RC. -/
def F.OLK_PORT_CNT_RETX (i : Nat) : Fld := ⟨R.OLK_PORT_CNT i, 15, 0⟩
/-- OLK_RXQ_BASE (14, OLK registers). -/
def R.OLK_RXQ_BASE : Nat := 0x20120100
/-- OLK_RXQ_CFG (14, OLK registers). -/
def R.OLK_RXQ_CFG : Nat := 0x20120104
/-- OLK_RXQ_CFG.LOG2, bits 3:0, RW. -/
def F.OLK_RXQ_CFG_LOG2 : Fld := ⟨R.OLK_RXQ_CFG, 3, 0⟩
/-- OLK_RXQ_WR (14, OLK registers). -/
def R.OLK_RXQ_WR : Nat := 0x20120108
/-- OLK_RXQ_RD (14, OLK registers). -/
def R.OLK_RXQ_RD : Nat := 0x2012010C
/-- OLK_TXQ_BASE (14, OLK registers). -/
def R.OLK_TXQ_BASE : Nat := 0x20120110
/-- OLK_TXQ_CFG (14, OLK registers). -/
def R.OLK_TXQ_CFG : Nat := 0x20120114
/-- OLK_TXQ_CFG.LOG2, bits 3:0, RW. -/
def F.OLK_TXQ_CFG_LOG2 : Fld := ⟨R.OLK_TXQ_CFG, 3, 0⟩
/-- OLK_TXQ_WR (14, R611). -/
def R.OLK_TXQ_WR : Nat := 0x20120118
/-- OLK_TXQ_RD (14, R611). -/
def R.OLK_TXQ_RD : Nat := 0x2012011C
/-- OLK_FWB_BASE (14, R612). -/
def R.OLK_FWB_BASE : Nat := 0x20120120
/-- OLK_FWB_STAT (14, R612 R615). -/
def R.OLK_FWB_STAT : Nat := 0x20120124
/-- OLK_FWB_STAT.FWD, bits 7:4, RO. -/
def F.OLK_FWB_STAT_FWD : Fld := ⟨R.OLK_FWB_STAT, 7, 4⟩
/-- OLK_FWB_STAT.GOOD, bits 3:0, RO. -/
def F.OLK_FWB_STAT_GOOD : Fld := ⟨R.OLK_FWB_STAT, 3, 0⟩
/-- OLK_FWB_REL (14, R615). -/
def R.OLK_FWB_REL : Nat := 0x20120128
/-- OLK_FWB_REL.REL, bits 3:0, WO. -/
def F.OLK_FWB_REL_REL : Fld := ⟨R.OLK_FWB_REL, 3, 0⟩
/-- OLK_RX_FILT (14, OLK registers). -/
def R.OLK_RX_FILT : Nat := 0x2012012C
/-- OLK_RX_FILT.T, bits 7:1, RW. -/
def F.OLK_RX_FILT_T : Fld := ⟨R.OLK_RX_FILT, 7, 1⟩
/-- NVC_STAT (15, R622 R625). -/
def R.NVC_STAT : Nat := 0x20130000
/-- NVC_STAT.SIZE, bits 31:16, RO. -/
def F.NVC_STAT_SIZE : Fld := ⟨R.NVC_STAT, 31, 16⟩
/-- NVC_STAT.SUSPENDED, bits 2:2, RO. -/
def F.NVC_STAT_SUSPENDED : Fld := ⟨R.NVC_STAT, 2, 2⟩
/-- NVC_STAT.ERASING, bits 1:1, RO. -/
def F.NVC_STAT_ERASING : Fld := ⟨R.NVC_STAT, 1, 1⟩
/-- NVC_STAT.SLOW, bits 0:0, RO. -/
def F.NVC_STAT_SLOW : Fld := ⟨R.NVC_STAT, 0, 0⟩
/-- NVC_LOG_HEAD (15, R634). -/
def R.NVC_LOG_HEAD : Nat := 0x20130004
/-- NVC_CMD (15, NVC registers). -/
def R.NVC_CMD (i : Nat) : Nat := 0x20130100 + 64 * i
/-- NVC_CMD.TYPE, bits 15:8, WO. -/
def F.NVC_CMD_TYPE (i : Nat) : Fld := ⟨R.NVC_CMD i, 15, 8⟩
/-- NVC_CMD.BANK, bits 4:4, WO. -/
def F.NVC_CMD_BANK (i : Nat) : Fld := ⟨R.NVC_CMD i, 4, 4⟩
/-- NVC_CMD.OP, bits 3:0, WO. -/
def F.NVC_CMD_OP (i : Nat) : Fld := ⟨R.NVC_CMD i, 3, 0⟩
/-- NVC_ADDR (15, NVC registers). -/
def R.NVC_ADDR (i : Nat) : Nat := 0x20130104 + 64 * i
/-- NVC_LEN (15, NVC registers). -/
def R.NVC_LEN (i : Nat) : Nat := 0x20130108 + 64 * i
/-- NVC_NOR (15, NVC registers). -/
def R.NVC_NOR (i : Nat) : Nat := 0x2013010C + 64 * i
/-- NVC_RES (15, NVC registers). -/
def R.NVC_RES (i : Nat) : Nat := 0x20130110 + 64 * i
/-- NVC_RES.RESULT, bits 7:4, RO. -/
def F.NVC_RES_RESULT (i : Nat) : Fld := ⟨R.NVC_RES i, 7, 4⟩
/-- NVC_RES.BUSY, bits 0:0, RO. -/
def F.NVC_RES_BUSY (i : Nat) : Fld := ⟨R.NVC_RES i, 0, 0⟩
/-- NVC_SEQ (15, NVC registers). -/
def R.NVC_SEQ (i : Nat) : Nat := 0x20130114 + 64 * i
/-- UPD_STAT (15, R646 R664). -/
def R.UPD_STAT : Nat := 0x20140000
/-- UPD_STAT.CONF_RESULT, bits 25:24, RO. -/
def F.UPD_STAT_CONF_RESULT : Fld := ⟨R.UPD_STAT, 25, 24⟩
/-- UPD_STAT.BLK_RESULT, bits 18:16, RO. -/
def F.UPD_STAT_BLK_RESULT : Fld := ⟨R.UPD_STAT, 18, 16⟩
/-- UPD_STAT.STAGE, bits 2:0, RO. -/
def F.UPD_STAT_STAGE : Fld := ⟨R.UPD_STAT, 2, 0⟩
/-- UPD_BLK_ADDR (15, R646). -/
def R.UPD_BLK_ADDR : Nat := 0x20140004
/-- UPD_BLK_NUM (15, R646). -/
def R.UPD_BLK_NUM : Nat := 0x20140008
/-- UPD_BLK_NUM.TAG, bits 31:16, RW. -/
def F.UPD_BLK_NUM_TAG : Fld := ⟨R.UPD_BLK_NUM, 31, 16⟩
/-- UPD_BLK_NUM.BLK, bits 15:0, RW. -/
def F.UPD_BLK_NUM_BLK : Fld := ⟨R.UPD_BLK_NUM, 15, 0⟩
/-- UPD_BLK_CRC (15, R646). -/
def R.UPD_BLK_CRC : Nat := 0x2014000C
/-- UPD_BLK_GO (15, R646). -/
def R.UPD_BLK_GO : Nat := 0x20140010
/-- UPD_STG_CTRL (15, R645). -/
def R.UPD_STG_CTRL : Nat := 0x20140014
/-- UPD_STG_CTRL.ABANDON, bits 0:0, W1S. -/
def F.UPD_STG_CTRL_ABANDON : Fld := ⟨R.UPD_STG_CTRL, 0, 0⟩
/-- UPD_STG_TAG (15, R645). -/
def R.UPD_STG_TAG : Nat := 0x20140018
/-- UPD_STG_TAG.SLOT, bits 17:16, RO. -/
def F.UPD_STG_TAG_SLOT : Fld := ⟨R.UPD_STG_TAG, 17, 16⟩
/-- UPD_STG_TAG.TAG, bits 15:0, RO. -/
def F.UPD_STG_TAG_TAG : Fld := ⟨R.UPD_STG_TAG, 15, 0⟩
/-- UPD_MISS (15, R647). -/
def R.UPD_MISS : Nat := 0x2014001C
/-- UPD_MISS.COMMITTED, bits 31:16, RO. -/
def F.UPD_MISS_COMMITTED : Fld := ⟨R.UPD_MISS, 31, 16⟩
/-- UPD_MISS.FIRST, bits 15:0, RO. -/
def F.UPD_MISS_FIRST : Fld := ⟨R.UPD_MISS, 15, 0⟩
/-- UPD_ACT_TAG (15, R650). -/
def R.UPD_ACT_TAG : Nat := 0x20140040
/-- UPD_ACT_TAG.MASK, bits 18:16, RW. -/
def F.UPD_ACT_TAG_MASK : Fld := ⟨R.UPD_ACT_TAG, 18, 16⟩
/-- UPD_ACT_TAG.TAG, bits 15:0, RW. -/
def F.UPD_ACT_TAG_TAG : Fld := ⟨R.UPD_ACT_TAG, 15, 0⟩
/-- UPD_ACT_TIME_LO (15, R650). -/
def R.UPD_ACT_TIME_LO : Nat := 0x20140044
/-- UPD_ACT_TIME_HI (15, R650). -/
def R.UPD_ACT_TIME_HI : Nat := 0x20140048
/-- UPD_ACT_CTRL (15, R651). -/
def R.UPD_ACT_CTRL : Nat := 0x2014004C
/-- UPD_ACT_CTRL.CANCEL, bits 1:1, W1S. -/
def F.UPD_ACT_CTRL_CANCEL : Fld := ⟨R.UPD_ACT_CTRL, 1, 1⟩
/-- UPD_ACT_CTRL.ARM, bits 0:0, W1S. -/
def F.UPD_ACT_CTRL_ARM : Fld := ⟨R.UPD_ACT_CTRL, 0, 0⟩
/-- UPD_ACT_STAT (15, R651). -/
def R.UPD_ACT_STAT : Nat := 0x20140050
/-- UPD_ACT_STAT.P2, bits 13:12, RO. -/
def F.UPD_ACT_STAT_P2 : Fld := ⟨R.UPD_ACT_STAT, 13, 12⟩
/-- UPD_ACT_STAT.P1, bits 11:10, RO. -/
def F.UPD_ACT_STAT_P1 : Fld := ⟨R.UPD_ACT_STAT, 11, 10⟩
/-- UPD_ACT_STAT.P0, bits 9:8, RO. -/
def F.UPD_ACT_STAT_P0 : Fld := ⟨R.UPD_ACT_STAT, 9, 8⟩
/-- UPD_ACT_STAT.ARMED, bits 0:0, RO. -/
def F.UPD_ACT_STAT_ARMED : Fld := ⟨R.UPD_ACT_STAT, 0, 0⟩
/-- UPD_CMD (15, R664). -/
def R.UPD_CMD : Nat := 0x20140060
/-- UPD_CMD.TAG, bits 31:16, W1S. -/
def F.UPD_CMD_TAG : Fld := ⟨R.UPD_CMD, 31, 16⟩
/-- UPD_CMD.CONFIRM, bits 0:0, W1S. -/
def F.UPD_CMD_CONFIRM : Fld := ⟨R.UPD_CMD, 0, 0⟩
/-- UPD_PAIR_STAT (15, R659). -/
def R.UPD_PAIR_STAT (i : Nat) : Nat := 0x20140080 + 4 * i
/-- UPD_PAIR_STAT.TAG, bits 31:16, RO. -/
def F.UPD_PAIR_STAT_TAG (i : Nat) : Fld := ⟨R.UPD_PAIR_STAT i, 31, 16⟩
/-- UPD_PAIR_STAT.REVERTED, bits 6:6, RO. -/
def F.UPD_PAIR_STAT_REVERTED (i : Nat) : Fld := ⟨R.UPD_PAIR_STAT i, 6, 6⟩
/-- UPD_PAIR_STAT.MIG, bits 5:4, RO. -/
def F.UPD_PAIR_STAT_MIG (i : Nat) : Fld := ⟨R.UPD_PAIR_STAT i, 5, 4⟩
/-- UPD_PAIR_STAT.OLD_BANK, bits 2:2, RO. -/
def F.UPD_PAIR_STAT_OLD_BANK (i : Nat) : Fld := ⟨R.UPD_PAIR_STAT i, 2, 2⟩
/-- UPD_PAIR_STAT.BANK, bits 1:1, RO. -/
def F.UPD_PAIR_STAT_BANK (i : Nat) : Fld := ⟨R.UPD_PAIR_STAT i, 1, 1⟩
/-- UPD_PAIR_STAT.SLOT, bits 0:0, RO. -/
def F.UPD_PAIR_STAT_SLOT (i : Nat) : Fld := ⟨R.UPD_PAIR_STAT i, 0, 0⟩
/-- UPD_CFG (15, R652 R656). -/
def R.UPD_CFG : Nat := 0x20140100
/-- UPD_CFG.CONF_T, bits 31:20, RW. -/
def F.UPD_CFG_CONF_T : Fld := ⟨R.UPD_CFG, 31, 20⟩
/-- UPD_CFG.MIG_TMO, bits 19:12, RW. -/
def F.UPD_CFG_MIG_TMO : Fld := ⟨R.UPD_CFG, 19, 12⟩
/-- UPD_CFG.PRE_T, bits 11:6, RW. -/
def F.UPD_CFG_PRE_T : Fld := ⟨R.UPD_CFG, 11, 6⟩
/-- UPD_CFG.DEFER, bits 3:1, RW. -/
def F.UPD_CFG_DEFER : Fld := ⟨R.UPD_CFG, 3, 1⟩
/-- UPD_CFG.GROUP_REVERT, bits 0:0, RW. -/
def F.UPD_CFG_GROUP_REVERT : Fld := ⟨R.UPD_CFG, 0, 0⟩
/-- UPD_P1_WMAX (15, R653). -/
def R.UPD_P1_WMAX : Nat := 0x20140104
/-- UPD_REVERT_LEAD (15, R663). -/
def R.UPD_REVERT_LEAD : Nat := 0x20140108
/-- UPD_REVERT_LEAD.MS, bits 15:0, RW. -/
def F.UPD_REVERT_LEAD_MS : Fld := ⟨R.UPD_REVERT_LEAD, 15, 0⟩
/-- SEC_STAT (15, R639). -/
def R.SEC_STAT : Nat := 0x20150000
/-- SEC_STAT.PASS, bits 8:8, RO. -/
def F.SEC_STAT_PASS : Fld := ⟨R.SEC_STAT, 8, 8⟩
/-- SEC_STAT.SLOT, bits 6:4, RO. -/
def F.SEC_STAT_SLOT : Fld := ⟨R.SEC_STAT, 6, 4⟩
/-- SEC_STAT.OPEN, bits 1:1, RO. -/
def F.SEC_STAT_OPEN : Fld := ⟨R.SEC_STAT, 1, 1⟩
/-- SEC_STAT.KEY, bits 0:0, RO. -/
def F.SEC_STAT_KEY : Fld := ⟨R.SEC_STAT, 0, 0⟩
/-- SEC_REVOKE (15, SEC registers (Fuse)). -/
def R.SEC_REVOKE : Nat := 0x20150040
/-- SEC_REVOKE.K, bits 1:0, RWM. -/
def F.SEC_REVOKE_K : Fld := ⟨R.SEC_REVOKE, 1, 0⟩
/-- SEC_KEYHASH (15, R638 (Fuse)). -/
def R.SEC_KEYHASH (i : Nat) (j : Nat) : Nat := 0x20150100 + 32 * i + 4 * j
/-- PMC_CNT_LO (16, R669 R671). -/
def R.PMC_CNT_LO (i : Nat) : Nat := 0x20100000 + 8 * i
/-- PMC_CNT_HI (16, R671). -/
def R.PMC_CNT_HI (i : Nat) : Nat := 0x20100004 + 8 * i
/-- PMC_CNT_HI.HI, bits 15:0, RO. -/
def F.PMC_CNT_HI_HI (i : Nat) : Fld := ⟨R.PMC_CNT_HI i, 15, 0⟩
/-- PMC_MODE (16, R667 R668). -/
def R.PMC_MODE (i : Nat) : Nat := 0x20101000 + 4 * i
/-- PMC_OVF (16, R669). -/
def R.PMC_OVF (i : Nat) : Nat := 0x20101040 + 4 * i
/-- PMC_CLR (16, R672). -/
def R.PMC_CLR (i : Nat) : Nat := 0x20101080 + 4 * i
/-- PMC_GNG_CAUSE_LO (16, R675). -/
def R.PMC_GNG_CAUSE_LO : Nat := 0x20102000
/-- PMC_GNG_CAUSE_HI (16, R675). -/
def R.PMC_GNG_CAUSE_HI : Nat := 0x20102004
/-- PMC_GNG_SEQ (16, R675). -/
def R.PMC_GNG_SEQ : Nat := 0x20102008
/-- PMC_GNG_CODE (16, R675). -/
def R.PMC_GNG_CODE : Nat := 0x2010200C
/-- PMC_GNG_CODE.INST, bits 23:16, RO. -/
def F.PMC_GNG_CODE_INST : Fld := ⟨R.PMC_GNG_CODE, 23, 16⟩
/-- PMC_GNG_CODE.CODE, bits 15:0, RO. -/
def F.PMC_GNG_CODE_CODE : Fld := ⟨R.PMC_GNG_CODE, 15, 0⟩
/-- PMC_GNG_CTRL (16, R679). -/
def R.PMC_GNG_CTRL : Nat := 0x20102010
/-- PMC_GNG_CTRL.DONE, bits 0:0, W1S. -/
def F.PMC_GNG_CTRL_DONE : Fld := ⟨R.PMC_GNG_CTRL, 0, 0⟩
/-- PMC_GNG_STAT (16, R675 R677). -/
def R.PMC_GNG_STAT : Nat := 0x20102014
/-- PMC_GNG_STAT.EXTRA, bits 31:16, RO. -/
def F.PMC_GNG_STAT_EXTRA : Fld := ⟨R.PMC_GNG_STAT, 31, 16⟩
/-- PMC_GNG_STAT.FROZEN, bits 0:0, RO. -/
def F.PMC_GNG_STAT_FROZEN : Fld := ⟨R.PMC_GNG_STAT, 0, 0⟩
/-- PMC_GNG_WIN (16, R675 R678). -/
def R.PMC_GNG_WIN (i : Nat) : Nat := 0x20104000 + 4 * i
/-- RTL_KEY (16, R681). -/
def R.RTL_KEY : Nat := 0x201F0000
/-- RTL_STAT (16, R681). -/
def R.RTL_STAT : Nat := 0x201F0004
/-- RTL_STAT.UNLOCKED, bits 0:0, RO. -/
def F.RTL_STAT_UNLOCKED : Fld := ⟨R.RTL_STAT, 0, 0⟩
/-- RTL_SEED (16, RTL registers). -/
def R.RTL_SEED : Nat := 0x201F0008
/-- RTL_DLY (16, R684). -/
def R.RTL_DLY (i : Nat) : Nat := 0x201F0010 + 4 * i
/-- RTL_DLY.EN, bits 31:31, RW. -/
def F.RTL_DLY_EN (i : Nat) : Fld := ⟨R.RTL_DLY i, 31, 31⟩
/-- RTL_DLY.RAND, bits 8:8, RW. -/
def F.RTL_DLY_RAND (i : Nat) : Fld := ⟨R.RTL_DLY i, 8, 8⟩
/-- RTL_DLY.DLY, bits 7:0, RW. -/
def F.RTL_DLY_DLY (i : Nat) : Fld := ⟨R.RTL_DLY i, 7, 0⟩
/-- RTL_BP (16, R684). -/
def R.RTL_BP (i : Nat) : Nat := 0x201F0030 + 4 * i
/-- RTL_BP.EN, bits 31:31, RW. -/
def F.RTL_BP_EN (i : Nat) : Fld := ⟨R.RTL_BP i, 31, 31⟩
/-- RTL_BP.DUTY, bits 7:0, RW. -/
def F.RTL_BP_DUTY (i : Nat) : Fld := ⟨R.RTL_BP i, 7, 0⟩
/-- RTL_JIT (16, R684). -/
def R.RTL_JIT : Nat := 0x201F0040
/-- RTL_JIT.EN, bits 31:31, RW. -/
def F.RTL_JIT_EN : Fld := ⟨R.RTL_JIT, 31, 31⟩
/-- RTL_JIT.AMP, bits 5:0, RW. -/
def F.RTL_JIT_AMP : Fld := ⟨R.RTL_JIT, 5, 0⟩
/-- RTL_JIT_SEQ (16, R684). -/
def R.RTL_JIT_SEQ : Nat := 0x201F0044
/-- RTL_MISM (16, R685). -/
def R.RTL_MISM : Nat := 0x201F0050
/-- RTL_MISM.GO, bits 31:31, W1S. -/
def F.RTL_MISM_GO : Fld := ⟨R.RTL_MISM, 31, 31⟩
/-- RTL_MISM.NOCNT, bits 12:12, RW. -/
def F.RTL_MISM_NOCNT : Fld := ⟨R.RTL_MISM, 12, 12⟩
/-- RTL_MISM.ITEM, bits 10:8, RW. -/
def F.RTL_MISM_ITEM : Fld := ⟨R.RTL_MISM, 10, 8⟩
/-- RTL_MISM.TARGET, bits 5:4, RW. -/
def F.RTL_MISM_TARGET : Fld := ⟨R.RTL_MISM, 5, 4⟩
/-- RTL_MISM.PAIR, bits 1:0, RW. -/
def F.RTL_MISM_PAIR : Fld := ⟨R.RTL_MISM, 1, 0⟩
/-- RTL_STEP_LO (16, R687). -/
def R.RTL_STEP_LO : Nat := 0x201F0060
/-- RTL_STEP_HI (16, R687). -/
def R.RTL_STEP_HI : Nat := 0x201F0064
/-- RTL_STEP_GO (16, R687). -/
def R.RTL_STEP_GO : Nat := 0x201F0068

end Sys2Proof.Machine
end

