-- ==== Sys2Proof/Machine/Codes.lean ====
section
/-! DEFINITION. The journal codes of the fault-code tables of spec/01 to spec/16: code and class (R487). Where a table gives a class by case, the entry holds class 1 and the raising rule gives the class. -/

namespace Sys2Proof.Machine

/-- A journal code with the class its table gives. -/
structure Code where
  code : BitVec 16
  cls : Nat
deriving DecidableEq, Repr

/-- FW_WRITE_DENIED: class 1 WARN (spec/01). -/
def C.FW_WRITE_DENIED : Code := ⟨0x0101, 1⟩
/-- IDL_LANE_ERROR: class 0 LOG (spec/01). -/
def C.IDL_LANE_ERROR : Code := ⟨0x0102, 0⟩
/-- IDL_LANE_DOWN: class 1 WARN (spec/01). -/
def C.IDL_LANE_DOWN : Code := ⟨0x0103, 1⟩
/-- IDL_COPY_MISMATCH: class 4 SAFE (spec/01). -/
def C.IDL_COPY_MISMATCH : Code := ⟨0x0104, 4⟩
/-- IDL_LOST: class 4 SAFE (spec/01). -/
def C.IDL_LOST : Code := ⟨0x0105, 4⟩
/-- CLK_MON_CPU: class 4 SAFE (spec/01). -/
def C.CLK_MON_CPU : Code := ⟨0x0106, 4⟩
/-- CLK_MON_CTRL: class 4 SAFE (spec/01). -/
def C.CLK_MON_CTRL : Code := ⟨0x0107, 4⟩
/-- XTAL25_LOSS: class 4 SAFE (spec/01). -/
def C.XTAL25_LOSS : Code := ⟨0x0108, 4⟩
/-- XTAL32_LOSS: class 1 WARN (spec/01). -/
def C.XTAL32_LOSS : Code := ⟨0x0109, 1⟩
/-- SMB_ACCESS_TIMEOUT: class 1 WARN (spec/01). -/
def C.SMB_ACCESS_TIMEOUT : Code := ⟨0x010A, 1⟩
/-- CLV_STEP: class 0 LOG (spec/02). -/
def C.CLV_STEP : Code := ⟨0x0201, 0⟩
/-- CLV_SYNC_LOST: class 1 WARN (spec/02). -/
def C.CLV_SYNC_LOST : Code := ⟨0x0202, 1⟩
/-- CLV_SYNC_LOCKED: class 0 LOG (spec/02). -/
def C.CLV_SYNC_LOCKED : Code := ⟨0x0203, 0⟩
/-- CLV_RATE_LIMIT: class 1 WARN (spec/02). -/
def C.CLV_RATE_LIMIT : Code := ⟨0x0204, 1⟩
/-- JRN_OVERRUN: class 1 WARN (spec/02). -/
def C.JRN_OVERRUN : Code := ⟨0x0205, 1⟩
/-- JRN_PIN_LOST: class 1 WARN (spec/02). -/
def C.JRN_PIN_LOST : Code := ⟨0x0206, 1⟩
/-- JRN_START: class 0 LOG (spec/02). -/
def C.JRN_START : Code := ⟨0x0207, 0⟩
/-- MODE_REFUSED: class 0 LOG (spec/03). -/
def C.MODE_REFUSED : Code := ⟨0x010B, 0⟩
/-- EN_DISCREPANCY: class 4 SAFE (spec/03). -/
def C.EN_DISCREPANCY : Code := ⟨0x010C, 4⟩
/-- EN_OPENED: class 1 WARN (spec/03). -/
def C.EN_OPENED : Code := ⟨0x010D, 1⟩
/-- ARMING_TIMEOUT: class 4 SAFE (spec/03). -/
def C.ARMING_TIMEOUT : Code := ⟨0x010E, 4⟩
/-- SELFTEST_FAIL: class 4 SAFE (spec/03). -/
def C.SELFTEST_FAIL : Code := ⟨0x010F, 4⟩
/-- TEST_REFUSED: class 0 LOG (spec/03). -/
def C.TEST_REFUSED : Code := ⟨0x0110, 0⟩
/-- MODE_CHANGE: class 0 LOG (spec/03). -/
def C.MODE_CHANGE : Code := ⟨0x0111, 0⟩
/-- CLE_OVERRUN: class 1 WARN (spec/04). -/
def C.CLE_OVERRUN : Code := ⟨0x0501, 1⟩
/-- CLE_FOLLOW_ERR: class FE_CFG.CLASS, reset 1 WARN (spec/04). -/
def C.CLE_FOLLOW_ERR : Code := ⟨0x0502, 1⟩
/-- CLE_NUMERIC: class 1 WARN (spec/04). -/
def C.CLE_NUMERIC : Code := ⟨0x0503, 1⟩
/-- CLE_LIMIT_ORDER: class 1 WARN (spec/04). -/
def C.CLE_LIMIT_ORDER : Code := ⟨0x0504, 1⟩
/-- CLE_CFG_LOCKED: class 0 LOG (spec/04). -/
def C.CLE_CFG_LOCKED : Code := ⟨0x0505, 0⟩
/-- CLE_CFG_INVALID: class 1 WARN (spec/04). -/
def C.CLE_CFG_INVALID : Code := ⟨0x0506, 1⟩
/-- CLE_COEF_BUSY_WR: class 1 WARN (spec/04). -/
def C.CLE_COEF_BUSY_WR : Code := ⟨0x0507, 1⟩
/-- CLE_ECC_CORR: class 0 LOG (spec/04). -/
def C.CLE_ECC_CORR : Code := ⟨0x0508, 0⟩
/-- CLE_ECC_UNCORR: class 4 SAFE (spec/04). -/
def C.CLE_ECC_UNCORR : Code := ⟨0x0509, 4⟩
/-- CLE_LANE_FAULT: class 1 WARN (spec/04). -/
def C.CLE_LANE_FAULT : Code := ⟨0x050A, 1⟩
/-- CLE_LANE_RETIRED: class 3 DEGRADE, shared resource (spec/04). -/
def C.CLE_LANE_RETIRED : Code := ⟨0x050B, 3⟩
/-- CLE_SUSPENDED: class 0 LOG (spec/04). -/
def C.CLE_SUSPENDED : Code := ⟨0x050C, 0⟩
/-- TMU_OVERCURRENT: class 3 DEGRADE, assigned to the system (spec/05). -/
def C.TMU_OVERCURRENT : Code := ⟨0x0601, 3⟩
/-- TMU_SENSOR_FAULT: class 3 DEGRADE, assigned to the system (spec/05). -/
def C.TMU_SENSOR_FAULT : Code := ⟨0x0602, 3⟩
/-- TMU_POS_INVALID: class 4 SAFE; 1 WARN if REACQ_EN = 1 (spec/05). -/
def C.TMU_POS_INVALID : Code := ⟨0x0603, 4⟩
/-- TMU_POS_REENTRY: class 0 LOG (spec/05). -/
def C.TMU_POS_REENTRY : Code := ⟨0x0604, 0⟩
/-- TMU_VDC_OV: class 4 SAFE (spec/05). -/
def C.TMU_VDC_OV : Code := ⟨0x0605, 4⟩
/-- TMU_VDC_LOW: class 2 DERATE (spec/05). -/
def C.TMU_VDC_LOW : Code := ⟨0x0606, 2⟩
/-- TMU_OVERSPEED: class 2 DERATE (spec/05). -/
def C.TMU_OVERSPEED : Code := ⟨0x0607, 2⟩
/-- TMU_OVERSPEED_TRIP: class 4 SAFE (spec/05). -/
def C.TMU_OVERSPEED_TRIP : Code := ⟨0x0608, 4⟩
/-- TMU_SHORT_BOTH_SIDES: class 4 SAFE (spec/05). -/
def C.TMU_SHORT_BOTH_SIDES : Code := ⟨0x0609, 4⟩
/-- TMU_PRELOAD_FAIL: class 1 WARN (spec/05). -/
def C.TMU_PRELOAD_FAIL : Code := ⟨0x060A, 1⟩
/-- TMU_PLANE_CHANGE: class 0 LOG (spec/05). -/
def C.TMU_PLANE_CHANGE : Code := ⟨0x060B, 0⟩
/-- TMU_VSAT: class 0 LOG (spec/05). -/
def C.TMU_VSAT : Code := ⟨0x060C, 0⟩
/-- TMU_BC_BUDGET: class 2 DERATE (spec/05). -/
def C.TMU_BC_BUDGET : Code := ⟨0x060D, 2⟩
/-- TMU_BC_TEST_FAIL: class 2 DERATE (spec/05). -/
def C.TMU_BC_TEST_FAIL : Code := ⟨0x060E, 2⟩
/-- TMU_CFG_LOCKED: class 0 LOG (spec/05). -/
def C.TMU_CFG_LOCKED : Code := ⟨0x060F, 0⟩
/-- ADC_SEQ_LATE: class 1 WARN (spec/05). -/
def C.ADC_SEQ_LATE : Code := ⟨0x0901, 1⟩
/-- ADC_CAL_FAIL: class 1 WARN (spec/05). -/
def C.ADC_CAL_FAIL : Code := ⟨0x0902, 1⟩
/-- ADC_CORE_SHORT: class 3 DEGRADE, shared resource (spec/05). -/
def C.ADC_CORE_SHORT : Code := ⟨0x0903, 3⟩
/-- ADC_SD_LOSS: class 3 DEGRADE, assigned to the system whose TMU_SYS_ISEL names the input; 1 WARN otherwise (spec/05). -/
def C.ADC_SD_LOSS : Code := ⟨0x0904, 3⟩
/-- ADC_WC_TRIP: class 0 LOG (spec/05). -/
def C.ADC_WC_TRIP : Code := ⟨0x0905, 0⟩
/-- ADC_SD_CMP_TRIP: class 0 LOG (spec/05). -/
def C.ADC_SD_CMP_TRIP : Code := ⟨0x0906, 0⟩
/-- ADC_CFG_INVALID: class 1 WARN (spec/05). -/
def C.ADC_CFG_INVALID : Code := ⟨0x0907, 1⟩
/-- PFB_RES_AMP: class R293 (spec/06). -/
def C.PFB_RES_AMP : Code := ⟨0x0701, 1⟩
/-- PFB_RES_EXC: class R293 (spec/06). -/
def C.PFB_RES_EXC : Code := ⟨0x0702, 1⟩
/-- PFB_RES_TRACK: class R293 (spec/06). -/
def C.PFB_RES_TRACK : Code := ⟨0x0703, 1⟩
/-- PFB_RES_ADC: class R293 (spec/06). -/
def C.PFB_RES_ADC : Code := ⟨0x0704, 1⟩
/-- PFB_RES_CAL_LIMIT: class 1 WARN (spec/06). -/
def C.PFB_RES_CAL_LIMIT : Code := ⟨0x0705, 1⟩
/-- PFB_RES_CHECK_FAIL: class 4 SAFE (spec/06). -/
def C.PFB_RES_CHECK_FAIL : Code := ⟨0x0706, 4⟩
/-- PFB_ENC_QERR: class R293 (spec/06). -/
def C.PFB_ENC_QERR : Code := ⟨0x0707, 1⟩
/-- PFB_ENC_IDX_FIRST: class 0 LOG (spec/06). -/
def C.PFB_ENC_IDX_FIRST : Code := ⟨0x0708, 0⟩
/-- PFB_ENC_IDX_CORR: class 0 LOG (spec/06). -/
def C.PFB_ENC_IDX_CORR : Code := ⟨0x0709, 0⟩
/-- PFB_ENC_IDX_FAULT: class R293 (spec/06). -/
def C.PFB_ENC_IDX_FAULT : Code := ⟨0x070A, 1⟩
/-- PFB_CMP_EVENT: class 0 LOG (spec/06). -/
def C.PFB_CMP_EVENT : Code := ⟨0x070B, 0⟩
/-- PFB_CFG_INVALID: class 1 WARN (spec/06). -/
def C.PFB_CFG_INVALID : Code := ⟨0x070C, 1⟩
/-- PWM_LEG_CONFLICT: class 1 WARN (spec/07). -/
def C.PWM_LEG_CONFLICT : Code := ⟨0x0801, 1⟩
/-- PWM_CONFIRM_TMO: class By group (spec/07). -/
def C.PWM_CONFIRM_TMO : Code := ⟨0x0802, 1⟩
/-- PWM_GATE_UNCMD: class By group (spec/07). -/
def C.PWM_GATE_UNCMD : Code := ⟨0x0803, 1⟩
/-- PWM_GATE_NO_ON: class By group (spec/07). -/
def C.PWM_GATE_NO_ON : Code := ⟨0x0804, 1⟩
/-- GDR_GC_FAULT: class By group (spec/07). -/
def C.GDR_GC_FAULT : Code := ⟨0x0805, 1⟩
/-- GDR_LG_VDS: class By group (spec/07). -/
def C.GDR_LG_VDS : Code := ⟨0x0806, 1⟩
/-- GDR_LG_CC: class By group (spec/07). -/
def C.GDR_LG_CC : Code := ⟨0x0807, 1⟩
/-- GDR_MULTI_LEG: class 0 LOG (spec/07). -/
def C.GDR_MULTI_LEG : Code := ⟨0x0808, 0⟩
/-- GDR_BOOT_UV: class By group (spec/07). -/
def C.GDR_BOOT_UV : Code := ⟨0x0809, 1⟩
/-- GDR_CP_FAIL: class By group (spec/07). -/
def C.GDR_CP_FAIL : Code := ⟨0x080A, 1⟩
/-- GDR_DIAG_FAIL: class 1 WARN (spec/07). -/
def C.GDR_DIAG_FAIL : Code := ⟨0x080B, 1⟩
/-- GDR_LATCH_CLEAR: class 0 LOG (spec/07). -/
def C.GDR_LATCH_CLEAR : Code := ⟨0x080C, 0⟩
/-- GDR_ABC_BUDGET: class 2 DERATE (spec/07). -/
def C.GDR_ABC_BUDGET : Code := ⟨0x080D, 2⟩
/-- PWM_VALUE_INVALID: class 0 LOG (spec/07). -/
def C.PWM_VALUE_INVALID : Code := ⟨0x080E, 0⟩
/-- PWM_CFG_INVALID: class 1 WARN (spec/07). -/
def C.PWM_CFG_INVALID : Code := ⟨0x080F, 1⟩
/-- LVC_CFG_INVALID: class 1 WARN (spec/08). -/
def C.LVC_CFG_INVALID : Code := ⟨0x0A01, 1⟩
/-- LVC_VIN_LOW: class 1 WARN (spec/08). -/
def C.LVC_VIN_LOW : Code := ⟨0x0A02, 1⟩
/-- LVC_BUS_FAULT: class 1 WARN (spec/08). -/
def C.LVC_BUS_FAULT : Code := ⟨0x0A03, 1⟩
/-- LVC_DCX_START_FAIL: class 1 WARN (spec/08). -/
def C.LVC_DCX_START_FAIL : Code := ⟨0x0A04, 1⟩
/-- LVC_OUT_OV: class 1 WARN (spec/08). -/
def C.LVC_OUT_OV : Code := ⟨0x0A05, 1⟩
/-- LVC_OUT_UV: class 1 WARN (spec/08). -/
def C.LVC_OUT_UV : Code := ⟨0x0A06, 1⟩
/-- LVC_PHASE_OC: class 2 DERATE (spec/08). -/
def C.LVC_PHASE_OC : Code := ⟨0x0A07, 2⟩
/-- LVC_PHASE_LOST: class 2 DERATE (spec/08). -/
def C.LVC_PHASE_LOST : Code := ⟨0x0A08, 2⟩
/-- LVC_RS_OPEN: class 1 WARN (spec/08). -/
def C.LVC_RS_OPEN : Code := ⟨0x0A09, 1⟩
/-- LVC_LOAD_STEP: class 0 LOG (spec/08). -/
def C.LVC_LOAD_STEP : Code := ⟨0x0A0A, 0⟩
/-- LVC_HEADROOM: class 1 WARN (spec/08). -/
def C.LVC_HEADROOM : Code := ⟨0x0A0B, 1⟩
/-- LVC_ILIM: class 1 WARN (spec/08). -/
def C.LVC_ILIM : Code := ⟨0x0A0C, 1⟩
/-- LVC_STOPPED: class 0 LOG (spec/08). -/
def C.LVC_STOPPED : Code := ⟨0x0A0D, 0⟩
/-- LVC_SHED: class 0 LOG (spec/08). -/
def C.LVC_SHED : Code := ⟨0x0A0E, 0⟩
/-- CHG_CFG_INVALID: class 1 WARN (spec/09). -/
def C.CHG_CFG_INVALID : Code := ⟨0x0B01, 1⟩
/-- CHG_GRID_TIMEOUT: class 1 WARN (spec/09). -/
def C.CHG_GRID_TIMEOUT : Code := ⟨0x0B02, 1⟩
/-- CHG_GRID_FAULT: class 1 WARN (spec/09). -/
def C.CHG_GRID_FAULT : Code := ⟨0x0B03, 1⟩
/-- CHG_PLL_UNLOCK: class 1 WARN (spec/09). -/
def C.CHG_PLL_UNLOCK : Code := ⟨0x0B04, 1⟩
/-- CHG_VBUS_OV: class 1 WARN (spec/09). -/
def C.CHG_VBUS_OV : Code := ⟨0x0B05, 1⟩
/-- CHG_VBAT_OV: class 1 WARN (spec/09). -/
def C.CHG_VBAT_OV : Code := ⟨0x0B06, 1⟩
/-- CHG_GRID_OC: class 1 WARN (spec/09). -/
def C.CHG_GRID_OC : Code := ⟨0x0B07, 1⟩
/-- CHG_BATT_OC: class 1 WARN (spec/09). -/
def C.CHG_BATT_OC : Code := ⟨0x0B08, 1⟩
/-- CHG_PARK_LOST: class 1 WARN (spec/09). -/
def C.CHG_PARK_LOST : Code := ⟨0x0B09, 1⟩
/-- CHG_VSAT: class 0 LOG (spec/09). -/
def C.CHG_VSAT : Code := ⟨0x0B0A, 0⟩
/-- CHG_PILOT_CHANGE: class 0 LOG (spec/09). -/
def C.CHG_PILOT_CHANGE : Code := ⟨0x0B0B, 0⟩
/-- CHG_STOPPED: class 0 LOG (spec/09). -/
def C.CHG_STOPPED : Code := ⟨0x0B0C, 0⟩
/-- ACT_CFG_INVALID: class 1 WARN (spec/10). -/
def C.ACT_CFG_INVALID : Code := ⟨0x0C01, 1⟩
/-- ACT_MOVE_END: class 0 LOG (spec/10). -/
def C.ACT_MOVE_END : Code := ⟨0x0C02, 0⟩
/-- ACT_STALL: class 1 WARN (spec/10). -/
def C.ACT_STALL : Code := ⟨0x0C03, 1⟩
/-- ACT_MOVE_TMO: class 1 WARN (spec/10). -/
def C.ACT_MOVE_TMO : Code := ⟨0x0C04, 1⟩
/-- ACT_REFUSED: class 0 LOG (spec/10). -/
def C.ACT_REFUSED : Code := ⟨0x0C05, 0⟩
/-- ACT_SUP_LOW: class 1 WARN (spec/10). -/
def C.ACT_SUP_LOW : Code := ⟨0x0C06, 1⟩
/-- ACT_PL_STATE: class 0 LOG (spec/10). -/
def C.ACT_PL_STATE : Code := ⟨0x0C07, 0⟩
/-- ACT_PL_INHIBIT: class 1 WARN (spec/10). -/
def C.ACT_PL_INHIBIT : Code := ⟨0x0C08, 1⟩
/-- SMON_CODE_CHANGE: class 0 LOG (spec/11). -/
def C.SMON_CODE_CHANGE : Code := ⟨0x0401, 0⟩
/-- SMON_WD_ERROR: class 1 WARN (spec/11). -/
def C.SMON_WD_ERROR : Code := ⟨0x0402, 1⟩
/-- SMON_WD_FAIL: class 4 SAFE for P0; 3 DEGRADE, shared resource, for P1 and P2 (spec/11). -/
def C.SMON_WD_FAIL : Code := ⟨0x0403, 4⟩
/-- SMON_XCMP_MISMATCH: class 4 SAFE (spec/11). -/
def C.SMON_XCMP_MISMATCH : Code := ⟨0x0404, 4⟩
/-- SMON_XCMP_LOST: class 4 SAFE (spec/11). -/
def C.SMON_XCMP_LOST : Code := ⟨0x0405, 4⟩
/-- SMON_SEAL_FAIL: class 1 WARN (spec/11). -/
def C.SMON_SEAL_FAIL : Code := ⟨0x0406, 1⟩
/-- SMON_UNSEALED: class 1 WARN (spec/11). -/
def C.SMON_UNSEALED : Code := ⟨0x0407, 1⟩
/-- SMON_SEAL_PROG: class 0 LOG (spec/11). -/
def C.SMON_SEAL_PROG : Code := ⟨0x0408, 0⟩
/-- SMON_REACT_INVALID: class 1 WARN (spec/11). -/
def C.SMON_REACT_INVALID : Code := ⟨0x0409, 1⟩
/-- SMON_OUT_FAULT: class 4 SAFE (spec/11). -/
def C.SMON_OUT_FAULT : Code := ⟨0x040A, 4⟩
/-- SMON_SADC_FAULT: class 4 SAFE (spec/11). -/
def C.SMON_SADC_FAULT : Code := ⟨0x040B, 4⟩
/-- SMONB_VDC_OV: class 4 SAFE (spec/11). -/
def C.SMONB_VDC_OV : Code := ⟨0x040C, 4⟩
/-- SMONB_OVERSPEED: class 4 SAFE (spec/11). -/
def C.SMONB_OVERSPEED : Code := ⟨0x040D, 4⟩
/-- SMONB_ASC_IMPLAUS: class 1 WARN (spec/11). -/
def C.SMONB_ASC_IMPLAUS : Code := ⟨0x040E, 1⟩
/-- SMONB_SUPPLY_CUT: class 0 LOG (spec/11). -/
def C.SMONB_SUPPLY_CUT : Code := ⟨0x040F, 0⟩
/-- LKS_RECOVERY: class 0 LOG (spec/12). -/
def C.LKS_RECOVERY : Code := ⟨0x0301, 0⟩
/-- LKS_CHECKER_DISAGREE: class 1 WARN (spec/12). -/
def C.LKS_CHECKER_DISAGREE : Code := ⟨0x0302, 1⟩
/-- LKS_CHECKER_FAIL: class R511, R529 (spec/12). -/
def C.LKS_CHECKER_FAIL : Code := ⟨0x0303, 1⟩
/-- LKS_PAIR_RETIRED: class R511, R529 (spec/12). -/
def C.LKS_PAIR_RETIRED : Code := ⟨0x0304, 1⟩
/-- LKS_TAKEOVER: class 0 LOG (spec/12). -/
def C.LKS_TAKEOVER : Code := ⟨0x0305, 0⟩
/-- LKS_TAKEOVER_FAIL: class 4 SAFE (spec/12). -/
def C.LKS_TAKEOVER_FAIL : Code := ⟨0x0306, 4⟩
/-- LKS_SPLIT: class 0 LOG (spec/12). -/
def C.LKS_SPLIT : Code := ⟨0x0307, 0⟩
/-- LKS_HO_TMO: class 1 WARN (spec/12). -/
def C.LKS_HO_TMO : Code := ⟨0x0308, 1⟩
/-- LKS_VRF_CORR: class 0 LOG (spec/12). -/
def C.LKS_VRF_CORR : Code := ⟨0x0309, 0⟩
/-- LKS_VRF_UNCORR: class 5 FATAL (spec/12). -/
def C.LKS_VRF_UNCORR : Code := ⟨0x030A, 5⟩
/-- LKS_TRI_DISSENT: class 0 LOG (spec/12). -/
def C.LKS_TRI_DISSENT : Code := ⟨0x030B, 0⟩
/-- LKS_TRI_CORE_RETIRED: class 1 WARN (spec/12). -/
def C.LKS_TRI_CORE_RETIRED : Code := ⟨0x030C, 1⟩
/-- LKS_SPLIT_REFUSED: class 0 LOG (spec/12). -/
def C.LKS_SPLIT_REFUSED : Code := ⟨0x030D, 0⟩
/-- THM_ZONE_WARN: class 1 WARN (spec/13). -/
def C.THM_ZONE_WARN : Code := ⟨0x0D01, 1⟩
/-- THM_ZONE_DERATE: class 2 DERATE (spec/13). -/
def C.THM_ZONE_DERATE : Code := ⟨0x0D02, 2⟩
/-- THM_ZONE_TRIP: class By KIND (R539) (spec/13). -/
def C.THM_ZONE_TRIP : Code := ⟨0x0D03, 1⟩
/-- THM_RISE: class 2 DERATE (spec/13). -/
def C.THM_RISE : Code := ⟨0x0D04, 2⟩
/-- THM_SENSOR_BROKEN: class 1 WARN (spec/13). -/
def C.THM_SENSOR_BROKEN : Code := ⟨0x0D05, 1⟩
/-- THM_DIE_SHUTDOWN: class 4 SAFE (spec/13). -/
def C.THM_DIE_SHUTDOWN : Code := ⟨0x0D06, 4⟩
/-- THM_HARD_CUT: class 0 LOG (spec/13). -/
def C.THM_HARD_CUT : Code := ⟨0x0D07, 0⟩
/-- THM_CFG_INVALID: class 1 WARN (spec/13). -/
def C.THM_CFG_INVALID : Code := ⟨0x0D08, 1⟩
/-- SUP_VBAT_UV: class 1 WARN (spec/13). -/
def C.SUP_VBAT_UV : Code := ⟨0x0D09, 1⟩
/-- SUP_VBAT_OV: class 1 WARN (spec/13). -/
def C.SUP_VBAT_OV : Code := ⟨0x0D0A, 1⟩
/-- SUP_VGD_FAULT: class 1 WARN (spec/13). -/
def C.SUP_VGD_FAULT : Code := ⟨0x0D0B, 1⟩
/-- SUP_RAIL_FAULT: class 4 SAFE (spec/13). -/
def C.SUP_RAIL_FAULT : Code := ⟨0x0D0C, 4⟩
/-- HOST_LOST: class 1 WARN (spec/14). -/
def C.HOST_LOST : Code := ⟨0x0E01, 1⟩
/-- HOST_RESUMED: class 0 LOG (spec/14). -/
def C.HOST_RESUMED : Code := ⟨0x0E02, 0⟩
/-- HIF_CRC_ERROR: class 0 LOG (spec/14). -/
def C.HIF_CRC_ERROR : Code := ⟨0x0E03, 0⟩
/-- HIF_SEQ_GAP: class 0 LOG (spec/14). -/
def C.HIF_SEQ_GAP : Code := ⟨0x0E04, 0⟩
/-- HIF_RX_OVERFLOW: class 1 WARN (spec/14). -/
def C.HIF_RX_OVERFLOW : Code := ⟨0x0E05, 1⟩
/-- HIF_CAN_BUSOFF: class 1 WARN (spec/14). -/
def C.HIF_CAN_BUSOFF : Code := ⟨0x0E06, 1⟩
/-- HIF_ETH_LINK: class 1 WARN (spec/14). -/
def C.HIF_ETH_LINK : Code := ⟨0x0E07, 1⟩
/-- HIF_CFG_INVALID: class 1 WARN (spec/14). -/
def C.HIF_CFG_INVALID : Code := ⟨0x0E08, 1⟩
/-- HIF_FRAME_RX: class 0 LOG (spec/14). -/
def C.HIF_FRAME_RX : Code := ⟨0x0E09, 0⟩
/-- HIF_FRAME_TX: class 0 LOG (spec/14). -/
def C.HIF_FRAME_TX : Code := ⟨0x0E0A, 0⟩
/-- OLK_LINK_DEGRADED: class 1 WARN (spec/14). -/
def C.OLK_LINK_DEGRADED : Code := ⟨0x0E0B, 1⟩
/-- OLK_LINK_DOWN: class 1 WARN (spec/14). -/
def C.OLK_LINK_DOWN : Code := ⟨0x0E0C, 1⟩
/-- OLK_LINK_UP: class 0 LOG (spec/14). -/
def C.OLK_LINK_UP : Code := ⟨0x0E0D, 0⟩
/-- OLK_RING_BROKEN: class 1 WARN (spec/14). -/
def C.OLK_RING_BROKEN : Code := ⟨0x0E0E, 1⟩
/-- OLK_RING_RESTORED: class 0 LOG (spec/14). -/
def C.OLK_RING_RESTORED : Code := ⟨0x0E0F, 0⟩
/-- OLK_PEER_LOST: class 1 WARN (spec/14). -/
def C.OLK_PEER_LOST : Code := ⟨0x0E10, 1⟩
/-- OLK_PEER_SAFE: class 1 WARN (spec/14). -/
def C.OLK_PEER_SAFE : Code := ⟨0x0E11, 1⟩
/-- OLK_ID_CONFLICT: class 1 WARN (spec/14). -/
def C.OLK_ID_CONFLICT : Code := ⟨0x0E12, 1⟩
/-- OLK_FRAME_RX: class 0 LOG (spec/14). -/
def C.OLK_FRAME_RX : Code := ⟨0x0E13, 0⟩
/-- OLK_FRAME_TX: class 0 LOG (spec/14). -/
def C.OLK_FRAME_TX : Code := ⟨0x0E14, 0⟩
/-- NVC_SFDP_FALLBACK: class 1 WARN (spec/15). -/
def C.NVC_SFDP_FALLBACK : Code := ⟨0x0F01, 1⟩
/-- NVC_LOG_COPIED: class 0 LOG (spec/15). -/
def C.NVC_LOG_COPIED : Code := ⟨0x0F02, 0⟩
/-- BOOT_SLOT_INVALID: class 1 WARN (spec/15). -/
def C.BOOT_SLOT_INVALID : Code := ⟨0x0F03, 1⟩
/-- BOOT_NO_IMAGE: class 4 SAFE (spec/15). -/
def C.BOOT_NO_IMAGE : Code := ⟨0x0F04, 4⟩
/-- BOOT_POD_FAIL: class 4 SAFE (spec/15). -/
def C.BOOT_POD_FAIL : Code := ⟨0x0F05, 4⟩
/-- UPD_STAGE_START: class 0 LOG (spec/15). -/
def C.UPD_STAGE_START : Code := ⟨0x0F06, 0⟩
/-- UPD_BLOCK_FAIL: class 1 WARN (spec/15). -/
def C.UPD_BLOCK_FAIL : Code := ⟨0x0F07, 1⟩
/-- UPD_STAGED: class 0 LOG (spec/15). -/
def C.UPD_STAGED : Code := ⟨0x0F08, 0⟩
/-- UPD_STAGE_INVALID: class 1 WARN (spec/15). -/
def C.UPD_STAGE_INVALID : Code := ⟨0x0F09, 1⟩
/-- UPD_ACT_DONE: class 0 LOG (spec/15). -/
def C.UPD_ACT_DONE : Code := ⟨0x0F0A, 0⟩
/-- UPD_ACT_SKIPPED: class 1 WARN (spec/15). -/
def C.UPD_ACT_SKIPPED : Code := ⟨0x0F0B, 1⟩
/-- UPD_MIG_DONE: class 0 LOG (spec/15). -/
def C.UPD_MIG_DONE : Code := ⟨0x0F0C, 0⟩
/-- UPD_REVERTED: class 1 WARN (spec/15). -/
def C.UPD_REVERTED : Code := ⟨0x0F0D, 1⟩
/-- UPD_CONFIRMED: class 0 LOG (spec/15). -/
def C.UPD_CONFIRMED : Code := ⟨0x0F0E, 0⟩
/-- SEC_KEY_OPEN: class 1 WARN (spec/15). -/
def C.SEC_KEY_OPEN : Code := ⟨0x0F0F, 1⟩
/-- PMC_OVERFLOW: class 0 LOG (spec/16). -/
def C.PMC_OVERFLOW : Code := ⟨0x0112, 0⟩
/-- GNG_ROM_BUILT: class 0 LOG (spec/16). -/
def C.GNG_ROM_BUILT : Code := ⟨0x0113, 0⟩
/-- RTL_UNLOCKED: class 0 LOG (spec/16). -/
def C.RTL_UNLOCKED : Code := ⟨0x0114, 0⟩
/-- RTL_WRITE_IGNORED: class 0 LOG (spec/16). -/
def C.RTL_WRITE_IGNORED : Code := ⟨0x0115, 0⟩
/-- RTL_INJECT: class 0 LOG (spec/16). -/
def C.RTL_INJECT : Code := ⟨0x0116, 0⟩

/-- The codes of the tables, part 1. -/
def C.table1 : List Code := [
  C.FW_WRITE_DENIED, C.IDL_LANE_ERROR, C.IDL_LANE_DOWN, C.IDL_COPY_MISMATCH, C.IDL_LOST, C.CLK_MON_CPU, C.CLK_MON_CTRL, C.XTAL25_LOSS, C.XTAL32_LOSS, C.SMB_ACCESS_TIMEOUT, C.CLV_STEP, C.CLV_SYNC_LOST, C.CLV_SYNC_LOCKED, C.CLV_RATE_LIMIT, C.JRN_OVERRUN, C.JRN_PIN_LOST, C.JRN_START, C.MODE_REFUSED, C.EN_DISCREPANCY, C.EN_OPENED, C.ARMING_TIMEOUT, C.SELFTEST_FAIL, C.TEST_REFUSED, C.MODE_CHANGE, C.CLE_OVERRUN, C.CLE_FOLLOW_ERR, C.CLE_NUMERIC, C.CLE_LIMIT_ORDER, C.CLE_CFG_LOCKED, C.CLE_CFG_INVALID, C.CLE_COEF_BUSY_WR, C.CLE_ECC_CORR, C.CLE_ECC_UNCORR, C.CLE_LANE_FAULT, C.CLE_LANE_RETIRED, C.CLE_SUSPENDED, C.TMU_OVERCURRENT, C.TMU_SENSOR_FAULT, C.TMU_POS_INVALID, C.TMU_POS_REENTRY, C.TMU_VDC_OV, C.TMU_VDC_LOW, C.TMU_OVERSPEED, C.TMU_OVERSPEED_TRIP, C.TMU_SHORT_BOTH_SIDES, C.TMU_PRELOAD_FAIL, C.TMU_PLANE_CHANGE, C.TMU_VSAT, C.TMU_BC_BUDGET, C.TMU_BC_TEST_FAIL, C.TMU_CFG_LOCKED, C.ADC_SEQ_LATE, C.ADC_CAL_FAIL, C.ADC_CORE_SHORT, C.ADC_SD_LOSS, C.ADC_WC_TRIP, C.ADC_SD_CMP_TRIP, C.ADC_CFG_INVALID, C.PFB_RES_AMP, C.PFB_RES_EXC]

/-- The codes of the tables, part 2. -/
def C.table2 : List Code := [
  C.PFB_RES_TRACK, C.PFB_RES_ADC, C.PFB_RES_CAL_LIMIT, C.PFB_RES_CHECK_FAIL, C.PFB_ENC_QERR, C.PFB_ENC_IDX_FIRST, C.PFB_ENC_IDX_CORR, C.PFB_ENC_IDX_FAULT, C.PFB_CMP_EVENT, C.PFB_CFG_INVALID, C.PWM_LEG_CONFLICT, C.PWM_CONFIRM_TMO, C.PWM_GATE_UNCMD, C.PWM_GATE_NO_ON, C.GDR_GC_FAULT, C.GDR_LG_VDS, C.GDR_LG_CC, C.GDR_MULTI_LEG, C.GDR_BOOT_UV, C.GDR_CP_FAIL, C.GDR_DIAG_FAIL, C.GDR_LATCH_CLEAR, C.GDR_ABC_BUDGET, C.PWM_VALUE_INVALID, C.PWM_CFG_INVALID, C.LVC_CFG_INVALID, C.LVC_VIN_LOW, C.LVC_BUS_FAULT, C.LVC_DCX_START_FAIL, C.LVC_OUT_OV, C.LVC_OUT_UV, C.LVC_PHASE_OC, C.LVC_PHASE_LOST, C.LVC_RS_OPEN, C.LVC_LOAD_STEP, C.LVC_HEADROOM, C.LVC_ILIM, C.LVC_STOPPED, C.LVC_SHED, C.CHG_CFG_INVALID, C.CHG_GRID_TIMEOUT, C.CHG_GRID_FAULT, C.CHG_PLL_UNLOCK, C.CHG_VBUS_OV, C.CHG_VBAT_OV, C.CHG_GRID_OC, C.CHG_BATT_OC, C.CHG_PARK_LOST, C.CHG_VSAT, C.CHG_PILOT_CHANGE, C.CHG_STOPPED, C.ACT_CFG_INVALID, C.ACT_MOVE_END, C.ACT_STALL, C.ACT_MOVE_TMO, C.ACT_REFUSED, C.ACT_SUP_LOW, C.ACT_PL_STATE, C.ACT_PL_INHIBIT, C.SMON_CODE_CHANGE]

/-- The codes of the tables, part 3. -/
def C.table3 : List Code := [
  C.SMON_WD_ERROR, C.SMON_WD_FAIL, C.SMON_XCMP_MISMATCH, C.SMON_XCMP_LOST, C.SMON_SEAL_FAIL, C.SMON_UNSEALED, C.SMON_SEAL_PROG, C.SMON_REACT_INVALID, C.SMON_OUT_FAULT, C.SMON_SADC_FAULT, C.SMONB_VDC_OV, C.SMONB_OVERSPEED, C.SMONB_ASC_IMPLAUS, C.SMONB_SUPPLY_CUT, C.LKS_RECOVERY, C.LKS_CHECKER_DISAGREE, C.LKS_CHECKER_FAIL, C.LKS_PAIR_RETIRED, C.LKS_TAKEOVER, C.LKS_TAKEOVER_FAIL, C.LKS_SPLIT, C.LKS_HO_TMO, C.LKS_VRF_CORR, C.LKS_VRF_UNCORR, C.LKS_TRI_DISSENT, C.LKS_TRI_CORE_RETIRED, C.LKS_SPLIT_REFUSED, C.THM_ZONE_WARN, C.THM_ZONE_DERATE, C.THM_ZONE_TRIP, C.THM_RISE, C.THM_SENSOR_BROKEN, C.THM_DIE_SHUTDOWN, C.THM_HARD_CUT, C.THM_CFG_INVALID, C.SUP_VBAT_UV, C.SUP_VBAT_OV, C.SUP_VGD_FAULT, C.SUP_RAIL_FAULT, C.HOST_LOST, C.HOST_RESUMED, C.HIF_CRC_ERROR, C.HIF_SEQ_GAP, C.HIF_RX_OVERFLOW, C.HIF_CAN_BUSOFF, C.HIF_ETH_LINK, C.HIF_CFG_INVALID, C.HIF_FRAME_RX, C.HIF_FRAME_TX, C.OLK_LINK_DEGRADED, C.OLK_LINK_DOWN, C.OLK_LINK_UP, C.OLK_RING_BROKEN, C.OLK_RING_RESTORED, C.OLK_PEER_LOST, C.OLK_PEER_SAFE, C.OLK_ID_CONFLICT, C.OLK_FRAME_RX, C.OLK_FRAME_TX, C.NVC_SFDP_FALLBACK]

/-- The codes of the tables, part 4. -/
def C.table4 : List Code := [
  C.NVC_LOG_COPIED, C.BOOT_SLOT_INVALID, C.BOOT_NO_IMAGE, C.BOOT_POD_FAIL, C.UPD_STAGE_START, C.UPD_BLOCK_FAIL, C.UPD_STAGED, C.UPD_STAGE_INVALID, C.UPD_ACT_DONE, C.UPD_ACT_SKIPPED, C.UPD_MIG_DONE, C.UPD_REVERTED, C.UPD_CONFIRMED, C.SEC_KEY_OPEN, C.PMC_OVERFLOW, C.GNG_ROM_BUILT, C.RTL_UNLOCKED, C.RTL_WRITE_IGNORED, C.RTL_INJECT]

/-- The codes of the tables. -/
def C.table : List Code := C.table1 ++ C.table2 ++ C.table3 ++ C.table4

end Sys2Proof.Machine
end

