-- ==== Sys2Proof/Machine/Float.lean ====
section
/-! DEFINITION. Arithmetic on IEEE 754 binary32 numbers held as their 32 bits (R12): exact in natural numbers, then rounded to nearest, ties to even, with subnormal operands and results taken as signed zeros (R120). -/

namespace Sys2Proof.Machine

/-- The sign bit. -/
def fSign (x : F32) : Bool := x.getLsbD 31

/-- The biased exponent. -/
def fExp (x : F32) : Nat := (x.toNat / 2 ^ 23) % 256

/-- The fraction bits. -/
def fFrac (x : F32) : Nat := x.toNat % 2 ^ 23

/-- Not a number. -/
def fIsNaN (x : F32) : Bool := fExp x == 255 && fFrac x != 0

/-- Plus or minus infinity. -/
def fIsInf (x : F32) : Bool := fExp x == 255 && fFrac x == 0

/-- Neither NaN nor infinite. -/
def fIsFinite (x : F32) : Bool := fExp x != 255

/-- A zero, or a subnormal taken as one (R120). -/
def fIsZero (x : F32) : Bool := fExp x == 0

/-- The NaN an invalid operation gives. -/
def fNaN : F32 := 0x7FC00000

/-- Infinity of the given sign. -/
def fInf (neg : Bool) : F32 := if neg then 0xFF800000 else 0x7F800000

/-- Zero of the given sign. -/
def fZero (neg : Bool) : F32 := if neg then 0x80000000 else 0x00000000

/-- The significand of a finite number (0 for a zero or a subnormal): its value is significand × 2^(exponent - 150). -/
def fMant (x : F32) : Nat := if fExp x == 0 then 0 else 2 ^ 23 + fFrac x

/-- A subnormal flushed to a zero of its sign (R120). -/
def fFlush (x : F32) : F32 := if fExp x == 0 then fZero (fSign x) else x

/-- Round `m × 2^(e - b)`, `sticky` saying that the exact value is a little greater in magnitude, to binary32: to nearest,
ties to even; overflow gives an infinity, a result under the normal range a zero of its sign (R120). The exponent is
`e` less the bias `b`, so that only natural numbers occur. -/
def fRound (neg : Bool) (m e b : Nat) (sticky : Bool) : F32 :=
  if m = 0 then fZero neg else
  let l := Nat.log2 m
  -- round to 24 bits
  let q := if l ≤ 23 then m * 2 ^ (23 - l) else
    let sh := l - 23
    let q := m / 2 ^ sh
    let r := m % 2 ^ sh
    let half := 2 ^ (sh - 1)
    if half < r || (r == half && (sticky || q % 2 == 1)) then q + 1 else q
  let carry := if q = 2 ^ 24 then 1 else 0
  let frac := if q = 2 ^ 24 then 0 else q - 2 ^ 23
  -- biased exponent + b
  let be := l + e + 127 + carry
  if be ≤ b then fZero neg
  else if 255 ≤ be - b then fInf neg
  else BitVec.ofNat 32 ((if neg then 2 ^ 31 else 0) + (be - b) * 2 ^ 23 + frac)

/-- The negative of a number (the sign bit changed). -/
def fNeg (x : F32) : F32 := x ^^^ 0x80000000

/-- The absolute value (the sign bit cleared). -/
def fAbs (x : F32) : F32 := x &&& 0x7FFFFFFF

/-- Sum. -/
def fAdd (x y : F32) : F32 :=
  if fIsNaN x || fIsNaN y then fNaN
  else if fIsInf x then (if fIsInf y && fSign x != fSign y then fNaN else x)
  else if fIsInf y then y
  else
    let ex := fExp x
    let ey := fExp y
    let e := if ex ≤ ey then ex else ey
    let mx := fMant x * 2 ^ (ex - e)
    let my := fMant y * 2 ^ (ey - e)
    if fSign x == fSign y then
      (if mx + my = 0 then fZero (fSign x) else fRound (fSign x) (mx + my) e 150 false)
    else if mx = my then fZero false
    else if my < mx then fRound (fSign x) (mx - my) e 150 false
    else fRound (fSign y) (my - mx) e 150 false

/-- Difference. -/
def fSub (x y : F32) : F32 := fAdd x (fNeg y)

/-- Product. -/
def fMul (x y : F32) : F32 :=
  if fIsNaN x || fIsNaN y then fNaN
  else
    let neg := fSign x != fSign y
    if fIsInf x then (if fIsZero y then fNaN else fInf neg)
    else if fIsInf y then (if fIsZero x then fNaN else fInf neg)
    else fRound neg (fMant x * fMant y) (fExp x + fExp y) 300 false

/-- Quotient. -/
def fDiv (x y : F32) : F32 :=
  if fIsNaN x || fIsNaN y then fNaN
  else
    let neg := fSign x != fSign y
    if fIsInf x then (if fIsInf y then fNaN else fInf neg)
    else if fIsInf y then fZero neg
    else if fIsZero y then (if fIsZero x then fNaN else fInf neg)
    else
      let n := fMant x * 2 ^ 32
      fRound neg (n / fMant y) (fExp x + 300) (fExp y + 332) (n % fMant y != 0)

/-- `x × y + z` rounded once (a fused multiply-add). -/
def fFma (x y z : F32) : F32 :=
  if fIsNaN x || fIsNaN y || fIsNaN z || fIsInf x || fIsInf y || fIsInf z then fAdd (fMul x y) z
  else
    let neg := fSign x != fSign y
    let p := fMant x * fMant y * 2 ^ (fExp x + fExp y)
    let c := fMant z * 2 ^ (fExp z + 150)
    if neg == fSign z then fRound neg (p + c) 0 300 false
    else if p = c then fZero (neg && fSign z)
    else if c < p then fRound neg (p - c) 0 300 false
    else fRound (fSign z) (c - p) 0 300 false

/-- Integer square root by bits: the greatest `r` with `r * r ≤ n`, trying bits `k-1` to 0. -/
def natSqrtBits (n : Nat) : Nat → Nat → Nat
  | 0, r => r
  | k + 1, r => natSqrtBits n k (if (r + 2 ^ k) * (r + 2 ^ k) ≤ n then r + 2 ^ k else r)

/-- Square root; of a negative number NaN. -/
def fSqrt (x : F32) : F32 :=
  if fIsNaN x then fNaN
  else if fIsZero x then fZero (fSign x)
  else if fSign x then fNaN
  else if fIsInf x then x
  else
    -- value = m × 2^(e-150); make the exponent even and keep 26 result bits
    let e := fExp x
    let odd := e % 2
    let m := fMant x * 2 ^ (30 + odd)
    let r := natSqrtBits m 28 0
    fRound false r ((e - odd) / 2) 90 (r * r != m)

/-- `x < y`; false with a NaN. -/
def fLt (x y : F32) : Bool :=
  if fIsNaN x || fIsNaN y then false
  else
    let a := fFlush x
    let b := fFlush y
    if fIsZero a && fIsZero b then false
    else if fSign a then (if fSign b then decide ((fAbs b).toNat < (fAbs a).toNat) else true)
    else if fSign b then false
    else decide (a.toNat < b.toNat)

/-- `x = y` as numbers; false with a NaN. -/
def fEq (x y : F32) : Bool :=
  !fIsNaN x && !fIsNaN y && ((fIsZero x && fIsZero y) || x == y)

/-- `x ≤ y`; false with a NaN. -/
def fLe (x y : F32) : Bool := fLt x y || fEq x y

/-- The lesser of two numbers, a subnormal as a zero (R120); of a NaN and a number, the number. DEDUCED: log entry 53. -/
def fMin (x y : F32) : F32 := fFlush (if fIsNaN x then y else if fLt y x then y else x)

/-- The greater of two numbers, a subnormal as a zero (R120); of a NaN and a number, the number. -/
def fMax (x y : F32) : F32 := fFlush (if fIsNaN x then y else if fLt x y then y else x)

/-- `x` held between `lo` and `hi`. -/
def fClamp (lo hi x : F32) : F32 := fMax lo (fMin hi x)

/-- A natural number. -/
def fOfNat (n : Nat) : F32 := fRound false n 0 0 false

/-- An integer. -/
def fOfInt (i : Int) : F32 := if i < 0 then fRound true i.natAbs 0 0 false else fOfNat i.toNat

/-- The quotient of two natural numbers, rounded once (0 for a denominator 0). -/
def fOfRatio (n d : Nat) : F32 := fRound false (n * 2 ^ 64 / d) 0 64 (n * 2 ^ 64 % d != 0)

/-- The magnitude of a finite number as a natural number of 2^-k units, cut toward zero. -/
def fMagScaled (x : F32) (k : Nat) : Nat :=
  if 150 ≤ fExp x + k then fMant x * 2 ^ (fExp x + k - 150) else fMant x / 2 ^ (150 - fExp x - k)

/-- The integer part toward zero of a finite number (an infinity or a NaN gives 0). -/
def fTrunc (x : F32) : Int :=
  if fIsFinite x then (if fSign x then - Int.ofNat (fMagScaled x 0) else Int.ofNat (fMagScaled x 0)) else 0

/-- The greatest integer not above a finite number. -/
def fFloor (x : F32) : Int :=
  let t := fTrunc x
  if fIsFinite x && fSign x && !fEq (fOfInt t) x then t - 1 else t

/-- The nearest integer of a finite number, halves away from zero. -/
def fRoundInt (x : F32) : Int :=
  if fIsFinite x then
    let h := (fMagScaled x 1 + 1) / 2
    if fSign x then - Int.ofNat h else Int.ofNat h
  else 0

/-- A finite number not below zero, in units of 2^-32, cut toward zero. -/
def fToQ32 (x : F32) : Nat := if fIsFinite x && !fSign x then fMagScaled x 32 else 0

/-- The constants the spec names, as the nearest binary32. -/
def fOne : F32 := 0x3F800000
def fHalf : F32 := 0x3F000000
def fTwo : F32 := 0x40000000
def fThird : F32 := 0x3EAAAAAB
def fTwoThirds : F32 := 0x3F2AAAAB
def fPi : F32 := 0x40490FDB
def fTwoPi : F32 := 0x40C90FDB
def fHalfPi : F32 := 0x3FC90FDB
def fSqrt3 : F32 := 0x3FDDB3D7
def fInvSqrt3 : F32 := 0x3F13CD3A
def fSqrt3Half : F32 := 0x3F5DB3D7
def fSqrt2 : F32 := 0x3FB504F3

/-- The largest number below 2π stands for an angle that rounds up to 2π (R250). -/
def belowTwoPi (x : F32) : F32 := if fLe fTwoPi x then 0x40C90FDA else x

/-- `n` / `d` turns in rad. -/
def turnsRad (n d : Nat) : F32 := fMul fTwoPi (fOfRatio n d)

/-- The angle of `n` / `d` of a turn, `n` below `d`, in [0, 2π). -/
def angleOf (n d : Nat) : F32 := belowTwoPi (turnsRad n d)

end Sys2Proof.Machine
end

