-- ==== Sys2Proof/Machine/RegMap.lean ====
section
/-! DEFINITION. The register map: for every register its address range, its fields with their access codes (R9) and reset values, and whether it lies on the D-die (R20). Written from the register tables of spec/01 to spec/16. -/

namespace Sys2Proof.Machine

/-- How far address `a` lies above `base`; 0 below it. -/
def offs (a base : Nat) : Nat := ((a : Int) - (base : Int)).toNat

/-- The access codes of R9. -/
inductive Acc where
  | rw | ro | w1c | w1s | wo | rc | rws | rwm
deriving DecidableEq, Repr

/-- A field: highest bit, lowest bit, access code, reset value. -/
structure RegField where
  hi : Nat
  lo : Nat
  acc : Acc
  reset : Nat
deriving DecidableEq, Repr

/-- A register or array of registers: base address, count and stride of each of two indexes, fields, D-die or not. -/
structure RegSpec where
  base : Nat
  n1 : Nat
  s1 : Nat
  n2 : Nat
  s2 : Nat
  fields : List RegField
  dDie : Bool
deriving DecidableEq, Repr

/-- The registers at 0x20000000. -/
def RegMap.rows2000 : List RegSpec := [
  ⟨0x20000110, 1, 4, 1, 4, [⟨25, 0, .rw, 0x308001D⟩], false⟩,
  ⟨0x20000114, 2, 4, 1, 4, [⟨25, 0, .rw, 0x80004⟩], false⟩,
  ⟨0x20000100, 1, 4, 1, 4, [⟨0, 0, .w1s, 0x0⟩], false⟩,
  ⟨0x20000110, 3, 4, 1, 4, [⟨25, 0, .rw, 0x0⟩], false⟩,
  ⟨0x20000120, 8, 4, 1, 4, [⟨31, 0, .rw, 0xFFFFFFFF⟩], false⟩,
  ⟨0x20000140, 1, 4, 1, 4, [⟨31, 0, .rw, 0xFFFFFFFF⟩], false⟩,
  ⟨0x20000144, 1, 4, 1, 4, [⟨23, 0, .rw, 0xFFFFFF⟩], false⟩,
  ⟨0x20000150, 1, 4, 1, 4, [⟨31, 30, .ro, 0x0⟩, ⟨28, 28, .ro, 0x0⟩, ⟨27, 2, .ro, 0x0⟩, ⟨1, 1, .ro, 0x0⟩, ⟨0, 0, .w1c, 0x0⟩], false⟩,
  ⟨0x20000000, 1, 4, 1, 4, [⟨11, 11, .ro, 0x0⟩, ⟨10, 10, .ro, 0x0⟩, ⟨5, 4, .ro, 0x0⟩, ⟨2, 0, .ro, 0x1⟩], false⟩,
  ⟨0x20000004, 1, 4, 1, 4, [⟨3, 0, .wo, 0x0⟩], false⟩,
  ⟨0x20000008, 1, 4, 1, 4, [⟨11, 8, .ro, 0x0⟩, ⟨3, 0, .ro, 0x0⟩], false⟩,
  ⟨0x20000010, 1, 4, 1, 4, [⟨31, 31, .ro, 0x0⟩, ⟨13, 8, .ro, 0x0⟩, ⟨5, 0, .ro, 0x0⟩], false⟩,
  ⟨0x20000018, 1, 4, 1, 4, [⟨16, 16, .ro, 0x0⟩, ⟨13, 12, .ro, 0x0⟩, ⟨11, 10, .ro, 0x0⟩, ⟨9, 2, .ro, 0x0⟩, ⟨1, 1, .ro, 0x0⟩, ⟨0, 0, .ro, 0x0⟩], false⟩,
  ⟨0x20000020, 1, 4, 1, 4, [⟨4, 0, .rw, 0x1F⟩], false⟩,
  ⟨0x20000024, 1, 4, 1, 4, [⟨12, 8, .w1c, 0x0⟩, ⟨2, 0, .ro, 0x0⟩], false⟩,
  ⟨0x20000028, 1, 4, 1, 4, [⟨2, 0, .ro, 0x0⟩], false⟩,
  ⟨0x2000002C, 1, 4, 1, 4, [⟨0, 0, .wo, 0x0⟩], false⟩,
  ⟨0x20000030, 1, 4, 1, 4, [⟨1, 0, .wo, 0x0⟩], false⟩,
  ⟨0x20000034, 1, 4, 1, 4, [⟨6, 4, .ro, 0x0⟩, ⟨1, 0, .ro, 0x0⟩], false⟩,
  ⟨0x20000038, 1, 4, 1, 4, [⟨3, 0, .ro, 0x0⟩], false⟩,
  ⟨0x20000040, 1, 4, 1, 4, [⟨9, 0, .rw, 0x1E⟩], false⟩]

/-- The registers at 0x20010000. -/
def RegMap.rows2001 : List RegSpec := [
  ⟨0x20010000, 1, 4, 1, 4, [⟨31, 0, .ro, 0x0⟩], false⟩,
  ⟨0x20010004, 1, 4, 1, 4, [⟨31, 0, .ro, 0x0⟩], false⟩,
  ⟨0x20010010, 1, 4, 1, 4, [⟨6, 4, .rw, 0x0⟩, ⟨1, 0, .rw, 0x0⟩], false⟩,
  ⟨0x20010014, 1, 4, 1, 4, [⟨16, 16, .ro, 0x0⟩, ⟨10, 8, .ro, 0x0⟩, ⟨4, 4, .ro, 0x0⟩, ⟨2, 1, .ro, 0x0⟩, ⟨0, 0, .ro, 0x0⟩], false⟩,
  ⟨0x20010018, 1, 4, 1, 4, [⟨31, 0, .ro, 0x0⟩], false⟩,
  ⟨0x2001001C, 1, 4, 1, 4, [⟨31, 0, .ro, 0x0⟩], false⟩,
  ⟨0x20010020, 1, 4, 1, 4, [⟨31, 0, .rw, 0x0⟩], false⟩,
  ⟨0x20010024, 1, 4, 1, 4, [⟨31, 0, .rw, 0x0⟩], false⟩,
  ⟨0x20010028, 1, 4, 1, 4, [⟨2, 2, .w1c, 0x0⟩, ⟨1, 1, .rw, 0x0⟩, ⟨0, 0, .rw, 0x0⟩], false⟩,
  ⟨0x20010040, 1, 4, 1, 4, [⟨31, 0, .rw, 0x0⟩], false⟩,
  ⟨0x20010044, 1, 4, 1, 4, [⟨31, 0, .rw, 0x0⟩], false⟩,
  ⟨0x20010048, 1, 4, 1, 4, [⟨31, 0, .rw, 0x0⟩], false⟩,
  ⟨0x2001004C, 1, 4, 1, 4, [⟨31, 0, .rw, 0x0⟩], false⟩,
  ⟨0x20010050, 1, 4, 1, 4, [⟨31, 0, .rw, 0x0⟩], false⟩,
  ⟨0x20010100, 16, 8, 1, 4, [⟨31, 0, .rw, 0x0⟩], false⟩,
  ⟨0x20010104, 16, 8, 1, 4, [⟨23, 16, .rc, 0x0⟩, ⟨3, 3, .rw, 0x0⟩, ⟨2, 1, .rw, 0x0⟩, ⟨0, 0, .rw, 0x0⟩], false⟩]

/-- The registers at 0x20020000. -/
def RegMap.rows2002 : List RegSpec := [
  ⟨0x20020000, 1, 4, 1, 4, [⟨31, 0, .ro, 0x0⟩], false⟩,
  ⟨0x20020004, 1, 4, 1, 4, [⟨31, 0, .ro, 0x0⟩], false⟩,
  ⟨0x20020008, 1, 4, 1, 4, [⟨31, 31, .w1c, 0x0⟩, ⟨24, 16, .ro, 0x0⟩, ⟨15, 0, .rc, 0x0⟩], false⟩,
  ⟨0x20020010, 1, 4, 1, 4, [⟨3, 3, .rw, 0x0⟩, ⟨2, 2, .rw, 0x0⟩, ⟨1, 1, .rw, 0x0⟩, ⟨0, 0, .rw, 0x0⟩], false⟩,
  ⟨0x20020014, 1, 4, 1, 4, [⟨31, 0, .wo, 0x0⟩], false⟩,
  ⟨0x20020100, 6, 32, 1, 4, [⟨19, 16, .rw, 0x0⟩, ⟨15, 0, .rw, 0x0⟩], false⟩,
  ⟨0x20020104, 6, 32, 4, 4, [⟨31, 0, .rw, 0x0⟩], false⟩,
  ⟨0x20020114, 6, 32, 1, 4, [⟨31, 0, .wo, 0x0⟩], false⟩]

/-- The registers at 0x20030000. -/
def RegMap.rows2003 : List RegSpec := [
  ⟨0x20030000, 1, 4, 1, 4, [⟨17, 16, .ro, 0x0⟩, ⟨15, 12, .rws, 0x3⟩, ⟨6, 0, .rws, 0xA⟩], false⟩,
  ⟨0x20030004, 1, 4, 1, 4, [⟨6, 0, .rws, 0xA⟩], false⟩,
  ⟨0x20030008, 1, 4, 1, 4, [⟨2, 2, .rws, 0x0⟩, ⟨1, 1, .rws, 0x0⟩], false⟩,
  ⟨0x20030100, 3, 64, 1, 4, [⟨15, 8, .rw, 0xA⟩, ⟨1, 1, .w1s, 0x0⟩, ⟨0, 0, .w1s, 0x0⟩], false⟩,
  ⟨0x20030104, 3, 64, 1, 4, [⟨19, 18, .ro, 0x3⟩, ⟨17, 17, .ro, 0x0⟩, ⟨16, 16, .w1c, 0x0⟩, ⟨15, 14, .ro, 0x0⟩, ⟨11, 8, .ro, 0x0⟩, ⟨4, 4, .ro, 0x0⟩, ⟨2, 0, .ro, 0x0⟩], false⟩,
  ⟨0x20030108, 3, 64, 1, 4, [⟨31, 0, .ro, 0x0⟩], false⟩,
  ⟨0x2003010C, 3, 64, 1, 4, [⟨9, 8, .ro, 0x0⟩, ⟨3, 0, .ro, 0x0⟩], false⟩,
  ⟨0x20030110, 3, 64, 1, 4, [⟨31, 0, .ro, 0x0⟩], false⟩,
  ⟨0x20030114, 3, 64, 1, 4, [⟨31, 0, .ro, 0x0⟩], false⟩,
  ⟨0x20030118, 3, 64, 1, 4, [⟨31, 0, .ro, 0x0⟩], false⟩,
  ⟨0x2003011C, 3, 64, 1, 4, [⟨31, 0, .ro, 0x0⟩], false⟩,
  ⟨0x20030120, 3, 64, 1, 4, [⟨31, 0, .ro, 0x0⟩], false⟩,
  ⟨0x20030124, 3, 64, 1, 4, [⟨31, 16, .rc, 0x0⟩, ⟨15, 0, .ro, 0x0⟩], false⟩,
  ⟨0x20030200, 2, 16, 1, 4, [⟨10, 8, .ro, 0x0⟩, ⟨6, 4, .ro, 0x0⟩, ⟨1, 0, .ro, 0x0⟩], false⟩,
  ⟨0x20030204, 2, 16, 1, 4, [⟨19, 16, .ro, 0x0⟩, ⟨11, 8, .ro, 0x0⟩, ⟨3, 0, .ro, 0x0⟩], false⟩]

/-- The registers at 0x20040000. -/
def RegMap.rows2004 : List RegSpec := [
  ⟨0x20040000, 1, 4, 1, 4, [⟨11, 11, .ro, 0x0⟩, ⟨10, 10, .ro, 0x0⟩, ⟨9, 9, .ro, 0x0⟩, ⟨8, 8, .ro, 0x0⟩, ⟨7, 7, .ro, 0x0⟩, ⟨6, 6, .ro, 0x0⟩, ⟨5, 4, .ro, 0x0⟩, ⟨1, 0, .ro, 0x1⟩], false⟩,
  ⟨0x20040004, 1, 4, 1, 4, [⟨3, 2, .ro, 0x1⟩, ⟨1, 0, .ro, 0x1⟩], false⟩,
  ⟨0x20040008, 1, 4, 1, 4, [⟨31, 0, .ro, 0x0⟩], false⟩,
  ⟨0x2004000C, 1, 4, 1, 4, [⟨31, 0, .ro, 0x0⟩], false⟩,
  ⟨0x20040010, 1, 4, 1, 4, [⟨27, 24, .ro, 0x0⟩, ⟨23, 16, .ro, 0x0⟩, ⟨15, 8, .ro, 0x0⟩, ⟨7, 5, .ro, 0x0⟩, ⟨4, 4, .ro, 0x0⟩, ⟨3, 2, .ro, 0x0⟩, ⟨1, 0, .ro, 0x0⟩], false⟩,
  ⟨0x20040014, 1, 4, 1, 4, [⟨31, 0, .wo, 0x0⟩], false⟩,
  ⟨0x20040018, 1, 4, 1, 4, [⟨0, 0, .w1s, 0x0⟩], false⟩,
  ⟨0x20040020, 4, 8, 1, 4, [⟨16, 16, .ro, 0x0⟩, ⟨15, 8, .ro, 0x0⟩, ⟨7, 0, .ro, 0x0⟩], false⟩,
  ⟨0x20040024, 4, 8, 1, 4, [⟨31, 0, .ro, 0x0⟩], false⟩,
  ⟨0x20040040, 1, 4, 1, 4, [⟨31, 16, .ro, 0x0⟩, ⟨15, 0, .ro, 0x0⟩], false⟩,
  ⟨0x20040044, 1, 4, 1, 4, [⟨15, 8, .ro, 0x0⟩, ⟨1, 0, .ro, 0x0⟩], false⟩,
  ⟨0x20040100, 3, 16, 1, 4, [⟨30, 24, .rws, 0x3C⟩, ⟨19, 16, .rws, 0x8⟩, ⟨7, 0, .rws, 0x14⟩], false⟩,
  ⟨0x20040104, 3, 16, 1, 4, [⟨31, 0, .ro, 0x0⟩], false⟩,
  ⟨0x20040108, 3, 16, 1, 4, [⟨31, 16, .ro, 0x0⟩, ⟨5, 5, .ro, 0x0⟩, ⟨4, 4, .ro, 0x0⟩, ⟨3, 0, .ro, 0x0⟩], false⟩,
  ⟨0x2004010C, 3, 16, 1, 4, [⟨31, 0, .wo, 0x0⟩], false⟩,
  ⟨0x20040200, 1, 4, 1, 4, [⟨31, 31, .ro, 0x0⟩, ⟨30, 0, .ro, 0x0⟩], false⟩,
  ⟨0x20040204, 1, 4, 1, 4, [⟨31, 0, .rc, 0x0⟩], false⟩,
  ⟨0x20040300, 32, 4, 1, 4, [⟨31, 31, .rws, 0x0⟩, ⟨18, 16, .rws, 0x0⟩, ⟨15, 0, .rws, 0x0⟩], false⟩,
  ⟨0x20040380, 1, 4, 1, 4, [⟨30, 28, .rws, 0x0⟩, ⟨26, 24, .rws, 0x0⟩, ⟨22, 20, .rws, 0x0⟩, ⟨18, 16, .rws, 0x0⟩, ⟨14, 12, .rws, 0x0⟩, ⟨10, 8, .rws, 0x0⟩, ⟨6, 4, .rws, 0x0⟩, ⟨2, 0, .rws, 0x0⟩], false⟩,
  ⟨0x20040384, 1, 4, 1, 4, [⟨14, 12, .rws, 0x0⟩, ⟨10, 8, .rws, 0x0⟩, ⟨6, 4, .rws, 0x0⟩, ⟨2, 0, .rws, 0x0⟩], false⟩,
  ⟨0x20048000, 1, 4, 1, 4, [⟨14, 14, .ro, 0x0⟩, ⟨13, 13, .ro, 0x0⟩, ⟨12, 12, .ro, 0x0⟩, ⟨10, 10, .ro, 0x0⟩, ⟨9, 9, .ro, 0x0⟩, ⟨8, 8, .ro, 0x0⟩, ⟨7, 7, .ro, 0x0⟩, ⟨6, 6, .ro, 0x0⟩, ⟨5, 4, .ro, 0x0⟩, ⟨1, 0, .ro, 0x1⟩], true⟩,
  ⟨0x20048008, 1, 4, 1, 4, [⟨31, 0, .ro, 0x0⟩], true⟩,
  ⟨0x2004800C, 1, 4, 1, 4, [⟨31, 0, .ro, 0x0⟩], true⟩,
  ⟨0x20048010, 1, 4, 1, 4, [⟨31, 0, .ro, 0x0⟩], true⟩,
  ⟨0x20048100, 3, 16, 1, 4, [⟨31, 0, .ro, 0x0⟩], true⟩,
  ⟨0x20048104, 3, 16, 1, 4, [⟨31, 16, .ro, 0x0⟩, ⟨5, 5, .ro, 0x0⟩, ⟨4, 4, .ro, 0x0⟩, ⟨3, 0, .ro, 0x0⟩], true⟩]

/-- The registers at 0x20050000. -/
def RegMap.rows2005 : List RegSpec := [
  ⟨0x20050000, 128, 256, 1, 4, [⟨19, 16, .rw, 0xF⟩, ⟨13, 12, .rw, 0x3⟩, ⟨11, 11, .rw, 0x0⟩, ⟨10, 10, .rw, 0x1⟩, ⟨9, 9, .rw, 0x0⟩, ⟨8, 8, .rw, 0x0⟩, ⟨3, 3, .rw, 0x0⟩, ⟨2, 2, .ro, 0x0⟩, ⟨1, 1, .rw, 0x0⟩, ⟨0, 0, .rw, 0x0⟩], false⟩,
  ⟨0x20050004, 128, 256, 1, 4, [⟨31, 24, .rw, 0x0⟩, ⟨15, 12, .rw, 0x0⟩, ⟨11, 0, .rw, 0x0⟩], false⟩,
  ⟨0x20050008, 128, 256, 1, 4, [⟨8, 0, .rw, 0x0⟩], false⟩,
  ⟨0x2005000C, 128, 256, 1, 4, [⟨16, 16, .rw, 0x0⟩, ⟨8, 0, .rw, 0x0⟩], false⟩,
  ⟨0x20050010, 128, 256, 1, 4, [⟨17, 16, .rw, 0x0⟩, ⟨8, 0, .rw, 0x0⟩], false⟩,
  ⟨0x20050014, 128, 256, 1, 4, [⟨31, 31, .rw, 0x0⟩, ⟨24, 16, .rw, 0x0⟩, ⟨15, 15, .rw, 0x0⟩, ⟨14, 14, .rw, 0x0⟩, ⟨8, 0, .rw, 0x0⟩], false⟩,
  ⟨0x20050018, 128, 256, 1, 4, [⟨17, 16, .rw, 0x0⟩, ⟨11, 0, .rw, 0x0⟩], false⟩,
  ⟨0x2005001C, 128, 256, 1, 4, [⟨31, 28, .rw, 0x0⟩, ⟨25, 16, .rw, 0x0⟩, ⟨15, 12, .rw, 0x0⟩, ⟨9, 0, .rw, 0x0⟩], false⟩,
  ⟨0x20050020, 128, 256, 1, 4, [⟨23, 16, .ro, 0x0⟩, ⟨9, 9, .ro, 0x0⟩, ⟨8, 8, .w1c, 0x0⟩, ⟨7, 7, .ro, 0x0⟩, ⟨6, 6, .ro, 0x0⟩, ⟨5, 5, .w1c, 0x0⟩, ⟨4, 4, .ro, 0x0⟩, ⟨3, 3, .ro, 0x0⟩, ⟨2, 2, .ro, 0x0⟩, ⟨1, 1, .ro, 0x0⟩, ⟨0, 0, .ro, 0x0⟩], false⟩,
  ⟨0x20050024, 128, 256, 1, 4, [⟨31, 0, .wo, 0x0⟩], false⟩,
  ⟨0x20050028, 128, 256, 1, 4, [⟨30, 28, .rw, 0x1⟩, ⟨25, 24, .rw, 0x0⟩, ⟨23, 0, .rw, 0x0⟩], false⟩,
  ⟨0x2005002C, 128, 256, 1, 4, [⟨31, 16, .rc, 0x0⟩, ⟨15, 0, .ro, 0x0⟩], false⟩,
  ⟨0x20050030, 128, 256, 1, 4, [⟨15, 0, .rc, 0x0⟩], false⟩,
  ⟨0x20050040, 128, 256, 1, 4, [⟨31, 0, .rw, 0x0⟩], false⟩,
  ⟨0x20050044, 128, 256, 1, 4, [⟨31, 0, .rw, 0x3F800000⟩], false⟩,
  ⟨0x20050048, 128, 256, 1, 4, [⟨31, 0, .rw, 0x0⟩], false⟩,
  ⟨0x2005004C, 128, 256, 1, 4, [⟨31, 0, .rw, 0x7F800000⟩], false⟩,
  ⟨0x20050050, 128, 256, 1, 4, [⟨31, 0, .rw, 0xFF800000⟩], false⟩,
  ⟨0x20050054, 128, 256, 1, 4, [⟨31, 0, .rw, 0x7F800000⟩], false⟩,
  ⟨0x20050058, 128, 256, 1, 4, [⟨31, 0, .rw, 0x7F800000⟩], false⟩,
  ⟨0x20050060, 128, 256, 1, 4, [⟨31, 0, .ro, 0x0⟩], false⟩,
  ⟨0x20050064, 128, 256, 1, 4, [⟨31, 0, .ro, 0x0⟩], false⟩,
  ⟨0x20050068, 128, 256, 1, 4, [⟨31, 0, .ro, 0x0⟩], false⟩,
  ⟨0x2005006C, 128, 256, 1, 4, [⟨31, 0, .ro, 0x0⟩], false⟩,
  ⟨0x20050070, 128, 256, 1, 4, [⟨31, 0, .ro, 0x0⟩], false⟩,
  ⟨0x20050074, 128, 256, 1, 4, [⟨31, 0, .ro, 0x0⟩], false⟩,
  ⟨0x20050078, 128, 256, 1, 4, [⟨31, 0, .ro, 0x0⟩], false⟩,
  ⟨0x2005007C, 128, 256, 1, 4, [⟨31, 0, .ro, 0x0⟩], false⟩,
  ⟨0x20050080, 128, 256, 8, 8, [⟨31, 0, .rw, 0x0⟩], false⟩,
  ⟨0x20050084, 128, 256, 8, 8, [⟨31, 0, .rw, 0x0⟩], false⟩]

/-- The registers at 0x20060000. -/
def RegMap.rows2006 : List RegSpec := [
  ⟨0x20060000, 1, 4, 1, 4, [⟨11, 8, .ro, 0xF⟩, ⟨7, 4, .rw, 0x0⟩, ⟨0, 0, .rw, 0x0⟩], false⟩,
  ⟨0x20060010, 8, 4, 1, 4, [⟨31, 0, .rw, 0x0⟩], false⟩,
  ⟨0x20060040, 4, 4, 1, 4, [⟨31, 16, .rc, 0x0⟩, ⟨15, 0, .ro, 0x0⟩], false⟩,
  ⟨0x20060050, 1, 4, 1, 4, [⟨31, 0, .ro, 0x0⟩], false⟩,
  ⟨0x20060080, 32, 4, 1, 4, [⟨31, 0, .ro, 0x0⟩], false⟩,
  ⟨0x20060100, 1, 4, 1, 4, [⟨31, 0, .rc, 0x0⟩], false⟩,
  ⟨0x20060104, 1, 4, 1, 4, [⟨31, 0, .ro, 0x0⟩], false⟩,
  ⟨0x20068000, 1024, 32, 6, 4, [⟨31, 0, .rw, 0x0⟩], false⟩,
  ⟨0x20068018, 1024, 32, 1, 4, [⟨1, 1, .rw, 0x0⟩, ⟨0, 0, .rw, 0x0⟩], false⟩]

/-- The registers at 0x20070000 (part 1). -/
def RegMap.rows2007p0 : List RegSpec := [
  ⟨0x20070000, 1, 4, 1, 4, [⟨16, 16, .rw, 0x0⟩, ⟨9, 8, .rw, 0x0⟩, ⟨6, 6, .rw, 0x0⟩, ⟨5, 5, .rws, 0x0⟩, ⟨4, 4, .rw, 0x0⟩, ⟨3, 2, .rw, 0x0⟩, ⟨1, 0, .rw, 0x0⟩], false⟩,
  ⟨0x20070004, 1, 4, 1, 4, [⟨15, 15, .ro, 0x0⟩, ⟨14, 14, .ro, 0x0⟩, ⟨13, 13, .ro, 0x0⟩, ⟨12, 12, .ro, 0x0⟩, ⟨11, 11, .w1c, 0x0⟩, ⟨10, 10, .w1c, 0x0⟩, ⟨9, 8, .ro, 0x0⟩, ⟨6, 4, .ro, 0x0⟩, ⟨2, 0, .ro, 0x0⟩], false⟩,
  ⟨0x20070008, 1, 4, 1, 4, [⟨8, 0, .rw, 0x0⟩], false⟩,
  ⟨0x2007000C, 1, 4, 1, 4, [⟨24, 16, .rw, 0x101⟩, ⟨8, 0, .rw, 0x100⟩], false⟩,
  ⟨0x20070010, 1, 4, 1, 4, [⟨31, 31, .rw, 0x0⟩, ⟨30, 24, .rw, 0x0⟩, ⟨23, 23, .rw, 0x0⟩, ⟨22, 16, .rw, 0x0⟩, ⟨15, 15, .rw, 0x0⟩, ⟨14, 8, .rw, 0x0⟩, ⟨7, 7, .rw, 0x0⟩, ⟨6, 0, .rw, 0x0⟩], false⟩,
  ⟨0x20070014, 1, 4, 1, 4, [⟨7, 7, .rw, 0x0⟩, ⟨6, 0, .rw, 0x0⟩], false⟩,
  ⟨0x20070018, 1, 4, 1, 4, [⟨4, 0, .rw, 0x1⟩], false⟩,
  ⟨0x20070020, 1, 4, 1, 4, [⟨31, 0, .rw, 0x0⟩], false⟩,
  ⟨0x20070024, 1, 4, 1, 4, [⟨31, 0, .rw, 0x7F800000⟩], false⟩,
  ⟨0x20070028, 1, 4, 1, 4, [⟨31, 0, .rw, 0x0⟩], false⟩,
  ⟨0x2007002C, 1, 4, 1, 4, [⟨31, 0, .rw, 0x3F800000⟩], false⟩,
  ⟨0x20070030, 1, 4, 1, 4, [⟨31, 0, .rw, 0x0⟩], false⟩,
  ⟨0x20070034, 1, 4, 1, 4, [⟨31, 0, .rw, 0x0⟩], false⟩,
  ⟨0x20070038, 1, 4, 1, 4, [⟨31, 0, .rw, 0x3DCCCCCD⟩], false⟩,
  ⟨0x2007003C, 1, 4, 1, 4, [⟨31, 0, .rw, 0x0⟩], false⟩,
  ⟨0x20070040, 1, 4, 1, 4, [⟨31, 0, .rw, 0x0⟩], false⟩,
  ⟨0x20070044, 1, 4, 1, 4, [⟨31, 0, .rw, 0x44960000⟩], false⟩,
  ⟨0x20070048, 1, 4, 1, 4, [⟨31, 0, .rw, 0x0⟩], false⟩,
  ⟨0x2007004C, 1, 4, 1, 4, [⟨31, 0, .rw, 0x0⟩], false⟩,
  ⟨0x20070050, 1, 4, 1, 4, [⟨31, 0, .rw, 0x0⟩], false⟩,
  ⟨0x20070054, 1, 4, 1, 4, [⟨31, 0, .rw, 0x0⟩], false⟩,
  ⟨0x20070058, 1, 4, 1, 4, [⟨31, 0, .rw, 0x0⟩], false⟩,
  ⟨0x2007005C, 1, 4, 1, 4, [⟨31, 0, .rw, 0x0⟩], false⟩,
  ⟨0x20070060, 1, 4, 1, 4, [⟨31, 0, .rw, 0x0⟩], false⟩,
  ⟨0x20070064, 1, 4, 1, 4, [⟨31, 0, .rw, 0x0⟩], false⟩,
  ⟨0x20070068, 1, 4, 1, 4, [⟨31, 0, .rw, 0x0⟩], false⟩,
  ⟨0x20070070, 1, 4, 1, 4, [⟨31, 0, .ro, 0x0⟩], false⟩,
  ⟨0x20070074, 1, 4, 1, 4, [⟨31, 0, .ro, 0x0⟩], false⟩,
  ⟨0x20070080, 1, 4, 1, 4, [⟨31, 0, .ro, 0x0⟩], false⟩,
  ⟨0x20070084, 1, 4, 1, 4, [⟨31, 0, .ro, 0x0⟩], false⟩]

/-- The registers at 0x20070000 (part 2). -/
def RegMap.rows2007p1 : List RegSpec := [
  ⟨0x20070100, 2, 64, 1, 4, [⟨24, 16, .rw, 0x0⟩, ⟨8, 0, .rw, 0x0⟩], false⟩,
  ⟨0x20070104, 2, 64, 1, 4, [⟨23, 23, .rw, 0x0⟩, ⟨22, 16, .rw, 0x0⟩, ⟨15, 15, .rw, 0x0⟩, ⟨14, 8, .rw, 0x0⟩, ⟨7, 7, .rw, 0x0⟩, ⟨6, 0, .rw, 0x0⟩], false⟩,
  ⟨0x20070108, 2, 64, 1, 4, [⟨31, 0, .rw, 0x0⟩], false⟩,
  ⟨0x2007010C, 2, 64, 1, 4, [⟨31, 0, .rw, 0x7F800000⟩], false⟩,
  ⟨0x20070110, 2, 64, 1, 4, [⟨31, 0, .ro, 0x0⟩], false⟩,
  ⟨0x20070114, 2, 64, 1, 4, [⟨31, 0, .ro, 0x0⟩], false⟩,
  ⟨0x20070118, 2, 64, 1, 4, [⟨31, 0, .rw, 0x7F800000⟩], false⟩,
  ⟨0x2007011C, 2, 64, 1, 4, [⟨2, 2, .ro, 0x0⟩, ⟨1, 1, .ro, 0x0⟩, ⟨0, 0, .w1s, 0x0⟩], false⟩,
  ⟨0x20070120, 2, 64, 1, 4, [⟨31, 0, .rc, 0x0⟩], false⟩,
  ⟨0x20070124, 2, 64, 1, 4, [⟨31, 0, .rc, 0x0⟩], false⟩,
  ⟨0x20070200, 32, 4, 1, 4, [⟨31, 0, .rw, 0x0⟩], false⟩,
  ⟨0x20070300, 1, 4, 1, 4, [⟨17, 17, .ro, 0x0⟩, ⟨16, 16, .ro, 0x0⟩, ⟨7, 4, .rw, 0x0⟩, ⟨0, 0, .rw, 0x0⟩], false⟩,
  ⟨0x20070304, 1, 4, 1, 4, [⟨19, 0, .rw, 0x0⟩], false⟩,
  ⟨0x20070308, 1, 4, 1, 4, [⟨9, 0, .rw, 0x64⟩], false⟩,
  ⟨0x2007030C, 1, 4, 1, 4, [⟨19, 0, .ro, 0x0⟩], false⟩,
  ⟨0x20070310, 1, 4, 1, 4, [⟨31, 0, .rw, 0x0⟩], false⟩,
  ⟨0x20078000, 2048, 4, 1, 4, [⟨31, 16, .rw, 0x0⟩, ⟨15, 0, .rw, 0x0⟩], false⟩]

/-- The registers at 0x20070000. -/
def RegMap.rows2007 : List RegSpec := RegMap.rows2007p0 ++ RegMap.rows2007p1

/-- The registers at 0x20080000 (part 1). -/
def RegMap.rows2008p0 : List RegSpec := [
  ⟨0x20080000, 1, 4, 1, 4, [⟨31, 31, .rw, 0x0⟩, ⟨20, 16, .rw, 0x1⟩, ⟨11, 8, .rw, 0x1⟩, ⟨1, 0, .rw, 0x0⟩], false⟩,
  ⟨0x20080004, 1, 4, 1, 4, [⟨31, 0, .rw, 0x0⟩], false⟩,
  ⟨0x20080008, 1, 4, 1, 4, [⟨11, 8, .ro, 0x0⟩, ⟨3, 3, .ro, 0x0⟩, ⟨2, 2, .ro, 0x0⟩, ⟨1, 1, .ro, 0x0⟩, ⟨0, 0, .ro, 0x0⟩], false⟩,
  ⟨0x20080100, 1, 4, 1, 4, [⟨31, 24, .rw, 0x0⟩, ⟨22, 16, .rw, 0x0⟩, ⟨6, 4, .rw, 0x0⟩, ⟨1, 1, .rw, 0x1⟩, ⟨0, 0, .rw, 0x0⟩], false⟩,
  ⟨0x20080104, 1, 4, 1, 4, [⟨31, 0, .rw, 0x0⟩], false⟩,
  ⟨0x2008010C, 1, 4, 1, 4, [⟨31, 0, .rw, 0x0⟩], false⟩,
  ⟨0x20080110, 1, 4, 1, 4, [⟨31, 0, .rw, 0x3F000000⟩], false⟩,
  ⟨0x20080114, 1, 4, 1, 4, [⟨31, 0, .rw, 0x3FC00000⟩], false⟩,
  ⟨0x20080118, 1, 4, 1, 4, [⟨31, 0, .rw, 0x3E4CCCCD⟩], false⟩,
  ⟨0x2008011C, 1, 4, 1, 4, [⟨31, 0, .rw, 0x3CA3D70A⟩], false⟩,
  ⟨0x20080120, 1, 4, 1, 4, [⟨31, 0, .rw, 0x42C80000⟩], false⟩,
  ⟨0x20080124, 1, 4, 1, 4, [⟨31, 0, .rw, 0x453B8000⟩], false⟩,
  ⟨0x20080128, 1, 4, 1, 4, [⟨31, 0, .ro, 0x0⟩], false⟩,
  ⟨0x2008012C, 1, 4, 1, 4, [⟨31, 0, .ro, 0x0⟩], false⟩,
  ⟨0x20080130, 1, 4, 1, 4, [⟨31, 0, .ro, 0x3F800000⟩], false⟩,
  ⟨0x20080134, 1, 4, 1, 4, [⟨31, 0, .ro, 0x0⟩], false⟩,
  ⟨0x20080140, 1, 4, 1, 4, [⟨31, 16, .ro, 0x0⟩, ⟨15, 0, .ro, 0x0⟩], false⟩,
  ⟨0x20080144, 1, 4, 1, 4, [⟨31, 0, .ro, 0x0⟩], false⟩,
  ⟨0x20080200, 1, 4, 1, 4, [⟨9, 9, .rw, 0x0⟩, ⟨8, 8, .rw, 0x0⟩, ⟨7, 4, .rw, 0x3⟩, ⟨0, 0, .rw, 0x0⟩], false⟩,
  ⟨0x20080204, 1, 4, 1, 4, [⟨31, 0, .rw, 0x1000⟩], false⟩,
  ⟨0x20080208, 1, 4, 1, 4, [⟨31, 0, .rw, 0x0⟩], false⟩,
  ⟨0x2008020C, 1, 4, 1, 4, [⟨15, 0, .rw, 0x4⟩], false⟩,
  ⟨0x20080210, 1, 4, 1, 4, [⟨31, 0, .ro, 0x0⟩], false⟩,
  ⟨0x20080214, 1, 4, 1, 4, [⟨31, 0, .ro, 0x0⟩], false⟩,
  ⟨0x20080218, 1, 4, 1, 4, [⟨23, 0, .rw, 0x186A0⟩], false⟩,
  ⟨0x20080300, 3, 32, 1, 4, [⟨25, 16, .rw, 0x32⟩, ⟨0, 0, .rw, 0x0⟩], false⟩,
  ⟨0x20080304, 3, 32, 1, 4, [⟨22, 20, .rw, 0x6⟩, ⟨18, 16, .rw, 0x5⟩, ⟨14, 12, .rw, 0x4⟩, ⟨10, 8, .rw, 0x3⟩, ⟨6, 4, .rw, 0x2⟩, ⟨2, 0, .rw, 0x1⟩], false⟩,
  ⟨0x20080308, 3, 32, 1, 4, [⟨10, 8, .ro, 0x0⟩, ⟨6, 4, .ro, 0x0⟩, ⟨2, 0, .ro, 0x0⟩], false⟩,
  ⟨0x2008030C, 3, 32, 1, 4, [⟨31, 0, .rw, 0x0⟩], false⟩,
  ⟨0x20080310, 3, 32, 1, 4, [⟨31, 16, .rc, 0x0⟩, ⟨15, 0, .rc, 0x0⟩], false⟩]

/-- The registers at 0x20080000 (part 2). -/
def RegMap.rows2008p1 : List RegSpec := [
  ⟨0x20080314, 3, 32, 1, 4, [⟨31, 0, .ro, 0x0⟩], false⟩,
  ⟨0x20080318, 3, 32, 1, 4, [⟨31, 0, .ro, 0x0⟩], false⟩,
  ⟨0x2008031C, 3, 32, 1, 4, [⟨31, 0, .rw, 0x186A0⟩], false⟩,
  ⟨0x20080400, 8, 32, 1, 4, [⟨12, 12, .rw, 0x0⟩, ⟨9, 8, .rw, 0x0⟩, ⟨6, 4, .rw, 0x0⟩, ⟨0, 0, .rw, 0x0⟩], false⟩,
  ⟨0x20080404, 8, 32, 1, 4, [⟨31, 0, .rw, 0x0⟩], false⟩,
  ⟨0x20080408, 8, 32, 1, 4, [⟨3, 3, .ro, 0x0⟩, ⟨2, 2, .ro, 0x0⟩, ⟨1, 1, .ro, 0x0⟩, ⟨0, 0, .w1c, 0x0⟩], false⟩,
  ⟨0x2008040C, 8, 32, 1, 4, [⟨31, 0, .ro, 0x0⟩], false⟩,
  ⟨0x20080410, 8, 32, 1, 4, [⟨31, 0, .ro, 0x0⟩], false⟩]

/-- The registers at 0x20080000. -/
def RegMap.rows2008 : List RegSpec := RegMap.rows2008p0 ++ RegMap.rows2008p1

/-- The registers at 0x20090000. -/
def RegMap.rows2009 : List RegSpec := [
  ⟨0x20090000, 1, 4, 1, 4, [⟨0, 0, .ro, 0x0⟩], false⟩,
  ⟨0x20090004, 1, 4, 1, 4, [⟨30, 0, .rws, 0x7FFFFFFF⟩], false⟩,
  ⟨0x20090008, 1, 4, 1, 4, [⟨18, 0, .rws, 0x7FFFF⟩], false⟩,
  ⟨0x2009000C, 1, 4, 1, 4, [⟨23, 0, .ro, 0x0⟩], false⟩,
  ⟨0x20090100, 12, 128, 1, 4, [⟨11, 8, .rw, 0x0⟩, ⟨5, 4, .rw, 0x0⟩, ⟨2, 1, .rw, 0x0⟩, ⟨0, 0, .rw, 0x0⟩], false⟩,
  ⟨0x20090104, 12, 128, 1, 4, [⟨23, 0, .rw, 0x0⟩], false⟩,
  ⟨0x20090108, 12, 128, 1, 4, [⟨27, 16, .rw, 0x190⟩, ⟨15, 0, .rw, 0x0⟩], false⟩,
  ⟨0x2009010C, 12, 128, 1, 4, [⟨1, 1, .rw, 0x0⟩, ⟨0, 0, .rw, 0x0⟩], false⟩,
  ⟨0x20090110, 12, 128, 1, 4, [⟨31, 0, .rw, 0x0⟩], false⟩,
  ⟨0x20090114, 12, 128, 1, 4, [⟨31, 0, .rw, 0x0⟩], false⟩,
  ⟨0x20090118, 12, 128, 1, 4, [⟨31, 0, .rw, 0x0⟩], false⟩,
  ⟨0x2009011C, 12, 128, 1, 4, [⟨31, 28, .ro, 0x0⟩, ⟨27, 24, .ro, 0x0⟩, ⟨23, 20, .ro, 0x0⟩, ⟨19, 16, .ro, 0x0⟩, ⟨15, 12, .rw, 0x0⟩, ⟨11, 8, .rw, 0x0⟩, ⟨7, 4, .rw, 0x0⟩, ⟨3, 0, .rw, 0x0⟩], false⟩,
  ⟨0x20090120, 12, 128, 4, 4, [⟨31, 0, .rw, 0x0⟩], false⟩,
  ⟨0x20090130, 12, 128, 4, 4, [⟨31, 0, .rw, 0x0⟩], false⟩,
  ⟨0x20090140, 12, 128, 4, 4, [⟨31, 0, .rw, 0x0⟩], false⟩,
  ⟨0x20090150, 12, 128, 1, 4, [⟨28, 28, .ro, 0x0⟩, ⟨27, 26, .ro, 0x0⟩, ⟨25, 24, .ro, 0x0⟩, ⟨23, 16, .rc, 0x0⟩, ⟨15, 12, .w1c, 0x0⟩, ⟨11, 8, .w1c, 0x0⟩, ⟨3, 0, .ro, 0x0⟩], false⟩,
  ⟨0x20090154, 12, 128, 1, 4, [⟨31, 16, .rc, 0x0⟩, ⟨15, 0, .ro, 0x0⟩], false⟩,
  ⟨0x20090158, 12, 128, 1, 4, [⟨15, 0, .rc, 0x0⟩], false⟩,
  ⟨0x2009015C, 12, 128, 1, 4, [⟨23, 0, .ro, 0x0⟩], false⟩,
  ⟨0x20090160, 12, 128, 1, 4, [⟨31, 0, .ro, 0x0⟩], false⟩,
  ⟨0x20090164, 12, 128, 1, 4, [⟨31, 0, .ro, 0x0⟩], false⟩,
  ⟨0x20090170, 12, 128, 4, 4, [⟨31, 0, .ro, 0x0⟩], false⟩]

/-- The registers at 0x200A0000. -/
def RegMap.rows200A : List RegSpec := [
  ⟨0x200A0000, 31, 4, 1, 4, [⟨15, 8, .rw, 0x32⟩, ⟨1, 1, .rw, 0x1⟩, ⟨0, 0, .rw, 0x0⟩], false⟩,
  ⟨0x200A0080, 1, 4, 1, 4, [⟨30, 0, .ro, 0x0⟩], false⟩,
  ⟨0x200A0084, 1, 4, 1, 4, [⟨30, 0, .ro, 0x0⟩], false⟩,
  ⟨0x200A0100, 12, 16, 1, 4, [⟨27, 24, .rw, 0x5⟩, ⟨20, 16, .rw, 0xA⟩, ⟨9, 4, .rw, 0x4⟩, ⟨2, 2, .rw, 0x0⟩, ⟨1, 1, .rw, 0x0⟩, ⟨0, 0, .rw, 0x0⟩], true⟩,
  ⟨0x200A0104, 12, 16, 1, 4, [⟨10, 0, .rw, 0x50⟩], true⟩,
  ⟨0x200A0108, 12, 16, 1, 4, [⟨4, 4, .ro, 0x0⟩, ⟨3, 1, .ro, 0x0⟩, ⟨0, 0, .ro, 0x0⟩], true⟩,
  ⟨0x200A0200, 1, 4, 1, 4, [⟨30, 0, .w1c, 0x0⟩], false⟩,
  ⟨0x200A0204, 1, 4, 1, 4, [⟨31, 0, .w1c, 0x0⟩], false⟩,
  ⟨0x200A0208, 1, 4, 1, 4, [⟨5, 0, .w1c, 0x0⟩], false⟩,
  ⟨0x200A0210, 2, 4, 1, 4, [⟨5, 5, .ro, 0x0⟩, ⟨4, 4, .ro, 0x0⟩, ⟨3, 3, .ro, 0x0⟩, ⟨2, 2, .ro, 0x0⟩, ⟨1, 1, .ro, 0x0⟩, ⟨0, 0, .ro, 0x0⟩], false⟩,
  ⟨0x200A0220, 1, 4, 1, 4, [⟨5, 0, .rw, 0xA⟩], false⟩,
  ⟨0x200A0300, 19, 4, 1, 4, [⟨25, 16, .ro, 0x0⟩, ⟨13, 4, .ro, 0x0⟩, ⟨2, 0, .ro, 0x0⟩], true⟩,
  ⟨0x200A0400, 1, 4, 1, 4, [⟨0, 0, .rw, 0x0⟩], true⟩,
  ⟨0x200A0404, 1, 4, 1, 4, [⟨8, 0, .rw, 0xC8⟩], true⟩,
  ⟨0x200A0408, 1, 4, 1, 4, [⟨8, 0, .rw, 0xB4⟩], true⟩,
  ⟨0x200A040C, 1, 4, 1, 4, [⟨19, 0, .rw, 0x4E20⟩], true⟩,
  ⟨0x200A0410, 1, 4, 1, 4, [⟨31, 12, .ro, 0x0⟩, ⟨1, 1, .ro, 0x0⟩, ⟨0, 0, .ro, 0x0⟩], true⟩]

/-- The registers at 0x200B0000. -/
def RegMap.rows200B : List RegSpec := [
  ⟨0x200B0114, 32, 64, 1, 4, [⟨22, 16, .rw, 0x0⟩, ⟨14, 8, .rw, 0x0⟩, ⟨6, 0, .rw, 0x0⟩], false⟩,
  ⟨0x200B0000, 1, 4, 1, 4, [⟨2, 2, .w1s, 0x0⟩, ⟨1, 1, .rw, 0x1⟩, ⟨0, 0, .rw, 0x0⟩], false⟩,
  ⟨0x200B0004, 1, 4, 1, 4, [⟨31, 16, .ro, 0x0⟩, ⟨12, 8, .ro, 0xF⟩, ⟨4, 4, .ro, 0x0⟩, ⟨3, 0, .ro, 0xF⟩], false⟩,
  ⟨0x200B0100, 32, 64, 1, 4, [⟨27, 24, .rw, 0x0⟩, ⟨19, 8, .rw, 0x0⟩, ⟨7, 4, .rw, 0x0⟩, ⟨0, 0, .rw, 0x0⟩], false⟩,
  ⟨0x200B0104, 32, 64, 1, 4, [⟨31, 0, .rw, 0x190⟩], false⟩,
  ⟨0x200B0108, 32, 64, 4, 4, [⟨30, 24, .rw, 0x0⟩, ⟨22, 16, .rw, 0x0⟩, ⟨14, 8, .rw, 0x0⟩, ⟨6, 0, .rw, 0x0⟩], false⟩,
  ⟨0x200B0118, 32, 64, 1, 4, [⟨31, 0, .ro, 0x0⟩], false⟩,
  ⟨0x200B011C, 32, 64, 1, 4, [⟨31, 0, .ro, 0x0⟩], false⟩,
  ⟨0x200B0120, 32, 64, 1, 4, [⟨31, 0, .wo, 0x0⟩], false⟩,
  ⟨0x200B0124, 32, 64, 1, 4, [⟨31, 0, .rc, 0x0⟩], false⟩,
  ⟨0x200B1000, 96, 8, 1, 4, [⟨31, 0, .rw, 0x0⟩], false⟩,
  ⟨0x200B1004, 96, 8, 1, 4, [⟨31, 0, .rw, 0x0⟩], false⟩,
  ⟨0x200B1400, 96, 4, 1, 4, [⟨15, 0, .ro, 0x0⟩], false⟩,
  ⟨0x200B2000, 8, 32, 1, 4, [⟨24, 16, .rw, 0x0⟩, ⟨10, 4, .rw, 0x0⟩, ⟨1, 1, .rw, 0x0⟩, ⟨0, 0, .rw, 0x0⟩], false⟩,
  ⟨0x200B2004, 8, 32, 1, 4, [⟨31, 0, .rw, 0x0⟩], false⟩,
  ⟨0x200B2008, 8, 32, 1, 4, [⟨31, 0, .rw, 0x0⟩], false⟩,
  ⟨0x200B200C, 8, 32, 1, 4, [⟨31, 0, .rw, 0x7F800000⟩], false⟩,
  ⟨0x200B2010, 8, 32, 1, 4, [⟨31, 0, .rw, 0xFF800000⟩], false⟩,
  ⟨0x200B2014, 8, 32, 1, 4, [⟨8, 8, .w1c, 0x0⟩, ⟨4, 4, .rw, 0x0⟩, ⟨2, 1, .rw, 0x0⟩, ⟨0, 0, .rw, 0x0⟩], false⟩,
  ⟨0x200B2018, 8, 32, 1, 4, [⟨11, 0, .rw, 0x0⟩], false⟩,
  ⟨0x200B3000, 16, 16, 1, 4, [⟨16, 16, .w1c, 0x0⟩, ⟨12, 12, .rw, 0x0⟩, ⟨9, 8, .rw, 0x0⟩, ⟨7, 1, .rw, 0x0⟩, ⟨0, 0, .rw, 0x0⟩], false⟩,
  ⟨0x200B3004, 16, 16, 1, 4, [⟨25, 16, .rw, 0x3FF⟩, ⟨9, 0, .rw, 0x0⟩], false⟩]

/-- The registers at 0x200C0000. -/
def RegMap.rows200C : List RegSpec := [
  ⟨0x200C0000, 1, 4, 1, 4, [⟨4, 4, .rw, 0x1⟩, ⟨3, 3, .w1s, 0x0⟩, ⟨2, 2, .rw, 0x0⟩, ⟨1, 1, .rw, 0x0⟩, ⟨0, 0, .rw, 0x0⟩], false⟩,
  ⟨0x200C0004, 1, 4, 1, 4, [⟨28, 24, .rw, 0x0⟩, ⟨23, 23, .rw, 0x0⟩, ⟨22, 16, .rw, 0x0⟩, ⟨14, 8, .rw, 0x0⟩, ⟨7, 4, .rw, 0x1⟩, ⟨3, 0, .rw, 0x1⟩], false⟩,
  ⟨0x200C0008, 1, 4, 1, 4, [⟨31, 24, .ro, 0x0⟩, ⟨23, 16, .ro, 0x0⟩, ⟨13, 13, .ro, 0x0⟩, ⟨12, 12, .ro, 0x0⟩, ⟨11, 11, .ro, 0x0⟩, ⟨10, 10, .ro, 0x0⟩, ⟨9, 9, .ro, 0x0⟩, ⟨8, 8, .ro, 0x0⟩, ⟨6, 4, .ro, 0x0⟩, ⟨2, 0, .ro, 0x0⟩], false⟩,
  ⟨0x200C000C, 1, 4, 1, 4, [⟨31, 28, .rw, 0x0⟩, ⟨24, 16, .rw, 0x0⟩, ⟨8, 0, .rw, 0x0⟩], false⟩,
  ⟨0x200C0010, 1, 4, 1, 4, [⟨16, 16, .rw, 0x1⟩, ⟨14, 8, .rw, 0x0⟩, ⟨6, 0, .rw, 0x0⟩], false⟩,
  ⟨0x200C0020, 8, 4, 1, 4, [⟨8, 0, .rw, 0x0⟩], false⟩,
  ⟨0x200C0040, 1, 4, 1, 4, [⟨9, 0, .rw, 0x0⟩], false⟩,
  ⟨0x200C0044, 1, 4, 1, 4, [⟨6, 0, .rw, 0x5⟩], false⟩,
  ⟨0x200C0048, 1, 4, 1, 4, [⟨14, 0, .rw, 0x7D0⟩], false⟩,
  ⟨0x200C004C, 1, 4, 1, 4, [⟨10, 0, .rw, 0x3E8⟩], false⟩,
  ⟨0x200C0060, 1, 4, 1, 4, [⟨31, 0, .rw, 0x41600000⟩], false⟩,
  ⟨0x200C0064, 1, 4, 1, 4, [⟨31, 0, .rw, 0x3F666666⟩], false⟩,
  ⟨0x200C0068, 1, 4, 1, 4, [⟨31, 0, .rw, 0x43C80000⟩], false⟩,
  ⟨0x200C006C, 1, 4, 1, 4, [⟨31, 0, .rw, 0x0⟩], false⟩,
  ⟨0x200C0070, 1, 4, 1, 4, [⟨31, 0, .rw, 0x7F800000⟩], false⟩,
  ⟨0x200C0074, 1, 4, 1, 4, [⟨31, 0, .rw, 0x7F800000⟩], false⟩,
  ⟨0x200C0078, 1, 4, 1, 4, [⟨31, 0, .rw, 0x41880000⟩], false⟩,
  ⟨0x200C007C, 1, 4, 1, 4, [⟨31, 0, .rw, 0x0⟩], false⟩,
  ⟨0x200C0080, 1, 4, 1, 4, [⟨31, 0, .rw, 0x7F800000⟩], false⟩,
  ⟨0x200C0084, 1, 4, 1, 4, [⟨31, 0, .rw, 0x41800000⟩], false⟩,
  ⟨0x200C0088, 1, 4, 1, 4, [⟨31, 0, .rw, 0x3DCCCCCD⟩], false⟩,
  ⟨0x200C008C, 1, 4, 1, 4, [⟨31, 0, .rw, 0x0⟩], false⟩,
  ⟨0x200C0090, 1, 4, 1, 4, [⟨31, 0, .rw, 0x3F000000⟩], false⟩,
  ⟨0x200C0094, 1, 4, 1, 4, [⟨31, 0, .rw, 0x0⟩], false⟩,
  ⟨0x200C00A4, 7, 4, 1, 4, [⟨31, 0, .rw, 0x7F800000⟩], false⟩,
  ⟨0x200C00C8, 7, 4, 1, 4, [⟨31, 0, .rw, 0x0⟩], false⟩]

/-- The registers at 0x200D0000 (part 1). -/
def RegMap.rows200Dp0 : List RegSpec := [
  ⟨0x200D0000, 1, 4, 1, 4, [⟨2, 2, .rw, 0x0⟩, ⟨1, 1, .rw, 0x0⟩, ⟨0, 0, .rw, 0x0⟩], false⟩,
  ⟨0x200D0004, 1, 4, 1, 4, [⟨20, 16, .rw, 0x0⟩, ⟨12, 8, .rw, 0x0⟩, ⟨2, 2, .rw, 0x0⟩, ⟨1, 1, .rw, 0x0⟩, ⟨0, 0, .rw, 0x0⟩], false⟩,
  ⟨0x200D0008, 1, 4, 1, 4, [⟨11, 11, .ro, 0x0⟩, ⟨10, 10, .w1c, 0x0⟩, ⟨9, 8, .ro, 0x0⟩, ⟨7, 7, .ro, 0x0⟩, ⟨6, 6, .ro, 0x0⟩, ⟨5, 5, .ro, 0x0⟩, ⟨2, 0, .ro, 0x0⟩], false⟩,
  ⟨0x200D000C, 1, 4, 1, 4, [⟨24, 24, .ro, 0x0⟩, ⟨23, 16, .ro, 0xFF⟩, ⟨13, 4, .ro, 0x0⟩, ⟨3, 3, .ro, 0x0⟩, ⟨2, 0, .ro, 0x7⟩], false⟩,
  ⟨0x200D0010, 1, 4, 1, 4, [⟨25, 24, .ro, 0x0⟩, ⟨23, 16, .ro, 0x0⟩, ⟨15, 0, .ro, 0x0⟩], false⟩,
  ⟨0x200D0020, 1, 4, 1, 4, [⟨30, 24, .rw, 0x0⟩, ⟨22, 16, .rw, 0x0⟩, ⟨14, 8, .rw, 0x0⟩, ⟨6, 0, .rw, 0x0⟩], false⟩,
  ⟨0x200D0024, 1, 4, 1, 4, [⟨30, 24, .rw, 0x0⟩, ⟨22, 16, .rw, 0x0⟩, ⟨14, 8, .rw, 0x0⟩, ⟨6, 0, .rw, 0x0⟩], false⟩,
  ⟨0x200D0030, 1, 4, 1, 4, [⟨24, 16, .rw, 0x0⟩, ⟨8, 0, .rw, 0x0⟩], false⟩,
  ⟨0x200D0034, 1, 4, 1, 4, [⟨24, 16, .rw, 0x0⟩, ⟨8, 0, .rw, 0x0⟩], false⟩,
  ⟨0x200D0038, 1, 4, 1, 4, [⟨24, 16, .rw, 0x0⟩, ⟨8, 0, .rw, 0x0⟩], false⟩,
  ⟨0x200D003C, 1, 4, 1, 4, [⟨24, 16, .rw, 0x0⟩, ⟨8, 0, .rw, 0x0⟩], false⟩,
  ⟨0x200D0040, 1, 4, 1, 4, [⟨15, 0, .rw, 0x2710⟩], false⟩,
  ⟨0x200D0060, 1, 4, 1, 4, [⟨31, 0, .rw, 0x0⟩], false⟩,
  ⟨0x200D0064, 1, 4, 1, 4, [⟨31, 0, .rw, 0x0⟩], false⟩,
  ⟨0x200D0068, 1, 4, 1, 4, [⟨31, 0, .rw, 0x0⟩], false⟩,
  ⟨0x200D006C, 1, 4, 1, 4, [⟨31, 0, .rw, 0x0⟩], false⟩,
  ⟨0x200D0070, 1, 4, 1, 4, [⟨31, 0, .rw, 0x46ABE000⟩], false⟩,
  ⟨0x200D0074, 1, 4, 1, 4, [⟨31, 0, .rw, 0x7F800000⟩], false⟩,
  ⟨0x200D0078, 1, 4, 1, 4, [⟨31, 0, .rw, 0x41200000⟩], false⟩,
  ⟨0x200D007C, 1, 4, 1, 4, [⟨31, 0, .rw, 0x0⟩], false⟩,
  ⟨0x200D0080, 1, 4, 1, 4, [⟨31, 0, .rw, 0x42480000⟩], false⟩,
  ⟨0x200D0084, 1, 4, 1, 4, [⟨31, 0, .rw, 0x40000000⟩], false⟩,
  ⟨0x200D0088, 1, 4, 1, 4, [⟨31, 0, .rw, 0x0⟩], false⟩,
  ⟨0x200D008C, 1, 4, 1, 4, [⟨31, 0, .rw, 0x7F800000⟩], false⟩,
  ⟨0x200D0090, 1, 4, 1, 4, [⟨31, 0, .rw, 0x0⟩], false⟩,
  ⟨0x200D0094, 1, 4, 1, 4, [⟨31, 0, .rw, 0x3F733333⟩], false⟩,
  ⟨0x200D0098, 1, 4, 1, 4, [⟨31, 0, .rw, 0x3F800000⟩], false⟩,
  ⟨0x200D009C, 1, 4, 1, 4, [⟨31, 0, .rw, 0x0⟩], false⟩,
  ⟨0x200D00A0, 1, 4, 1, 4, [⟨31, 0, .rw, 0x3E6B851F⟩], false⟩,
  ⟨0x200D00A4, 1, 4, 1, 4, [⟨31, 0, .rw, 0x0⟩], false⟩]

/-- The registers at 0x200D0000 (part 2). -/
def RegMap.rows200Dp1 : List RegSpec := [
  ⟨0x200D00A8, 1, 4, 1, 4, [⟨31, 0, .rw, 0x0⟩], false⟩,
  ⟨0x200D00AC, 1, 4, 1, 4, [⟨31, 0, .rw, 0x7F800000⟩], false⟩,
  ⟨0x200D00B0, 1, 4, 1, 4, [⟨31, 0, .rw, 0x7F800000⟩], false⟩,
  ⟨0x200D00B4, 1, 4, 1, 4, [⟨31, 0, .rw, 0x7F800000⟩], false⟩,
  ⟨0x200D00B8, 1, 4, 1, 4, [⟨31, 0, .rw, 0x7F800000⟩], false⟩]

/-- The registers at 0x200D0000. -/
def RegMap.rows200D : List RegSpec := RegMap.rows200Dp0 ++ RegMap.rows200Dp1

/-- The registers at 0x200E0000. -/
def RegMap.rows200E : List RegSpec := [
  ⟨0x200E0000, 1, 4, 1, 4, [⟨8, 0, .rw, 0x0⟩], false⟩,
  ⟨0x200E0004, 1, 4, 1, 4, [⟨31, 0, .rw, 0x41000000⟩], false⟩,
  ⟨0x200E0100, 3, 64, 1, 4, [⟨14, 8, .rw, 0x0⟩, ⟨2, 2, .rw, 0x0⟩, ⟨1, 1, .rw, 0x0⟩, ⟨0, 0, .rw, 0x0⟩], false⟩,
  ⟨0x200E0104, 3, 64, 1, 4, [⟨8, 0, .rw, 0x0⟩], false⟩,
  ⟨0x200E0108, 3, 64, 1, 4, [⟨31, 0, .rw, 0x0⟩], false⟩,
  ⟨0x200E010C, 3, 64, 1, 4, [⟨1, 1, .w1s, 0x0⟩, ⟨0, 0, .w1s, 0x0⟩], false⟩,
  ⟨0x200E0110, 3, 64, 1, 4, [⟨9, 9, .ro, 0x0⟩, ⟨8, 8, .ro, 0x0⟩, ⟨6, 4, .ro, 0x0⟩, ⟨2, 0, .ro, 0x0⟩], false⟩,
  ⟨0x200E0114, 3, 64, 1, 4, [⟨31, 0, .rw, 0x0⟩], false⟩,
  ⟨0x200E0118, 3, 64, 1, 4, [⟨31, 0, .rw, 0x0⟩], false⟩,
  ⟨0x200E011C, 3, 64, 1, 4, [⟨31, 0, .rw, 0x0⟩], false⟩,
  ⟨0x200E0120, 3, 64, 1, 4, [⟨31, 0, .rw, 0x41A00000⟩], false⟩,
  ⟨0x200E0124, 3, 64, 1, 4, [⟨15, 0, .rw, 0x0⟩], false⟩,
  ⟨0x200E0128, 3, 64, 1, 4, [⟨19, 0, .rw, 0x7D0⟩], false⟩,
  ⟨0x200E012C, 3, 64, 1, 4, [⟨11, 0, .rw, 0x32⟩], false⟩,
  ⟨0x200E0130, 3, 64, 1, 4, [⟨13, 0, .rw, 0x3E8⟩], false⟩,
  ⟨0x200E0300, 1, 4, 1, 4, [⟨0, 0, .w1s, 0x0⟩], false⟩,
  ⟨0x200E0304, 1, 4, 1, 4, [⟨31, 0, .rws, 0x0⟩], false⟩,
  ⟨0x200E0308, 1, 4, 1, 4, [⟨31, 0, .rws, 0x0⟩], false⟩,
  ⟨0x200E030C, 1, 4, 1, 4, [⟨7, 0, .rws, 0x2⟩], false⟩,
  ⟨0x200E0310, 1, 4, 1, 4, [⟨8, 8, .ro, 0x0⟩, ⟨5, 5, .ro, 0x0⟩, ⟨4, 4, .ro, 0x0⟩, ⟨2, 0, .ro, 0x0⟩], false⟩,
  ⟨0x200E0314, 1, 4, 1, 4, [⟨6, 4, .rws, 0x0⟩, ⟨2, 0, .rws, 0x0⟩], false⟩,
  ⟨0x200E0318, 1, 4, 1, 4, [⟨31, 16, .ro, 0x0⟩, ⟨0, 0, .ro, 0x0⟩], false⟩]

/-- The registers at 0x200F0000 (part 1). -/
def RegMap.rows200Fp0 : List RegSpec := [
  ⟨0x200F0000, 1, 4, 1, 4, [⟨0, 0, .rw, 0x1⟩], false⟩,
  ⟨0x200F0004, 1, 4, 1, 4, [⟨21, 16, .rw, 0x5⟩, ⟨5, 0, .rw, 0xF⟩], false⟩,
  ⟨0x200F0008, 1, 4, 1, 4, [⟨0, 0, .ro, 0x0⟩], false⟩,
  ⟨0x200F000C, 1, 4, 1, 4, [⟨23, 0, .w1c, 0x0⟩], false⟩,
  ⟨0x200F0100, 16, 4, 1, 4, [⟨11, 8, .rw, 0x0⟩, ⟨5, 4, .rw, 0x0⟩, ⟨0, 0, .rw, 0x0⟩], false⟩,
  ⟨0x200F0140, 8, 4, 1, 4, [⟨0, 0, .ro, 0x1⟩], false⟩,
  ⟨0x200F0200, 24, 4, 1, 4, [⟨31, 0, .ro, 0x0⟩], false⟩,
  ⟨0x200F0400, 14, 32, 1, 4, [⟨2, 0, .rw, 0x0⟩], false⟩,
  ⟨0x200F05C0, 2, 32, 1, 4, [⟨2, 0, .ro, 0x0⟩], false⟩,
  ⟨0x200F0404, 14, 32, 1, 4, [⟨31, 0, .rw, 0x7F800000⟩], false⟩,
  ⟨0x200F05C4, 2, 32, 1, 4, [⟨31, 0, .ro, 0x43070000⟩], false⟩,
  ⟨0x200F0408, 14, 32, 1, 4, [⟨31, 0, .rw, 0x7F800000⟩], false⟩,
  ⟨0x200F05C8, 2, 32, 1, 4, [⟨31, 0, .ro, 0x430C0000⟩], false⟩,
  ⟨0x200F040C, 14, 32, 1, 4, [⟨31, 0, .rw, 0x7F800000⟩], false⟩,
  ⟨0x200F05CC, 2, 32, 1, 4, [⟨31, 0, .ro, 0x43140000⟩], false⟩,
  ⟨0x200F0410, 14, 32, 1, 4, [⟨31, 0, .rw, 0x7F800000⟩], false⟩,
  ⟨0x200F05D0, 2, 32, 1, 4, [⟨31, 0, .ro, 0x43160000⟩], false⟩,
  ⟨0x200F0414, 14, 32, 1, 4, [⟨31, 0, .rw, 0x42200000⟩], false⟩,
  ⟨0x200F05D4, 2, 32, 1, 4, [⟨31, 0, .ro, 0x42200000⟩], false⟩,
  ⟨0x200F0418, 14, 32, 1, 4, [⟨31, 0, .rw, 0x41200000⟩], false⟩,
  ⟨0x200F05D8, 2, 32, 1, 4, [⟨31, 0, .ro, 0x41200000⟩], false⟩,
  ⟨0x200F041C, 14, 32, 1, 4, [⟨31, 0, .rw, 0x40A00000⟩], false⟩,
  ⟨0x200F05DC, 2, 32, 1, 4, [⟨31, 0, .ro, 0x40A00000⟩], false⟩,
  ⟨0x200F0600, 16, 16, 1, 4, [⟨31, 0, .ro, 0x0⟩], false⟩,
  ⟨0x200F0604, 16, 16, 1, 4, [⟨31, 0, .ro, 0x3F800000⟩], false⟩,
  ⟨0x200F0608, 16, 16, 1, 4, [⟨5, 4, .ro, 0x0⟩, ⟨3, 3, .ro, 0x0⟩, ⟨2, 2, .ro, 0x0⟩, ⟨1, 1, .ro, 0x0⟩, ⟨0, 0, .ro, 0x0⟩], false⟩,
  ⟨0x200F1000, 4, 128, 32, 4, [⟨31, 0, .rw, 0x0⟩], false⟩,
  ⟨0x200F1200, 4, 4, 1, 4, [⟨27, 16, .rw, 0xFC0⟩, ⟨11, 0, .rw, 0x40⟩], false⟩,
  ⟨0x200F8000, 1, 4, 1, 4, [⟨7, 0, .ro, 0x0⟩], true⟩,
  ⟨0x200F8004, 1, 4, 1, 4, [⟨10, 9, .w1c, 0x0⟩, ⟨8, 8, .w1c, 0x0⟩, ⟨7, 0, .w1c, 0x0⟩], true⟩]

/-- The registers at 0x200F0000 (part 2). -/
def RegMap.rows200Fp1 : List RegSpec := [
  ⟨0x200F8008, 1, 4, 1, 4, [⟨31, 0, .ro, 0x0⟩], true⟩,
  ⟨0x200F800C, 1, 4, 1, 4, [⟨31, 0, .ro, 0x0⟩], true⟩]

/-- The registers at 0x200F0000. -/
def RegMap.rows200F : List RegSpec := RegMap.rows200Fp0 ++ RegMap.rows200Fp1

/-- The registers at 0x20100000. -/
def RegMap.rows2010 : List RegSpec := [
  ⟨0x20100000, 512, 8, 1, 4, [⟨31, 0, .ro, 0x0⟩], false⟩,
  ⟨0x20100004, 512, 8, 1, 4, [⟨15, 0, .ro, 0x0⟩], false⟩,
  ⟨0x20101000, 16, 4, 1, 4, [⟨31, 0, .rw, 0x0⟩], false⟩,
  ⟨0x20101040, 16, 4, 1, 4, [⟨31, 0, .w1c, 0x0⟩], false⟩,
  ⟨0x20101080, 16, 4, 1, 4, [⟨31, 0, .w1s, 0x0⟩], false⟩,
  ⟨0x20102000, 1, 4, 1, 4, [⟨31, 0, .ro, 0x0⟩], false⟩,
  ⟨0x20102004, 1, 4, 1, 4, [⟨31, 0, .ro, 0x0⟩], false⟩,
  ⟨0x20102008, 1, 4, 1, 4, [⟨31, 0, .ro, 0x0⟩], false⟩,
  ⟨0x2010200C, 1, 4, 1, 4, [⟨23, 16, .ro, 0x0⟩, ⟨15, 0, .ro, 0x0⟩], false⟩,
  ⟨0x20102010, 1, 4, 1, 4, [⟨0, 0, .w1s, 0x0⟩], false⟩,
  ⟨0x20102014, 1, 4, 1, 4, [⟨31, 16, .ro, 0x0⟩, ⟨0, 0, .ro, 0x0⟩], false⟩,
  ⟨0x20104000, 8192, 4, 1, 4, [⟨31, 0, .ro, 0x0⟩], false⟩]

/-- The registers at 0x20110000. -/
def RegMap.rows2011 : List RegSpec := [
  ⟨0x20110000, 1, 4, 1, 4, [⟨23, 16, .rw, 0x0⟩, ⟨15, 12, .rw, 0x3⟩, ⟨8, 8, .rw, 0x0⟩, ⟨4, 4, .rw, 0x0⟩, ⟨1, 0, .rw, 0x0⟩], false⟩,
  ⟨0x20110004, 1, 4, 1, 4, [⟨0, 0, .rw, 0x0⟩], false⟩,
  ⟨0x20110008, 1, 4, 1, 4, [⟨6, 6, .ro, 0x0⟩, ⟨5, 5, .ro, 0x0⟩, ⟨4, 4, .ro, 0x0⟩, ⟨3, 3, .ro, 0x0⟩, ⟨2, 2, .ro, 0x1⟩, ⟨1, 1, .ro, 0x0⟩, ⟨0, 0, .ro, 0x0⟩], false⟩,
  ⟨0x2011000C, 1, 4, 1, 4, [⟨6, 0, .rw, 0xA⟩], false⟩,
  ⟨0x20110010, 1, 4, 1, 4, [⟨31, 0, .rw, 0x447A0000⟩], false⟩,
  ⟨0x20110014, 1, 4, 1, 4, [⟨9, 0, .rw, 0xA⟩], false⟩,
  ⟨0x20110018, 1, 4, 1, 4, [⟨31, 16, .ro, 0x0⟩, ⟨15, 0, .ro, 0x0⟩], false⟩,
  ⟨0x2011001C, 1, 4, 1, 4, [⟨15, 0, .ro, 0x0⟩], false⟩,
  ⟨0x20110020, 1, 4, 1, 4, [⟨31, 16, .rc, 0x0⟩, ⟨15, 0, .rc, 0x0⟩], false⟩,
  ⟨0x20110024, 1, 4, 1, 4, [⟨31, 16, .rc, 0x0⟩, ⟨15, 0, .rc, 0x0⟩], false⟩,
  ⟨0x20110030, 1, 4, 1, 4, [⟨28, 0, .rw, 0x0⟩], false⟩,
  ⟨0x20110040, 2, 16, 1, 4, [⟨26, 20, .rw, 0x0⟩, ⟨19, 13, .rw, 0x0⟩, ⟨12, 5, .rw, 0x0⟩, ⟨4, 0, .rw, 0x0⟩], false⟩,
  ⟨0x20110044, 2, 16, 1, 4, [⟨25, 25, .rw, 0x0⟩, ⟨24, 18, .rw, 0x0⟩, ⟨17, 14, .rw, 0x0⟩, ⟨13, 10, .rw, 0x0⟩, ⟨9, 5, .rw, 0x0⟩, ⟨4, 0, .rw, 0x0⟩], false⟩,
  ⟨0x20110080, 2, 64, 8, 8, [⟨31, 31, .rw, 0x0⟩, ⟨30, 30, .rw, 0x0⟩, ⟨28, 0, .rw, 0x0⟩], false⟩,
  ⟨0x20110084, 2, 64, 8, 8, [⟨28, 0, .rw, 0x0⟩], false⟩,
  ⟨0x20110100, 1, 4, 1, 4, [⟨18, 16, .rw, 0x0⟩, ⟨15, 4, .rw, 0x0⟩, ⟨1, 1, .rw, 0x0⟩, ⟨0, 0, .rw, 0x0⟩], false⟩,
  ⟨0x20110104, 1, 4, 1, 4, [⟨31, 0, .rw, 0x0⟩], false⟩,
  ⟨0x20110108, 1, 4, 1, 4, [⟨31, 0, .rw, 0x0⟩], false⟩,
  ⟨0x2011010C, 1, 4, 1, 4, [⟨31, 0, .rw, 0x0⟩], false⟩,
  ⟨0x20110110, 1, 4, 1, 4, [⟨15, 0, .rw, 0x0⟩], false⟩,
  ⟨0x20110200, 1, 4, 1, 4, [⟨31, 0, .rw, 0x0⟩], false⟩,
  ⟨0x20110204, 1, 4, 1, 4, [⟨3, 0, .rw, 0x2⟩], false⟩,
  ⟨0x20110208, 1, 4, 1, 4, [⟨31, 0, .ro, 0x0⟩], false⟩,
  ⟨0x2011020C, 1, 4, 1, 4, [⟨31, 0, .rw, 0x0⟩], false⟩,
  ⟨0x20110210, 1, 4, 1, 4, [⟨31, 0, .rw, 0x0⟩], false⟩,
  ⟨0x20110214, 1, 4, 1, 4, [⟨3, 0, .rw, 0x2⟩], false⟩,
  ⟨0x20110218, 1, 4, 1, 4, [⟨31, 0, .rw, 0x0⟩], false⟩,
  ⟨0x2011021C, 1, 4, 1, 4, [⟨31, 0, .ro, 0x0⟩], false⟩]

/-- The registers at 0x20120000. -/
def RegMap.rows2012 : List RegSpec := [
  ⟨0x20120000, 1, 4, 1, 4, [⟨13, 12, .rw, 0x3⟩, ⟨10, 10, .rw, 0x1⟩, ⟨9, 9, .rw, 0x1⟩, ⟨8, 8, .rw, 0x0⟩, ⟨6, 4, .rw, 0x0⟩, ⟨2, 0, .rw, 0x0⟩], false⟩,
  ⟨0x20120004, 1, 4, 1, 4, [⟨0, 0, .rw, 0x0⟩], false⟩,
  ⟨0x20120008, 1, 4, 1, 4, [⟨23, 16, .ro, 0x0⟩, ⟨15, 8, .ro, 0x0⟩, ⟨4, 4, .ro, 0x0⟩, ⟨3, 3, .w1c, 0x0⟩, ⟨2, 2, .w1c, 0x0⟩, ⟨1, 1, .ro, 0x0⟩, ⟨0, 0, .ro, 0x0⟩], false⟩,
  ⟨0x2012000C, 1, 4, 1, 4, [⟨6, 0, .rw, 0xA⟩], false⟩,
  ⟨0x20120010, 1, 4, 1, 4, [⟨6, 0, .rw, 0x5⟩], false⟩,
  ⟨0x20120014, 1, 4, 1, 4, [⟨15, 0, .ro, 0x0⟩], false⟩,
  ⟨0x20120018, 1, 4, 1, 4, [⟨31, 0, .wo, 0x0⟩], false⟩,
  ⟨0x20120020, 8, 4, 1, 4, [⟨31, 16, .rc, 0x0⟩, ⟨15, 0, .ro, 0x0⟩], false⟩,
  ⟨0x20120040, 2, 4, 1, 4, [⟨31, 16, .rc, 0x0⟩, ⟨15, 0, .rc, 0x0⟩], false⟩,
  ⟨0x20120100, 1, 4, 1, 4, [⟨31, 0, .rw, 0x0⟩], false⟩,
  ⟨0x20120104, 1, 4, 1, 4, [⟨3, 0, .rw, 0x2⟩], false⟩,
  ⟨0x20120108, 1, 4, 1, 4, [⟨31, 0, .ro, 0x0⟩], false⟩,
  ⟨0x2012010C, 1, 4, 1, 4, [⟨31, 0, .rw, 0x0⟩], false⟩,
  ⟨0x20120110, 1, 4, 1, 4, [⟨31, 0, .rw, 0x0⟩], false⟩,
  ⟨0x20120114, 1, 4, 1, 4, [⟨3, 0, .rw, 0x2⟩], false⟩,
  ⟨0x20120118, 1, 4, 1, 4, [⟨31, 0, .rw, 0x0⟩], false⟩,
  ⟨0x2012011C, 1, 4, 1, 4, [⟨31, 0, .ro, 0x0⟩], false⟩,
  ⟨0x20120120, 1, 4, 1, 4, [⟨31, 0, .rw, 0x0⟩], false⟩,
  ⟨0x20120124, 1, 4, 1, 4, [⟨7, 4, .ro, 0x0⟩, ⟨3, 0, .ro, 0x0⟩], false⟩,
  ⟨0x20120128, 1, 4, 1, 4, [⟨3, 0, .wo, 0x0⟩], false⟩,
  ⟨0x2012012C, 1, 4, 1, 4, [⟨7, 1, .rw, 0x7F⟩], false⟩]

/-- The registers at 0x20130000. -/
def RegMap.rows2013 : List RegSpec := [
  ⟨0x20130000, 1, 4, 1, 4, [⟨31, 16, .ro, 0x0⟩, ⟨2, 2, .ro, 0x0⟩, ⟨1, 1, .ro, 0x0⟩, ⟨0, 0, .ro, 0x0⟩], false⟩,
  ⟨0x20130004, 1, 4, 1, 4, [⟨31, 0, .ro, 0x0⟩], false⟩,
  ⟨0x20130100, 3, 64, 1, 4, [⟨15, 8, .wo, 0x0⟩, ⟨4, 4, .wo, 0x0⟩, ⟨3, 0, .wo, 0x0⟩], false⟩,
  ⟨0x20130104, 3, 64, 1, 4, [⟨31, 0, .rw, 0x0⟩], false⟩,
  ⟨0x20130108, 3, 64, 1, 4, [⟨31, 0, .rw, 0x0⟩], false⟩,
  ⟨0x2013010C, 3, 64, 1, 4, [⟨31, 0, .rw, 0x0⟩], false⟩,
  ⟨0x20130110, 3, 64, 1, 4, [⟨7, 4, .ro, 0x0⟩, ⟨0, 0, .ro, 0x0⟩], false⟩,
  ⟨0x20130114, 3, 64, 1, 4, [⟨31, 0, .ro, 0x0⟩], false⟩]

/-- The registers at 0x20140000. -/
def RegMap.rows2014 : List RegSpec := [
  ⟨0x20140000, 1, 4, 1, 4, [⟨25, 24, .ro, 0x0⟩, ⟨18, 16, .ro, 0x0⟩, ⟨2, 0, .ro, 0x0⟩], false⟩,
  ⟨0x20140004, 1, 4, 1, 4, [⟨31, 0, .rw, 0x0⟩], false⟩,
  ⟨0x20140008, 1, 4, 1, 4, [⟨31, 16, .rw, 0x0⟩, ⟨15, 0, .rw, 0x0⟩], false⟩,
  ⟨0x2014000C, 1, 4, 1, 4, [⟨31, 0, .rw, 0x0⟩], false⟩,
  ⟨0x20140010, 1, 4, 1, 4, [⟨31, 0, .wo, 0x0⟩], false⟩,
  ⟨0x20140014, 1, 4, 1, 4, [⟨0, 0, .w1s, 0x0⟩], false⟩,
  ⟨0x20140018, 1, 4, 1, 4, [⟨17, 16, .ro, 0x0⟩, ⟨15, 0, .ro, 0x0⟩], false⟩,
  ⟨0x2014001C, 1, 4, 1, 4, [⟨31, 16, .ro, 0x0⟩, ⟨15, 0, .ro, 0x0⟩], false⟩,
  ⟨0x20140040, 1, 4, 1, 4, [⟨18, 16, .rw, 0x0⟩, ⟨15, 0, .rw, 0x0⟩], false⟩,
  ⟨0x20140044, 1, 4, 1, 4, [⟨31, 0, .rw, 0x0⟩], false⟩,
  ⟨0x20140048, 1, 4, 1, 4, [⟨31, 0, .rw, 0x0⟩], false⟩,
  ⟨0x2014004C, 1, 4, 1, 4, [⟨1, 1, .w1s, 0x0⟩, ⟨0, 0, .w1s, 0x0⟩], false⟩,
  ⟨0x20140050, 1, 4, 1, 4, [⟨13, 12, .ro, 0x0⟩, ⟨11, 10, .ro, 0x0⟩, ⟨9, 8, .ro, 0x0⟩, ⟨0, 0, .ro, 0x0⟩], false⟩,
  ⟨0x20140060, 1, 4, 1, 4, [⟨31, 16, .w1s, 0x0⟩, ⟨0, 0, .w1s, 0x0⟩], false⟩,
  ⟨0x20140080, 3, 4, 1, 4, [⟨31, 16, .ro, 0x0⟩, ⟨6, 6, .ro, 0x0⟩, ⟨5, 4, .ro, 0x0⟩, ⟨2, 2, .ro, 0x0⟩, ⟨1, 1, .ro, 0x0⟩, ⟨0, 0, .ro, 0x0⟩], false⟩,
  ⟨0x20140100, 1, 4, 1, 4, [⟨31, 20, .rw, 0x258⟩, ⟨19, 12, .rw, 0x14⟩, ⟨11, 6, .rw, 0x14⟩, ⟨3, 1, .rw, 0x1⟩, ⟨0, 0, .rw, 0x1⟩], false⟩,
  ⟨0x20140104, 1, 4, 1, 4, [⟨31, 0, .rw, 0x41F00000⟩], false⟩,
  ⟨0x20140108, 1, 4, 1, 4, [⟨15, 0, .rw, 0x3E8⟩], false⟩]

/-- The registers at 0x20150000. -/
def RegMap.rows2015 : List RegSpec := [
  ⟨0x20150000, 1, 4, 1, 4, [⟨8, 8, .ro, 0x0⟩, ⟨6, 4, .ro, 0x0⟩, ⟨1, 1, .ro, 0x0⟩, ⟨0, 0, .ro, 0x0⟩], false⟩,
  ⟨0x20150040, 1, 4, 1, 4, [⟨1, 0, .rwm, 0x0⟩], false⟩,
  ⟨0x20150100, 2, 32, 8, 4, [⟨31, 0, .ro, 0x0⟩], false⟩]

/-- The registers at 0x201F0000. -/
def RegMap.rows201F : List RegSpec := [
  ⟨0x201F0000, 1, 4, 1, 4, [⟨31, 0, .wo, 0x0⟩], false⟩,
  ⟨0x201F0004, 1, 4, 1, 4, [⟨0, 0, .ro, 0x0⟩], false⟩,
  ⟨0x201F0008, 1, 4, 1, 4, [⟨31, 0, .rw, 0x1⟩], false⟩,
  ⟨0x201F0010, 6, 4, 1, 4, [⟨31, 31, .rw, 0x0⟩, ⟨8, 8, .rw, 0x0⟩, ⟨7, 0, .rw, 0x0⟩], false⟩,
  ⟨0x201F0030, 4, 4, 1, 4, [⟨31, 31, .rw, 0x0⟩, ⟨7, 0, .rw, 0x0⟩], false⟩,
  ⟨0x201F0040, 1, 4, 1, 4, [⟨31, 31, .rw, 0x0⟩, ⟨5, 0, .rw, 0x0⟩], false⟩,
  ⟨0x201F0044, 1, 4, 1, 4, [⟨31, 0, .rw, 0x0⟩], false⟩,
  ⟨0x201F0050, 1, 4, 1, 4, [⟨31, 31, .w1s, 0x0⟩, ⟨12, 12, .rw, 0x0⟩, ⟨10, 8, .rw, 0x0⟩, ⟨5, 4, .rw, 0x0⟩, ⟨1, 0, .rw, 0x0⟩], false⟩,
  ⟨0x201F0060, 1, 4, 1, 4, [⟨31, 0, .rw, 0x0⟩], false⟩,
  ⟨0x201F0064, 1, 4, 1, 4, [⟨31, 0, .rw, 0x0⟩], false⟩,
  ⟨0x201F0068, 1, 4, 1, 4, [⟨31, 0, .wo, 0x0⟩], false⟩]

/-- The rows that can hold address `a`: the block's, by the address above bit 16 (CLE and its arrays run over several). -/
def RegMap.blockRows (a : Nat) : List RegSpec :=
  match a / 65536 with
  | 0x2000 => RegMap.rows2000
  | 0x2001 => RegMap.rows2001
  | 0x2002 => RegMap.rows2002
  | 0x2003 => RegMap.rows2003
  | 0x2004 => RegMap.rows2004
  | 0x2005 => RegMap.rows2005
  | 0x2006 => RegMap.rows2006
  | 0x2007 => RegMap.rows2007
  | 0x2008 => RegMap.rows2008
  | 0x2009 => RegMap.rows2009
  | 0x200A => RegMap.rows200A
  | 0x200B => RegMap.rows200B
  | 0x200C => RegMap.rows200C
  | 0x200D => RegMap.rows200D
  | 0x200E => RegMap.rows200E
  | 0x200F => RegMap.rows200F
  | 0x2010 => RegMap.rows2010
  | 0x2011 => RegMap.rows2011
  | 0x2012 => RegMap.rows2012
  | 0x2013 => RegMap.rows2013
  | 0x2014 => RegMap.rows2014
  | 0x2015 => RegMap.rows2015
  | 0x201F => RegMap.rows201F
  | _ => []

/-- Address `a` is one of the row's registers. -/
def RegSpec.holds (r : RegSpec) (a : Nat) : Bool :=
  decide (r.base ≤ a) &&
    (let o := offs a r.base
     if r.s2 ≤ r.s1 then
       let i := o / r.s1
       let k := o % r.s1
       decide (i < r.n1) && decide (k % r.s2 = 0) && decide (k / r.s2 < r.n2)
     else
       let i := o / r.s2
       let k := o % r.s2
       decide (i < r.n2) && decide (k % r.s1 = 0) && decide (k / r.s1 < r.n1))

/-- The register at address `a`, if the map has one (R6: an address it does not list is unmapped). -/
def RegMap.find (a : Nat) : Option RegSpec :=
  (RegMap.blockRows a).find? fun r => r.holds a

/-- The mask of bits lo to hi. -/
def bitMask (hi lo : Nat) : Nat := (2 ^ (hi + 1 - lo) - 1) * 2 ^ lo

/-- The bits of a register whose access code satisfies `p`. -/
def RegSpec.mask (r : RegSpec) (p : Acc → Bool) : Word :=
  r.fields.foldl (fun m f => if p f.acc then m ||| BitVec.ofNat 32 (bitMask f.hi f.lo) else m) 0

/-- The reset value of a register. -/
def RegSpec.resetVal (r : RegSpec) : Word :=
  r.fields.foldl (fun m f => m ||| BitVec.ofNat 32 (f.reset * 2 ^ f.lo)) 0

/-- What an unwritten register reads as: its reset value; 0 where the map has none (R7). -/
def RegMap.reset (a : Nat) : Word :=
  match RegMap.find a with
  | some r => r.resetVal
  | none => 0

/-- The bits a register implements; a reserved bit reads 0 (R7). -/
def RegMap.impl (a : Nat) : Word :=
  match RegMap.find a with
  | some r => r.mask fun _ => true
  | none => 0

end Sys2Proof.Machine
end

