-- ==== Sys2Proof/Machine/Maps.lean ====
section
/-! DEFINITION. Sparse maps as plain data: a list of (key, value) pairs, keys strictly rising, that lists no entry equal to what an unlisted key reads as (the function `d`). Memory, registers and tables of like records are held in this form, so that equal contents are equal data. -/

namespace Sys2Proof.Machine

/-- A sparse map from addresses or indexes to values. -/
abbrev SMap (V : Type) := List (Nat × V)

/-- What key `k` reads as: the listed value, else the default `d k`. -/
def SMap.get {V : Type} (d : Nat → V) (m : SMap V) (k : Nat) : V :=
  match m with
  | [] => d k
  | (k', v) :: t => if k = k' then v else SMap.get d t k

/-- The map without an entry for `k`. -/
def SMap.erase {V : Type} (m : SMap V) (k : Nat) : SMap V :=
  match m with
  | [] => []
  | (k', v) :: t => if k = k' then SMap.erase t k else (k', v) :: SMap.erase t k

/-- The map with the pair put before the first greater key. -/
def SMap.insert {V : Type} (m : SMap V) (k : Nat) (v : V) : SMap V :=
  match m with
  | [] => [(k, v)]
  | (k', v') :: t => if k < k' then (k, v) :: (k', v') :: t else (k', v') :: SMap.insert t k v

/-- Write `v` at key `k`; writing the default removes the entry, so that the form stays canonical. -/
def SMap.set {V : Type} [DecidableEq V] (d : Nat → V) (m : SMap V) (k : Nat) (v : V) : SMap V :=
  if v = d k then SMap.erase m k else SMap.insert (SMap.erase m k) k v

/-- Every key of the map is greater than `k`. -/
def SMap.above {V : Type} (k : Nat) (m : SMap V) : Bool :=
  m.all fun p => decide (k < p.1)

/-- The canonical form: keys strictly rising and no entry equal to its default. -/
def SMap.wf {V : Type} [DecidableEq V] (d : Nat → V) : SMap V → Bool
  | [] => true
  | (k, v) :: t => decide (v ≠ d k) && SMap.above k t && SMap.wf d t

end Sys2Proof.Machine
end

