-- ==== Sys2Proof/Machine/State.lean ====
section
/-! DEFINITION. The state of the EBF-6820 as plain data: the registers and memory as sparse maps, and block by block what the spec gives the machine beside its registers. The default of each field is its value after power-on. -/

namespace Sys2Proof.Machine

/-- One lane of the inter-die link (R13 to R19). -/
structure IdlLane where
  /-- The lane is marked down (R16). -/
  down : Bool := false
  /-- A training sequence runs on the lane (R19). -/
  training : Bool := false
  /-- Consecutive good frames of the training (R19), stopping at 1,000. -/
  good : Nat := 0
  /-- Copies with a bad CRC (R15). -/
  errors : BitVec 32 := 0
  /-- Clave of the last retry, or of the lane going down (R19). -/
  since : Nat := 0
  /-- The frame last sent on the lane by the L-die and by the D-die (R13). -/
  sentL : BitVec 48 := 0
  sentD : BitVec 48 := 0
deriving DecidableEq, Repr

/-- An access to a D-die register in flight over the inter-die link (R20, R21). -/
structure DAccess where
  master : Master
  addr : Word
  write : Bool
  value : Word
  /-- Time of its issue. -/
  start : Nat
  /-- The instruction count of a pair's load (R498). -/
  tag : Option (BitVec 64) := none
  /-- The bits hardware sets in the cycle of the write (R10). -/
  hw : Word := 0
deriving DecidableEq, Repr

/-- The inter-die link. -/
structure Idl where
  lane0 : IdlLane := {}
  lane1 : IdlLane := {}
  /-- The last frame accepted by the L-die (R14). -/
  toL : BitVec 48 := 0
  /-- The last frame accepted by the D-die (R14). -/
  toD : BitVec 48 := 0
  /-- Both lanes are silent (R18). -/
  lost : Bool := false
  /-- IDL_LOST as the D-die raised it, whose record waits for a lane (R18, R56). -/
  lostD : Bool := false
  /-- Accesses waiting for an answer, oldest first; their cores stall (R20). -/
  accesses : List DAccess := []
deriving DecidableEq, Repr

/-- What the last bus access answered: a bus error (R6, R32, R34), and the data of a read. -/
structure BusResp where
  err : Bool := false
  data : Word := 0
deriving DecidableEq, Repr

/-- A write by a pair in the present interconnect cycle (R35). -/
structure BusWrite where
  /-- Its interconnect cycle. -/
  cyc : Nat
  master : Master
  addr : Nat
  size : AccSize
  value : Word
deriving DecidableEq, Repr

/-- The clock faults seen (R25 to R28). -/
structure Clocks where
  pllA : Bool := false
  pllB : Bool := false
  xtal25 : Bool := false
  xtal32 : Bool := false
deriving DecidableEq, Repr

/-- A journal record (R58); its bytes 15:12 of flags are held apart: FW, RECEIPT, UNSYNC, PINNED. -/
structure JRec where
  stamp : Tick := 0
  code : BitVec 16 := 0
  inst : BitVec 8 := 0
  cls : Nat := 0
  fw : Bool := false
  receipt : Bool := false
  unsync : Bool := false
  payload : Payload := {}
  /-- Its source (R56), and the control cycle in which the source raised it (R57). -/
  src : Nat := 0
  raised : Nat := 0
deriving DecidableEq, Repr

/-- The overrun counter of one source (R63). -/
structure Overrun where
  code : BitVec 16 := 0
  inst : BitVec 8 := 0
  count : Nat := 0
  first : Tick := 0
deriving DecidableEq, Repr

/-- A pinned record still unreleased: its slot and its sequence (R65). -/
structure Pin where
  slot : Nat
  seq : Word
deriving DecidableEq, Repr

/-- The journal writer (R57 to R72). -/
structure Jrn where
  /-- Records waiting for insertion, oldest first (R62, R63). -/
  waiting : List JRec := []
  /-- Overrun counters by source: the code's high byte × 256 + instance, or 2^16 + core for firmware records (R56, R63). -/
  overrun : SMap Overrun := []
  /-- By source: its last stamp plus one, and the control cycle of its last emission plus one (R57); 0 before the first. -/
  lastStamp : SMap (Nat × Nat) := []
  /-- Unreleased pinned records, oldest first (R65, R66). -/
  pins : List Pin := []
  /-- The writer awaits JRN_START as its first record (R69). -/
  startDue : Bool := true
  /-- Clave at the wake that began the present start, as JRN_START reports it (R69); 0 otherwise. -/
  wakeClave : Tick := 0
deriving DecidableEq, Repr

/-- Clave's parts beyond the count (R38 to R55). -/
structure Clv where
  /-- The upper half latched by a read of a LO register and not yet read (R41), by 2^32 × master + LO address; a master is a core's index 2p or 2p + 1, 6 to 8 for DMA, 9 for the boot ROM. -/
  latchHi : SMap (Option Word) := []
  /-- The alarm value compared: CLV_ALARM_LO and HI as of the last write of HI (R45). -/
  alarm : Tick := 0
  /-- The alarm has not fired since it was armed (R45). -/
  alarmArmed : Bool := false
  /-- 4-bit fractional accumulator of the coarse count (R43). -/
  frac : BitVec 4 := 0
  /-- Clave cycles since the last rate correction (R39), and what the rate in force has gathered since, in ppb (R46, R54). -/
  sinceCorr : Nat := 0
  rateAcc : Int := 0
  /-- After a wake the coarse count goes on until the first edge after the Clave clock is stable (R44). -/
  resume : Bool := false
  /-- Ticks since the last edge of the D-die oscillator that stands in for XTAL32 (R28). -/
  sinceEdge : Nat := 0
  /-- Exchange in flight: its t1 (R46). -/
  exchange : Option Nat := none
  /-- Time of the last exchange begun. -/
  lastStart : Nat := 0
  /-- Time of the last exchange completed (R49). -/
  lastDone : Nat := 0
  /-- Consecutive exchanges within 10 ns (R49), stopping at 8. -/
  goodRun : Nat := 0
  /-- The mapping gPTP BASE_CLV, BASE_NS and RATE in force (R55). -/
  ptpClv : Tick := 0
  ptpNs : Tick := 0
  ptpRate : Word := 0
  /-- Clave value of the last interrupt of each periodic plus one (R75); 0 before the first. -/
  perLast : SMap Nat := []
deriving DecidableEq, Repr

/-- An interrupt delivered to a pair: of a code, or of a Clave periodic with its due value (R75, R487). -/
structure Irq where
  pair : Fin 3
  half : Half := .leading
  /-- The code; 0xFF00 + n for periodic n, 0xFE01 for a hand-over (R517, R519), 0xFE02 for a take-over offer (R512), 0xFE03 for an update (R652), 0xFE04 for the Gong (R675). -/
  code : BitVec 16
  inst : BitVec 8
  value : Tick
deriving DecidableEq, Repr

/-- A record of class DEGRADE, SAFE or FATAL whose reaction is still to run (R487). -/
structure React where
  code : BitVec 16
  inst : BitVec 8
  cls : Nat
  /-- Assignment of a DEGRADE class (R89): 0 shared resource, 1 TS-A, 2 TS-B. -/
  assign : Nat
  stamp : Tick
  /-- The control cycle in which it was raised (R85). -/
  cyc : Nat := 0
deriving DecidableEq, Repr

/-- An active cause of class DEGRADE or SAFE (R718). -/
structure Cause where
  code : BitVec 16
  inst : BitVec 8
  cls : Nat
  assign : Nat
deriving DecidableEq, Repr

/-- The six modes (R77); code 0 to 5 in this order. -/
inductive Mode where
  | dormant | arming | drive | charge | service | safeHold
deriving DecidableEq, Repr

/-- The sub-states of DRIVE (R89); code 0 to 3 in this order. -/
inductive Sub where
  | full | halfA | halfB | reduced
deriving DecidableEq, Repr

/-- How far the open-once test of a channel has come (R97). -/
inductive OpenOnce where
  | notDone | lowOk | done
deriving DecidableEq, Repr

/-- The steps of the entry into DORMANT (R104). -/
inductive Entry where
  | awake | nvmWait | lvcRamp | off
deriving DecidableEq, Repr

/-- The boot steps of ARMING (R106), each named for what it waits for. -/
inductive Boot where
  | logicBist | memoryBist | imageLoad | podRead | sealCheck | firmware | running | noImage
deriving DecidableEq, Repr

/-- What holds the L-die in reset beyond a short pulse (R546, R550). -/
inductive Hold where
  | no | hardCut | rail
deriving DecidableEq, Repr

/-- The mode sequencer (R77 to R118). -/
structure ModeSeq where
  /-- SYS_MODE.MODE (R78). -/
  mode : Mode := .arming
  /-- SYS_MODE.SUB (R89). -/
  sub : Sub := .full
  /-- SYS_MODE.RED_PEND (R92, R93). -/
  redPend : Bool := false
  /-- SYS_MODE.SAFE_LATCH (R87). -/
  safeLatch : Bool := false
  /-- The request written to SYS_MODE_REQ and not yet acted on (R84). -/
  request : Option (BitVec 4) := none
  /-- The control cycle in which the last transition was carried out on a request, and that request (R85). -/
  acted : Option (Nat × BitVec 4) := none
  /-- Clave of the last mode change. -/
  since : Nat := 0
  /-- Clave at which the sleep timeout was last started (R717). -/
  sleepStart : Nat := 0
  /-- The sleep timeout has expired without the conditions of SLEEP (R717). -/
  sleepDue : Bool := false
  /-- The step of the entry into DORMANT (R104). -/
  entry : Entry := .awake
  /-- A wake source fired during the entry (R103). -/
  wakeDue : Bool := false
  /-- The device is awake but FIRST is still to be recorded until the L-die starts (R102). -/
  waking : Bool := false
  /-- Boot step in progress (R106). -/
  boot : Boot := .logicBist
  /-- The present ARMING runs the boot steps (entered from a reset or wake). -/
  bootArming : Bool := true
  /-- ARMING steps have been found all passed (R88). -/
  stepsDone : Bool := false
  /-- ARMING_TIMEOUT was raised in this ARMING (R108). -/
  timedOut : Bool := false
  /-- LG diagnostics and resolver check have passed in this ARMING (DONE bit 5 needs both); the diagnostics have failed. -/
  diagOk : Bool := false
  diagBad : Bool := false
  resOk : Bool := false
  held : Hold := .no
  /-- The test running (R115), 0 to 3. -/
  test : Option (Fin 4) := none
  /-- Causes of class DEGRADE and SAFE still active, oldest first (R718). -/
  causes : List Cause := []
deriving DecidableEq, Repr

/-- One section coefficient set as a run reads it (R129). -/
structure Sec where
  b0 : F32
  b1 : F32
  b2 : F32
  a1 : F32
  a2 : F32
  slim : F32
  integ : Bool
  slimEn : Bool
deriving DecidableEq, Repr

/-- What a run samples in its first cycle (R124). -/
structure CleSnap where
  meas : F32
  tgt : F32
  gain : F32
  ff : F32
  hi : F32
  lo : F32
  rampRate : F32
  feLimit : F32
  freezeEn : Bool
  rampEn : Bool
  errMode : Bool
  secs : List Sec
  /-- The section states, FE_CFG's TIME, REACT and CLASS, SGRP, and the destination. -/
  states : List (F32 × F32)
  feTime : Nat
  feReact : Nat
  feClass : Nat
  sgrp : Nat
  kind : Nat
  index : Nat
deriving DecidableEq, Repr

/-- A release that is due and waits: its trigger instance, and what that instance started whose outputs the context reads: ADC sequences,
and sigma-delta samples of traction systems (R148, R149). -/
structure CleDue where
  inst : Nat
  seqs : List (Fin 32) := []
  sds : List (Fin 2) := []
deriving DecidableEq, Repr

/-- A context's parts beyond its registers (R119 to R166). -/
structure CleCtx where
  /-- A release that waits for an output it reads. -/
  due : Option CleDue := none
  /-- Released and not yet started; BUSY stays until the commit. -/
  waiting : Bool := false
  /-- Control cycle of the present release (R140). -/
  rel : Nat := 0
  /-- Trigger instance that released it (R149). -/
  inst : Nat := 0
  /-- What the run in progress sampled. -/
  snap : Option CleSnap := none
  /-- A run has committed since the enable (R119 `first`). -/
  ran : Bool := false
  /-- Release of the last committed run, in control cycles (R122, R140). -/
  ref : Nat := 0
  /-- The ramp state r (R119). -/
  r : F32 := 0
  /-- FE_TMR in control cycles (R157). -/
  fe : Nat := 0
  /-- Suspension waits for the run of a release already made (R164): the group that caused it. -/
  suspPend : Option Nat := none
  /-- Releases lost since the last report, and control cycle of that report plus one (R150). -/
  lost : Nat := 0
  lastOvr : Nat := 0
deriving DecidableEq, Repr

/-- One execution lane (R151 to R154, R171). -/
structure CleLane where
  /-- The context running and the control cycle of its start. -/
  run : Option (Fin 128 × Nat) := none
  /-- Times of the faults of the last 1 s, newest first (R171). -/
  faults : List Nat := []
  /-- The 100 µs window being filled and its busy cycles (CLE_GLB_LOAD). -/
  win : Nat := 0
  busy : Nat := 0
deriving DecidableEq, Repr

/-- An output on its way to its destination latch (R155). -/
structure CleOut where
  ctx : Fin 128
  kind : Nat
  index : Nat
  value : F32
  /-- Control cycle of the release. -/
  rel : Nat
deriving DecidableEq, Repr

/-- The closed-loop engine beside its registers. -/
structure Cle where
  ctxs : SMap CleCtx := []
  lane0 : CleLane := {}
  lane1 : CleLane := {}
  lane2 : CleLane := {}
  lane3 : CleLane := {}
  /-- Committed outputs not yet delivered, oldest first. -/
  outs : List CleOut := []
  /-- Number of the last trigger instance (R149). -/
  inst : Nat := 0
  /-- Clave due time last served by each rate generator plus one (R144). -/
  rateLast : SMap Nat := []
deriving DecidableEq, Repr

/-- A switch with an on-time budget over a sliding window (R242, R350). -/
structure Budget where
  /-- On since this time. -/
  since : Option Nat := none
  /-- Finished on-intervals (from, to), newest first. -/
  past : List (Nat × Nat) := []
  /-- Held off by its budget. -/
  held : Bool := false
deriving DecidableEq, Repr

/-- An ADC sequence beside its registers (R175 to R178). -/
structure AdcSeq where
  /-- Triggered and waiting for converters since this time (R177). -/
  waiting : Option Nat := none
  /-- Converting since this hold edge (R176). -/
  hold : Option Nat := none
  /-- Time of the last ADC_SEQ_LATE report plus one (R177). -/
  lastLate : Nat := 0
  /-- Time of the last trigger of a continuous sequence. -/
  lastTrig : Nat := 0
deriving DecidableEq, Repr

/-- The ADC subsystem beside its registers. -/
structure Adc where
  seqs : SMap AdcSeq := []
  /-- The spare core is calibrated (R181, R182). -/
  spareCal : Bool := false
  /-- A spare exists: no core has been retired (R184). -/
  hasSpare : Bool := true
  /-- Time of the last hand-over (R181). -/
  lastHand : Nat := 0
  /-- A hand-over was asked for at once (R186). -/
  calNow : Bool := false
  /-- Cores calibrated in the present ARMING, up to 16 (R185). -/
  armCal : Nat := 0
  /-- Sigma-delta inputs lost: held and invalid to the TMU (R192), bit per input. -/
  sdLost : BitVec 8 := 0
  /-- Sigma-delta results not yet used by a TMU sample (R193), bit per input. -/
  sdFresh : BitVec 8 := 0
deriving DecidableEq, Repr

/-- One traction system in the TMU. -/
structure TmuSys where
  /-- Input latches vd, vq, Δid (R224). -/
  vd : F32 := 0
  vq : F32 := 0
  dId : F32 := 0
  /-- Voltage inputs delivered since the last sample: d, q. -/
  gotD : Bool := false
  gotQ : Bool := false
  /-- Consecutive samples out of range of the U and V inputs, up to 4 (R195). -/
  rangeU : Nat := 0
  rangeV : Nat := 0
  /-- A sigma-delta input of the system is invalid, and TMU_SENSOR_FAULT was raised for it (R195). -/
  sdBad : Bool := false
  /-- The sampled current is over its limit (R196, R718). -/
  overCur : Bool := false
  /-- Offset measurement: samples taken and the sums (R197); the present offsets are registers. -/
  cal : Option Nat := none
  sumU : F32 := 0
  sumV : F32 := 0
  /-- Duties of the three phases at the last modulation are in the shadows; the phase currents are signals. -/
  vsatLast : Nat := 0
deriving DecidableEq, Repr

/-- The traction motor unit beside its registers (spec/05). -/
structure Tmu where
  sysA : TmuSys := {}
  sysB : TmuSys := {}
  /-- Plane input latches vd, vq, vx′, vy′, Δid (R224). -/
  vd : F32 := 0
  vq : F32 := 0
  vx : F32 := 0
  vy : F32 := 0
  dId : F32 := 0
  /-- Plane voltage inputs delivered since the last sample. -/
  gotD : Bool := false
  gotQ : Bool := false
  gotX : Bool := false
  gotY : Bool := false
  /-- Modulation in force: a write of MOD applies from the next update event (R218). -/
  mod : Nat := 0
  /-- The applied torque T_app and the control cycle of its last step (R208). -/
  tApp : F32 := 0
  lastCyc : Nat := 0
  /-- Vdc of the last sample. -/
  vdc : F32 := 0
  /-- Time of the last sample plus one (R461); 0 before the first. -/
  sampleAt : Nat := 0
  /-- Conditions already reported in their present episode (R206, R247, R243). -/
  vdcLow : Bool := false
  overspeed : Bool := false
  overspeedTrip : Bool := false
  vdcOv : Bool := false
  /-- Time of the last TMU_VSAT report plus one (R217). -/
  vsatLast : Nat := 0
  /-- A stop waits for the systems' update events (R231), per system. -/
  stopA : Bool := false
  stopB : Bool := false
  /-- Shorts or stuck switches on both sides were reported (R246). -/
  bothSides : Bool := false
  /-- GC12's on-time and the comparator's wish (R241, R242). -/
  bc : Budget := {}
  bcWant : Bool := false
  /-- The brake-chopper test runs since this time (R244). -/
  bcTest : Option Nat := none
  /-- Regenerative torque is limited to 0: the last test failed (R245) or a fault of GC12 (R352). -/
  noRegen : Bool := false
deriving DecidableEq, Repr

/-- The steps of resolver acquisition (R262): off, waiting for a clean excitation period, φ̂ set at result j, both results
taken, tracking. -/
inductive ResStage where
  | off | clean | first | second | track
deriving DecidableEq, Repr

/-- A pair of resolver samples: its place k in the excitation period, its codes and its stamp (R56, R257). -/
structure ResSample where
  k : Nat
  s : BitVec 16
  c : BitVec 16
  stamp : Tick
deriving DecidableEq, Repr

/-- An index taken in a control cycle, and what it found, for a quadrature error of the same cycle (R278). -/
structure EncTaken where
  cyc : Nat
  count : Word
  dev : Word
  ref : Bool
  inval : Bool
deriving DecidableEq, Repr

/-- A Hall decoder beside its registers (R281 to R286). -/
structure Hall where
  /-- Stamps of the last sector changes and the step each made (0: none), newest first, up to 7. -/
  changes : List (Nat × Int) := []
  /-- Time of the last write of N (R281). -/
  nAt : Nat := 0
  /-- The peripheral clock of the last step plus one, and the steps in it (R286). -/
  stepAt : Nat := 0
  stepBy : Int := 0
  /-- Time of the last sector change plus one; 0 before the first. -/
  last : Nat := 0
deriving DecidableEq, Repr

/-- Position feedback beside its registers (spec/06); φ̂ is PFB_RES_FINE, the position PFB_RES_ANGLE. -/
structure Pfb where
  /-- The excitation runs, since this time (R255, R272). -/
  exc : Bool := false
  excStart : Nat := 0
  /-- The excitation check of the present ARMING has failed (R272). -/
  chkFail : Bool := false
  stage : ResStage := .off
  /-- The generator's firing before this one: its stamp and the eighth of the excitation period it stands at (R255). -/
  firedAt : Option Tick := none
  eighth : Nat := 0
  /-- The pairs held of those converted since that firing, and the last 64, newest first (R257, R258). -/
  taken : Nat := 0
  pairs : List ResSample := []
  /-- Consecutive qualifying samples out of the amplitude's limits, and with a wrong excitation voltage, stopping at 3; the ratio of the last
  sample (R265). -/
  ampBad : Nat := 0
  excBad : Nat := 0
  ratio : F32 := 0
  /-- The excitation's current limit has acted for 1 µs; the last result exceeded the tracking limit; the deviations of the last converter
  checks, sine and cosine (R265, R270). -/
  curLim : Bool := false
  trkBad : Bool := false
  devSin : BitVec 16 := 0
  devCos : BitVec 16 := 0
  /-- No loss condition has held since this time (R262). -/
  cleanSince : Nat := 0
  /-- The position at which the present resolver revolution began, its results (S, C) newest first, the results of a complete one, and those
  of the fit the next result moves to (R269). -/
  revStart : Option Word := none
  rev : List (F32 × F32) := []
  revDone : Option (List (F32 × F32)) := none
  fitDue : Option (List (F32 × F32)) := none
  /-- Angles of the last result and of the one before it (R262). -/
  angLast : F32 := 0
  angPrev : F32 := 0
  /-- Consecutive results within the lock limit, stopping at 32 (R264). -/
  locks : Nat := 0
  /-- A declared loss has not ended yet (R262, R265). -/
  lossOn : Bool := false
  /-- Time of the last demodulation result (R453). -/
  lastRes : Nat := 0
  /-- VALID since this time (R225, R272). -/
  validSince : Option Nat := none
  /-- Filtered encoder levels (R273). -/
  encA : Bool := false
  encB : Bool := false
  /-- Stamp and direction (true: up) of the last edges, newest first, up to 6 (R280). -/
  encEdges : List (Nat × Bool) := []
  /-- Control cycle of the last counted edge plus one, and the count before it (R275). -/
  encCyc : Nat := 0
  encWas : Word := 0
  /-- The last index taken (R278). -/
  encIdx : Option EncTaken := none
  /-- Time of the last counted edge. -/
  encLast : Nat := 0
  /-- Control cycle of the last quadrature error plus one (R278). -/
  encQerr : Nat := 0
  /-- A quadrature error invalidated the encoder position; the next index counts as the first (R275, R276). -/
  encInval : Bool := false
  halls : SMap Hall := []
  /-- Direction of each compare counter's last change, 1 for backward (R287). -/
  cmpDirs : SMap Nat := []
  /-- Control cycle of each channel's last write of VAL plus one (R290). -/
  cmpWrote : SMap Nat := []
deriving DecidableEq, Repr

/-- A timer group beside its registers (R295 to R313). -/
structure PwmGrp where
  /-- The carrier runs. -/
  running : Bool := false
  /-- RUN was written and the carrier waits for its start (R299): the time of the write. -/
  starting : Option Nat := none
  /-- Time at which the carrier last started at 0. -/
  t0 : Nat := 0
  /-- Centre, peak and update events of this run already served. -/
  centres : Nat := 0
  peaks : Nat := 0
  updates : Nat := 0
  /-- The start value as of the last write of START_HI (R299). -/
  startVal : Tick := 0
  /-- A restart by the master group of START_MODE 2 is due at this time (R300). -/
  resync : Option Nat := none
  /-- Shadows written in control cycle `lateCyc`, with the values they had before it (R307). -/
  lateCyc : Nat := 0
  late : List (Nat × Word) := []
  /-- Active DUTYL and PHASE of each leg (R306); active DUTY and mode are PWM_GRP_DUTY_ACT and LEGMODE.ACT. -/
  dutyl : SMap F32 := []
  phase : SMap F32 := []
  /-- Safe pattern in force and its source: 1 TMU, 2 SMON-A (R310 to R312). -/
  pat : Nat := 0
  patSrc : Nat := 0
  /-- The global disable is in force on the group (R311, R312). -/
  gd : Bool := false
  /-- The group ran when the mode gate closed; TG9's held legs keep their state by it (R313). -/
  kept : Bool := false
deriving DecidableEq, Repr

/-- A gate channel: GC0 to GC30 are 0 to 30, LG0 to LG37 are 31 to 68 (R309 to R323). -/
structure GateChan where
  /-- Released on by the interlock. -/
  on : Bool := false
  /-- Commanded on (R309). -/
  cmd : Bool := false
  /-- Time of the last off command, and of the present turn-on request. -/
  offAt : Nat := 0
  reqAt : Nat := 0
  /-- Time of the last released turn-on (R323). -/
  onAt : Nat := 0
  /-- Confirmed off since the last off command (R314, R322). -/
  conf : Bool := false
  /-- Turned off by the D-die's own protection (R309, order 1). -/
  dOff : Bool := false
deriving DecidableEq, Repr

/-- What is recorded of a leg (R328 to R333, R347); key 16 × group + leg. GC12 has key 32. -/
structure LegRec where
  hShort : Bool := false
  lShort : Bool := false
  hOpen : Bool := false
  lOpen : Bool := false
  hStuck : Bool := false
  lStuck : Bool := false
  /-- The code and time of the latch. -/
  code : BitVec 16 := 0
  stamp : Nat := 0
  /-- Time of the last event that latched it, plus one (R333). -/
  again : Nat := 0
  /-- Its last off-state diagnostic failed (R333, R347). -/
  diagFail : Bool := false
  /-- Conflicts counted, time of the last report plus one, and both commands on now (R318 to R320). -/
  conflicts : Nat := 0
  lastConflict : Nat := 0
  inConflict : Bool := false
deriving DecidableEq, Repr

/-- PWM and gate drive beside their registers. -/
structure Pwm where
  grps : SMap PwmGrp := []
  chans : SMap GateChan := []
  legs : SMap LegRec := []
  /-- Codes of the TMU overrides of TG0 and TG1 (R232, R310). -/
  ovrA : Nat := 0
  ovrB : Nat := 0
  /-- The brake switch of the actuator supply (R349, R350). -/
  abc : Budget := {}
  /-- ABC is commanded on by its thresholds (R349). -/
  abcWant : Bool := false
deriving DecidableEq, Repr

/-- The LV converter beside its registers (spec/08). -/
structure Lvc where
  /-- DCX_SS has come to its second step, the bus window (R371). -/
  window : Bool := false
  /-- Time of entry into the present step. -/
  t0 : Nat := 0
  /-- Update events of TG5 since the start (R371, step 1). -/
  ss : Nat := 0
  /-- The bus has been in its window since (R371), and completions out of it in a row (R358). -/
  busOk : Option Nat := none
  busBad : Nat := 0
  /-- Vdc below LVC_VIN_MIN since (R359). -/
  vin : Option Nat := none
  /-- v_c, the trims by phase, and the phase in turn (R360, R366). -/
  vc : F32 := 0
  trims : SMap F32 := []
  turn : Nat := 0
  /-- Update events since the shed decision (R375). -/
  shedJ : Nat := 0
  /-- Start of the hold; I_out below LVC_SHED_DN since (R375). -/
  hold : Nat := 0
  low : Option Nat := none
  /-- I_out of the last 8 completions, newest first (R377). -/
  hist : List F32 := []
  /-- Completions in a row: above LVC_SHED_UP (R376), remote sense off (R383), over-voltage (R385), phase overcurrent (R387). -/
  adds : Nat := 0
  rsBad : Nat := 0
  ov : Nat := 0
  oc : SMap Nat := []
  /-- Saturated high since (R367), above I_lim since (R390), below LVC_UV_THR since (R386), and whether each was reported. -/
  head : Option Nat := none
  ilim : Option Nat := none
  uv : Option Nat := none
  headRep : Bool := false
  ilimRep : Bool := false
  uvRep : Bool := false
  /-- Time of the last LVC_LOAD_STEP plus one (R378). -/
  stepLast : Nat := 0
  /-- RS_RETRY waits for the next completion (R384). -/
  retry : Bool := false
  /-- The compensation context has ended a run with its ramp done in this start (R371, step 3). -/
  rampDone : Bool := false
  /-- Remote sense falls back from the next completion on (R383). -/
  rsFall : Bool := false
  /-- Cause of the orderly stop in progress (R372). -/
  cause : Nat := 0
deriving DecidableEq, Repr

/-- The charger beside its registers (spec/09). -/
structure Chg where
  /-- Time of entry into the present step. -/
  t0 : Nat := 0
  /-- θ_g as a 64-bit fraction of a turn, and ω, u_d, u_q as last delivered (R394, R397). -/
  th : BitVec 64 := 0
  w : F32 := 0
  ud : F32 := 0
  uq : F32 := 0
  /-- vα and iα of past completions in single-phase operation, newest first (R396). -/
  hist : List (F32 × F32) := []
  /-- PLL_LOCK set since; |vq| large since (R412, R413). -/
  lock : Option Nat := none
  unlock : Option Nat := none
  /-- vd, and the frequency, out of range since (R419). -/
  vg : Option Nat := none
  fr : Option Nat := none
  /-- Completions in a row over CHG_VBUS_OV, CHG_VBAT_MAX, CHG_IG_OC, CHG_IB_OC (R419). -/
  vbus : Nat := 0
  vbat : Nat := 0
  ig : Nat := 0
  ib : Nat := 0
  /-- The pilot limit (R402), and the time I_lim was last stepped. -/
  pilot : F32 := 0
  limAt : Nat := 0
  /-- Time of the last CHG_VSAT plus one (R399). -/
  vsatLast : Nat := 0
  /-- Cause of the orderly stop in progress, and 0x15F at its start (R409, R414). -/
  cause : Nat := 0
  vl0 : F32 := 0
  /-- P_batt at its decision, and its ramp has ended: TG4 stopped (R414). -/
  pBatt : F32 := 0
  dabOff : Bool := false
  /-- The control cycle of the last stop before RUNNING, plus one (R416, R417). -/
  halted : Nat := 0
deriving DecidableEq, Repr

/-- The control cycle of a GO plus one, and what it found: the time of the move's GO, its direction, the time of entry into RUN, BEHIND and
RESULT (R436). -/
structure ActGo where
  cyc : Nat := 0
  goAt : Option Nat := none
  back : Bool := false
  runAt : Nat := 0
  behind : Bool := false
  result : Nat := 0
deriving DecidableEq, Repr

/-- One actuator beside its registers (spec/10); its position is PFB_HALL_STEP. -/
structure ActM where
  /-- |ω| is at or below STILL_W since this time (still: for STILL_T). -/
  stillSince : Option Nat := some 0
  /-- Time of the GO of the move in progress (R437). -/
  goAt : Option Nat := none
  /-- Time of entry into RUN or CREEP of the move in progress (R437). -/
  runAt : Nat := 0
  /-- The brake ends in IDLE with RESULT 2 (R435), not with the end action. -/
  stopping : Bool := false
  /-- The direction of the move in progress is backward. -/
  back : Bool := false
  /-- The voltage command v last delivered (R425, R428). -/
  v : F32 := 0
  /-- The six-step state last applied, 0 before the first (R444). -/
  lastK : Nat := 0
  /-- The control cycle of the last STOP, plus one (R436). -/
  stopCyc : Nat := 0
  /-- What the last GO found, for a STOP of its control cycle (R436). -/
  went : ActGo := {}
deriving DecidableEq, Repr

/-- The actuator sequencer beside its registers. -/
structure Act where
  a0 : ActM := {}
  a1 : ActM := {}
  a2 : ActM := {}
  /-- V_act is below ACT_VMIN since (R438). -/
  low : Option Nat := none
deriving DecidableEq, Repr

/-- The watch of one pair by one channel (R471 to R477, R720); its challenge is SMA_WD_CHAL or SMB_WD_CHAL. -/
structure WdP where
  on : Bool := false
  /-- Clave of the period's start. -/
  start : Nat := 0
  /-- Errors counted in the present and the last 7 periods, newest first. -/
  hist : List Nat := []
  /-- The period's answer has come (R473). -/
  answered : Bool := false
  /-- Time of the last good answer or of the start (R475). -/
  hold : Nat := 0
  pause : Bool := false
  /-- Two errors stand in the window, or the hold timer has expired (R474, R475). -/
  fail : Bool := false
  /-- The hold timer's failure was raised since the last good answer. -/
  holdRep : Bool := false
deriving DecidableEq, Repr

/-- A 0x04FF record on its way to the channels (R472). -/
structure WdAns where
  pair : Fin 3
  half : Half
  stamp : Nat
  ansA : Word
  ansB : Word
deriving DecidableEq, Repr

/-- A safety channel (R452 to R470). -/
structure Smon where
  /-- Its first selection has completed since it started at this time (R105). -/
  started : Bool := false
  startAt : Nat := 0
  /-- The speed decision of the axle code (R460, R719). -/
  asc : Bool := false
  /-- Requesting, as last evaluated (R459). -/
  req : Bool := true
  /-- Its speed in rpm, and whether it is valid (R453, R454). -/
  speed : F32 := 0
  speedOk : Bool := false
  /-- Its DC-link voltage, and whether SMON-A's is fresh (R461). -/
  vdc : F32 := 0
  /-- Axle bars of the high and low side as last evaluated (R460). -/
  barH : Bool := false
  barL : Bool := false
  /-- SMON-B's own bars (R464). -/
  ownH : Bool := false
  ownL : Bool := false
  /-- The axle code it drives (R460, R105). -/
  code : Nat := 1
  /-- A SAFE cause is latched (R470). -/
  cause : Bool := false
  /-- Valid sealed parameters (R458). -/
  params : Option Params := none
  /-- Filtered levels of EN_A and EN_B; none until the filter has settled (R96, R461). -/
  en : Option (Bool × Bool) := none
  /-- The levels have differed since (R97). -/
  diffSince : Option Nat := none
  /-- EN_DISCREPANCY was raised in this episode. -/
  diffRep : Bool := false
  /-- Both low since. -/
  lowSince : Option Nat := none
  riseA : Nat := 0
  riseB : Nat := 0
  /-- The open-once test and the time of its last change (R97, R480). -/
  oo : OpenOnce := .notDone
  ooAt : Nat := 0
  /-- Park-lock inhibit: last time the speed was seen above the limit or invalid (R448). -/
  inhAt : Nat := 0
  inh : Bool := true
  /-- Its park-lock cut acts (R449). -/
  plCut : Bool := false
  /-- Consecutive samples over 1.05 × maximum speed (R457), up to 2. -/
  overRun : Nat := 0
  /-- Resolver amplitude (R454, R480), and park-lock sector of its own decoder (R445). -/
  amp : F32 := 0
  ampOk : Bool := false
  sector : Nat := 0
  /-- SMON-B's resolver (R454): the angle last taken, the advances to it with their times in 16 MHz cycles, newest first, and the samples
  missed in a row, up to 2. -/
  ang : Option F32 := none
  advs : List (F32 × Nat) := []
  missed : Nat := 0
  /-- SMON-B's DC-link reading is over its threshold since (R457); each phase voltage contradicts its ASC since (R464). -/
  ovSince : Option Nat := none
  imp : List (Option Nat) := []
  /-- Strap reads: agreeing reads in a row, value and time of the last; the last valid strap value,
valid while 3 reads in a row agree; SEAL_B as last read (R482). -/
  strapCnt : Nat := 0
  strapVal : BitVec 8 := 0
  strapAt : Nat := 0
  strap : Option (BitVec 8) := none
  strapB : BitVec 8 := 0
  /-- Result and detail of its seal check (R483). -/
  sealRes : Nat := 0
  sealDet : Nat := 0
  /-- The strap value changed after ARMING: the next check fails (R483). -/
  strapMoved : Bool := false
deriving DecidableEq, Repr

/-- The safety architecture beside its registers (spec/11). -/
structure Safe where
  a : Smon := {}
  b : Smon := {}
  /-- Speed decisions of the system codes (R719). -/
  ascA : Bool := false
  ascB : Bool := false
  /-- The safety pod of the present boot, and SMON-B's copy of it (R458, R483). -/
  podA : Option SafetyPod := none
  podB : Option SafetyPod := none
  /-- GDR_TS_SIDE as SMON-B last received it (R461). -/
  sideB0 : Word := 0
  sideB1 : Word := 0
  /-- Watches: key 3 × channel + pair. -/
  wd : SMap WdP := []
  answers : List WdAns := []
  /-- Clave multiple last exchanged (R479), time of the last exchange, and its disagreements (R481). -/
  xLast : Nat := 0
  xTime : Nat := 0
  xBits : Word := 0
  /-- Items whose mismatch was raised and that still disagree. -/
  xRep : Word := 0
  /-- A supply cut stands, and a reset or wake that began at or after it has ended (R469). -/
  cut : Bool := false
  cutReset : Bool := false
  /-- The conditions of the supplies' return hold since (R469). -/
  okSince : Option Nat := none
  /-- Right words written to SMA_SEAL_KEY in a row (R486). -/
  keyStep : Nat := 0
  /-- A slot is being blown: its number (R486). -/
  prog : Option Nat := none
  /-- Slots blown since the last reset: bit per slot (R486). -/
  sealNew : BitVec 4 := 0
  /-- SMON-B's regulator has failed: SSB is undriven until power-on (R551). -/
  bOff : Bool := false
deriving DecidableEq, Repr

/-- An entry of the input agreement unit: the instruction count at which an input was delivered, and its value (R498). -/
structure Iau where
  tag : BitVec 64
  value : Word
deriving DecidableEq, Repr

/-- A lockstep pair beside its registers (spec/12); in Triangle mode pair 0 stands for TX and pair 2 for TY. -/
structure LksP where
  /-- LKSHO.PEND: 0 none, 1 split, 2 rejoin, 3 take-over. -/
  pend : Nat := 0
  /-- The leading and the trailing core have answered the request. -/
  readyL : Bool := false
  readyT : Bool := false
  /-- Time of the hand-over request (R520). -/
  hoAt : Nat := 0
  /-- Time of the detection of the recovery in progress, or of the rejoin's start. -/
  detect : Nat := 0
  /-- The state in progress ends as a rejoin, forced or not (R519, R520). -/
  rejoin : Bool := false
  forced : Bool := false
  /-- A split whose CMD write had not compared is redone after the recovery (R522). -/
  redo : Bool := false
  /-- Times of the mismatches in the window, newest first (R506). -/
  times : List Nat := []
  /-- Dissents of each core of a triad, newest first (R528). -/
  dis0 : List Nat := []
  dis1 : List Nat := []
  dis2 : List Nat := []
  /-- Time at which the pair became untrusted (R513). -/
  untrAt : Nat := 0
  /-- The verified register file as it was last read or written whole (R495, R501, R519). -/
  vrf : List Word := []
  /-- An uncorrectable word was found: the pair stays frozen (R507). -/
  vrfBad : Bool := false
  /-- Inputs delivered, newest first, up to 16, and those still to be replayed, oldest first (R498, R500). -/
  iau : List Iau := []
  replay : List Iau := []
deriving DecidableEq, Repr

/-- The lockstep block beside its registers. -/
structure Lks where
  p0 : LksP := {}
  p1 : LksP := {}
  p2 : LksP := {}
  /-- Time of the last test-lane injection (R509). -/
  lastTest : Nat := 0
deriving DecidableEq, Repr

/-- A temperature sensor beside its registers (R532 to R543). -/
structure ThmSens where
  /-- Last reading before substitution. -/
  raw : F32 := 0
  /-- Consecutive samples outside the table's span, up to 2 (R541). -/
  out : Nat := 0
  /-- Number of the 10 ms window being filled, sum and count of its readings, and the mean of the window before it (R541). -/
  win : Nat := 0
  sum : F32 := 0
  cnt : Nat := 0
  prev : Option F32 := none
  /-- Consecutive samples that met neither condition, up to 10 (R543). -/
  good : Nat := 0
deriving DecidableEq, Repr

/-- A temperature zone beside its registers (R533 to R537). -/
structure ThmZone where
  /-- Time of the last sample. -/
  last : Option Nat := none
  /-- Samples (time, T_z), newest first, back to the latest one at least 10 ms old (R535). -/
  hist : List (Nat × F32) := []
deriving DecidableEq, Repr

/-- The thermal manager and the supply monitors beside their registers (spec/13). -/
structure Thm where
  sens : SMap ThmSens := []
  zones : SMap ThmZone := []
  /-- A hard cut is still to be journalled (R547): its die and sensor. -/
  cut : Option (Nat × Nat) := none
  /-- Supplies out of their window since the last event, bit per row of R548. -/
  out : BitVec 9 := 0
deriving DecidableEq, Repr

/-- A NACK to send (R568). -/
structure Nack where
  type : Byte
  reason : Byte
  seq : BitVec 16
deriving DecidableEq, Repr

/-- A journal replay (R583 to R585): first sequence asked for, next to send, records left, first sent, records sent, and whether
some were gone. -/
structure Replay where
  first : Word
  next : Word
  left : Nat
  firstSent : Option Word := none
  sent : Nat := 0
  skip : Bool := false
deriving DecidableEq, Repr

/-- A frame as it leaves (R556, R559, R560, R562): its controller; on CAN the identifier (29 bits with `ide`) of an ACP frame, which is an FD
frame with BRS = 1; on Ethernet the host's address, the destination port and the tag; and its data field or UDP payload. A raw entry leaves
as it stands in its slot. -/
structure HifOut where
  path : Nat
  raw : Bool := false
  id : Nat := 0
  ide : Bool := false
  dst : Word := 0
  port : BitVec 16 := 0
  tag : Option Word := none
  data : List Byte
deriving DecidableEq, Repr

/-- The host interface beside its registers. -/
structure Hif where
  /-- Time of the stamp of the last accepted host frame, or of the timer's start (R577). -/
  hostAt : Nat := 0
  /-- Path and, on Ethernet, source port of the last accepted host frame (R562). -/
  path : Nat := 0
  port : BitVec 16 := 40620
  /-- Time of the last HIF_CRC_ERROR plus one (R566). -/
  crcRep : Nat := 0
  /-- Time of the last periodic STATUS (R581). -/
  statAt : Nat := 0
  /-- Waiting transmissions: records for EVENT of class SAFE and FATAL, NACKs, a STATUS, other EVENTs, JOURNAL_END of superseded
  replays, and the replay (R582 to R587). -/
  evHi : List (List Byte) := []
  nacks : List Nack := []
  status : Bool := false
  evLo : List (List Byte) := []
  ends : List (List Byte) := []
  replay : Option Replay := none
  /-- The frame last started, whether it was a raw entry, and its copies on the links. -/
  out : List Byte := []
  outRaw : Bool := false
  sent : List HifOut := []
  /-- A frame CAN1 has delivered with PATH = 2: the control cycle plus one, and the slot it could take (R559). -/
  can1 : Nat × Nat := (0, 0)
  /-- The control cycle of the loss of the host plus one, and TMU_TQ_REF before it (R580). -/
  lost : Nat × Word := (0, 0)
deriving DecidableEq, Repr

/-- An OmterLink frame to send: the sequence is assigned when its first transmission starts (R598); copies on both ports share
a key. -/
structure OlkFrame where
  type : Nat
  hop : Nat := 0
  src : Nat := 0
  seq : Option (BitVec 16) := none
  key : Nat := 0
  /-- A frame of another unit, forwarded with its own sequence. -/
  fwd : Bool := false
  payload : List Byte := []
deriving DecidableEq, Repr

/-- A frame awaiting acknowledgement (R594 to R596). -/
structure OlkWait where
  frame : OlkFrame
  /-- Time of its end symbol. -/
  endAt : Nat
  /-- Time of its first NAK, and of the last (R596). -/
  nakFirst : Option Nat := none
  nakAt : Option Nat := none
deriving DecidableEq, Repr

/-- A block being sent on a port (R611, R613): its address, next segment (128: FW_BLOCK_END), its closing payload, and the
buffer it is forwarded from. -/
structure OlkJob where
  addr : Nat
  next : Nat := 0
  tail : List Byte
  buf : Option Nat := none
deriving DecidableEq, Repr

/-- An OmterLink port. -/
structure OlkPort where
  queue : List OlkFrame := []
  jobs : List OlkJob := []
  wait : Option OlkWait := none
  /-- A FAULT frame awaiting acknowledgement (R594). -/
  faultWait : Option OlkWait := none
  /-- Consecutive acknowledge failures (R595), and consecutive acknowledged probes (R597). -/
  fails : Nat := 0
  probes : Nat := 0
  lastProbe : Nat := 0
  /-- Link sequence (R598). -/
  linkSeq : BitVec 16 := 0
  /-- The last ACK (false) or NAK (true) sent, with its data symbol (R592). -/
  answer : Option (Bool × Byte) := none
  /-- The frame last started. -/
  out : Option OlkFrame := none
deriving DecidableEq, Repr

/-- What is known of a peer: time of its last chain frame, its ports up, the port and hops of its last chain frame. -/
structure OlkPeer where
  heard : Nat := 0
  up0 : Bool := false
  up1 : Bool := false
  port : Nat := 0
  hops : Nat := 0
deriving DecidableEq, Repr

/-- A firmware block buffer (R612 to R615). -/
structure OlkBuf where
  /-- Port, image tag and block being assembled, and the segments received. -/
  fill : Option (Nat × BitVec 16 × BitVec 16) := none
  segs : BitVec 128 := 0
  /-- It was released while forwarding. -/
  rel : Bool := false
deriving DecidableEq, Repr

/-- The OmterLink controller beside its registers. -/
structure Olk where
  p0 : OlkPort := {}
  p1 : OlkPort := {}
  peers : SMap OlkPeer := []
  bufs : SMap OlkBuf := []
  /-- Last key given to a frame. -/
  key : Nat := 0
  /-- Time of the last own STATUS (R606). -/
  statAt : Nat := 0
  /-- The ring's conditions hold since (R603). -/
  ringSince : Option Nat := none
  /-- A FAULT frame is due (R607): its payload. -/
  faultDue : Option (List Byte) := none
  /-- The wake pattern is sent until this time (R617). -/
  wakeUntil : Nat := 0
deriving DecidableEq, Repr

/-- A pod of a bank (R627): its header fields and payload; `good` is false where its CRC fails. -/
structure Pod where
  type : Byte
  fmt : Byte
  seq : Word
  payload : List Byte
  good : Bool := true
deriving DecidableEq, Repr

/-- A configuration bank (R626 to R633). -/
structure Bank where
  /-- Generation of a valid bank header; none while the bank is not present (R632). -/
  gen : Option Word := none
  /-- Bytes of the bank in use after its header's sector. -/
  used : Nat := 0
  /-- Its pods, newest first. -/
  pods : List Pod := []
deriving DecidableEq, Repr

/-- A slot record of the boot header (R636): STATE 0 EMPTY to 6 UNBOOTABLE. -/
structure SlotRec where
  state : Nat := 0
  bank : Nat := 0
  tries : Nat := 0
  migrated : BitVec 3 := 0
  tag : BitVec 16 := 0
  version : Word := 0
  bankGen : Word := 0
  unbootGen : Word := 0
deriving DecidableEq, Repr

/-- The current boot header (R636). -/
structure BootHeader where
  seq : Word := 0
  slotA : SlotRec := {}
  slotB : SlotRec := {}
  /-- PAIR_SLOT, bit per pair. -/
  pairSlot : BitVec 3 := 0
  /-- NEXT_SLOT of each pair. -/
  next0 : Option Nat := none
  next1 : Option Nat := none
  next2 : Option Nat := none
deriving DecidableEq, Repr

/-- A record of the ring log (R634): its offset from the start of the log, kind and data. -/
structure LogRec where
  at_ : Nat
  kind : Byte
  data : List Byte
deriving DecidableEq, Repr

/-- An NVC command in progress (its registers are read at its start). -/
structure NvcOp where
  op : Nat
  old : Bool
  type : Byte
  addr : Nat
  len : Nat
  nor : Nat
deriving DecidableEq, Repr

/-- The external flash by what its areas hold (R626), and the NVM controller beside its registers. -/
structure Nvm where
  bank0 : Bank := {}
  bank1 : Bank := {}
  /-- None while no header page is valid. -/
  header : Option BootHeader := none
  /-- Header sector in use and pages programmed in it (R636). -/
  hdrSector : Nat := 0
  hdrPages : Nat := 0
  /-- Ring log: head and records, newest first. -/
  logHead : Nat := 0
  logs : List LogRec := []
  /-- Staging descriptor: tag and slot (R645). -/
  stage : Option (BitVec 16 × Nat) := none
  /-- Commit log: CRC by block (R646). -/
  commits : SMap (Option Word) := []
  /-- Bytes of the image slots and of the firmware area that are not 0xFF, by flash offset. -/
  flash : SMap Byte := []
  /-- The system pod last read enables the full memory BIST (R106). -/
  memBist : Bool := false
  /-- Command in progress of each pair. -/
  op0 : Option NvcOp := none
  op1 : Option NvcOp := none
  op2 : Option NvcOp := none
deriving DecidableEq, Repr

/-- A block being committed (R646). -/
structure BlkGo where
  blk : BitVec 16
  tag : BitVec 16
  crc : Word
  data : List Byte
deriving DecidableEq, Repr

/-- Why a pair is restarted: an activation (R654), or a revert onto its previous slot (R657, R662): 0 migration, 1 tries, 2 digest. -/
inductive RestartWhy where
  | activate
  | revert (reason : Nat)
deriving DecidableEq, Repr

/-- A pair being restarted onto an image (R654). -/
structure Restart where
  slot : Nat
  start : Nat
  why : RestartWhy
deriving DecidableEq, Repr

/-- The update of a pair. -/
structure UpdPair where
  /-- READY was written since the update interrupt (R652). -/
  ready : Bool := false
  /-- The update interrupt of the armed activation was raised. -/
  told : Bool := false
  /-- T has come while the pair was recovering (R653). -/
  wait : Bool := false
  run : Option Restart := none
  /-- Migration runs since this time (R659). -/
  mig : Option Nat := none
  /-- Slot it ran before the present one. -/
  prev : Nat := 0
  /-- The entry address at which both cores were last started (R637, R654). -/
  entry : Word := 0
deriving DecidableEq, Repr

/-- An armed activation (R651). -/
structure Armed where
  tag : BitVec 16
  mask : BitVec 3
  at_ : Tick
deriving DecidableEq, Repr

/-- The update block beside its registers. -/
structure Upd where
  blk : Option BlkGo := none
  /-- ABANDON was written for the next new tag (R645). -/
  abandon : Bool := false
  armed : Option Armed := none
  /-- T of the armed activation has come. -/
  fired : Bool := false
  u0 : UpdPair := {}
  u1 : UpdPair := {}
  u2 : UpdPair := {}
  /-- The conditions of R664 hold since. -/
  confSince : Option Nat := none
deriving DecidableEq, Repr

/-- What a counter gains in the present control cycle (R667, R672): it was cleared in it, its occurrences, and its level was 1. -/
structure PmcCyc where
  clear : Bool := false
  add : Nat := 0
  level : Bool := false
deriving DecidableEq, Repr

/-- The event counters (R665 to R673). -/
structure Pmc where
  /-- Values at the end of the control cycle before `cyc`. -/
  cnt : SMap (BitVec 48) := []
  /-- The control cycle of `now`, what it gains, and the modes in force in it (R668). -/
  cyc : Nat := 0
  now : SMap PmcCyc := []
  modes : SMap Word := []
  /-- By master: counter last read at LO plus one, and its latched bits 47:32 (R671). -/
  latch : SMap (Nat × BitVec 16) := []
  /-- Levels of the cycle before, as one number. -/
  levels : BitVec 512 := 0
deriving DecidableEq, Repr

/-- The Gong record's sources (R675 to R680). -/
structure Gong where
  /-- The frozen snapshots, by word of the window. -/
  win : SMap Word := []
  /-- Time of the FATAL stamp; a reset is due (R679). -/
  fatalAt : Option Nat := none
deriving DecidableEq, Repr

/-- The Rattle block beside its registers. -/
structure Rtl where
  /-- The pseudo-random generator (RTL_SEED). -/
  lfsr : Word := 1
  /-- The first key word was the last RTL access (R681). -/
  key : Bool := false
deriving DecidableEq, Repr

/-- The test port (R707, R708). -/
structure Jtag where
  /-- Data last shifted out, byte 0 first. -/
  out : List Byte := []
  /-- The boundary register, as last preloaded, and EXTEST drives the balls from it. -/
  cells : List Bool := []
  extest : Bool := false
  /-- A challenge still without a response. -/
  chal : Option (List Byte) := none
  unlocked : Bool := false
  /-- Cores halted by DBG, bit per core. -/
  halted : BitVec 6 := 0
  /-- Halted cores whose next access belongs to an instruction that DBG steps. -/
  stepped : BitVec 6 := 0
deriving DecidableEq, Repr

/-- The state of the device. -/
structure State where
  /-- Clave (R37). -/
  clave : Tick := 0
  /-- Elapsed time in units of 1.25 ns since VBAT was applied, which no Clave step or rate correction changes: all durations are measured by it. -/
  time : Nat := 0
  /-- Every register that differs from its reset value, by address (R6 to R11). -/
  regs : SMap Word := []
  /-- Every byte of SRAM, retained SRAM and journal memory that is not 0, by address (R715). -/
  mem : SMap Byte := []
  /-- The signal bus: every signal that is not 0.0, by index (R126). -/
  sig : SMap F32 := []
  /-- What the last bus access answered. -/
  bus : BusResp := {}
  /-- The pairs' writes of the present interconnect cycle, oldest first (R35). -/
  writes : List BusWrite := []
  /-- The model's own counter behind its free values. -/
  free : Nat := 0
  /-- Interrupts delivered to the pairs, newest first. -/
  irqs : List Irq := []
  /-- Reactions still to run, oldest first (R487). -/
  reacts : List React := []
  clocks : Clocks := {}
  idl : Idl := {}
  clv : Clv := {}
  jrn : Jrn := {}
  seq : ModeSeq := {}
  cle : Cle := {}
  pwm : Pwm := {}
  adc : Adc := {}
  tmu : Tmu := {}
  lvc : Lvc := {}
  chg : Chg := {}
  pfb : Pfb := {}
  lks : Lks := {}
  act : Act := {}
  safe : Safe := {}
  thm : Thm := {}
  hif : Hif := {}
  olk : Olk := {}
  nvm : Nvm := {}
  upd : Upd := {}
  pmc : Pmc := {}
  gong : Gong := {}
  rtl : Rtl := {}
  jtag : Jtag := {}
  /-- The commands waiting, first in, first out. -/
  pending : List Instr := []
deriving DecidableEq, Repr

/-- Why the device stops: no rule of the spec stops it, so only a command the model itself cannot place does. -/
inductive Fault where
  /-- A command that names an element the hardware does not have; raised by no well-formed command. Safe: the machine stops where the hardware has no such element. -/
  | noSuchElement
deriving DecidableEq, Repr

/-- Why a command is turned away by the model. -/
inductive Refusal where
  /-- The command has no meaning yet; raised by Dispatch alone. Safe: nothing is claimed of it. -/
  | notModelled (mnemonic : String)
deriving DecidableEq, Repr

/-- The machine right after VBAT is applied (R37, R68, R116): every field at its first value; the offset measurement of ARMING is due
in both systems (R197). -/
def State.reset : State := { tmu := { sysA := { cal := some 0 }, sysB := { cal := some 0 } } }

end Sys2Proof.Machine
end

