-- ==== Sys2Proof/Machine/Ops.lean ====
section
/-! DEFINITION. The operations every block shares: registers and fields, signals, memory, free values, and raising a journal code with its class and reaction (R56 to R64, R487 to R489). -/

namespace Sys2Proof.Machine

/-! ### Numbers -/

/-- Bits hi to lo of a word as a number. -/
def bits (v : Word) (hi lo : Nat) : Nat := (v.toNat / 2 ^ lo) % 2 ^ (hi + 1 - lo)

/-- 1 for true. -/
def b2n (b : Bool) : Nat := if b then 1 else 0

/-- A word from a number, modulo 2^32. -/
def w32 (n : Nat) : Word := BitVec.ofNat 32 n

/-- A word from four byte values, byte 0 lowest. -/
def bytes4 (b0 b1 b2 b3 : Nat) : Word := w32 (b0 % 256 + b1 % 256 * 2 ^ 8 + b2 % 256 * 2 ^ 16 + b3 % 256 * 2 ^ 24)

/-- A word from two half-words, the first lowest. -/
def halves (h0 h1 : Nat) : Word := w32 (h0 % 2 ^ 16 + h1 % 2 ^ 16 * 2 ^ 16)

/-- The low word of a 64-bit value. -/
def loWord (t : Tick) : Word := t.setWidth 32

/-- The high word of a 64-bit value. -/
def hiWord (t : Tick) : Word := (t >>> 32).setWidth 32

/-- A 64-bit value from its low and high words. -/
def tickOf (lo hi : Word) : Tick := hi ++ lo

/-- Ticks of a number of microseconds. -/
def usTicks (n : Nat) : Nat := 800 * n

/-- Ticks of a number of milliseconds. -/
def msTicks (n : Nat) : Nat := 800000 * n

/-- A sum held at a maximum. -/
def satAdd (a b mx : Nat) : Nat := if a + b < mx then a + b else mx

/-- The element of a list at an index, or a default. -/
def nth {α : Type} (d : α) : List α → Nat → α
  | [], _ => d
  | x :: _, 0 => x
  | _ :: t, k + 1 => nth d t k

/-! ### Time -/

/-- Clave as a number (R37). -/
def State.now (s : State) : Nat := s.clave.toNat

/-- The 400 MHz control cycle, counted from VBAT. -/
def State.cyc (s : State) : Nat := s.time / 2

/-- At least `n` ticks have passed since time `t0`. -/
def State.past (s : State) (t0 n : Nat) : Bool := decide (t0 + n ≤ s.time)

/-! ### Registers and their fields -/

/-- The stored value of the register at address `a`. -/
def State.rd (s : State) (a : Nat) : Word := SMap.get RegMap.reset s.regs a

/-- Store `v` in the register at `a`, keeping only the bits the register has (R7). -/
def State.wr (s : State) (a : Nat) (v : Word) : State :=
  { s with regs := SMap.set RegMap.reset s.regs a (v &&& RegMap.impl a) }

/-- A field as a number. -/
def State.fget (s : State) (f : Fld) : Nat := bits (s.rd f.addr) f.hi f.lo

/-- A one-bit field. -/
def State.fbit (s : State) (f : Fld) : Bool := (s.rd f.addr).getLsbD f.lo

/-- The word with a field replaced. -/
def putBits (w : Word) (hi lo n : Nat) : Word :=
  (w &&& ~~~ (w32 (bitMask hi lo))) ||| w32 (n % 2 ^ (hi + 1 - lo) * 2 ^ lo)

/-- Store `n` in a field. -/
def State.fset (s : State) (f : Fld) (n : Nat) : State :=
  s.wr f.addr (putBits (s.rd f.addr) f.hi f.lo n)

/-- Store a truth value in a one-bit field. -/
def State.fput (s : State) (f : Fld) (b : Bool) : State := s.fset f (b2n b)

/-- A field of a value to be written. -/
def fldOf (f : Fld) (v : Word) : Nat := bits v f.hi f.lo

/-- A number lies in a closed range. -/
def within (n lo hi : Nat) : Bool := decide (lo ≤ n) && decide (n ≤ hi)

/-- A field written out of its stated range, where the spec states no consequence: its value is open, unless it is the reset value. -/
def State.openRange (s : State) (f : Fld) (lo hi : Nat) (v : Word) : Word :=
  if within (fldOf f v) lo hi || fldOf f v == bits (RegMap.reset f.addr) f.hi f.lo then v
  else putBits v f.hi f.lo (bits (Config.outOfRange f.addr f.lo (s.rd f.addr) v) f.hi f.lo)

/-- A whole register written out of its stated range (`ok` false), where the spec states no consequence. -/
def State.openWord (s : State) (a : Nat) (ok : Bool) (v : Word) : Word :=
  if ok || v == RegMap.reset a then v else Config.outOfRange a 0 (s.rd a) v

/-- Add to a counting field that saturates. -/
def State.finc (s : State) (f : Fld) (n : Nat) : State :=
  s.fset f (satAdd (s.fget f) n (2 ^ (f.hi + 1 - f.lo) - 1))

/-- Store a 64-bit value in a LO and HI register. -/
def State.wr64 (s : State) (lo hi : Nat) (t : Tick) : State := (s.wr lo (loWord t)).wr hi (hiWord t)

/-- Bit `i` of a register. -/
def State.rbit (s : State) (a i : Nat) : Bool := (s.rd a).getLsbD i

/-- Store bit `i` of a register. -/
def State.rput (s : State) (a i : Nat) (b : Bool) : State := s.wr a (putBits (s.rd a) i i (b2n b))

/-! ### Signals (R126) -/

/-- The signal of an index. -/
def State.sget (s : State) (i : Nat) : F32 := SMap.get (fun _ => 0) s.sig i

/-- Publish a signal. -/
def State.sput (s : State) (i : Nat) (v : F32) : State :=
  { s with sig := SMap.set (fun _ => 0) s.sig i v }

/-! ### Memory (R715) -/

/-- What an unlisted byte of memory reads as: SRAM is cleared before firmware starts (R715). -/
def memDefault (_ : Nat) : Byte := 0

/-- The canonical form of a memory. -/
def Memory.wf (m : SMap Byte) : Bool := SMap.wf memDefault m

/-- A byte of memory. -/
def State.mget (s : State) (a : Nat) : Byte := SMap.get memDefault s.mem a

/-- Store a byte of memory. -/
def State.mput (s : State) (a : Nat) (b : Byte) : State :=
  { s with mem := SMap.set memDefault s.mem a b }

/-- Store bytes from address `a` up. -/
def State.mputs (s : State) (a : Nat) : List Byte → State
  | [] => s
  | b :: t => State.mputs (s.mput a b) (a + 1) t

/-- `n` bytes from address `a` up. -/
def State.mgets (s : State) (a : Nat) : Nat → List Byte
  | 0 => []
  | n + 1 => s.mget a :: State.mgets s (a + 1) n

/-- The four bytes of a word, low byte first. -/
def wordBytes (w : Word) : List Byte :=
  [w.setWidth 8, (w >>> 8).setWidth 8, (w >>> 16).setWidth 8, (w >>> 24).setWidth 8]

/-- The word of four bytes, low byte first. -/
def bytesWord (b0 b1 b2 b3 : Byte) : Word := b3 ++ b2 ++ b1 ++ b0

/-- A little-endian word of memory. -/
def State.mword (s : State) (a : Nat) : Word :=
  bytesWord (s.mget a) (s.mget (a + 1)) (s.mget (a + 2)) (s.mget (a + 3))

/-- Store a little-endian word. -/
def State.mputWord (s : State) (a : Nat) (w : Word) : State := s.mputs a (wordBytes w)

/-! ### Free values -/

/-- The next free value and the state with the counter moved on. -/
def State.fresh (s : State) : BitVec 64 × State :=
  (Config.freeValue s.free, { s with free := s.free + 1 })

/-! ### Modes -/

/-- The code of a mode (R77). -/
def Mode.code : Mode → Nat
  | .dormant => 0
  | .arming => 1
  | .drive => 2
  | .charge => 3
  | .service => 4
  | .safeHold => 5

/-- The code of a sub-state (R89). -/
def Sub.code : Sub → Nat
  | .full => 0
  | .halfA => 1
  | .halfB => 2
  | .reduced => 3

/-- The present mode is `m`. -/
def State.inMode (s : State) (m : Mode) : Bool := s.seq.mode == m

/-- The device is in DORMANT with its rails off (R43). -/
def State.railsDown (s : State) : Bool := s.seq.mode == .dormant && s.seq.entry == .off

/-- The L-die is held in reset or has no rails (R18, R43, R546, R550). -/
def State.lDead (s : State) : Bool := s.seq.held != .no || s.railsDown

/-- Clave counts coarse: in DORMANT, and after a wake until fine counting restarts (R43, R44). -/
def State.coarse (s : State) : Bool := s.railsDown || s.clv.resume

/-- A rate correction held to ±500 ppm (R39). -/
def rateHeld (r : Int) : Int := max (-500000) (min 500000 r)

/-- The rate correction in force, in ppb: a follower's servo (R46, R52), or on the master with SRC = 2 the ratio of gPTP (R54). -/
def State.rateNow (s : State) : Int :=
  if s.fget F.CLV_STATUS_ROLE = 2 then rateHeld (s.rd R.CLV_RATE).toInt
  else if s.fget F.CLV_STATUS_ROLE = 1 ∧ s.fget F.CLV_CTRL_SRC = 2 then rateHeld (s.rd R.CLV_PTP_RATE).toInt
  else 0

/-! ### Raising a code (R56 to R64, R487) -/

/-- The source of a record: the code's high byte and the instance (R56). -/
def sourceKey (code : BitVec 16) (inst : BitVec 8) : Nat := code.toNat / 256 * 256 + inst.toNat

/-- The number of hardware records waiting (R63). -/
def hwWaiting (q : List JRec) : Nat := (q.filter fun r => !r.fw).length

/-- Count a discarded record in its source's overrun counter and in JRN_STATUS.OVERRUN (R63). -/
def State.overrun (s : State) (r : JRec) : State :=
  let k := r.src
  let o := SMap.get (fun _ => {}) s.jrn.overrun k
  let o' : Overrun := if o.count = 0 then { code := r.code, inst := r.inst, count := 1, first := r.stamp }
    else { o with count := o.count + 1 }
  ({ s with jrn.overrun := SMap.set (fun _ => {}) s.jrn.overrun k o' }).finc F.JRN_STATUS_OVERRUN 1

/-- Take the youngest waiting hardware record of a class below SAFE out of a queue (R64). -/
def dropYoungestLow : List JRec → Option (JRec × List JRec)
  | [] => none
  | r :: t =>
    match dropYoungestLow t with
    | some (d, t') => some (d, r :: t')
    | none => if !r.fw && decide (r.cls < 4) then some (r, t) else none

/-- The order in which a source emits several events of one control cycle: by code, then by payload (R57). -/
def JRec.before (r q : JRec) : Bool :=
  let ws (x : JRec) : List Nat := [x.code.toNat, x.payload.w0.toNat, x.payload.w1.toNat, x.payload.w2.toNat, x.payload.w3.toNat]
  decide (ws r < ws q)

/-- Two records of one source raised in one control cycle. -/
def JRec.together (r q : JRec) : Bool := r.src == q.src && r.raised == q.raised

/-- Put a record behind a queue; among records of its source and control cycle the stamps go in the order of R57. -/
def JRec.join (r : JRec) : List JRec → List JRec
  | [] => [r]
  | q :: t =>
    if r.together q && r.before q then { r with stamp := q.stamp } :: JRec.join { q with stamp := r.stamp } t
    else q :: JRec.join r t

/-- Queue a hardware record for insertion, or discard it when 64 wait (R63, R64). -/
def State.enqueue (s : State) (r : JRec) : State :=
  if hwWaiting s.jrn.waiting < 64 then { s with jrn.waiting := r.join s.jrn.waiting }
  else if r.cls < 4 then s.overrun r
  else
    match dropYoungestLow s.jrn.waiting with
    | some (d, q) => ({ s with jrn.waiting := r.join q }).overrun d
    | none => { s with jrn.waiting := r.join s.jrn.waiting }

/-- The stamp of a source's next event and the control cycle of its emission: its instant, `ago` ticks back, in the first of a cycle;
each further one at the control-clock edge of the next cycle still free (R57). -/
def State.stampAt (s : State) (key ago : Nat) : Nat × Nat :=
  let l := SMap.get (fun _ => (0, 0)) s.jrn.lastStamp key
  if l.2 ≤ s.cyc then (max l.1 (s.now - ago), s.cyc)
  else (max (l.1 + 1) (s.now - s.time % 2 + 2 * (l.2 - s.cyc) - ago), l.2)

/-- A record of a source, stamped `ago` ticks back; a D-die event is stamped at receipt less 160 ticks (R56). -/
def State.mkRec (s : State) (key : Nat) (code : BitVec 16) (inst : BitVec 8) (cls : Nat) (p : Payload) (ago : Nat) (dDie fw : Bool) : JRec × State :=
  let e := s.stampAt key ago
  let t := e.1
  let r : JRec :=
    { stamp := BitVec.ofNat 64 t
      code := code
      inst := inst
      cls := cls
      fw := fw
      receipt := dDie
      unsync := !s.fbit F.CLV_STATUS_LOCKED || s.coarse
      payload := p
      src := key
      raised := s.cyc }
  (r, { s with jrn.lastStamp := SMap.set (fun _ => (0, 0)) s.jrn.lastStamp key (t + 1, e.2 + 1) })

/-- Stamp and queue a record of a hardware source, `ago` ticks back. -/
def State.emit (s : State) (code : BitVec 16) (inst : BitVec 8) (cls : Nat) (p : Payload) (ago : Nat) (dDie : Bool) : State :=
  let m := s.mkRec (sourceKey code inst) code inst cls p ago dDie false
  m.2.enqueue m.1

/-- A code that no SMA_REACT entry may name (R293, R488): block 0x04, CLE_FOLLOW_ERR and the position-loss codes. -/
def reactBarred (n : Nat) : Bool := n / 256 == 4 || [0x0502, 0x0701, 0x0702, 0x0703, 0x0704, 0x0707, 0x070A].contains n

/-- The class an enabled SMA_REACT entry gives a code of class `cls` (R488), entries `i` up to 31. -/
def State.reactOver (s : State) (code : BitVec 16) (cls : Nat) : Nat → Nat
  | 0 => cls
  | k + 1 =>
    let i := 31 - k
    let c := s.fget (F.SMA_REACT_CLASS i)
    if s.fbit (F.SMA_REACT_EN i) && decide (s.fget (F.SMA_REACT_CODE i) = code.toNat) && !reactBarred code.toNat &&
        ((decide (cls ≤ 2) && decide (c ≤ 4)) || (decide (cls ≤ 4) && c == 4)) then c
    else s.reactOver code cls k

/-- The pair that owns a code's block and takes its interrupts (R487): the owner of the context or timer group where one is
named, else the pair that writes the block. -/
def State.ownerPair (s : State) (code : BitVec 16) (inst : BitVec 8) : Fin 3 :=
  let own (w sh : Nat) : Fin 3 :=
    match bits (s.rd w) (2 * sh + 1) (2 * sh) with
    | 1 => 1
    | 2 => 2
    | _ => 0
  match code.toNat / 256 with
  | 5 => if inst.toNat < 128 then own (R.SYS_FW_CLE_OWN (inst.toNat / 16)) (inst.toNat % 16) else 0
  | 6 => 1
  | 7 => 1
  | 10 => 2
  | 11 => 2
  | 12 => 1
  | 14 => 2
  | 15 => 2
  | _ => 0

/-- The pair that receives what is addressed to pair `p`: its standby from the offer of the take-over on (R512). -/
def State.irqTarget (s : State) (p : Fin 3) : Fin 3 :=
  if s.fget (F.LKS_PAIR_STAT_FOR_P 0) = p.val then 0 else if s.fget (F.LKS_PAIR_STAT_FOR_P 1) = p.val then 1 else if s.fget (F.LKS_PAIR_STAT_FOR_P 2) = p.val then 2 else p

/-- Deliver an interrupt. -/
def State.irq (s : State) (p : Fin 3) (h : Half) (code : BitVec 16) (inst : BitVec 8) (v : Tick) : State :=
  { s with irqs := { pair := s.irqTarget p, half := h, code := code, inst := inst, value := v } :: s.irqs }

/-- The class in force for a code (R94, R488): `assign` is 0 for a shared resource, 1 for TS-A, 2 for TS-B. -/
def State.classOf (s : State) (code : BitVec 16) (cls assign : Nat) : Nat :=
  let c := s.reactOver code cls 32
  if c = 3 && assign ≠ 0 && s.fget F.TMU_CFG_MACH = 2 then 4 else c

/-- The cause is already in the list. -/
def causeIn (cs : List Cause) (code : BitVec 16) (inst : BitVec 8) : Bool :=
  cs.any fun c => c.code == code && c.inst == inst

/-- Raise a code with the given class and assignment: journal record, interrupt, and for class 3 up a reaction and an active
cause (R487, R718); the event lies `ago` ticks back. -/
def State.raiseFrom (s : State) (code : BitVec 16) (inst : Nat) (cls assign : Nat) (p : Payload) (ago : Nat) (dDie : Bool) : State :=
  let i : BitVec 8 := BitVec.ofNat 8 inst
  let c := s.classOf code cls assign
  let s1 := s.emit code i c p ago dDie
  let s2 := if 1 ≤ c && c ≤ 3 then s1.irq (s.ownerPair code i) .leading code i s.clave else s1
  if c < 3 then s2
  else
    { s2 with
      reacts := s2.reacts ++ [{ code := code, inst := i, cls := c, assign := assign, stamp := s.clave, cyc := s.cyc }]
      seq.causes := if causeIn s2.seq.causes code i then s2.seq.causes
        else s2.seq.causes ++ [{ code := code, inst := i, cls := c, assign := assign }] }

/-- Raise a code with the given class and assignment; a D-die source's event is stamped at receipt less 160 ticks (R56). -/
def State.raiseAs (s : State) (code : BitVec 16) (inst : Nat) (cls assign : Nat) (p : Payload) (dDie : Bool) : State :=
  s.raiseFrom code inst cls assign p (if dDie then 160 else 0) dDie

/-- Raise a code with the class of its table. -/
def State.raise (s : State) (c : Code) (inst : Nat) (p : Payload) : State := s.raiseAs c.code inst c.cls 0 p false

/-- Raise a code of a D-die source with the class of its table. -/
def State.raiseD (s : State) (c : Code) (inst : Nat) (p : Payload) : State := s.raiseAs c.code inst c.cls 0 p true

/-- Change the mode and sub-state and journal it (R78, R79); `why` is the causing code or 0. -/
def State.setMode (s : State) (m : Mode) (sub : Sub) (why : BitVec 16) : State :=
  if s.seq.mode = m ∧ s.seq.sub = sub then s
  else
    let p : Payload := { w0 := bytes4 s.seq.mode.code m.code s.seq.sub.code sub.code, w1 := w32 why.toNat }
    ({ s with seq := { s.seq with mode := m, sub := sub, since := if s.seq.mode = m then s.seq.since else s.time } }).raise
      C.MODE_CHANGE 0 p

end Sys2Proof.Machine
end

