-- ==== Sys2Proof/Machine/Count.lean ====
section
/-! DEFINITION. The event counters (R665 to R672): a counter's value at the end of the control cycle before the present one, and what the present cycle adds. -/

namespace Sys2Proof.Machine

/-- The mode of counter `n` in the present control cycle: 1 for level (R667, R668). -/
def State.pmcLevel (s : State) (n : Nat) : Bool :=
  (SMap.get (fun w => s.rd (R.PMC_MODE w)) s.pmc.modes (n / 32)).getLsbD (n % 32)

/-- The counter's value at the end of the cycle before `pmc.cyc`. -/
def State.pmcBase (s : State) (n : Nat) : BitVec 48 := SMap.get (fun _ => 0) s.pmc.cnt n

/-- What counter `n` gains in its present cycle. -/
def State.pmcNow (s : State) (n : Nat) : PmcCyc := SMap.get (fun _ => {}) s.pmc.now n

/-- What a cycle adds in the mode in force: its occurrences, or 1 where it was active (R667). -/
def pmcGain (level : Bool) (c : PmcCyc) : Nat := if level then b2n c.level else c.add

/-- Fold the gains of a finished cycle into the counters (R667, R670, R672). -/
def State.pmcFold (s : State) : List (Nat × PmcCyc) → State
  | [] => s
  | (n, c) :: t =>
    let base : BitVec 48 := if c.clear then 0 else s.pmcBase n
    let v := base + BitVec.ofNat 48 (pmcGain (s.pmcLevel n) c)
    ({ s with pmc := { s.pmc with cnt := SMap.set (fun _ => 0) s.pmc.cnt n v } }).pmcFold t

/-- Bring the counters up to the present control cycle. -/
def State.pmcSync (s : State) : State :=
  if s.pmc.cyc = s.cyc then s
  else
    let s1 := s.pmcFold s.pmc.now
    { s1 with pmc := { s1.pmc with cyc := s.cyc, now := [], modes := [] } }

/-- Counter `n` wraps in this cycle: its PMC_OVF bit and its record (R669). -/
def State.pmcWrap (s : State) (n : Nat) : State :=
  (s.rput (R.PMC_OVF (n / 32)) (n % 32) true).raise C.PMC_OVERFLOW (n % 256) { w0 := halves n 0 }

/-- Add a gain to counter `n` in the present cycle; true where that takes it past its end. A clear in the same cycle does not
hide the wrap (R672). -/
def State.pmcAdd (s : State) (n : Nat) (c : PmcCyc) : State × Bool :=
  let s1 := s.pmcSync
  let lv := s1.pmcLevel n
  let old := s1.pmcNow n
  let new : PmcCyc := { clear := old.clear || c.clear, add := old.add + c.add, level := old.level || c.level }
  let b := (s1.pmcBase n).toNat
  ({ s1 with pmc := { s1.pmc with now := SMap.set (fun _ => {}) s1.pmc.now n new } },
    decide (b + pmcGain lv old < 2 ^ 48) && decide (2 ^ 48 ≤ b + pmcGain lv new))

/-- Event `n` occurs `c` times in the present control cycle (R666); a wrap is itself event 0x1F6. -/
def State.count (s : State) (n c : Nat) : State :=
  if c = 0 then s
  else
    let r := s.pmcAdd n { add := c, level := true }
    if r.2 then
      let r2 := (r.1.pmcWrap n).pmcAdd 0x1F6 { add := 1, level := true }
      if r2.2 then r2.1.pmcWrap 0x1F6 else r2.1
    else r.1

/-- The level of event `n` in the present control cycle: active, and an occurrence where it has just become active (R666). -/
def State.countLevel (s : State) (n : Nat) (l : Bool) : State :=
  let was := s.pmc.levels.getLsbD n
  let m := BitVec.ofNat 512 (2 ^ n)
  let s1 := { s with pmc := { s.pmc with levels := if l then s.pmc.levels ||| m else s.pmc.levels &&& ~~~ m } }
  if !l then s1
  else
    let r := s1.pmcAdd n { add := b2n (!was), level := true }
    if r.2 then r.1.pmcWrap n else r.1

/-- A read of a counter: its value at the end of the control cycle before the read (R670). -/
def State.pmcValue (s : State) (n : Nat) : BitVec 48 := s.pmcSync.pmcBase n

/-- A write by pair `p` (3: DMA) that the firewall denies: SYS_FW_VIOL and FW_WRITE_DENIED (R32). -/
def State.deniedBy (s : State) (p a : Nat) : State :=
  let base := if a < 0x10000000 then 0 else if a < 0x20000000 then 0x10000000 else 0x20000000
  let w := p * 2 ^ 30 + b2n (decide (a < 0x10000000)) * 2 ^ 28 + offs a base / 4 % 2 ^ 26 * 4 + 2 * b2n (decide (0x20000000 ≤ a)) + 1
  let s1 := (s.wr R.SYS_FW_VIOL (w32 w)).raise C.FW_WRITE_DENIED 0 { w0 := w32 a, w1 := bytes4 p 0 0 0 }
  if p < 3 then s1.count (0x00E + 0x10 * p) 1 else s1

/-- DMA stores bytes: in the shared region alone (R32). -/
def State.dmaPuts (s : State) (a : Nat) (b : List Byte) : State :=
  if 0x10A00000 ≤ a ∧ a + b.length ≤ 0x10C00000 then s.mputs a b else s.deniedBy 3 a

end Sys2Proof.Machine
end

