-- ==== Sys2Proof/Machine/Gates.lean ====
section
/-! DEFINITION. How timer groups, legs, channels and bridges are connected (R294). Channel numbers here: 0 to 30 are GC0 to GC30, 31 + k is LGk. -/

namespace Sys2Proof.Machine

/-- The number of legs of timer group `g` (R294). -/
def pwmLegs (g : Nat) : Nat :=
  match g with
  | 0 => 3
  | 1 => 3
  | 3 => 3
  | 4 => 4
  | 5 => 4
  | 6 => 4
  | 7 => 4
  | 8 => 3
  | 9 => 3
  | 10 => 3
  | _ => 0

/-- The channel of the high (`low` = 0) or low side (1) of leg `l` of group `g` (R294). -/
def chanOf (g l low : Nat) : Nat :=
  match g with
  | 0 => 2 * l + low
  | 1 => 6 + 2 * l + low
  | 3 => 13 + 2 * l + low
  | 4 => 19 + 2 * l + low
  | 5 => if l < 2 then 27 + 2 * l + low else 31 + 2 * (l - 2) + low
  | 6 => 31 + 4 + 2 * l + low
  | 7 => 31 + 12 + 2 * l + low
  | 8 => 31 + 20 + 2 * l + low
  | 9 => 31 + 26 + 2 * l + low
  | 10 => 31 + 32 + 2 * l + low
  | _ => 12

/-- The group, leg and side (1 low) of a channel; GC12 belongs to TG2 and has no leg (R294). -/
def legOf (ch : Nat) : Nat × Nat × Nat :=
  if ch < 6 then (0, ch / 2, ch % 2)
  else if ch < 12 then (1, (ch - 6) / 2, ch % 2)
  else if ch = 12 then (2, 0, 0)
  else if ch < 19 then (3, (ch - 13) / 2, (ch - 13) % 2)
  else if ch < 27 then (4, (ch - 19) / 2, (ch - 19) % 2)
  else if ch < 31 then (5, (ch - 27) / 2, (ch - 27) % 2)
  else
    let k := ch - 31
    if k < 4 then (5, 2 + k / 2, k % 2)
    else if k < 12 then (6, (k - 4) / 2, k % 2)
    else if k < 20 then (7, (k - 12) / 2, k % 2)
    else if k < 26 then (8, (k - 20) / 2, k % 2)
    else if k < 32 then (9, (k - 26) / 2, k % 2)
    else (10, (k - 32) / 2, k % 2)

/-- The channel is an integrated driver's. -/
def chanIsLg (ch : Nat) : Bool := decide (31 ≤ ch)

/-- The INST of a channel in a GDR code (R352). -/
def chanInst (ch : Nat) : Nat := if ch < 31 then ch else 64 + (ch - 31)

/-- The bridge of LG leg `k` (R294). -/
def bridgeOfLeg (k : Nat) : Nat :=
  if k < 2 then 0 else if k < 10 then k - 1 else if k < 13 then 9 else if k < 16 then 10 else 11

/-- The first LG leg and the number of legs of bridge `b` (R294). -/
def bridgeLegs (b : Nat) : Nat × Nat :=
  if b = 0 then (0, 2) else if b < 9 then (b + 1, 1) else if b = 9 then (10, 3) else if b = 10 then (13, 3) else (16, 3)

/-- The group and leg of LG leg `k`. -/
def lgLegGroup (k : Nat) : Nat × Nat :=
  let t := legOf (31 + 2 * k)
  (t.1, t.2.1)

/-- The group of a bridge's legs, and for B1 to B8 its leg. -/
def bridgeGroup (b : Nat) : Nat := (lgLegGroup (bridgeLegs b).1).1

/-- The code of TG `g` marked "by group" (R352): class and assignment. -/
def groupClass (g : Nat) : Nat × Nat :=
  match g with
  | 0 => (3, 1)
  | 1 => (3, 2)
  | 2 => (2, 0)
  | _ => (1, 0)

end Sys2Proof.Machine
end

