-- ==== Sys2Proof/Machine/Forms.lean ====
section
/-! DEFINITION. Which outputs of the traction unit and of the stages are formed in response to a trigger: by the ADC sequences it starts, and by the sigma-delta samples aligned to it (R148, R190, R194, R223, R354, R393, R427). -/

namespace Sys2Proof.Machine

/-- ADC sequence `q` beside its registers. -/
def State.aseq (s : State) (q : Nat) : AdcSeq := SMap.get (fun _ => {}) s.adc.seqs q

/-- Store it. -/
def State.setAseq (s : State) (q : Nat) (v : AdcSeq) : State :=
  { s with adc.seqs := SMap.set (fun _ => {}) s.adc.seqs q v }

/-- The number of slots of sequence `q`. -/
def State.nslot (s : State) (q : Nat) : Nat := s.fget (F.ADC_SEQ_CTRL_NSLOT q)

/-- The AIN of slot `j` of sequence `q`. -/
def State.slotAin (s : State) (q j : Nat) : Nat :=
  bits (s.rd (R.ADC_SEQ_SLOT q (j / 4))) (8 * (j % 4) + 6) (8 * (j % 4))

/-- The AINs of slots `j` up to `j + n`. -/
def State.slotAins (s : State) (q j : Nat) : Nat → List Nat
  | 0 => []
  | n + 1 => s.slotAin q j :: s.slotAins q (j + 1) n

/-- The AINs of sequence `q` in slot order. -/
def State.seqAins (s : State) (q : Nat) : List Nat := s.slotAins q 0 (s.nslot q)

/-- The traction systems of the machine (R172, R173). -/
def State.systems (s : State) : List Nat := if s.fget F.TMU_CFG_MACH = 2 then [0] else [0, 1]

/-- The systems a completed sequence samples: those whose U input it converts (R193, R194). -/
def State.sampledBy (s : State) (ains : List Nat) : List Nat :=
  s.systems.filter fun k => ains.any fun a => a == s.fget (F.TMU_SYS_ISEL_IU_SIG k)

/-- A sample of system `k` forms signal `i`: the system's own, the plane's and the axle's (R223). -/
def tmuForms (k i : Nat) : Bool :=
  (decide (0x080 ≤ i) && decide (i ≤ 0x08F)) || (decide (0x090 + 0x10 * k ≤ i) && decide (i ≤ 0x09D + 0x10 * k)) || i == 0x0B0 || i == 0x0B1

/-- The completion of sequence `q` forms signal `i` (R223, R354, R393, R427). -/
def State.seqForms (s : State) (q i : Nat) : Bool :=
  let ains := s.seqAins q
  (s.sampledBy ains).any (fun k => tmuForms k i) ||
  (decide (s.fget F.LVC_CFG_SEQ = q) && decide (0x140 ≤ i) && decide (i ≤ 0x148)) ||
  (decide (s.fget F.CHG_CFG_FSEQ = q) && [0x150, 0x151, 0x152, 0x153, 0x154, 0x155, 0x15A, 0x15B, 0x15F, 0x160].contains i) ||
  (decide (s.fget F.CHG_CFG_DSEQ = q) && [0x156, 0x157, 0x158, 0x159, 0x15C, 0x15D, 0x15E].contains i) ||
  ([0, 1, 2].any fun m => ains.contains (s.fget (F.ACT_ISEL_SIG m)) && ((decide (0x170 + 4 * m ≤ i) && decide (i ≤ 0x173 + 4 * m)) || i == 0x17C))

/-- Sequence `q` is triggered and has not completed. -/
def State.seqOpen (s : State) (q : Nat) : Bool := (s.aseq q).waiting.isSome || (s.aseq q).hold.isSome

/-- The unfinished sequences whose trigger matches (R143, R148). -/
def State.seqsOn (s : State) (hit : Nat → Nat → Bool) : List Nat :=
  (List.range 32).filter fun q => s.seqOpen q && hit (s.fget (F.ADC_SEQ_CTRL_SRC q)) (s.fget (F.ADC_SEQ_CTRL_SEL q))

/-- A selector names event `e` of group `g`; 4g + 2 names centre and peak (R143). -/
def evHit (g e sel : Nat) : Bool := sel == 4 * g + e || (decide (e ≤ 1) && sel == 4 * g + 2)

/-- The systems whose current is a sigma-delta input aligned to event `e` of group `g`: their sample is formed after it (R190, R222). -/
def State.sdSystemsOn (s : State) (g e : Nat) : List Nat :=
  s.systems.filter fun k =>
    let i := s.fget (F.TMU_SYS_ISEL_IU_SIG k)
    decide (0x060 ≤ i) && decide (i ≤ 0x067) && s.fbit (F.ADC_SD_CFG_EN (i - 0x060)) && !s.adc.sdLost.getLsbD (i - 0x060) &&
      evHit g e (s.fget (F.ADC_SD_ALIGN_EV (i - 0x060)))

/-- What a trigger starts that forms outputs later: its ADC sequences, and the sigma-delta samples of systems. -/
structure Formers where
  seqs : List Nat := []
  sds : List Nat := []

/-- A PWM event's formers. -/
def State.pwmFormers (s : State) (g e : Nat) : Formers :=
  { seqs := s.seqsOn fun src sel => src == 1 && evHit g e sel, sds := s.sdSystemsOn g e }

/-- A rate generator's formers. -/
def State.rateFormers (s : State) (m : Nat) : Formers := { seqs := s.seqsOn fun src sel => src == 2 && sel == m }

end Sys2Proof.Machine
end

