-- ==== Sys2Proof/Machine/Cle.lean ====
section
/-! DEFINITION. The closed-loop engine (spec/04): validity of its configuration, triggers and releases, the run of R119 on binary32, the following-error check, and the lanes. What a delivered output does is in Machine/Control.lean. -/

namespace Sys2Proof.Machine

/-! ### Records -/

/-- The parts of context `n` beyond its registers. -/
def State.ctx (s : State) (n : Nat) : CleCtx := SMap.get (fun _ => {}) s.cle.ctxs n

/-- Store them. -/
def State.setCtx (s : State) (n : Nat) (c : CleCtx) : State :=
  { s with cle.ctxs := SMap.set (fun _ => {}) s.cle.ctxs n c }

/-- Lane `l`. -/
def State.lane (s : State) (l : Nat) : CleLane :=
  match l with
  | 0 => s.cle.lane0
  | 1 => s.cle.lane1
  | 2 => s.cle.lane2
  | _ => s.cle.lane3

/-- Store lane `l`. -/
def State.setLane (s : State) (l : Nat) (v : CleLane) : State :=
  match l with
  | 0 => { s with cle.lane0 := v }
  | 1 => { s with cle.lane1 := v }
  | 2 => { s with cle.lane2 := v }
  | _ => { s with cle.lane3 := v }

/-- Context `n` is enabled. -/
def State.ctxOn (s : State) (n : Nat) : Bool := s.fbit (F.CLE_CTX_CTRL_EN n)

/-! ### Validity -/

/-- The signal index is reserved (R126 and the signal tables of spec/05, 06, 08, 09, 10). -/
def sigReserved (i : Nat) : Bool :=
  (0x068 ≤ i && i ≤ 0x07F) || i == 0x09E || i == 0x09F || i == 0x0AE || i == 0x0AF || (0x0B2 ≤ i && i ≤ 0x0FF) || (0x10A ≤ i && i ≤ 0x10F) || (0x116 ≤ i && i ≤ 0x13F) ||
  (0x149 ≤ i && i ≤ 0x14F) || (0x163 ≤ i && i ≤ 0x16F) || (0x17D ≤ i && i ≤ 0x17F)

/-- The destination is valid (R160, R224, R305, R392, R394, R428). -/
def dstValid (kind index : Nat) : Bool :=
  match kind with
  | 0 => true
  | 1 =>
    let g := index / 16
    let c := index % 16
    decide (g ≤ 11) && decide (c < 12) && decide (c % 4 < pwmLegs g)
  | 2 => decide (index ≤ 4) || (decide (16 ≤ index) && decide (index ≤ 18)) || (decide (24 ≤ index) && decide (index ≤ 26))
  | _ => decide (index ≤ 1) || (decide (0x10 ≤ index) && decide (index ≤ 0x13)) || (decide (0x20 ≤ index) && decide (index ≤ 0x22))

/-- The trigger of context `n` is valid (R143). -/
def trigValid (n src sel : Nat) : Bool :=
  match src with
  | 0 => true
  | 1 => decide (sel < 48)
  | 2 => decide (sel < 32)
  | 3 => decide (sel < 8)
  | 4 => true
  | 5 => decide (sel < 128) && decide (sel ≠ n)
  | _ => false

/-- The count and start of a chain in a CHAIN word (R131). -/
def chainOf (w : Word) (bank : Nat) : Nat × Nat :=
  if bank = 0 then (bits w 9 0, bits w 15 12) else (bits w 25 16, bits w 31 28)

/-- A chain of at most 8 sections that ends by section 1,023 (R131). -/
def chainValid (c : Nat × Nat) : Bool := decide (c.2 ≤ 8) && decide (c.1 + c.2 ≤ 1024)

/-- The active chain of context `n`. -/
def State.chainAct (s : State) (n : Nat) : Nat × Nat :=
  chainOf (s.rd (R.CLE_CTX_CHAIN n)) (s.fget (F.CLE_CTX_CTRL_BANK_ACT n))

/-- A bank swap of context `n` is pending (R134, STAT.SWAP_PEND). -/
def State.swapPend (s : State) (n : Nat) : Bool :=
  s.fget (F.CLE_CTX_CTRL_BANK n) != s.fget (F.CLE_CTX_CTRL_BANK_ACT n)

/-- Section `sec` lies in a chain. -/
def inChain (c : Nat × Nat) (sec : Nat) : Bool := decide (c.1 ≤ sec) && decide (sec < c.1 + c.2)

/-- Section `sec` is in use by one of the contexts below `k` (R132). -/
def State.secInUse (s : State) (sec : Nat) : Nat → Bool
  | 0 => false
  | n + 1 =>
    (s.ctxOn n && (inChain (s.chainAct n) sec ||
      (s.swapPend n && inChain (chainOf (s.rd (R.CLE_CTX_CHAIN n)) (s.fget (F.CLE_CTX_CTRL_BANK n))) sec))) ||
    s.secInUse sec n

/-- The signals a context reads (R160). -/
def State.ctxSignals (s : State) (n : Nat) : List Nat :=
  [s.fget (F.CLE_CTX_MSEL_SIG n)] ++
  (if s.fbit (F.CLE_CTX_SSEL_SRC n) then [s.fget (F.CLE_CTX_SSEL_SIG n)] else []) ++
  (if 2 ≤ s.fget (F.CLE_CTX_FFSEL_MODE n) then [s.fget (F.CLE_CTX_FFSEL_SIG n)] else []) ++
  (if s.fbit (F.CLE_CTX_LIMSEL_HI_SIG_EN n) then [s.fget (F.CLE_CTX_LIMSEL_HI_SIG n)] else []) ++
  (if s.fbit (F.CLE_CTX_LIMSEL_LO_SIG_EN n) && !s.fbit (F.CLE_CTX_LIMSEL_LO_MIRROR n) then
    [s.fget (F.CLE_CTX_LIMSEL_LO_SIG n)] else [])

/-- What is wrong with a context's configuration at its enable, as offset and reason (R160); none where it is valid. -/
def State.ctxInvalid (s : State) (n : Nat) : Option (Nat × Nat) :=
  let ch := s.rd (R.CLE_CTX_CHAIN n)
  if !trigValid n (s.fget (F.CLE_CTX_TRIG_SRC n)) (s.fget (F.CLE_CTX_TRIG_SEL n)) then some (0x004, 2)
  else if !(chainValid (chainOf ch 0) && chainValid (chainOf ch 1)) then some (0x01C, 1)
  else if !dstValid (s.fget (F.CLE_CTX_DST_KIND n)) (s.fget (F.CLE_CTX_DST_INDEX n)) then some (0x018, 3)
  else if (s.ctxSignals n).any sigReserved then some (0x008, 0)
  else none

/-- Report an invalid CLE value (R128, R160): INST, register offset, reason. -/
def State.cleInvalid (s : State) (inst off reason : Nat) : State :=
  s.raise C.CLE_CFG_INVALID inst { w0 := bytes4 off (off / 256) reason 0 }

/-- Report a write to a locked field (R138, R162, R163). -/
def State.cleLocked (s : State) (n off : Nat) : State :=
  s.raise C.CLE_CFG_LOCKED n { w0 := halves off 0 }

/-! ### States, banks, enable and disable -/

/-- Zero the states of positions `lo` up to `lo + k` (R137). -/
def State.zeroStates (s : State) (n lo : Nat) : Nat → State
  | 0 => s
  | k + 1 => (s.wr (R.CLE_CTX_S1 n lo) 0 |>.wr (R.CLE_CTX_S2 n lo) 0).zeroStates n (lo + 1) k

/-- Swap the bank of context `n` to the requested one and treat the states (R134, R137). -/
def State.bankSwap (s : State) (n : Nat) : State :=
  if !s.swapPend n then s
  else
    let b := s.fget (F.CLE_CTX_CTRL_BANK n)
    let old := (s.chainAct n).2
    let new := (chainOf (s.rd (R.CLE_CTX_CHAIN n)) b).2
    let s1 := s.fset (F.CLE_CTX_CTRL_BANK_ACT n) b
    if s.fbit (F.CLE_CTX_CTRL_SWAP_ZERO n) then s1.zeroStates n 0 8 else s1.zeroStates n old (new - old)

/-- A run of context `n` is in progress on some lane. -/
def State.ctxRunning (s : State) (n : Nat) : Bool :=
  [0, 1, 2, 3].any fun l => match (s.lane l).run with
    | some (k, _) => k.val == n
    | none => false

/-- Timer group `g` is overridden by a safe pattern or the global disable (R164). -/
def State.overridden (s : State) (g : Nat) : Bool :=
  decide (g < 12) && s.fget (F.PWM_GRP_STAT_OVR_SRC g) != 0

/-- Suspend context `n` for group `g`: it is released no more; a run of a release already made commits first (R164). -/
def State.ctxSuspend (s : State) (n g : Nat) : State :=
  if !s.ctxOn n || s.fbit (F.CLE_CTX_STAT_SUSP n) then s
  else
    let c := s.ctx n
    if s.fbit (F.CLE_CTX_STAT_BUSY n) then s.setCtx n { c with due := none, suspPend := some (c.suspPend.getD g) }
    else ((s.setCtx n { c with due := none, suspPend := none }).fput (F.CLE_CTX_STAT_SUSP n) true).raise C.CLE_SUSPENDED n { w0 := bytes4 g 0 0 0 }

/-- Enable context `n` if its configuration is valid (R160); where its group is overridden it is suspended (R164). True where it was enabled. -/
def State.ctxEnable (s : State) (n : Nat) : State × Bool :=
  match s.ctxInvalid n with
  | some (off, why) => ((s.fput (F.CLE_CTX_CTRL_EN n) false).cleInvalid n off why, false)
  | none =>
    let s1 := ((((s.fput (F.CLE_CTX_CTRL_EN n) true).fput (F.CLE_CTX_STAT_FE n) false).fput (F.CLE_CTX_STAT_HELD n) false).fput
      (F.CLE_CTX_STAT_SUSP n) false).fset (F.CLE_CTX_STAT_DIVCNT n) 0
    let s2 := (s1.wr (R.CLE_CTX_FE_TMR n) 0).setCtx n { s.ctx n with due := none, ran := false, fe := 0, suspPend := none }
    let s3 := if s.fbit (F.CLE_CTX_CTRL_ZERO_ON_EN n) then s2.zeroStates n 0 8 else s2
    let g := s.fget (F.CLE_CTX_CTRL_SGRP n)
    (if s.overridden g then s3.ctxSuspend n g else s3, true)

/-- Disable context `n`: a pending release is cancelled, a run in progress goes on, a pending swap is made once none runs
(R136, R161). -/
def State.ctxDisable (s : State) (n : Nat) : State :=
  let s1 := (s.fput (F.CLE_CTX_CTRL_EN n) false).setCtx n { s.ctx n with due := none }
  if s.ctxRunning n then s1
  else ((s1.setCtx n { s.ctx n with due := none, waiting := false, suspPend := none }).fput (F.CLE_CTX_STAT_BUSY n) false).bankSwap n

/-! ### Release (R145 to R150, R164) -/

/-- A release lost on an unfinished run (R150): counted, and reported at most once per 1 ms. -/
def State.ctxOverrun (s : State) (n : Nat) : State :=
  let c := s.ctx n
  let s1 := (s.finc (F.CLE_CTX_OVR_COUNT n) 1).count 0x049 1
  if c.lastOvr = 0 || c.lastOvr + 400000 ≤ s.cyc + 1 then
    (s1.setCtx n { c with lost := 0, lastOvr := s.cyc + 1 }).raise C.CLE_OVERRUN n
      { w0 := bytes4 (c.lost + 1) ((c.lost + 1) / 256) (s.fget (F.CLE_CTX_TRIG_SRC n)) 0 }
  else s1.setCtx n { c with lost := satAdd c.lost 1 65535 }

/-- Release context `n` (R134, R145). -/
def State.ctxRelease (s : State) (n inst : Nat) : State :=
  let s1 := ((s.bankSwap n).fput (F.CLE_CTX_STAT_BUSY n) true).wr64 (R.CLE_CTX_STAMP_LO n) (R.CLE_CTX_STAMP_HI n) s.clave
  (s1.setCtx n { s.ctx n with due := none, waiting := true, rel := s.cyc, inst := inst }).count 0x048 1

/-- Context `m` was triggered by instance `inst` and has not committed. -/
def State.ctxOpen (s : State) (m inst : Nat) : Bool :=
  (s.fbit (F.CLE_CTX_STAT_BUSY m) && (s.ctx m).inst == inst) || (match (s.ctx m).due with
    | some d => d.inst == inst
    | none => false)

/-- The sigma-delta sample of system `k` is still to come: its input runs. -/
def State.sdComing (s : State) (k : Nat) : Bool :=
  let i := s.fget (F.TMU_SYS_ISEL_IU_SIG k) - 0x060
  s.fbit (F.ADC_SD_CFG_EN i) && !s.adc.sdLost.getLsbD i

/-- The release of context `n` need wait no longer: the outputs it reads are complete (R148), and no lower context of the same trigger
instance whose output it reads is unfinished (R149); the engine is enabled (R166). -/
def State.dueReady (s : State) (n : Nat) (d : CleDue) : Bool :=
  s.fbit F.CLE_GLB_CTRL_EN && d.seqs.all (fun q => !s.seqOpen q.val) && d.sds.all (fun k => !s.sdComing k.val) &&
    (s.ctxSignals n).all fun i => !(decide (0x180 ≤ i) && decide (i - 0x180 < n) && s.ctxOpen (i - 0x180) d.inst)

/-- Release context `n` if its release is due and ready. -/
def State.releaseIfReady (s : State) (n : Nat) : State :=
  match (s.ctx n).due with
  | none => s
  | some d => if s.dueReady n d then s.ctxRelease n d.inst else s

/-- Release every context whose release is due and ready, in order of number. -/
def State.releaseDue (s : State) : State := s.cle.ctxs.foldl (fun t p => t.releaseIfReady p.1) s

/-- The sigma-delta sample of system `k` is complete: what waits for it waits no longer (R148). -/
def State.sdFormed (s : State) (k : Nat) : State :=
  s.cle.ctxs.foldl (fun t p => match p.2.due with
    | some d => t.setCtx p.1 { p.2 with due := some { d with sds := d.sds.filter fun j => j.val != k } }
    | none => t) s

/-- The release of context `n` falls due: it waits for the formers of outputs that it reads (R148). -/
def State.ctxDue (s : State) (n inst : Nat) (fm : Formers) : State :=
  let sigs := s.ctxSignals n
  let d : CleDue :=
    { inst := inst
      seqs := (fm.seqs.filter fun q => sigs.any fun i => s.seqForms q i).map (Fin.ofNat 32)
      sds := (fm.sds.filter fun k => sigs.any fun i => tmuForms k i).map (Fin.ofNat 2) }
  (s.setCtx n { s.ctx n with due := some d }).releaseIfReady n

/-- One trigger of context `n` (R145, R146, R148 to R150, R164, R166); one whose release is due counts as released. DEDUCED: log entry 131. -/
def State.ctxCount (s : State) (n inst : Nat) (fm : Formers) : State :=
  if !s.fbit F.CLE_GLB_CTRL_EN || !s.ctxOn n || s.fbit (F.CLE_CTX_STAT_SUSP n) || (s.ctx n).suspPend.isSome then s
  else
    let g := s.fget (F.CLE_CTX_CTRL_SGRP n)
    if s.overridden g then s.ctxSuspend n g
    else
      let d := s.fget (F.CLE_CTX_STAT_DIVCNT n)
      if d ≠ 0 then s.fset (F.CLE_CTX_STAT_DIVCNT n) (d - 1)
      else
        let s1 := s.fset (F.CLE_CTX_STAT_DIVCNT n) (s.fget (F.CLE_CTX_TRIG_DIVM1 n))
        if s.fbit (F.CLE_CTX_STAT_BUSY n) || (s.ctx n).due.isSome then s1.ctxOverrun n else s1.ctxDue n inst fm

/-- Count a trigger for every context below `k` whose TRIG matches (R143). -/
def State.triggerAll (s : State) (hit : Nat → Nat → Bool) (inst : Nat) (fm : Formers) : Nat → State
  | 0 => s
  | k + 1 =>
    let s1 := s.triggerAll hit inst fm k
    if s1.ctxOn k && hit (s1.fget (F.CLE_CTX_TRIG_SRC k)) (s1.fget (F.CLE_CTX_TRIG_SEL k)) then s1.ctxCount k inst fm else s1

/-- One trigger instance: every context it triggers counts it (R143, R149). -/
def State.cleTrigger (s : State) (hit : Nat → Nat → Bool) (fm : Formers) : State :=
  let i := s.cle.inst + 1
  ({ s with cle.inst := i }).triggerAll hit i fm 128

/-- The trigger of PWM event `e` of group `g`: 0 centre, 1 peak, 3 update (R143). -/
def State.clePwm (s : State) (g e : Nat) : State := s.cleTrigger (fun src sel => src == 1 && evHit g e sel) (s.pwmFormers g e)

/-- The trigger of ADC sequence `q` (R143). -/
def State.cleAdc (s : State) (q : Nat) : State := s.cleTrigger (fun src sel => src == 2 && sel == q) {}

/-- The trigger of rate generator `m` (R143, R144). -/
def State.cleRate (s : State) (m : Nat) : State := s.cleTrigger (fun src sel => src == 3 && sel == m) (s.rateFormers m)

/-- The software trigger of context `n` (R143). -/
def State.cleSoft (s : State) (n : Nat) : State :=
  if s.fget (F.CLE_CTX_TRIG_SRC n) = 4 then
    ({ s with cle.inst := s.cle.inst + 1 }).ctxCount n (s.cle.inst + 1) {}
  else s

/-! ### Lanes (R151 to R154) -/

/-- Lane `l` is in service. -/
def State.laneIn (s : State) (l : Nat) : Bool := (s.fget F.CLE_GLB_CTRL_LANE_EN).testBit l

/-- RSV applies: some lane in service is not reserved (R154). -/
def State.rsvApplies (s : State) : Bool :=
  [0, 1, 2, 3].any fun l => s.laneIn l && !(s.fget F.CLE_GLB_CTRL_RSV).testBit l

/-- The lane starts only contexts of PRIO 0 (R154). -/
def State.laneReserved (s : State) (l : Nat) : Bool :=
  s.rsvApplies && (s.fget F.CLE_GLB_CTRL_RSV).testBit l

/-- The context below `k` that lane `l` starts next: lowest PRIO, earliest release, lowest number (R152). -/
def State.nextCtx (s : State) (l : Nat) : Nat → Option Nat
  | 0 => none
  | n + 1 =>
    let best := s.nextCtx l n
    if (s.ctx n).waiting && (!s.laneReserved l || decide (s.fget (F.CLE_CTX_CTRL_PRIO n) = 0)) then
      match best with
      | none => some n
      | some b =>
        let pb := s.fget (F.CLE_CTX_CTRL_PRIO b)
        let pn := s.fget (F.CLE_CTX_CTRL_PRIO n)
        if pn < pb || (pn == pb && decide ((s.ctx n).rel < (s.ctx b).rel)) then some n else some b
    else best

/-- A coefficient section (R129). -/
def State.section (s : State) (k : Nat) : Sec :=
  { b0 := s.rd (R.CLE_COEF k 0)
    b1 := s.rd (R.CLE_COEF k 1)
    b2 := s.rd (R.CLE_COEF k 2)
    a1 := s.rd (R.CLE_COEF k 3)
    a2 := s.rd (R.CLE_COEF k 4)
    slim := s.rd (R.CLE_COEF k 5)
    integ := s.fbit (F.CLE_COEF_FLAGS_INTEG k)
    slimEn := s.fbit (F.CLE_COEF_FLAGS_SLIM_EN k) }

/-- Sections `k` up to `k + n`. -/
def State.sections (s : State) (k : Nat) : Nat → List Sec
  | 0 => []
  | n + 1 => s.section k :: s.sections (k + 1) n

/-- The states of positions `i` up to `i + k`. -/
def State.secStates (s : State) (n i : Nat) : Nat → List (F32 × F32)
  | 0 => []
  | k + 1 => (s.rd (R.CLE_CTX_S1 n i), s.rd (R.CLE_CTX_S2 n i)) :: s.secStates n (i + 1) k

/-- What a run of context `n` samples in its first cycle (R119, R124). -/
def State.cleSnap (s : State) (n : Nat) : CleSnap :=
  let fs := s.sget (s.fget (F.CLE_CTX_FFSEL_SIG n))
  let hi := if s.fbit (F.CLE_CTX_LIMSEL_HI_SIG_EN n) then s.sget (s.fget (F.CLE_CTX_LIMSEL_HI_SIG n)) else s.rd (R.CLE_CTX_LIM_HI n)
  let lo := if s.fbit (F.CLE_CTX_LIMSEL_LO_MIRROR n) then fNeg hi
    else if s.fbit (F.CLE_CTX_LIMSEL_LO_SIG_EN n) then s.sget (s.fget (F.CLE_CTX_LIMSEL_LO_SIG n)) else s.rd (R.CLE_CTX_LIM_LO n)
  let ch := s.chainAct n
  { meas := s.sget (s.fget (F.CLE_CTX_MSEL_SIG n))
    tgt := if s.fbit (F.CLE_CTX_SSEL_SRC n) then s.sget (s.fget (F.CLE_CTX_SSEL_SIG n)) else s.rd (R.CLE_CTX_SETP n)
    gain := s.rd (R.CLE_CTX_GAIN n)
    ff := (match s.fget (F.CLE_CTX_FFSEL_MODE n) with
      | 0 => 0
      | 1 => s.rd (R.CLE_CTX_FF n)
      | 2 => fs
      | _ => fAdd (s.rd (R.CLE_CTX_FF n)) fs)
    hi := hi
    lo := lo
    rampRate := s.rd (R.CLE_CTX_RAMP_RATE n)
    feLimit := s.rd (R.CLE_CTX_FE_LIMIT n)
    freezeEn := s.fbit (F.CLE_CTX_CTRL_FREEZE_EN n)
    rampEn := s.fbit (F.CLE_CTX_CTRL_RAMP_EN n)
    errMode := s.fbit (F.CLE_CTX_CTRL_ERR_MODE n)
    secs := s.sections ch.1 ch.2
    states := s.secStates n 0 ch.2
    feTime := s.fget (F.CLE_CTX_FE_CFG_TIME n)
    feReact := s.fget (F.CLE_CTX_FE_CFG_REACT n)
    feClass := s.fget (F.CLE_CTX_FE_CFG_CLASS n)
    sgrp := s.fget (F.CLE_CTX_CTRL_SGRP n)
    kind := s.fget (F.CLE_CTX_DST_KIND n)
    index := s.fget (F.CLE_CTX_DST_INDEX n) }

/-- Start the next context on lane `l` (R152, R153). -/
def State.runStart (s : State) (l : Nat) : State :=
  if !s.laneIn l || (s.lane l).run.isSome then s
  else
    match s.nextCtx l 128 with
    | none => s
    | some n =>
      (s.setLane l { s.lane l with run := some (Fin.ofNat 128 n, s.cyc) }).setCtx n
        { s.ctx n with waiting := false, snap := some (s.cleSnap n) }

/-- CLE_RUN_START (R152). -/
def execCleRunStart (l : Fin 4) (s : State) : Host.Outcome State Fault Refusal := .next (s.runStart l.val)

/-! ### The run (R119 to R123) -/

/-- The two new states of a section and its output (R119). -/
structure SecOut where
  y : F32
  c1 : F32
  c2 : F32
deriving DecidableEq, Repr

/-- One section in transposed direct form II (R119). -/
def secStep (c : Sec) (x s1 s2 : F32) : SecOut :=
  let y := fFma c.b0 x s1
  { y := y
    c1 := fFma (fNeg c.a1) y (fFma c.b1 x s2)
    c2 := fFma (fNeg c.a2) y (fMul c.b2 x) }

/-- The quantity of a section that is not finite: 0 y, 1 c1, 2 c2 (R122). -/
def secBad (o : SecOut) : Option Nat :=
  if !fIsFinite o.y then some 0 else if !fIsFinite o.c1 then some 1 else if !fIsFinite o.c2 then some 2 else none

/-- The cascade from section position `i` on: its output and the new states, or the position and quantity that is not finite. -/
def cascade : List Sec → List (F32 × F32) → F32 → Nat → Except (Nat × Nat) (F32 × List SecOut)
  | [], _, x, _ => .ok (x, [])
  | c :: cs, st, x, i =>
    let p := nth (0, 0) st 0
    let o := secStep c x p.1 p.2
    match secBad o with
    | some q => .error (i, q)
    | none =>
      match cascade cs st.tail o.y (i + 1) with
      | .error e => .error e
      | .ok (y, os) => .ok (y, o :: os)

/-- 2.5e-9 s, the control cycle, as the nearest binary32. -/
def fCycle : F32 := 0x312BCC77

/-- The ramp state of a run (R119, R139 to R141); toward a NaN the sign is a free value. DESIGN CHOICE: log entry 132. -/
def rampNext (c : CleSnap) (first : Bool) (r dt : F32) : F32 :=
  if !c.rampEn then c.tgt
  else if first then c.meas
  else
    let d := fSub c.tgt r
    let stepv := fMul c.rampRate dt
    if fLe (fAbs d) stepv then c.tgt
    else if fIsNaN d then fAdd r (fMul (Config.signOfNaN d) stepv)
    else if fSign d then fSub r stepv else fAdd r stepv

/-- The outcome of the arithmetic of a run. -/
inductive RunRes where
  | numeric (pos quantity : Nat)
  | limits
  | ok (r e u out : F32) (sat : Nat) (frz : Bool) (outs : List SecOut)
deriving DecidableEq, Repr

/-- The arithmetic of R119 up to the freeze decision: `sat` is 0, 1 at hi or 2 at lo. -/
def runCompute (c : CleSnap) (first : Bool) (r0 dt : F32) (st : List (F32 × F32)) : RunRes :=
  let r := rampNext c first r0 dt
  let e := if c.errMode then c.meas else fSub r c.meas
  match cascade c.secs st e 0 with
  | .error (i, q) => .numeric i q
  | .ok (x, outs) =>
    let u := fFma c.gain x c.ff
    if !fIsFinite u then .numeric 8 3
    else if fIsNaN c.hi || fIsNaN c.lo || fLt c.hi c.lo then .limits
    else
      let sat := if fLt c.hi u then 1 else if fLt u c.lo then 2 else 0
      let out := if sat = 1 then fFlush c.hi else if sat = 2 then fFlush c.lo else u
      let ge := fMul c.gain e
      let frz := c.freezeEn && ((sat == 1 && fLt 0 ge) || (sat == 2 && fLt ge 0))
      .ok r e u out sat frz outs

/-- A state clamped to plus or minus a magnitude (R119); with a magnitude below 0 or a NaN a free value. DESIGN CHOICE: log entry 132. -/
def clampMag (m v : F32) : F32 := if fIsNaN m || fLt m 0 then Config.openClamp m v else fClamp (fNeg m) m v

/-- Commit the section states of a run from position `i` (R119). -/
def State.commitStates (s : State) (n : Nat) (frz : Bool) : List Sec → List SecOut → Nat → State
  | c :: cs, o :: os, i =>
    let keep := frz && c.integ
    let v1 := if keep then s.rd (R.CLE_CTX_S1 n i) else o.c1
    let v2 := if keep then s.rd (R.CLE_CTX_S2 n i) else o.c2
    let v1 := if c.slimEn then clampMag c.slim v1 else v1
    let v2 := if c.slimEn then clampMag c.slim v2 else v2
    ((s.wr (R.CLE_CTX_S1 n i) v1).wr (R.CLE_CTX_S2 n i) v2).commitStates n frz cs os (i + 1)
  | _, _, _ => s

/-- The sealed floor of the following-error class of a timer group (R489). -/
def State.feFloor (s : State) (g : Nat) : Nat :=
  if g < 8 then bits (s.rd R.SMA_FE_FLOOR0) (4 * g + 2) (4 * g)
  else if g < 12 then bits (s.rd R.SMA_FE_FLOOR1) (4 * (g - 8) + 2) (4 * (g - 8)) else 0

/-- Queue an output for its destination latch and publish it (R127, R155). -/
def State.cleOutput (s : State) (n : Nat) (c : CleSnap) (v : F32) : State :=
  let o : CleOut :=
    { ctx := Fin.ofNat 128 n
      kind := c.kind
      index := c.index
      value := v
      rel := (s.ctx n).rel }
  let s1 := (s.wr (R.CLE_CTX_OUT n) v).sput (0x180 + n) v
  { s1 with cle.outs := s1.cle.outs ++ [o] }

/-- Report the following error (R158, R489). -/
def State.feRaise (s : State) (n : Nat) (c : CleSnap) (r : F32) : State :=
  let fl := s.feFloor c.sgrp
  let cls := if c.feClass < fl then fl else c.feClass
  let assign := if c.sgrp = 0 then 1 else if c.sgrp = 1 then 2 else 0
  (s.fput (F.CLE_CTX_STAT_FE n) true).raiseAs C.CLE_FOLLOW_ERR.code n cls assign
    { w0 := r, w1 := c.meas, w2 := bytes4 c.feReact 0 0 0 } false

/-- Commit an ordinary run: states, ramp, reference, status and output (R119, R142). -/
def State.commitOk (s : State) (n : Nat) (c : CleSnap) (fe : Nat) (r e u out : F32) (sat : Nat) (frz : Bool)
    (outs : List SecOut) : State :=
  let x := s.ctx n
  let s1 := s.commitStates n frz (c.secs.take 8) outs 0
  let s2 := s1.setCtx n { x with ran := true, ref := x.rel, r := r, fe := fe }
  let s3 := (((s2.wr (R.CLE_CTX_MEAS n) c.meas).wr (R.CLE_CTX_SPR n) r).wr (R.CLE_CTX_ERR n) e).wr (R.CLE_CTX_UNSAT n) u
  let s4 := (((s3.fput (F.CLE_CTX_STAT_SAT_HI n) (sat == 1)).fput (F.CLE_CTX_STAT_SAT_LO n) (sat == 2)).fput
    (F.CLE_CTX_STAT_FROZEN n) frz).fput (F.CLE_CTX_STAT_RAMP_DONE n) (fEq r c.tgt)
  (((s4.wr (R.CLE_CTX_FE_TMR n) (w32 (fe / 400))).cleOutput n c out).count 0x04C (b2n (sat != 0))).count 0x04D (b2n frz)

/-- A run that ends without a commit of state: NUM set and the code raised (R122, R123, R168). -/
def State.runFailed (s : State) (n : Nat) (c : Code) (p : Payload) : State :=
  (s.fput (F.CLE_CTX_STAT_NUM n) true).raise c n p

/-- The end of the run of context `n` with the values it sampled; true where it commits its state (R119, R122, R123, R157, R158). -/
def State.finishRun (s : State) (n : Nat) (c : CleSnap) : State × Bool :=
  let x := s.ctx n
  if s.fbit (F.CLE_CTX_STAT_HELD n) then (s, false)
  else
    let cycles := x.rel - x.ref
    let dt := if x.ran then fMul (fOfNat cycles) fCycle else 0
    match runCompute c (!x.ran) x.r dt c.states with
    | .numeric i q => (s.runFailed n C.CLE_NUMERIC { w0 := bytes4 i q 0 0 }, false)
    | .limits => (s.runFailed n C.CLE_LIMIT_ORDER { w0 := c.hi, w1 := c.lo }, false)
    | .ok r e u out sat frz outs =>
      let above := !c.errMode && fLt c.feLimit (fAbs (fSub r c.meas))
      let fe := if c.errMode then x.fe else if above then x.fe + (if x.ran then cycles else 0) else 0
      let trip := above && decide (c.feTime ≠ 0) && decide (c.feTime * 400 ≤ fe)
      let s1 := if trip && !s.fbit (F.CLE_CTX_STAT_FE n) then s.feRaise n c r else s
      let react := if trip then c.feReact else 0
      if react = 1 || react = 2 then
        let s2 := ((s1.fput (F.CLE_CTX_STAT_HELD n) true).setCtx n { s1.ctx n with fe := fe }).wr (R.CLE_CTX_FE_TMR n) (w32 (fe / 400))
        (if react = 2 then s2.cleOutput n c (fMin (fMax 0 c.lo) c.hi) else s2, false)
      else (s1.commitOk n c fe r e u out sat frz outs, true)

/-! ### The end of a run on its lane -/

/-- Close the lane's 100 µs windows up to the present one (CLE_GLB_LOAD). -/
def State.laneSync (s : State) (l : Nat) : State :=
  let x := s.lane l
  let w := s.cyc / 40000
  if w ≤ x.win then s
  else
    let last := if w = x.win + 1 then x.busy else 0
    let pk := s.fget (F.CLE_GLB_LOAD_PEAK l)
    let pk := if pk < x.busy then x.busy else pk
    ((s.fset (F.CLE_GLB_LOAD_LAST l) last).fset (F.CLE_GLB_LOAD_PEAK l) pk).setLane l { x with win := w, busy := 0 }

/-- Count `n` busy cycles that began at cycle `c0` (CLE_GLB_LOAD). -/
def State.laneBusy (s : State) (l c0 n : Nat) : State :=
  let x := s.lane l
  let edge := (x.win + 1) * 40000
  if c0 + n ≤ edge || edge ≤ c0 then
    let s1 := s.laneSync l
    s1.setLane l { s1.lane l with busy := (s1.lane l).busy + n }
  else
    let s1 := (s.setLane l { x with busy := x.busy + (edge - c0) }).laneSync l
    s1.setLane l { s1.lane l with busy := (s1.lane l).busy + (c0 + n - edge) }

/-- The cycles of a run of `cnt` sections (R151). -/
def runCycles (cnt : Nat) : Nat := 8 + 2 * cnt

/-- A lane fault (R170, R171): counted over 1 s; the third retires the lane. -/
def State.laneFault (s : State) (l n : Nat) : State :=
  let recent := s.time :: ((s.lane l).faults.filter fun t => decide (s.time < t + 800000000))
  let s1 := ((s.setLane l { s.lane l with faults := recent }).raise C.CLE_LANE_FAULT (128 + l)
    { w0 := bytes4 n recent.length 0 0 }).count (0x044 + l) 1
  if recent.length < 3 || !s.laneIn l then s1
  else
    let en := s1.fget F.CLE_GLB_CTRL_LANE_EN - 2 ^ l
    let s2 := s1.fset F.CLE_GLB_CTRL_LANE_EN en
    let left := ([0, 1, 2, 3].filter fun k => s2.laneIn k).length
    s2.raise C.CLE_LANE_RETIRED (128 + l) { w0 := bytes4 left 0 0 0 }

/-- Record a corrected error (R167). -/
def State.eccCorr (s : State) (inst : Nat) (addr : Word) : State :=
  ((s.wr R.CLE_GLB_ECC_CNT (if s.rd R.CLE_GLB_ECC_CNT = 0xFFFFFFFF then 0xFFFFFFFF else s.rd R.CLE_GLB_ECC_CNT + 1)).wr
    R.CLE_GLB_ECC_ADDR addr).raise C.CLE_ECC_CORR inst { w0 := addr } |>.count 0x04B 1

/-- Take note of what the integrity checks found in a run of context `n` on lane `l`; true where the run is abandoned (R167, R168, R170). -/
def State.runErrors (s : State) (l n : Nat) : List CleError → State × Bool
  | [] => (s, false)
  | .corrected a :: t => (s.eccCorr n a).runErrors l n t
  | .uncorrectable a pos :: t =>
    ((((s.wr R.CLE_GLB_ECC_ADDR a).runFailed n C.CLE_ECC_UNCORR { w0 := a, w1 := bytes4 pos.val 0 0 0 }).runErrors l n t).1, true)
  | .residue :: t => ((((s.fput (F.CLE_CTX_STAT_NUM n) true).laneFault l n).runErrors l n t).1, true)

/-- The run of context `n` ends with what the integrity checks found; true where it commits (R167, R168, R170). -/
def State.endRun (s : State) (l n : Nat) (c : CleSnap) (errs : List CleError) : State × Bool :=
  let r := s.runErrors l n errs
  if r.2 then (r.1, false) else r.1.finishRun n c

/-- After a run: BUSY clears, a disabled context makes its pending swap, a waiting suspension takes effect (R136, R161, R164). -/
def State.afterRun (s : State) (n : Nat) : State :=
  let x := s.ctx n
  let s1 := (s.fput (F.CLE_CTX_STAT_BUSY n) false).setCtx n { x with snap := none, suspPend := none }
  let s2 := if s1.ctxOn n then s1 else s1.bankSwap n
  match x.suspPend with
  | some g => s2.ctxSuspend n g
  | none => s2

/-- The run on lane `l` ends (R119, R147, R151): nothing where none runs or its cycles have not passed. Answers the context
that committed its state, if one did. -/
def State.runCommit (s : State) (l : Nat) (errs : List CleError) : State × Option Nat :=
  match (s.lane l).run with
  | none => (s, none)
  | some (n, c0) =>
    match (s.ctx n.val).snap with
    | none => (s, none)
    | some c =>
      let k := runCycles c.secs.length
      if s.cyc < c0 + k then (s, none)
      else
        let s1 := (s.laneBusy l c0 k)
        let s2 := s1.setLane l { s1.lane l with run := none }
        let r := s2.endRun l n.val c errs
        let s3 := (r.1.afterRun n.val).releaseDue
        if r.2 then (s3.cleTrigger (fun src sel => src == 5 && sel == n.val) {}, some n.val) else (s3, none)

end Sys2Proof.Machine
end

