-- ==== Sys2Proof/Machine/Pwm.lean ====
section
/-! DEFINITION. PWM timer groups, what decides a switch, the interlock, and leg latches (spec/07): the operations; the commands that also reach other stages are in Machine/Protect.lean. -/

namespace Sys2Proof.Machine

/-! ### Records -/

/-- Timer group `g` beside its registers. -/
def State.grp (s : State) (g : Nat) : PwmGrp := SMap.get (fun _ => {}) s.pwm.grps g

/-- Store it. -/
def State.setGrp (s : State) (g : Nat) (v : PwmGrp) : State :=
  { s with pwm.grps := SMap.set (fun _ => {}) s.pwm.grps g v }

/-- Channel `ch`. -/
def State.chan (s : State) (ch : Nat) : GateChan := SMap.get (fun _ => {}) s.pwm.chans ch

/-- Store it. -/
def State.setChan (s : State) (ch : Nat) (v : GateChan) : State :=
  { s with pwm.chans := SMap.set (fun _ => {}) s.pwm.chans ch v }

/-- The record of leg `l` of group `g`. -/
def State.leg (s : State) (g l : Nat) : LegRec := SMap.get (fun _ => {}) s.pwm.legs (16 * g + l)

/-- Store it. -/
def State.setLeg (s : State) (g l : Nat) (v : LegRec) : State :=
  { s with pwm.legs := SMap.set (fun _ => {}) s.pwm.legs (16 * g + l) v }

/-! ### Latch bits (GDR_LATCH_GC, GDR_LATCH_LG) -/

/-- The register and bit of a channel's latch. -/
def latchBit (ch : Nat) : Nat × Nat :=
  if ch < 31 then (R.GDR_LATCH_GC, ch)
  else if ch < 63 then (R.GDR_LATCH_LG_LO, ch - 31)
  else (R.GDR_LATCH_LG_HI, ch - 63)

/-- The channel belongs to a latched leg. -/
def State.latched (s : State) (ch : Nat) : Bool := s.rbit (latchBit ch).1 (latchBit ch).2

/-- Leg `l` of group `g` is latched. -/
def State.legLatched (s : State) (g l : Nat) : Bool := s.latched (chanOf g l 0)

/-- Store the latch of a leg in both channel bits and in PWM_GRP_STAT.LATCHED (R328, R333). -/
def State.putLatch (s : State) (g l : Nat) (b : Bool) : State :=
  let h := latchBit (chanOf g l 0)
  let lo := latchBit (chanOf g l 1)
  if g = 2 then s.rput h.1 h.2 b
  else ((s.rput h.1 h.2 b).rput lo.1 lo.2 b).rput (R.PWM_GRP_STAT g) l b

/-- A fault is recorded on the high (`low` = 0) or low side of a leg record. -/
def LegRec.faulty (r : LegRec) (low : Nat) : Bool :=
  if low = 0 then r.hShort || r.hOpen || r.hStuck else r.lShort || r.lOpen || r.lStuck

/-- Write GDR_TS_SIDE of the two traction systems from their latched legs (R331). -/
def State.sideFlags (s : State) (g : Nat) : State :=
  if 1 < g then s
  else
    let f (p : LegRec → Bool) : Nat := b2n ([0, 1, 2].any fun l => s.legLatched g l && p (s.leg g l))
    s.wr (R.GDR_TS_SIDE g) (w32 (f (·.hShort) + 2 * f (·.lShort) + 4 * f (·.hOpen) + 8 * f (·.lOpen) +
      16 * f (·.hStuck) + 32 * f (·.lStuck)))

/-! ### The carrier (R295 to R300) -/

/-- The period of a group in units u (R295). -/
def State.period (s : State) (g : Nat) : Nat :=
  let per := s.fget (F.PWM_GRP_PER_PER g)
  if s.fbit (F.PWM_GRP_CFG_CARR g) then per else 2 * per

/-- Units since the carrier of a group started. -/
def State.unitsRun (s : State) (g : Nat) : Nat := 8 * (s.time - (s.grp g).t0)

/-- The carrier of a group delayed by `ofs` units (PWM_GRP_CNT with 0). -/
def State.carrier (s : State) (g ofs : Nat) : Nat :=
  let t := s.period g
  if t = 0 then 0
  else
    let p := (s.unitsRun g + (t - ofs % t)) % t
    if s.fbit (F.PWM_GRP_CFG_CARR g) then p else if p ≤ t / 2 then p else t - p

/-- Centre events up to now in this run: the first at its start. -/
def State.centresDue (s : State) (g : Nat) : Nat :=
  if s.period g = 0 then 1 else s.unitsRun g / s.period g + 1

/-- Peak events up to now in this run. -/
def State.peaksDue (s : State) (g : Nat) : Nat :=
  if s.period g = 0 then 0 else (s.unitsRun g + s.period g / 2) / s.period g

/-- Update events up to now in this run (R298). -/
def State.updatesDue (s : State) (g : Nat) : Nat :=
  match s.fget (F.PWM_GRP_CFG_UPD g) with
  | 0 => s.centresDue g
  | 1 => s.peaksDue g + 1
  | _ => s.centresDue g + s.peaksDue g

/-- An update event has fallen in this control cycle and its load is still to come: the requests wait for it (R308). -/
def State.updFresh (s : State) (g : Nat) : Bool :=
  let gr := s.grp g
  gr.running && decide (gr.updates < s.updatesDue g) &&
    (decide (s.time < gr.t0 + 2) || decide (({ s with time := s.time - 2 } : State).updatesDue g < s.updatesDue g))

/-- A fraction (units of 2^-64) of `n` rounded to the nearest unit. -/
def roundFrac (d n : Nat) : Nat := (2 * d * n + 2 ^ 64) / 2 ^ 65

/-- A duty held as binary32 in [0, 1] as units of 2^-64. -/
def dutyQ (x : F32) : Nat := if fIsFinite x && !fSign x then fMagScaled x 64 else 0

/-- The delay of a leg in units: PHASE × T, PHASE in [-0.5, 0.5) taken modulo 1 (R303). -/
def phaseUnits (ph : F32) (t : Nat) : Nat :=
  let r := roundFrac (fMagScaled (fAbs ph) 64) t
  if fSign ph then (if t = 0 then 0 else (t - r % t) % t) else r

/-- The off time a bootstrapped high side needs in each period, in units (R338); 0 where none does. -/
def State.refreshUnits (s : State) (g l : Nat) : Nat :=
  let ch := chanOf g l 0
  if chanIsLg ch && decide (g ≠ 2) then
    let b := bridgeOfLeg ((ch - 31) / 2)
    if s.fbit (F.GDR_LGB_CFG_HS_SUP b) then 0
    else 16 * s.fget (F.GDR_LGB_REFRESH_REFRESH b) + 2 * s.fget (F.PWM_GRP_DT_DT g)
  else 0

/-- The active mode of leg `l` (LEGMODE.ACT). -/
def State.legMode (s : State) (g l : Nat) : Nat := bits (s.rd (R.PWM_GRP_LEGMODE g)) (16 + 4 * l + 3) (16 + 4 * l)

/-- The carrier lies in the duty interval of leg `l` (R303). -/
def State.inSpan (s : State) (g l : Nat) : Bool :=
  let per := s.fget (F.PWM_GRP_PER_PER g)
  let d := dutyQ (s.rd (R.PWM_GRP_DUTY_ACT g l))
  let c := s.carrier g (phaseUnits (SMap.get (fun _ => 0) (s.grp g).phase l) (s.period g))
  if s.fbit (F.PWM_GRP_CFG_CARR g) then decide (c < roundFrac d per) else decide (roundFrac (2 ^ 64 - d) per < c)

/-- The carrier lies in the duty interval of leg `l`, or anywhere (`full`), shortened for its high side's bootstrap (R303, R338). -/
def State.inDuty (s : State) (g l : Nat) (full : Bool) : Bool :=
  let t := s.period g
  let per := s.fget (F.PWM_GRP_PER_PER g)
  let c := s.carrier g (phaseUnits (SMap.get (fun _ => 0) (s.grp g).phase l) t)
  let off := s.refreshUnits g l
  (full || s.inSpan g l) && (off == 0 || (if s.fbit (F.PWM_GRP_CFG_CARR g) then decide (c + off < per) else decide (off ≤ 2 * c)))

/-- The carrier lies in the low interval of leg `l` (R303). -/
def State.inLow (s : State) (g l : Nat) : Bool :=
  let t := s.period g
  let per := s.fget (F.PWM_GRP_PER_PER g)
  let d := dutyQ (SMap.get (fun _ => 0) (s.grp g).dutyl l)
  let c := s.carrier g (phaseUnits (SMap.get (fun _ => 0) (s.grp g).phase l) t)
  if s.fbit (F.PWM_GRP_CFG_CARR g) then decide (roundFrac (2 ^ 64 - d) per ≤ c) else decide (c < roundFrac d per)

/-- The leg generator's request for the high (`low` = 0) or low side (R302). -/
def State.legRequest (s : State) (g l low : Nat) : Bool :=
  match s.legMode g l, low with
  | 1, 0 => s.inDuty g l false
  | 1, _ => !s.inDuty g l false
  | 2, 0 => s.inDuty g l false
  | 3, 0 => false
  | 3, _ => s.inSpan g l
  | 4, 0 => s.inDuty g l true
  | 5, 0 => false
  | 5, _ => true
  | 6, 0 => s.inDuty g l false
  | 6, _ => s.inLow g l
  | _, _ => false

/-! ### What decides a switch (R309 to R313) -/

/-- The mode permits the group's generator (R313). -/
def modePermits (m : Mode) (g : Nat) : Bool :=
  match g, m with
  | _, .dormant => false
  | 0, .drive => true
  | 1, .drive => true
  | 2, _ => true
  | 3, .charge => true
  | 4, .charge => true
  | 5, .drive => true
  | 5, .charge => true
  | 5, .service => true
  | 5, .safeHold => true
  | 6, .drive => true
  | 6, .charge => true
  | 6, .service => true
  | 6, .safeHold => true
  | 7, .drive => true
  | 7, .charge => true
  | 7, .service => true
  | 7, .safeHold => true
  | 8, .drive => true
  | 8, .charge => true
  | 8, .service => true
  | 9, .drive => true
  | 9, .charge => true
  | 9, .service => true
  | 10, .drive => true
  | 10, .charge => true
  | 10, .service => true
  | 11, _ => true
  | _, _ => false

/-- The mode permits group `g`'s generator (R313); the LV converter's groups run on through an orderly stop, which a mode without the stage
begins (R372), and in DORMANT until it begins (R104). DEDUCED: log entry 38. -/
def State.permits (s : State) (g : Nat) : Bool :=
  let st := s.fget F.LVC_STAT_STATE
  modePermits s.seq.mode g ||
    (decide (5 ≤ g) && decide (g ≤ 7) && (st == 4 || (s.inMode .dormant && s.seq.entry != .off && decide (1 ≤ st) && decide (st ≤ 3))))

/-- The channel obeys the global disable (PWM_GLB_GD_MASK). -/
def State.gdMasked (s : State) (ch : Nat) : Bool :=
  if ch < 31 then s.rbit R.PWM_GLB_GD_MASK_GC ch else s.rbit R.PWM_GLB_GD_MASK_LG ((ch - 31) / 2)

/-- SMON-B has cut the supply of the channel's driver or inhibits the park lock (R309 order 1, R449, R469). -/
def State.dDieCut (s : State) (g : Nat) : Bool :=
  match g with
  | 5 => s.fbit F.SMB_STAT_CCUT
  | 6 => s.fbit F.SMB_STAT_CCUT
  | 7 => s.fbit F.SMB_STAT_CCUT
  | 8 => s.fbit F.SMB_STAT_ACUT
  | 9 => s.fbit F.SMB_STAT_ACUT || s.fbit F.SMB_STAT_PLCUT
  | 10 => s.fbit F.SMB_STAT_ACUT
  | _ => false

/-- The command of a pattern for a side: 2 is ASC-L, 3 is ASC-H, else off (R309 order 4, R310). -/
def patternOn (code g low : Nat) : Bool :=
  if 1 < g then false else if code = 2 then low != 0 else if code = 3 then low == 0 else false

/-- The brake chopper's command for GC12: the pulses of its test, 2 µs every 100 µs, else its comparator's wish; off while the budget is
used up (R241, R242, R244). -/
def State.bcCommand (s : State) : Bool :=
  !s.fbit F.TMU_STAT_BC_BUDGET && (match s.tmu.bcTest with
    | some t => decide ((s.time - t) % usTicks 100 < usTicks 2) && decide (s.time < t + msTicks 10)
    | none => s.fbit F.TMU_BC_CTRL_EN && s.tmu.bcWant)

/-- ARMING's routine LG diagnostics run (R107, R111). -/
def State.diagRoutine (s : State) : Bool := s.inMode .arming && s.seq.boot == .running && !s.seq.diagOk && !s.seq.diagBad

/-- The off-state diagnostics run: every LG switch is off for them (R346). -/
def State.lgTesting (s : State) : Bool := s.diagRoutine || s.seq.test == some 0

/-- TG9's leg `l` keeps its held state in ARMING and SAFE-HOLD: H_ON or L_ON, where the group ran as the mode gate closed (R313), less the
refresh of a bootstrapped high side (R338). -/
def State.keepsState (s : State) (g l low : Nat) : Bool :=
  g == 9 && (s.inMode .arming || s.inMode .safeHold) && (s.grp g).kept &&
    ((low == 0 && s.legMode 9 l == 4 && s.inDuty 9 l true) || (low == 1 && s.legMode 9 l == 5))

/-- The command of a channel by the order of R309; with MACH = 2 TS-B's channels stay off (R173). -/
def State.command (s : State) (ch : Nat) : Bool :=
  let t := legOf ch
  let g := t.1
  let l := t.2.1
  let low := t.2.2
  let gr := s.grp g
  if s.inMode .dormant && !s.permits g then false
  else if g = 1 ∧ s.fget F.TMU_CFG_MACH = 2 then false
  else if ch < 31 && !s.fbit (F.GDR_GC_CFG_USED ch) then false
  else if chanIsLg ch && ((s.chan ch).dOff || s.dDieCut g || !s.fbit (F.GDR_LGB_CFG_EN (bridgeOfLeg ((ch - 31) / 2))) || s.lgTesting) then false
  else if gr.gd && s.gdMasked ch then false
  else if s.latched ch && (s.leg g l).faulty low then false
  else if gr.pat ≠ 0 then patternOn gr.pat g low
  else if s.latched ch then false
  else if g = 2 then s.bcCommand
  else if !s.permits g then s.keepsState g l low
  else if !gr.running then false
  else s.legRequest g l low

/-! ### Turning channels off, conflicts (R314 to R320) -/

/-- Report a conflict on a leg, at most once per 1 ms (R318 to R320). -/
def State.legConflict (s : State) (g l kept : Nat) : State :=
  let r := s.leg g l
  let n := r.conflicts + 1
  let s1 := (s.rput (R.PWM_GRP_STAT g) (8 + l) true).count (0x0E3 + 8 * g) 1
  if r.lastConflict = 0 || r.lastConflict + 800000 ≤ s.time + 1 then
    (s1.setLeg g l { r with conflicts := n, inConflict := true, lastConflict := s.time + 1 }).raise C.PWM_LEG_CONFLICT (16 * g + l)
      { w0 := bytes4 kept 0 0 0, w1 := w32 n }
  else s1.setLeg g l { r with conflicts := n, inConflict := true }

/-- Bring one channel to its present command: a turn-off acts at once; a request that ends unreleased is swallowed (R316). -/
def State.chanFollow (s : State) (ch : Nat) : State :=
  let x := s.chan ch
  let c := s.command ch
  if c == x.cmd then s
  else if c then s.setChan ch { x with cmd := true, reqAt := s.time }
  else
    let s1 := s.setChan ch { x with cmd := false, on := false, offAt := s.time, conf := x.conf && !x.on }
    if x.on || (legOf ch).1 = 2 then s1 else (s1.finc (F.PWM_GRP_SWALLOW_CNT (legOf ch).1) 1).count (0x0E2 + 8 * (legOf ch).1) 1

/-- Bring leg `l` of group `g` to its commands and note a conflict that begins (R318, R319). -/
def State.legFollow (s : State) (g l : Nat) : State :=
  let s1 := (s.chanFollow (chanOf g l 0)).chanFollow (chanOf g l 1)
  let h := s1.chan (chanOf g l 0)
  let lo := s1.chan (chanOf g l 1)
  let r := s1.leg g l
  if h.cmd && lo.cmd then
    (if r.inConflict then s1 else s1.legConflict g l (if h.on then 1 else if lo.on then 2 else if h.reqAt < lo.reqAt then 1 else if lo.reqAt < h.reqAt then 2 else 0))
  else if r.inConflict then s1.setLeg g l { r with inConflict := false } else s1

/-- Bring the legs below `k` of group `g` to their commands. -/
def State.legsFollow (s : State) (g : Nat) : Nat → State
  | 0 => s
  | l + 1 => (s.legsFollow g l).legFollow g l

/-- Bring every channel of group `g` to its command. -/
def State.grpFollow (s : State) (g : Nat) : State :=
  if g = 2 then s.chanFollow 12 else s.legsFollow g (pwmLegs g)

/-- The group runs, or one of its channels is commanded. -/
def State.grpBusy (s : State) (g : Nat) : Bool :=
  (s.grp g).running || s.pwm.chans.any fun p => decide ((legOf p.1).1 = g) && (p.2.cmd || p.2.on)

/-- Bring every busy group below `k` to its commands, but for one whose load at this instant is still to come (R308). -/
def State.allFollow (s : State) : Nat → State
  | 0 => s
  | g + 1 => let s1 := s.allFollow g; if s1.grpBusy g && !s1.updFresh g then s1.grpFollow g else s1

/-- The opposite channel of a leg. -/
def oppositeOf (ch : Nat) : Nat :=
  let t := legOf ch
  chanOf t.1 t.2.1 (1 - t.2.2)

/-- A high side supplied by its bootstrap, which must be charged before it turns on (R337). -/
def State.needsBoot (s : State) (ch : Nat) : Bool :=
  chanIsLg ch && (legOf ch).2.2 == 0 && !s.fbit (F.GDR_LGB_CFG_HS_SUP (bridgeOfLeg ((ch - 31) / 2)))

/-- The interlock's conditions for turning channel `ch` on (R314, R337): commanded, the opposite command off for DT and confirmed off, a
bootstrap charged; of two commands the earlier request is kept and the other held off (R318, R319); GC12 has no opposite. -/
def State.mayTurnOn (s : State) (ch : Nat) (confirmed boot : Bool) : Bool :=
  let x := s.chan ch
  let o := s.chan (oppositeOf ch)
  let g := (legOf ch).1
  s.command ch && !x.on && (boot || !s.needsBoot ch) &&
    (decide (g = 2) ||
      (!o.on && (!o.cmd || (x.cmd && decide (x.reqAt < o.reqAt))) && decide (s.fget (F.PWM_GRP_DT_DT g) ≤ 8 * (s.time - o.offAt)) &&
        (confirmed || (decide (oppositeOf ch < 31) && !s.fbit (F.GDR_GC_CFG_USED (oppositeOf ch))))))

/-- The extension beyond DT, in control cycles: since both the dead time and the request had come (R315). -/
def State.dtExtension (s : State) (ch : Nat) : Nat :=
  let x := s.chan ch
  let from_ := max (8 * (s.chan (oppositeOf ch)).offAt + s.fget (F.PWM_GRP_DT_DT (legOf ch).1)) (8 * (if x.cmd then x.reqAt else s.time))
  min 65535 ((8 * s.time - from_) / 16)

/-- Release channel `ch` on (R315): its GS goes low, and the opposite switch is confirmed off, its GS high. -/
def State.turnOn (s : State) (ch : Nat) : State :=
  let g := (legOf ch).1
  let o := oppositeOf ch
  let x := s.chan ch
  let ext := s.dtExtension ch
  let s0 := if ch < 31 then s.rput R.GDR_GC_GS ch false else s
  let s1 := s0.setChan ch { x with cmd := true, on := true, onAt := s.time, conf := false }
  if g = 2 then s1
  else
    let s2 := s1.setChan o { s1.chan o with conf := true }
    let s3 := if o < 31 then s2.rput R.GDR_GC_GS o true else s2
    let mx := s3.fget (F.PWM_GRP_DTEXT_MAX g)
    ((s3.fset (F.PWM_GRP_DTEXT_LAST g) ext).fset (F.PWM_GRP_DTEXT_MAX g) (if mx < ext then ext else mx)).count (0x0E1 + 8 * g) (b2n (decide (0 < ext)))

/-- GATE_TURN_ON (R315): the turn-on is released where the interlock's conditions hold. -/
def execGateTurnOn (ch : Fin 69) (confirmed boot : Bool) (s : State) : Host.Outcome State Fault Refusal :=
  .next (if s.mayTurnOn ch.val confirmed boot then s.turnOn ch.val else s)

/-! ### Latching a leg (R328 to R332) -/

/-- The kind of fault recorded on a side. -/
inductive SideKind where
  | short | opened | stuck | none
deriving DecidableEq, Repr

/-- Record a kind on a side of a leg record (R331). -/
def LegRec.mark (r : LegRec) (low : Nat) (k : SideKind) : LegRec :=
  match k, low with
  | .short, 0 => { r with hShort := true }
  | .short, _ => { r with lShort := true }
  | .opened, 0 => { r with hOpen := true }
  | .opened, _ => { r with lOpen := true }
  | .stuck, 0 => { r with hStuck := true }
  | .stuck, _ => { r with lStuck := true }
  | .none, _ => r

/-- Two legs share one of the twelve bridges (R294), or both belong to TG0 and TG1 (R332). -/
def sameBridge (g1 l1 g2 l2 : Nat) : Bool :=
  let c1 := chanOf g1 l1 0
  let c2 := chanOf g2 l2 0
  (decide (g1 ≤ 1) && decide (g2 ≤ 1)) ||
    (chanIsLg c1 && chanIsLg c2 && bridgeOfLeg ((c1 - 31) / 2) == bridgeOfLeg ((c2 - 31) / 2))

/-- The stamps of the other latched legs of the same bridge within GDR_DETWIN. -/
def State.otherLatches (s : State) (g l : Nat) : List Nat :=
  (s.pwm.legs.filter fun p =>
    decide (p.1 ≠ 16 * g + l) && s.legLatched (p.1 / 16) (p.1 % 16) && sameBridge g l (p.1 / 16) (p.1 % 16) &&
    decide (s.time ≤ p.2.stamp + usTicks (s.fget F.GDR_DETWIN_US))).map fun p => p.2.stamp

/-- Latch leg `l` of group `g` for `code`, with a fault of kind `k` recorded on a side, and turn both switches off (R328, R331). -/
def State.latchQuiet (s : State) (g l low : Nat) (k : SideKind) (code : BitVec 16) : State :=
  let r := { (s.leg g l).mark low k with again := s.time + 1 }
  let s1 := (s.setLeg g l (if s.legLatched g l then r else { r with code := code, stamp := s.time })).putLatch g l true
  ((s1.sideFlags g).grpFollow g).count (0x0E4 + 8 * g) (b2n (!s.legLatched g l))

/-- Report a second leg latched within the window (R332); `was`: the leg was latched before. -/
def State.multiLeg (s : State) (g l : Nat) (was : Bool) : State :=
  let others := s.otherLatches g l
  if was || others.isEmpty then s
  else
    let first : Tick := BitVec.ofNat 64 (s.now - (s.time - others.foldl (fun a b => if b < a then b else a) s.time))
    s.raise C.GDR_MULTI_LEG (chanInst (chanOf g l 0)) { w0 := bytes4 (others.length + 1) 0 0 0, w2 := loWord first, w3 := hiWord first }

/-- Raise a code with the class of group `g` (R352). -/
def State.raiseGroup (s : State) (g : Nat) (code : Code) (inst : Nat) (p : Payload) (dDie : Bool) : State :=
  s.raiseAs code.code inst (groupClass g).1 (groupClass g).2 p dDie

/-! ### Shadows (R304 to R307) -/

/-- Note the value a shadow had before this control cycle (R307). -/
def State.noteShadow (s : State) (g a : Nat) : State :=
  let gr := s.grp g
  let late := if gr.lateCyc = s.cyc then gr.late else []
  let late := if late.any fun p => p.1 == a then late else (a, s.rd a) :: late
  s.setGrp g { gr with lateCyc := s.cyc, late := late }

/-- The value of a shadow that the update event of this control cycle loads (R307). -/
def State.shadowVal (s : State) (g a : Nat) : Word :=
  let gr := s.grp g
  if gr.lateCyc = s.cyc then
    match gr.late.find? fun p => p.1 == a with
    | some p => p.2
    | none => s.rd a
  else s.rd a

/-- A phase reduced modulo 1 into [-0.5, 0.5) (R304). -/
def wrapPhase (x : F32) : F32 :=
  if fLe 0xBF000000 x && fLt x fHalf then x else
  let f := fSub x (fOfInt (fFloor x))
  if fLe fHalf f then fSub f fOne else f

/-- Write compare value `c` of group `g`: duty, phase or low duty of a leg (R304, R305). -/
def State.shadowWrite (s : State) (g c : Nat) (v : F32) : State :=
  let l := c % 4
  let isPhase := c / 4 = 1
  if fIsNaN v || (isPhase && fIsInf v) then
    (s.finc (F.PWM_GRP_STAT_BADVAL g) 1).raise C.PWM_VALUE_INVALID (16 * g + l) { w0 := bytes4 c 0 0 0, w1 := v }
  else
    let a := if c / 4 = 0 then R.PWM_GRP_DUTY g l else if isPhase then R.PWM_GRP_PHASE g l else R.PWM_GRP_DUTYL g l
    (s.noteShadow g a).wr a (if isPhase then wrapPhase v else fClamp 0 fOne v)

/-- Write the shadow leg mode of leg `l` (R302). -/
def State.shadowMode (s : State) (g l mode : Nat) : State :=
  let a := R.PWM_GRP_LEGMODE g
  (s.noteShadow g a).wr a (putBits (s.rd a) (4 * l + 3) (4 * l) mode)

/-- Set a leg's shadow mode, duty and phase. -/
def State.setLegShadow (s : State) (g l mode : Nat) (duty phase : F32) : State :=
  ((s.shadowMode g l mode).shadowWrite g l duty).shadowWrite g (4 + l) phase

/-- Load the shadows of the legs below `k` (R306). -/
def State.loadLegs (s : State) (g : Nat) : Nat → State
  | 0 => s
  | l + 1 =>
    let s1 := s.loadLegs g l
    let gr := s1.grp g
    (s1.wr (R.PWM_GRP_DUTY_ACT g l) (s1.shadowVal g (R.PWM_GRP_DUTY g l))).setGrp g
      { gr with
        dutyl := SMap.set (fun _ => 0) gr.dutyl l (s1.shadowVal g (R.PWM_GRP_DUTYL g l))
        phase := SMap.set (fun _ => 0) gr.phase l (s1.shadowVal g (R.PWM_GRP_PHASE g l)) }

/-- Load all shadows of a group, unless HOLD is set or the mode gate of TG9 keeps them (R306, R313). -/
def State.loadShadows (s : State) (g : Nat) : State :=
  if s.fbit (F.PWM_GRP_CTRL_HOLD g) || (g == 9 && !modePermits s.seq.mode 9) then s
  else
    let s1 := s.loadLegs g 4
    let sh := s1.shadowVal g (R.PWM_GRP_LEGMODE g)
    let a := R.PWM_GRP_LEGMODE g
    s1.wr a (putBits (s1.rd a) 31 16 (bits sh 15 0))

/-- Set BOOTLIM of the legs below `k` whose high side is on longer than its bootstrap allows (R338). -/
def State.bootLimits (s : State) (g : Nat) : Nat → State
  | 0 => s
  | l + 1 =>
    let s1 := s.bootLimits g l
    let t := s1.period g
    let off := s1.refreshUnits g l
    let m := s1.legMode g l
    let on := if m = 4 then t else if m = 1 || m = 2 || m = 6 then roundFrac (dutyQ (s1.rd (R.PWM_GRP_DUTY_ACT g l))) t else 0
    if off ≠ 0 && decide (t < on + off) then (s1.rput (R.PWM_GRP_STAT g) (12 + l) true).count (0x0E7 + 8 * g) 1 else s1

/-! ### Safe patterns (R309 to R312) -/

/-- The pattern requested for a group and its source: SMON-A's code, else for TG0 and TG1 the TMU's (R310). -/
def State.patternAsked (s : State) (g : Nat) : Nat × Nat :=
  let a := bits (s.rd R.PWM_GLB_SAFE) (2 * g + 1) (2 * g)
  if a ≠ 0 then (a, 2)
  else if g = 0 ∧ s.pwm.ovrA ≠ 0 then (s.pwm.ovrA, 1)
  else if g = 1 ∧ s.pwm.ovrB ≠ 0 then (s.pwm.ovrB, 1)
  else (0, 0)

/-- Some channel of the group obeys the global disable. -/
def State.gdConcerns (s : State) (g : Nat) : Bool :=
  if g = 2 then s.gdMasked 12 else (List.range (pwmLegs g)).any fun l => s.gdMasked (chanOf g l 0) || s.gdMasked (chanOf g l 1)

/-- Show what overrides a group in PWM_GRP_STAT. -/
def State.showOverride (s : State) (g : Nat) : State :=
  let gr := s.grp g
  (s.fset (F.PWM_GRP_STAT_OVR_CODE g) gr.pat).fset (F.PWM_GRP_STAT_OVR_SRC g) (if gr.gd && s.gdConcerns g then 3 else gr.patSrc)

/-- Suspend the contexts below `k` that name group `g` (R164). -/
def State.suspendGroup (s : State) (g : Nat) : Nat → State
  | 0 => s
  | n + 1 =>
    let s1 := s.suspendGroup g n
    if s1.ctxOn n && decide (s1.fget (F.CLE_CTX_CTRL_SGRP n) = g) then s1.ctxSuspend n g else s1

/-- Put the requested pattern and global disable in force on group `g` where they are new (R311), suspending its contexts (R164). -/
def State.applyPattern (s : State) (g : Nat) : State :=
  let gr := s.grp g
  let ask := s.patternAsked g
  let gd := s.fbit F.PWM_GLB_STAT_GD
  let newPat := ask.1 ≠ 0 ∧ (ask.1 ≠ gr.pat ∨ ask.2 ≠ gr.patSrc)
  let newGd := gd = true ∧ gr.gd = false
  if newPat ∨ newGd then
    let s1 := (s.setGrp g { gr with pat := if ask.1 ≠ 0 then ask.1 else gr.pat, patSrc := if ask.1 ≠ 0 then ask.2 else gr.patSrc, gd := gr.gd || gd }).showOverride g
    (if s1.overridden g then s1.suspendGroup g 128 else s1).grpFollow g
  else s

/-- Remove a pattern or disable that is no longer requested from group `g`, before its switches follow (R312). -/
def State.removePattern (s : State) (g : Nat) : State :=
  let gr := s.grp g
  let ask := s.patternAsked g
  let pat := if ask.1 = 0 then 0 else gr.pat
  let src := if ask.1 = 0 then 0 else gr.patSrc
  if pat = gr.pat ∧ (gr.gd = false ∨ s.fbit F.PWM_GLB_STAT_GD = true) then s
  else (s.setGrp g { gr with pat := pat, patSrc := src, gd := gr.gd && s.fbit F.PWM_GLB_STAT_GD }).showOverride g

/-- The removal of a pattern or the disable of group `g`, in force as in `old`, is requested now (R312). -/
def State.removalAsked (s old : State) (g : Nat) : Bool :=
  (decide ((old.patternAsked g).1 ≠ 0) && decide ((s.patternAsked g).1 = 0)) || (old.fbit F.PWM_GLB_STAT_GD && !s.fbit F.PWM_GLB_STAT_GD)

/-- Remove at once what was requested in `old` and no longer is from the groups below `k` with RUN = 0 (R312). -/
def State.removeStopped (s old : State) : Nat → State
  | 0 => s
  | g + 1 =>
    let s1 := s.removeStopped old g
    if s1.removalAsked old g && !s1.fbit (F.PWM_GRP_CTRL_RUN g) then (s1.removePattern g).grpFollow g else s1

/-- SAFE_PATTERN_APPLY (R311). -/
def execSafePatternApply (g : Fin 12) (s : State) : Host.Outcome State Fault Refusal := .next (s.applyPattern g.val)

/-- Show the mode gate in the groups below `k` (R313). -/
def State.showGates (s : State) : Nat → State
  | 0 => s
  | g + 1 => (s.showGates g).fput (F.PWM_GRP_STAT_GATED g) (!s.permits g)

/-- Before a change to mode `m`: where it closes TG9's gate, the group's held legs keep the state they have (R313). -/
def State.keepHeld (s : State) (m : Mode) : State :=
  if modePermits s.seq.mode 9 && !modePermits m 9 then s.setGrp 9 { s.grp 9 with kept := (s.grp 9).running } else s

/-! ### Starting and stopping a group (R296, R299 to R301) -/

/-- Report an invalid or refused PWM write (offset and reason: 0 range, 1 locked, 2 sync). -/
def State.pwmInvalid (s : State) (inst off reason : Nat) : State :=
  s.raise C.PWM_CFG_INVALID inst { w0 := bytes4 off (off / 256) reason 0 }

/-- Set RUN of group `g`, where it is not set yet, if its period and its master allow it (R296, R300). -/
def State.runSet (s : State) (g : Nat) : State :=
  let t := s.period g
  let mode := s.fget (F.PWM_GRP_CFG_START_MODE g)
  let m := s.fget (F.PWM_GRP_CFG_SYNC_G g)
  if s.fbit (F.PWM_GRP_CTRL_RUN g) then s
  else if t < 12800 || 3200000 < t then s.pwmInvalid (16 * g) (0x10C + 128 * g) 0
  else if mode = 2 && (s.fget (F.PWM_GRP_PER_PER g) != s.fget (F.PWM_GRP_PER_PER m) ||
      s.fbit (F.PWM_GRP_CFG_CARR g) != s.fbit (F.PWM_GRP_CFG_CARR m)) then s.pwmInvalid (16 * g) (0x10C + 128 * g) 2
  else (s.fput (F.PWM_GRP_CTRL_RUN g) true).setGrp g { s.grp g with starting := some s.time, resync := none }

/-- Clear RUN: every channel of the group turns off and the carrier stops (R301). -/
def State.runClear (s : State) (g : Nat) : State :=
  let s1 := (s.fput (F.PWM_GRP_CTRL_RUN g) false).setGrp g { s.grp g with running := false, starting := none, resync := none }
  s1.grpFollow g

/-- The carrier of a group that waits for its start may start now (R299). -/
def State.startDue (s : State) (g : Nat) : Bool :=
  let gr := s.grp g
  match gr.starting with
  | none => (match gr.resync with
    | some t => decide (t ≤ s.time) && gr.running
    | none => false)
  | some t =>
    match s.fget (F.PWM_GRP_CFG_START_MODE g) with
    | 0 => decide (t < s.time)
    | 1 => decide (gr.startVal.toNat ≤ s.now)
    | _ => (match gr.resync with
      | some t => decide (t ≤ s.time)
      | none => false)

/-- The groups below `k` that START_MODE 2 ties to group `g` restart SYNC_PH × T after this centre event (R299, R300). -/
def State.syncGroups (s : State) (g : Nat) : Nat → State
  | 0 => s
  | k + 1 =>
    let s1 := s.syncGroups g k
    let gr := s1.grp k
    if s1.fget (F.PWM_GRP_CFG_START_MODE k) = 2 && s1.fget (F.PWM_GRP_CFG_SYNC_G k) = g && (gr.running || gr.starting.isSome) then
      let d := roundFrac (dutyQ (s1.rd (R.PWM_GRP_SYNC_PH k))) (s1.period k)
      s1.setGrp k { gr with resync := some (s1.time + (d + 7) / 8) }
    else s1

end Sys2Proof.Machine
end

