-- ==== Sys2Proof/Machine/Adc.lean ====
section
/-! DEFINITION. The ADC subsystem and the sigma-delta inputs (R175 to R192): triggers, hold edges, completion, the spare core. -/

namespace Sys2Proof.Machine

/-- Converters in service (ADC_STAT.ACTIVE). -/
def State.adcActive (s : State) : Nat := s.fget F.ADC_STAT_ACTIVE

/-- Sequence `q` needs two rounds (R184). -/
def State.twoRounds (s : State) (q : Nat) : Bool := decide (s.adcActive < s.nslot q)

/-- Converters that sequence `q` needs for its hold edge. -/
def State.slotsNeeded (s : State) (q : Nat) : Nat := if s.twoRounds q then s.adcActive else s.nslot q

/-- The conversion time of sequence `q` in ticks: 67 control cycles, twice where it needs two rounds (R176, R184). -/
def State.convTicks (s : State) (q : Nat) : Nat := if s.twoRounds q then 268 else 134

/-- Converters busy with the sequences below `k`; a second round occupies only what it needs (R184). -/
def State.adcBusy (s : State) : Nat → Nat
  | 0 => 0
  | q + 1 => s.adcBusy q + (match (s.aseq q).hold with
    | some t => if s.past t (s.convTicks q) then 0 else if s.past t 134 then s.nslot q - s.adcActive else s.slotsNeeded q
    | none => 0)

/-- Enough converters are free for sequence `q`, triggered at time `t`, and no lower sequence triggered in the same control cycle still waits
(R177). -/
def State.adcFree (s : State) (q t : Nat) : Bool :=
  decide (s.adcBusy 32 + s.slotsNeeded q ≤ s.adcActive) && (List.range q).all fun p => match (s.aseq p).waiting with
    | some u => u / 2 != t / 2
    | none => true

/-- Sequence `q` is jittered (R684). -/
def State.jitters (s : State) (q : Nat) : Bool := s.fbit F.RTL_JIT_EN && s.rbit R.RTL_JIT_SEQ q

/-- Ticks by which its hold edge is delayed: 0 to AMP control cycles (R684). -/
def State.jitter (s : State) (q : Nat) : Nat := if s.jitters q then 2 * (s.rtl.lfsr.toNat % (s.fget F.RTL_JIT_AMP + 1)) else 0

/-- The hold edge of sequence `q` (R175). -/
def State.adcHold (s : State) (q : Nat) : State :=
  let d := s.jitter q
  let s1 := (s.setAseq q { s.aseq q with waiting := none, hold := some (s.time + d) }).wr64 (R.ADC_SEQ_STAMP_LO q) (R.ADC_SEQ_STAMP_HI q)
    (s.clave + BitVec.ofNat 64 d)
  if s.jitters q then { s1 with rtl := { s1.rtl with lfsr := Config.lfsrNext s1.rtl.lfsr } } else s1

/-- A trigger of sequence `q`: its hold edge, a delay, or ignored while it is unfinished (R177, R178). -/
def State.adcTrigger (s : State) (q : Nat) : State :=
  if !s.fbit F.ADC_CTRL_EN || !s.fbit (F.ADC_SEQ_CTRL_EN q) || s.nslot q = 0 then s
  else
    let x := s.aseq q
    if x.waiting.isSome || x.hold.isSome then (s.wr (R.ADC_SEQ_LATE q) (w32 (satAdd (s.rd (R.ADC_SEQ_LATE q)).toNat 1 (2 ^ 32 - 1)))).count 0x0A8 1
    else if s.adcFree q s.time then s.adcHold q
    else s.setAseq q { x with waiting := some s.time }

/-- Trigger the sequences below `k` whose source matches, in order of number (R177). -/
def State.adcTriggerAll (s : State) (hit : Nat → Nat → Bool) : Nat → State
  | 0 => s
  | q + 1 =>
    let s1 := s.adcTriggerAll hit q
    if hit (s1.fget (F.ADC_SEQ_CTRL_SRC q)) (s1.fget (F.ADC_SEQ_CTRL_SEL q)) then s1.adcTrigger q else s1

/-- PWM event `e` of group `g` at the ADC (R143, R298). -/
def State.adcPwm (s : State) (g e : Nat) : State :=
  s.adcTriggerAll (fun src sel => src == 1 && evHit g e sel) 32

/-- A firing of rate generator `m` at the ADC. -/
def State.adcRate (s : State) (m : Nat) : State := s.adcTriggerAll (fun src sel => src == 2 && sel == m) 32

/-- The waiting sequence below `k` that may hold now and waits first: earliest trigger, then lowest number (R177). -/
def State.firstWaiting (s : State) : Nat → Option (Nat × Nat)
  | 0 => none
  | q + 1 =>
    let best := s.firstWaiting q
    match (s.aseq q).waiting with
    | none => best
    | some t =>
      if !s.adcFree q t then best
      else match best with
      | none => some (q, t)
      | some (b, tb) => if t < tb then some (q, t) else some (b, tb)

/-- Count and report a delayed hold edge (R177). -/
def State.adcLate (s : State) (q since : Nat) : State :=
  let n := satAdd (s.rd (R.ADC_SEQ_LATE q)).toNat 1 (2 ^ 32 - 1)
  let s1 := (s.wr (R.ADC_SEQ_LATE q) (w32 n)).count 0x0A8 1
  let x := s1.aseq q
  if x.lastLate = 0 || x.lastLate + 800000 ≤ s.time + 1 then
    (s1.setAseq q { x with lastLate := s.time + 1 }).raise C.ADC_SEQ_LATE q { w0 := halves n 0, w1 := w32 ((s.time - since) / 2) }
  else s1

/-- A delayed hold edge, once enough converters are free (R177). -/
def State.adcHoldNext (s : State) : State :=
  match s.firstWaiting 32 with
  | none => s
  | some (q, t) => (s.adcHold q).adcLate q t

/-- ADC_SEQ_HOLD (R175). -/
def execAdcSeqHold (s : State) : Host.Outcome State Fault Refusal := .next s.adcHoldNext

/-- ADC_SEQ_CONTINUOUS (R177): the interval of a continuous sequence has passed since its last trigger. -/
def State.adcContinuous (s : State) (q : Nat) : State :=
  let x := s.aseq q
  if s.fget (F.ADC_SEQ_CTRL_SRC q) = 3 && s.past x.lastTrig (2 * (s.rd (R.ADC_SEQ_INTV q)).toNat) then
    (s.setAseq q { x with lastTrig := s.time }).adcTrigger q
  else s

/-- ADC_SEQ_CONTINUOUS (R177). -/
def execAdcSeqContinuous (q : Fin 32) (s : State) : Host.Outcome State Fault Refusal := .next (s.adcContinuous q.val)

/-- Write the result of one slot: raw code and scaled signal (R179). -/
def State.adcResult (s : State) (ain : Nat) (code : BitVec 16) : State :=
  (s.wr (R.ADC_AIN_RAW ain) (code.setWidth 32)).sput ain
    (fAdd (fMul (s.rd (R.ADC_AIN_SCALE ain)) (fOfNat code.toNat)) (s.rd (R.ADC_AIN_OFS ain)))

/-- Write the results of a sequence in slot order. -/
def State.adcResults (s : State) : List Nat → List (BitVec 16) → State
  | a :: as, c :: cs => (s.adcResult a c).adcResults as cs
  | _, _ => s

/-- The conversion of sequence `q` is complete (R176). -/
def State.convDone (s : State) (q : Nat) : Bool :=
  match (s.aseq q).hold with
  | some t => s.past t (s.convTicks q)
  | none => false

/-! ### The spare core (R181 to R186) -/

/-- Retired cores. -/
def State.retiredCount (s : State) : Nat := ((List.range 16).filter fun k => (s.fget F.ADC_STAT_RETIRED).testBit k).length

/-- The next core after `k` in rotation order that is not retired, within `n` steps. -/
def State.nextCore (s : State) (k : Nat) : Nat → Nat
  | 0 => k
  | n + 1 =>
    let j := (k + 1) % 16
    if (s.fget F.ADC_STAT_RETIRED).testBit j then s.nextCore j n else j

/-- Hand the position of core `j` to the spare; `j` becomes the new spare, uncalibrated (R181). -/
def State.handTo (s : State) (j : Nat) : State :=
  let s1 := s.fset F.ADC_STAT_SPARE j
  ({ s1 with adc := { s1.adc with spareCal := false, lastHand := s.time, calNow := false } }).count 0x0A9 1

/-- Retire core `k` (R182 to R184). -/
def State.retireCore (s : State) (k : Nat) (dev : Nat) : State :=
  let s1 := s.rput R.ADC_STAT (16 + k) true
  let s2 := s1.raise C.ADC_CAL_FAIL k { w0 := bytes4 k 50 0 0, w1 := halves dev 0 }
  let n := s2.retiredCount
  let s3 := (s2.fput F.ADC_STAT_NO_SPARE true).fset F.ADC_STAT_ACTIVE (if n ≤ 1 then 15 else 16 - n)
  let s4 := { s3 with adc := { s3.adc with hasSpare := false, spareCal := false } }
  if 2 ≤ n then s4.raise C.ADC_CORE_SHORT k { w0 := bytes4 (16 - n) 0 0 0 } else s4

/-- The hand-over of the rotation (R181, R186): every 4 ms (less the 1 µs tolerance), or at once on request. -/
def State.handover (s : State) : State :=
  if s.adc.hasSpare && s.adc.spareCal && ((s.fbit F.ADC_CTRL_ROT_EN && s.past s.adc.lastHand 3199200) || s.adc.calNow) then
    s.handTo (s.nextCore (s.fget F.ADC_STAT_SPARE) 16)
  else s

/-- ADC_HANDOVER (R181). -/
def execAdcHandover (s : State) : Host.Outcome State Fault Refusal := .next s.handover

/-- With no spare left to calibrate, the calibration step of ARMING is done (R185). DEDUCED: log entry 43. -/
def State.armCalEnd (s : State) : State := if s.inMode .arming && !s.adc.hasSpare then s.rput R.SYS_ARM_STAT 4 true else s

/-- A core's 50 % reference check (R183). -/
def State.refCheck (s : State) (k dev : Nat) : State :=
  if dev ≤ 16 || (s.fget F.ADC_STAT_RETIRED).testBit k || (s.adc.hasSpare && decide (s.fget F.ADC_STAT_SPARE = k)) then s
  else if s.adc.hasSpare then ((if s.adc.spareCal then s.handTo k else s).retireCore k dev).armCalEnd
  else s.retireCore k dev

/-- ADC_REF_CHECK (R183). -/
def execAdcRefCheck (core : Fin 16) (dev : BitVec 16) (s : State) : Host.Outcome State Fault Refusal :=
  .next (s.refCheck core.val dev.toNat)

end Sys2Proof.Machine
end

