-- ==== Sys2Proof/Machine/Select.lean ====
section
/-! DEFINITION. The selection of the safe state: the records of the two safety channels and the codes they choose (R453 to R462, R719). Codes: 0 none, 1 OFF, 2 ASC-L, 3 ASC-H. -/

namespace Sys2Proof.Machine

/-- A safety channel. -/
def State.smon (s : State) (c : Chan) : Smon :=
  match c with
  | .smonA => s.safe.a
  | .smonB => s.safe.b

/-- Store a safety channel. -/
def State.setSmon (s : State) (c : Chan) (v : Smon) : State :=
  match c with
  | .smonA => { s with safe.a := v }
  | .smonB => { s with safe.b := v }

/-- The number of a channel: 0 SMON-A, 1 SMON-B. -/
def chanNum : Chan → Nat
  | .smonA => 0
  | .smonB => 1

/-- 60 / 2π as binary32: rad/s to rpm. -/
def fRadToRpm : F32 := 0x4118C9EB

/-- 0.9 as binary32. -/
def f09 : F32 := 0x3F666666

/-- The side flags of GDR_TS_SIDE of one system as a channel reads them: (high barred, low barred) (R460). -/
def sideBars (w : Word) : Bool × Bool :=
  (w.getLsbD 0 || w.getLsbD 2 || w.getLsbD 5, w.getLsbD 1 || w.getLsbD 3 || w.getLsbD 4)

/-- The union of the bars of two systems. -/
def barsOf (w0 w1 : Word) : Bool × Bool :=
  ((sideBars w0).1 || (sideBars w1).1, (sideBars w0).2 || (sideBars w1).2)

/-- The next speed decision (R460): unchanged without a valid speed. -/
def nextAsc (speedOk req asc : Bool) (rpm xover : F32) : Bool :=
  if !speedOk then asc
  else
    let w := fAbs rpm
    if req && asc then fLt (fMul f09 xover) w else fLt xover w

/-- The code of the selection table (R460). -/
def selectCode (req : Bool) (p : Option Params) (asc barH barL : Bool) : Nat :=
  if !req then 0
  else
    match p with
    | none => 1
    | some q =>
      let want := if q.policy = 1 then false else if q.policy = 2 then true else asc
      if want && !barL then 2 else if want && !barH then 3 else 1

/-- The crossover speed of a parameter set, rpm. -/
def xoverOf (p : Option Params) : F32 :=
  match p with
  | none => 0
  | some q => fOfNat q.xover.toNat

/-- SMON-A's speed is valid: PFB_STAT.VALID, and the speed updated within the last 50 µs (R453); the encoder's speed is
formed in every control cycle. -/
def State.speedOkA (s : State) : Bool :=
  s.fbit F.PFB_STAT_VALID && (decide (s.fget F.PFB_CFG_SRC = 1) || decide (s.time ≤ s.pfb.lastRes + usTicks 50))

/-- SMON-A's speed, rpm (R452). -/
def State.rpmA (s : State) : F32 := fMul (s.sget 0x103) fRadToRpm

/-- The system code SMON-A's table gives now for system `k`, from its own asc (R460, R719); OFF after faults on both sides (R246). -/
def State.selCode (s : State) (k : Nat) : Nat :=
  let a := s.safe.a
  let asc := nextAsc s.speedOkA true (if k = 0 then s.safe.ascA else s.safe.ascB) s.rpmA (xoverOf a.params)
  let b := sideBars (s.rd (R.GDR_TS_SIDE k))
  if s.tmu.bothSides then 1 else selectCode true a.params asc b.1 b.2

/-- A channel requests a safe state (R459). -/
def State.requesting (s : State) (c : Chan) : Bool :=
  let m := s.smon c
  !s.inMode .drive || !(m.oo == .done) || m.cause || m.params.isNone

end Sys2Proof.Machine
end

