-- ==== Sys2Proof/Machine/Tmu.lean ====
section
/-! DEFINITION. The traction motor unit (R172 to R249): sample, transforms, torque, references, modulation, start and stop of the traction systems. Each operation is one binary32 operation in the order written; sin, cos are Config's. -/

namespace Sys2Proof.Machine

/-! ### Records and arrangement -/

/-- The TMU's part of a traction system, 0 TS-A or 1 TS-B. -/
def State.tsys (s : State) (k : Nat) : TmuSys := if k = 0 then s.tmu.sysA else s.tmu.sysB

/-- Store it. -/
def State.setTsys (s : State) (k : Nat) (v : TmuSys) : State :=
  if k = 0 then { s with tmu.sysA := v } else { s with tmu.sysB := v }

/-- The machine arrangement (R172). -/
def State.mach (s : State) : Nat := s.fget F.TMU_CFG_MACH

/-- The state of a system in TMU_STAT: 0 stopped, 1 running, 2 to 4 held, 5 starting. -/
def State.sysState (s : State) (k : Nat) : Nat := if k = 0 then s.fget F.TMU_STAT_STATE_A else s.fget F.TMU_STAT_STATE_B

/-- Store it. -/
def State.setSysState (s : State) (k v : Nat) : State :=
  if k = 0 then s.fset F.TMU_STAT_STATE_A v else s.fset F.TMU_STAT_STATE_B v

/-- TMU_STAT.PLANE: 0 both, 1 TS-A only, 2 TS-B only. -/
def State.plane (s : State) : Nat := s.fget F.TMU_STAT_PLANE

/-- The plane the present sub-state asks for (R238, R240). -/
def State.planeAsked (s : State) : Nat :=
  match s.seq.sub with
  | .halfA => 1
  | .halfB => 2
  | _ => 0

/-- The systems of a plane (R172, R173). -/
def planeSystems (mach plane : Nat) : List Nat :=
  if mach = 2 then [0] else match plane with
    | 1 => [0]
    | 2 => [1]
    | _ => [0, 1]

/-- The plane transform of R201 is in use: MACH = 0 with both systems. -/
def State.isVsd (s : State) (plane : Nat) : Bool := s.mach == 0 && plane == 0

/-- Signal index `o` of system `k` (R223). -/
def sysSig (k o : Nat) : Nat := 0x090 + 0x10 * k + o

/-! ### Small vectors -/

/-- A sum to which the products of two lists are added in order. -/
def fDotFrom (z : F32) : List F32 → List F32 → F32
  | a :: as, b :: bs => fDotFrom (fAdd z (fMul a b)) as bs
  | _, _ => z

/-- The sum of products of two lists, from the first on. -/
def fDot : List F32 → List F32 → F32
  | a :: as, b :: bs => fDotFrom (fMul a b) as bs
  | _, _ => 0

/-- cos φ_k of R201, TS-A U, V, W then TS-B. -/
def cosPhi : List F32 := [fOne, fNeg fHalf, fNeg fHalf, fSqrt3Half, fNeg fSqrt3Half, 0]
/-- sin φ_k. -/
def sinPhi : List F32 := [0, fSqrt3Half, fNeg fSqrt3Half, fHalf, fHalf, fNeg fOne]
/-- cos 5φ_k. -/
def cos5Phi : List F32 := [fOne, fNeg fHalf, fNeg fHalf, fNeg fSqrt3Half, fSqrt3Half, 0]
/-- sin 5φ_k. -/
def sin5Phi : List F32 := [0, fNeg fSqrt3Half, fSqrt3Half, fHalf, fHalf, fNeg fOne]

/-- The Park transform of αβ by an angle (R200). -/
def park (a b th : F32) : F32 × F32 :=
  (fAdd (fMul a (Config.cos th)) (fMul b (Config.sin th)), fAdd (fMul (fNeg a) (Config.sin th)) (fMul b (Config.cos th)))

/-- The Clarke and Park transform of one system from its U and V quantities (R200). -/
def clarkePark (u v th : F32) : F32 × F32 := park u (fMul (fAdd u (fMul fTwo v)) fInvSqrt3) th

/-- The plane quantities d, q, x′, y′ of six phase quantities (R201). -/
def vsd (ph : List F32) (th : F32) : F32 × F32 × F32 × F32 :=
  let a := fMul fThird (fDot ph cosPhi)
  let b := fMul fThird (fDot ph sinPhi)
  let x := fMul fThird (fDot ph cos5Phi)
  let y := fMul fThird (fDot ph sin5Phi)
  let dq := park a b th
  (dq.1, dq.2, fSub (fMul x (Config.cos th)) (fMul y (Config.sin th)), fAdd (fMul x (Config.sin th)) (fMul y (Config.cos th)))

/-- The angle a system uses (R202). -/
def State.sysAngle (s : State) (k : Nat) (th : F32) : F32 := if k = 0 then th else fSub th (s.rd R.TMU_B_OFFSET)

/-! ### The sample: currents and protections (R193 to R199, R206, R243, R247) -/

/-- The sampled electrical angle, speed and DC-link voltage. -/
def State.theta (s : State) : F32 := s.sget (s.fget F.TMU_POS_SEL_ANG_SIG)
/-- The electrical speed. -/
def State.omega (s : State) : F32 := s.sget (s.fget F.TMU_POS_SEL_SPD_SIG)

/-- A raw code is out of a sensor's range (R195); a sigma-delta input has no code. -/
def State.rawBad (s : State) (sig : Nat) : Bool :=
  if sig < 96 then
    let c := (s.rd (R.ADC_AIN_RAW sig)).toNat
    decide (c ≤ 64) || decide (65471 ≤ c)
  else false

/-- Raise a TMU code assigned to system `k`. -/
def State.raiseSys (s : State) (c : Code) (k : Nat) (p : Payload) : State := s.raiseAs c.code k c.cls (k + 1) p false

/-- The range check of one current input (R195): raised at the fourth consecutive sample. -/
def State.rangeCheck (s : State) (k ph sig : Nat) : State :=
  let x := s.tsys k
  let n := if ph = 0 then x.rangeU else x.rangeV
  let n' := if s.rawBad sig then satAdd n 1 4 else 0
  let s1 := s.setTsys k (if ph = 0 then { x with rangeU := n' } else { x with rangeV := n' })
  if n' = 4 && n ≠ 4 then s1.raiseSys C.TMU_SENSOR_FAULT k { w0 := bytes4 ph 0 0 0, w1 := if sig < 96 then s.rd (R.ADC_AIN_RAW sig) else 0 } else s1

/-- The overcurrent check (R196), raised once while it lasts. -/
def State.ocCheck (s : State) (k : Nat) (iu iv iw : F32) : State :=
  let lim := s.rd (R.TMU_SYS_OC k)
  let x := s.tsys k
  let hit := if fLt lim (fAbs iu) then some (0, iu) else if fLt lim (fAbs iv) then some (1, iv)
    else if fLt lim (fAbs iw) then some (2, iw) else none
  match hit with
  | none => s.setTsys k { x with overCur := false }
  | some (ph, i) =>
    let s1 := s.setTsys k { x with overCur := true }
    if x.overCur then s1 else s1.raiseSys C.TMU_OVERCURRENT k { w0 := bytes4 ph 0 0 0, w1 := i }

/-- One unit u in seconds as binary32 (156.25 ps). -/
def fUnit : F32 := 0x2F2BCC77

/-- The distance Δ from the sample to the nearest edge of a system's duties, less the dead time (R199). -/
def State.narrowDist (s : State) (k : Nat) : F32 :=
  let d (l : Nat) : F32 := let x := s.rd (R.PWM_GRP_DUTY_ACT k l); fMin x (fSub fOne x)
  let m := fMin (d 0) (fMin (d 1) (d 2))
  let t := fMul (fOfNat (s.period k)) fUnit
  fSub (fMul (fMul m t) fHalf) (fMul (fOfNat (s.fget (F.PWM_GRP_DT_DT k))) fUnit)

/-- The narrow-window count (R199). -/
def State.narrowCheck (s : State) (k : Nat) : State :=
  if s.sysState k = 1 && fLt (s.narrowDist k) (s.rd R.TMU_NARROW_DIST) then
    ((s.wr (R.TMU_SYS_NARROW_CNT k) (w32 (satAdd (s.rd (R.TMU_SYS_NARROW_CNT k)).toNat 1 (2 ^ 32 - 1)))).fput F.TMU_STAT_NARROW true).count (0x082 + k) 1
  else s

/-- Every switch of a traction system is off. -/
def State.sysOff (s : State) (k : Nat) : Bool :=
  [0, 1, 2].all fun l => !(s.chan (chanOf k l 0)).on && !(s.chan (chanOf k l 1)).on

/-- The offset measurement of a system may take a sample (R197); none in SAFE-HOLD (R248). -/
def State.calMay (s : State) (k : Nat) : Bool :=
  !s.inMode .safeHold && s.sysOff k && fLt (fMul (fMul fSqrt3 (fAbs s.omega)) (s.rd R.TMU_PSI)) (fMul fHalf (s.sget (s.fget F.TMU_VDC_SEL_SIG)))

/-- One sample of the offset measurement (R197): 1,024 consecutive samples are summed. -/
def State.calSample (s : State) (k : Nat) (u v : F32) : State :=
  let x := s.tsys k
  match x.cal with
  | none => s
  | some n =>
    if 1024 ≤ n then s
    else if s.calMay k then s.setTsys k { x with cal := some (n + 1), sumU := fAdd x.sumU u, sumV := fAdd x.sumV v }
    else s.setTsys k { x with cal := some 0, sumU := 0, sumV := 0 }

/-- Read the phase currents of system `k` and make its checks (R193 to R199). -/
def State.readCurrents (s : State) (k : Nat) : State :=
  let us := s.fget (F.TMU_SYS_ISEL_IU_SIG k)
  let vs := s.fget (F.TMU_SYS_ISEL_IV_SIG k)
  let u := s.sget us
  let v := s.sget vs
  let iu := fSub u (s.rd (R.TMU_SYS_IOFS_U k))
  let iv := fSub v (s.rd (R.TMU_SYS_IOFS_V k))
  let iw := fSub (fNeg iu) iv
  let s1 := ((s.sput (sysSig k 0) iu).sput (sysSig k 1) iv).sput (sysSig k 2) iw
  ((((s1.calSample k u v).rangeCheck k 0 us).rangeCheck k 1 vs).ocCheck k iu iv iw).narrowCheck k

/-- The sealed maximum speed as electrical rad/s (R205). -/
def State.wMax (s : State) : F32 := fMul (s.rd R.TMU_SEAL_WMAX) (fOfNat (s.fget F.TMU_POLE_P))

/-- 1.05 as binary32. -/
def f105 : F32 := 0x3F866666

/-- The DC-link and speed checks of a sample (R243, R247), each raised once while it lasts; the values are published. -/
def State.plantCheck (s : State) : State :=
  let vdc := s.sget (s.fget F.TMU_VDC_SEL_SIG)
  let w := s.omega
  let s1 := ((s.sput 0x08D vdc).sput 0x0B0 s.theta).sput 0x0B1 w
  let ov := fLt (s.rd R.TMU_VDC_OV) vdc
  let os := fLe s.wMax (fAbs w)
  let ot := fLt (fMul f105 s.wMax) (fAbs w)
  let s2 := { s1 with tmu := { s1.tmu with vdc := vdc, sampleAt := s1.time + 1, vdcOv := ov, overspeed := os, overspeedTrip := ot } }
  let s3 := if ov && !s.tmu.vdcOv then s2.raise C.TMU_VDC_OV 255 { w1 := vdc } else s2
  let s4 := if os && !s.tmu.overspeed then s3.raise C.TMU_OVERSPEED 255 { w1 := w } else s3
  if ot && !s.tmu.overspeedTrip then s4.raise C.TMU_OVERSPEED_TRIP 255 { w1 := w } else s4

/-! ### Torque and references (R204 to R212) -/

/-- Torque is allowed: the mode is DRIVE and both channels hold the open-once test done (R98). -/
def State.torqueAllowed (s : State) : Bool :=
  s.inMode .drive && s.fget F.SYS_EN_STAT_STATE_A == 2 && s.fget F.SYS_EN_STAT_STATE_B == 2

/-- R204 forbids torque. -/
def State.torqueForbidden (s : State) : Bool :=
  !s.torqueAllowed || s.fbit F.TMU_STAT_POS_HOLD || !s.fbit F.PFB_STAT_VALID

/-- The magnitude limit of R204. -/
def State.torqueLimit (s : State) : F32 :=
  let mx := s.rd R.TMU_TQ_MAX
  let half := s.rd R.TMU_SEAL_THALF
  if s.torqueForbidden then 0
  else match s.seq.sub with
    | .full => mx
    | .reduced => fMin mx (fMul fTwo half)
    | _ => fMin mx half

/-- Two numbers have the same sign and neither is zero. -/
def sameSign (a b : F32) : Bool := !fIsZero a && !fIsZero b && fSign a == fSign b

/-- A magnitude given the sign of another number. -/
def withSign (m x : F32) : F32 := if fSign x then fNeg (fAbs m) else fAbs m

/-- The request after R204 to R207, and whether the DC link is low against motoring (R206). -/
def State.torqueAsked (s : State) : F32 × Bool :=
  let ref := s.rd R.TMU_TQ_REF
  let w := s.omega
  let lim := s.torqueLimit
  let t4 := withSign (fMin (fAbs ref) lim) ref
  let t5 := if fLe s.wMax (fAbs w) && sameSign t4 w then 0 else t4
  let low := fLt s.tmu.vdc (s.rd R.TMU_VDC_LOW) && sameSign t5 w
  let scale := fMax 0 (fDiv (fSub s.tmu.vdc (s.rd R.TMU_VDC_MIN)) (fSub (s.rd R.TMU_VDC_LOW) (s.rd R.TMU_VDC_MIN)))
  let t6 := if low then withSign (fMin (fAbs t5) (fMul lim scale)) t5 else t5
  (if (s.fbit F.TMU_STAT_BC_BUDGET || s.tmu.noRegen) && sameSign t6 (fNeg w) then 0 else t6, low)

/-- The rate of T_app (R208): while the host is lost HIF_LOST_RATE (R577). -/
def State.torqueRate (s : State) : F32 := if s.fbit F.HIF_STAT_HOST_LOST then s.rd R.HIF_LOST_RATE else s.rd R.TMU_TQ_RATE

/-- Move T_app toward the request (R208). -/
def State.torqueStep (s : State) : State :=
  let dt := fMul (fOfNat (s.cyc - s.tmu.lastCyc)) fCycle
  let a := s.torqueAsked
  let t := s.tmu.tApp
  let d := fSub a.1 t
  let stepv := fMul s.torqueRate dt
  let t' := if s.torqueForbidden then 0
    else if fLe (fAbs d) stepv || fIsInf s.torqueRate then a.1
    else if fSign d then fSub t stepv else fAdd t stepv
  let s1 := { s with tmu := { s.tmu with tApp := t', lastCyc := s.cyc, vdcLow := a.2 } }
  let s2 := (s1.wr R.TMU_TQ_APPLIED t').sput 0x08F t'
  if a.2 && !s.tmu.vdcLow then s2.raise C.TMU_VDC_LOW 255 { w1 := s.tmu.vdc } else s2

/-- A grid coordinate: its index, at most `mx - 1`, and the fraction above it, after clamping to [0, mx] (R210). -/
def gridAt (x : F32) (mx : Nat) : Nat × F32 :=
  let c := fClamp 0 (fOfNat mx) x
  let i := (fFloor c).toNat
  let i := if mx ≤ i then mx - 1 else i
  (i, fSub c (fOfNat i))

/-- A linear interpolation. -/
def lerp (a b t : F32) : F32 := fAdd a (fMul (fSub b a) t)

/-- A signed 16-bit value as binary32. -/
def f16 (n : Nat) : F32 := fOfInt (if n < 32768 then Int.ofNat n else Int.ofNat n - 65536)

/-- A map entry: id (`q` false) or iq, in A (R210). -/
def State.mapAt (s : State) (k j : Nat) (q : Bool) : F32 :=
  let w := s.rd (R.TMU_MAP (64 * k + j))
  fMul (f16 (if q then bits w 31 16 else bits w 15 0)) (s.rd R.TMU_MAP_ISCALE)

/-- The MTPA map at |T| by bilinear interpolation (R210). -/
def State.mtpa (s : State) (t : F32) (q : Bool) : F32 :=
  let c := gridAt (fDiv (fMul (fOfNat 63) (fAbs t)) (s.rd R.TMU_MAP_TQMAX)) 63
  let k := gridAt (fDiv (fMul (fOfNat 31) (fAbs s.omega)) (s.rd R.TMU_MAP_WMAX)) 31
  lerp (lerp (s.mapAt k.1 c.1 q) (s.mapAt k.1 (c.1 + 1) q) c.2)
    (lerp (s.mapAt (k.1 + 1) c.1 q) (s.mapAt (k.1 + 1) (c.1 + 1) q) c.2) k.2

/-- 0.1 as binary32. -/
def fTenth : F32 := 0x3DCCCCCD

/-- The current references id*, iq* for a system torque and a field-weakening input (R210 to R212). -/
def State.references (s : State) (t dId imax : F32) : F32 × F32 :=
  let idm := s.mtpa t false
  let iqm := withSign (s.mtpa t true) t
  let dId := if s.fbit F.TMU_CFG_FW_EN then dId else 0
  let id := fMax (fAdd idm dId) (fNeg (s.rd R.TMU_IDMAX))
  let psi := s.rd R.TMU_PSI
  let dl := fSub (s.rd R.TMU_LD) (s.rd R.TMU_LQ)
  let den := fAdd psi (fMul dl id)
  let iq := if fLt dId 0 && fLe (fMul fTenth psi) den then fDiv (fMul iqm (fAdd psi (fMul dl idm))) den else iqm
  let lim := fSqrt (fMax 0 (fSub (fMul imax imax) (fMul id id)))
  (id, withSign (fMin (fAbs iq) lim) iq)

/-- The torque of a dq current pair: 1.5 × p × (ψ·iq + (Ld − Lq)·id·iq) (R215). -/
def State.torqueOf (s : State) (id iq : F32) : F32 :=
  fMul (fMul 0x3FC00000 (fOfNat (s.fget F.TMU_POLE_P)))
    (fAdd (fMul (s.rd R.TMU_PSI) iq) (fMul (fMul (fSub (s.rd R.TMU_LD) (s.rd R.TMU_LQ)) id) iq))

/-- The drag magnitude of the drag map at |ω| (R239). -/
def State.dragMap (s : State) : F32 :=
  let g := gridAt (fDiv (fMul (fOfNat 31) (fAbs s.omega)) (s.rd R.TMU_DRAG_WMAX)) 31
  lerp (s.rd (R.TMU_DRAG g.1)) (s.rd (R.TMU_DRAG (g.1 + 1))) g.2

/-- A sigma-delta signal is marked invalid (R192). -/
def State.sdInvalid (s : State) (sig : Nat) : Bool := decide (0x060 ≤ sig) && decide (sig ≤ 0x067) && s.adc.sdLost.getLsbD (sig - 0x060)

/-- The phase (0 U, 1 V) of system `k` whose sigma-delta input is invalid (R192, R195). -/
def State.sdPhase (s : State) (k : Nat) : Option (Nat × Nat) :=
  let u := s.fget (F.TMU_SYS_ISEL_IU_SIG k)
  let v := s.fget (F.TMU_SYS_ISEL_IV_SIG k)
  if s.sdInvalid u then some (0, u) else if s.sdInvalid v then some (1, v) else none

/-- The current signals of system `k` are invalid (R195). -/
def State.sensBad (s : State) (k : Nat) : Bool := (s.tsys k).rangeU == 4 || (s.tsys k).rangeV == 4 || (s.sdPhase k).isSome

/-- Raise the sensor fault of a system whose sigma-delta input has become invalid (R195). -/
def State.sdSensor (s : State) (k : Nat) : State :=
  let x := s.tsys k
  match s.sdPhase k with
  | none => s.setTsys k { x with sdBad := false }
  | some (ph, sig) =>
    let s1 := s.setTsys k { x with sdBad := true }
    if x.sdBad then s1 else s1.raiseSys C.TMU_SENSOR_FAULT k { w0 := bytes4 ph 2 0 0, w1 := s.sget sig }

/-- As State.sdSensor, of every system in use. -/
def State.sdSensors (s : State) : State := s.systems.foldl (fun t k => t.sdSensor k) s

/-- The drag torque of the held system `k` (R239). -/
def State.dragOf (s : State) (k : Nat) : F32 :=
  let bad := s.sensBad k
  let map := if fIsZero s.omega then 0 else if fSign s.omega then s.dragMap else fNeg s.dragMap
  match s.fget F.TMU_CFG_DRAG_SRC with
  | 0 => 0
  | 1 => s.sget (sysSig k 0xC)
  | 2 => map
  | _ => if bad then map else s.sget (sysSig k 0xC)

/-- The torque per system (R209). -/
def State.torquePerSystem (s : State) : F32 :=
  if s.mach = 2 then s.tmu.tApp
  else match s.seq.sub with
    | .halfA => fSub s.tmu.tApp (s.dragOf 1)
    | .halfB => fSub s.tmu.tApp (s.dragOf 0)
    | _ => fMul s.tmu.tApp fHalf

/-! ### Published quantities (R200 to R202, R213 to R215) -/

/-- The measured dq currents and torque estimate of system `k`, and the drag of the held one (R223, R239). -/
def State.pubSystem (s : State) (k : Nat) : State :=
  let dq := clarkePark (s.sget (sysSig k 0)) (s.sget (sysSig k 1)) (s.sysAngle k s.theta)
  let s1 := ((s.sput (sysSig k 3) dq.1).sput (sysSig k 4) dq.2).sput (sysSig k 0xC) (s.torqueOf dq.1 dq.2)
  s1.sput (sysSig k 0xD) (if (k == 1 && s.seq.sub == .halfA) || (k == 0 && s.seq.sub == .halfB) then s1.dragOf k else 0)

/-- Feed-forward, limits and |v_dq| at signal bases for measured id, iq and last delivered vd, vq (R213, R214). -/
def State.pubTerms (s : State) (ffd lim vdq : Nat) (id iq vd vq : F32) : State :=
  let w := s.omega
  let vmax := fMul s.tmu.vdc fInvSqrt3
  ((((s.sput ffd (fMul (fNeg w) (fMul (s.rd R.TMU_LQ) iq))).sput (ffd + 1)
    (fMul w (fAdd (fMul (s.rd R.TMU_LD) id) (s.rd R.TMU_PSI)))).sput lim vmax).sput (lim + 1)
    (fSqrt (fMax 0 (fSub (fMul vmax vmax) (fMul vd vd))))).sput vdq (fSqrt (fAdd (fMul vd vd) (fMul vq vq)))

/-- The plane quantities of a six-phase machine (R201). -/
def State.pubPlane (s : State) : State :=
  let ph := [s.sget (sysSig 0 0), s.sget (sysSig 0 1), s.sget (sysSig 0 2), s.sget (sysSig 1 0), s.sget (sysSig 1 1), s.sget (sysSig 1 2)]
  let p := vsd ph s.theta
  let s1 := (((s.sput 0x080 p.1).sput 0x081 p.2.1).sput 0x082 p.2.2.1).sput 0x083 p.2.2.2
  s1.pubTerms 0x086 0x088 0x08B p.1 p.2.1 s.tmu.vd s.tmu.vq

/-- The axle torque estimate (R215). -/
def State.torqueEst (s : State) : F32 :=
  if s.isVsd s.plane && s.sysState 0 == 1 && s.sysState 1 == 1 then fMul fTwo (s.torqueOf (s.sget 0x080) (s.sget 0x081))
  else if s.mach = 2 then s.sget (sysSig 0 0xC)
  else fAdd (s.sget (sysSig 0 0xC)) (s.sget (sysSig 1 0xC))

/-- Publish the axle terms: set-point of field weakening, xy limit, torque estimate. -/
def State.pubAxle (s : State) : State :=
  let vmax := fMul s.tmu.vdc fInvSqrt3
  let t := s.torqueEst
  (((s.sput 0x08C (fMul (s.rd R.TMU_M_FW) vmax)).sput 0x08A (fMul (fMul (s.rd R.TMU_VXY_FRAC) s.tmu.vdc) fInvSqrt3)).sput 0x08E t).wr
    R.TMU_TQ_EST t

/-- The references of the present arrangement (R209 to R212). -/
def State.pubRefs (s : State) : State :=
  let t := s.torquePerSystem
  if s.isVsd s.plane then
    let r := s.references t s.tmu.dId (s.rd (R.TMU_SYS_IMAX 0))
    (s.sput 0x084 r.1).sput 0x085 r.2
  else
    (planeSystems s.mach s.plane).foldl (fun s k =>
      let r := s.references t (s.tsys k).dId (s.rd (R.TMU_SYS_IMAX k))
      (s.sput (sysSig k 5) r.1).sput (sysSig k 6) r.2) s

/-- One sample of the systems in `ks` (R193 to R215). -/
def State.tmuSample (s : State) (ks : List Nat) : State :=
  match ks with
  | [] => s
  | _ =>
    let s1 := ks.foldl (fun s k => (s.readCurrents k).count (0x080 + k) 1) s
    if !s1.fbit F.TMU_CFG_EN && !s1.inMode .safeHold then s1
    else
      let s2 := s1.plantCheck
      let s3 := ks.foldl (fun s k =>
        let s' := s.pubSystem k
        s'.pubTerms (sysSig k 7) (sysSig k 9) (sysSig k 0xB) (s'.sget (sysSig k 3)) (s'.sget (sysSig k 4)) (s'.tsys k).vd (s'.tsys k).vq) s2
      let s4 := if s3.isVsd 0 then s3.pubPlane else s3
      let s5 := s4.pubAxle
      (s5.torqueStep).pubRefs

/-! ### Modulation (R203, R216 to R218) -/

/-- The three phase voltages of one system from dq voltages at an angle (R203). -/
def phaseVolts (vd vq th : F32) : List F32 :=
  let a := fSub (fMul vd (Config.cos th)) (fMul vq (Config.sin th))
  let b := fAdd (fMul vd (Config.sin th)) (fMul vq (Config.cos th))
  [a, fAdd (fMul (fNeg a) fHalf) (fMul fSqrt3Half b), fSub (fMul (fNeg a) fHalf) (fMul fSqrt3Half b)]

/-- The six phase voltages of plane voltages (R203). -/
def vsdVolts (vd vq vx vy th : F32) : List F32 :=
  let a := fSub (fMul vd (Config.cos th)) (fMul vq (Config.sin th))
  let b := fAdd (fMul vd (Config.sin th)) (fMul vq (Config.cos th))
  let x := fAdd (fMul vx (Config.cos th)) (fMul vy (Config.sin th))
  let y := fAdd (fMul (fNeg vx) (Config.sin th)) (fMul vy (Config.cos th))
  [0, 1, 2, 3, 4, 5].map fun k =>
    fAdd (fAdd (fAdd (fMul a (nth 0 cosPhi k)) (fMul b (nth 0 sinPhi k))) (fMul x (nth 0 cos5Phi k))) (fMul y (nth 0 sin5Phi k))

/-- The greatest and least of three. -/
def fMax3 (v : List F32) : F32 := fMax (nth 0 v 0) (fMax (nth 0 v 1) (nth 0 v 2))
/-- The least of three. -/
def fMin3 (v : List F32) : F32 := fMin (nth 0 v 0) (fMin (nth 0 v 1) (nth 0 v 2))

/-- The duties of a system's phase voltages (R216). -/
def modDuties (mod : Nat) (vdc : F32) (v : List F32) : List F32 :=
  let mx := fMax3 v
  let mn := fMin3 v
  let sum := fAdd mx mn
  let off := if mod = 0 then fMul (fNeg sum) fHalf
    else if fLe 0 sum then fSub (fMul vdc fHalf) mx else fSub (fMul (fNeg vdc) fHalf) mn
  v.map fun x => fAdd fHalf (fDiv (fAdd x off) (fMax vdc 0x41200000))

/-- The factor of R217 that a system's voltages need; 1 where none. -/
def satFactor (vdc : F32) (v : List F32) : F32 :=
  let d := fSub (fMax3 v) (fMin3 v)
  if fLt vdc d then fDiv vdc d else fOne

/-- The phase voltages of the systems of a plane from the delivered inputs, as (system, voltages) (R203). -/
def State.planeVolts (s : State) (plane : Nat) (th : F32) : List (Nat × List F32) :=
  if s.isVsd plane then
    let v := vsdVolts s.tmu.vd s.tmu.vq s.tmu.vx s.tmu.vy th
    [(0, v.take 3), (1, v.drop 3)]
  else (planeSystems s.mach plane).map fun k => (k, phaseVolts (s.tsys k).vd (s.tsys k).vq (s.sysAngle k th))

/-- Write the duties of a system into its group's shadows (R218). -/
def State.writeDuties (s : State) (k : Nat) (d : List F32) : State :=
  ((s.shadowWrite k 0 (nth 0 d 0)).shadowWrite k 1 (nth 0 d 1)).shadowWrite k 2 (nth 0 d 2)

/-- Scale the voltages of the running systems, if any needs it, and write their duties (R216, R217). -/
def State.modulateVolts (s : State) (vs : List (Nat × List F32)) : State :=
  let vdc := s.tmu.vdc
  let f := vs.foldl (fun f p => fMin f (satFactor vdc p.2)) fOne
  let s1 := if fEq f fOne then s
    else
      let s' := (vs.foldl (fun s p => (s.wr (R.TMU_SYS_VSAT_CNT p.1) (w32 (satAdd (s.rd (R.TMU_SYS_VSAT_CNT p.1)).toNat 1 (2 ^ 32 - 1)))).count (0x084 + p.1) 1) s).fput F.TMU_STAT_VSAT true
      if s.tmu.vsatLast = 0 || s.tmu.vsatLast + msTicks 100 ≤ s.time + 1 then
        ({ s' with tmu.vsatLast := s.time + 1 }).raise C.TMU_VSAT 255 { w1 := f }
      else s'
  vs.foldl (fun s p => s.writeDuties p.1 (modDuties s.tmu.mod vdc (if fEq f fOne then p.2 else p.2.map fun x => fMul f x))) s1

/-- The inverse angle θ + ω × T_ADV (R203). -/
def State.advAngle (s : State) : F32 := fAdd (s.sget 0x0B0) (fMul (s.sget 0x0B1) (s.rd R.TMU_T_ADV))

/-- The managed contexts of a plane, with their axis: 0 d, 1 q, 2 x′, 3 y′, 4 field weakening; and their system (R172). -/
def State.managed (s : State) (plane : Nat) : List (Nat × Nat × Nat) :=
  if s.isVsd plane then
    (if s.fbit F.TMU_PCTX_D_USE then [(s.fget F.TMU_PCTX_D, 0, 0)] else []) ++
    (if s.fbit F.TMU_PCTX_Q_USE then [(s.fget F.TMU_PCTX_Q, 1, 0)] else []) ++
    (if s.fbit F.TMU_PCTX_X_USE then [(s.fget F.TMU_PCTX_X, 2, 0)] else []) ++
    (if s.fbit F.TMU_PCTX_Y_USE then [(s.fget F.TMU_PCTX_Y, 3, 0)] else []) ++
    (if s.fbit F.TMU_PFW_FW_USE then [(s.fget F.TMU_PFW_FW, 4, 0)] else [])
  else (planeSystems s.mach plane).foldr (fun k l =>
    (if s.fbit (F.TMU_SYS_CTX_D_USE k) then [(s.fget (F.TMU_SYS_CTX_D k), 0, k)] else []) ++
    (if s.fbit (F.TMU_SYS_CTX_Q_USE k) then [(s.fget (F.TMU_SYS_CTX_Q k), 1, k)] else []) ++
    (if s.fbit (F.TMU_SYS_CTX_FW_USE k) then [(s.fget (F.TMU_SYS_CTX_FW k), 4, k)] else []) ++ l) []

/-- A voltage input of the present plane has been delivered since the last modulation. -/
def State.voltsDelivered (s : State) : Bool :=
  if s.isVsd s.plane then s.tmu.gotD || s.tmu.gotQ || s.tmu.gotX || s.tmu.gotY
  else (planeSystems s.mach s.plane).any fun k => (s.tsys k).gotD || (s.tsys k).gotQ

/-- A voltage input of the present plane is still to come: a managed current context is released, or its output is on its way. -/
def State.voltsComing (s : State) : Bool :=
  ((s.managed s.plane).any fun p => decide (p.2.1 ≤ 3) && (s.fbit (F.CLE_CTX_STAT_BUSY p.1) || (s.ctx p.1).due.isSome)) ||
    s.cle.outs.any fun o => o.kind == 2

/-- Forget the deliveries. -/
def State.clearDelivered (s : State) : State :=
  { s with
    tmu :=
      { s.tmu with
        gotD := false
        gotQ := false
        gotX := false
        gotY := false
        sysA := { s.tmu.sysA with gotD := false, gotQ := false }
        sysB := { s.tmu.sysB with gotD := false, gotQ := false } } }

/-- Modulate the running systems of the present plane once what was delivered is complete (R203, R216, R217). -/
def State.tmuModulate (s : State) : State :=
  if s.fbit F.TMU_CFG_EN && s.voltsDelivered && !s.voltsComing then
    let vs := (s.planeVolts s.plane s.advAngle).filter fun p => s.sysState p.1 == 1
    if vs.isEmpty then s else (s.modulateVolts vs).clearDelivered
  else s

/-- A delivery to TMU input `i` (R224); with the last one the TMU modulates (R216). -/
def State.tmuInput (s : State) (i : Nat) (v : F32) : State :=
  let t := s.tmu
  let a := t.sysA
  let b := t.sysB
  let s1 := match i with
    | 0 => { s with tmu := { t with vd := v, gotD := true } }
    | 1 => { s with tmu := { t with vq := v, gotQ := true } }
    | 2 => { s with tmu := { t with vx := v, gotX := true } }
    | 3 => { s with tmu := { t with vy := v, gotY := true } }
    | 4 => { s with tmu := { t with dId := v } }
    | 16 => { s with tmu.sysA := { a with vd := v, gotD := true } }
    | 17 => { s with tmu.sysA := { a with vq := v, gotQ := true } }
    | 18 => { s with tmu.sysA := { a with dId := v } }
    | 24 => { s with tmu.sysB := { b with vd := v, gotD := true } }
    | 25 => { s with tmu.sysB := { b with vq := v, gotQ := true } }
    | 26 => { s with tmu.sysB := { b with dId := v } }
    | _ => s
  s1.tmuModulate

/-! ### Holding, starting and stopping (R225 to R232, R237 to R240) -/

/-- Hold system `k` with the code the selection table gives it now (R232). -/
def State.holdSys (s : State) (k : Nat) : State :=
  let c := s.selCode k
  let s1 := if k = 0 then { s with pwm.ovrA := c } else { s with pwm.ovrB := c }
  ((s1.setSysState k (c + 1)).applyPattern k)

/-- Hold both systems, or TS-A alone where MACH = 2 (R232). -/
def State.holdBoth (s : State) : State := if s.mach = 2 then s.holdSys 0 else (s.holdSys 0).holdSys 1

/-- Disable the managed contexts of a plane. -/
def State.disableManaged (s : State) (plane : Nat) : State :=
  (s.managed plane).foldl (fun s p => s.ctxDisable p.1) s

/-- Disable the managed contexts of every arrangement of the machine (R231). -/
def State.disableAllManaged (s : State) : State := ((s.disableManaged 0).disableManaged 1).disableManaged 2

/-- π/6 as binary32. -/
def fSixthPi : F32 := 0x3F060A92

/-- The phase voltages of a system's duties in force, without their common part. -/
def State.dutyVolts (s : State) (k : Nat) : List F32 :=
  let v := [0, 1, 2].map fun l => fMul (fSub (s.rd (R.PWM_GRP_DUTY_ACT k l)) fHalf) (fMax s.tmu.vdc 0x41200000)
  let m := fMul fThird (fAdd (fAdd (nth 0 v 0) (nth 0 v 1)) (nth 0 v 2))
  v.map fun x => fSub x m

/-- The phase voltages a system carries before a start (R228): 0 in ASC, its duties' when running, its back-EMF when off, in its own frame:
in the plane TS-B's lies 30° behind TS-A's (R201). -/
def State.voltsBefore (s : State) (vsd : Bool) (k : Nat) : List F32 :=
  let pat := (s.grp k).pat
  if pat = 2 ∨ pat = 3 then [0, 0, 0]
  else if s.sysState k = 1 then s.dutyVolts k
  else phaseVolts 0 (fMul s.omega (s.rd R.TMU_PSI)) (if vsd then (if k = 1 then fSub s.theta fSixthPi else s.theta) else s.sysAngle k s.theta)

/-- v_init of an axis of a plane (R228). -/
def State.vInit (s : State) (plane axis k : Nat) : F32 :=
  if s.isVsd plane then
    let p := vsd (s.voltsBefore true 0 ++ s.voltsBefore true 1) s.theta
    match axis with
    | 0 => p.1
    | 1 => p.2.1
    | 2 => p.2.2.1
    | _ => p.2.2.2
  else
    let v := s.voltsBefore false k
    let dq := clarkePark (nth 0 v 0) (nth 0 v 1) (s.sysAngle k s.theta)
    if axis = 0 then dq.1 else dq.2

/-- The product of b0 over chain positions 1 up (R228). -/
def b0Product (l : List Sec) : F32 := l.foldl (fun x c => fMul x c.b0) fOne

/-- Why a managed context cannot be preloaded: 0 ZERO_ON_EN, 1 chain, 2 ramp, 3 product zero (R226, R227). -/
def State.preloadBad (s : State) (n axis : Nat) : Option Nat :=
  let ch := s.chainAct n
  if s.fbit (F.CLE_CTX_CTRL_ZERO_ON_EN n) then some 0
  else if ch.2 = 0 || !(s.section ch.1).integ then some 1
  else if axis = 4 then none
  else if axis ≤ 1 && (!s.fbit (F.CLE_CTX_CTRL_RAMP_EN n) || !fIsFinite (s.rd (R.CLE_CTX_RAMP_RATE n))) then some 2
  else if fIsZero (fMul (s.rd (R.CLE_CTX_GAIN n)) (b0Product (s.sections (ch.1 + 1) (ch.2 - 1)))) then some 3
  else none

/-- The first managed context that cannot be preloaded, with its reason. -/
def State.preloadFail (s : State) (plane : Nat) : Option (Nat × Nat) :=
  (s.managed plane).foldr (fun p r => match s.preloadBad p.1 p.2.1 with
    | some w => some (p.1, w)
    | none => r) none

/-- Write the preload of one context (R228). -/
def State.preload (s : State) (plane n axis k : Nat) : State :=
  let s1 := s.zeroStates n 0 8
  if axis = 4 then s1
  else
    let ch := s.chainAct n
    let g := fMul (s.rd (R.CLE_CTX_GAIN n)) (b0Product (s.sections (ch.1 + 1) (ch.2 - 1)))
    s1.wr (R.CLE_CTX_S1 n 0) (fDiv (fSub (s.vInit plane axis k) (s.cleSnap n).ff) g)

/-- The duties a start loads, from the voltages before it (R229, step 3). -/
def State.startDuties (s : State) (plane : Nat) : State :=
  let th := s.advAngle
  let vs := if s.isVsd plane then
      let v := vsdVolts (s.vInit 0 0 0) (s.vInit 0 1 0) (s.vInit 0 2 0) (s.vInit 0 3 0) th
      [(0, v.take 3), (1, v.drop 3)]
    else (planeSystems s.mach plane).map fun k => (k, phaseVolts (s.vInit plane 0 k) (s.vInit plane 1 k) (s.sysAngle k th))
  s.modulateVolts vs

/-- Position has been valid continuously for 10 ms (R225). -/
def State.posSteady (s : State) : Bool :=
  s.fbit F.PFB_STAT_VALID && (match s.pfb.validSince with
    | some t => s.past t (msTicks 10)
    | none => false)

/-- A cause keeps system `k` in a safe state: SMON-A drives a code on its group, the sub-state holds it, or a leg is latched. -/
def State.kept (s : State) (k : Nat) : Bool :=
  bits (s.rd R.PWM_GLB_SAFE) (2 * k + 1) (2 * k) != 0 || s.fbit F.PWM_GLB_STAT_GD ||
    (k == 0 && s.seq.sub == .halfB) || (k == 1 && s.seq.sub == .halfA) || [0, 1, 2].any fun l => s.legLatched k l

/-- The start conditions of the systems of a plane (R225). -/
def State.mayStart (s : State) (plane : Nat) : Bool :=
  s.fbit F.TMU_CFG_EN && s.torqueAllowed && s.posSteady && (planeSystems s.mach plane).all fun k => !s.kept k && (s.grp k).running

/-- A managed context of the arrangement in force or of plane `p` has a run in progress. -/
def State.managedRun (s : State) (p : Nat) : Bool := (s.managed s.plane ++ s.managed p).any fun m => s.ctxRunning m.1

/-- Step 1 of R229: the managed contexts are disabled; a run in progress commits first, and the start is made after it. -/
def State.startPrepare (s : State) (p : Nat) : State :=
  (planeSystems s.mach p).foldl (fun t k => if t.sysState k = 1 then t else t.setSysState k 5) ((s.disableManaged s.plane).disableManaged p)

/-- The whole start of a plane around its update event U0 (R228, R229); nothing but the report where a context cannot be
preloaded (R227). Answers whether it was made. -/
def State.startPlane (s : State) (plane : Nat) : State × Bool :=
  match s.preloadFail plane with
  | some (n, why) => (s.raise C.TMU_PRELOAD_FAIL 255 { w0 := bytes4 n why 0 0 }, false)
  | none =>
    if s.managedRun plane then (s.startPrepare plane, false)
    else
    let ks := planeSystems s.mach plane
    let s1 := (s.disableManaged s.plane).disableManaged plane
    let s2 := (s1.managed plane).foldl (fun t p => t.preload plane p.1 p.2.1 p.2.2) s1
    let s3 := s2.startDuties plane
    let s4 := ks.foldl (fun t k => ((t.shadowMode k 0 1).shadowMode k 1 1).shadowMode k 2 1) s3
    let s5 := { s4 with pwm := { s4.pwm with ovrA := if ks.contains 0 then 0 else s4.pwm.ovrA, ovrB := if ks.contains 1 then 0 else s4.pwm.ovrB } }
    -- the shadows written before U0 load at U0
    let s6 := ks.foldl (fun t k => (((t.setGrp k { t.grp k with late := [] }).removePattern k).loadShadows k).grpFollow k) s5
    let s7 := ks.foldl (fun t k => t.setSysState k 1) (s6.fset F.TMU_STAT_PLANE plane)
    let s8 := (s7.managed plane).foldl (fun t p => (t.ctxEnable p.1).1) s7
    let est := s8.torqueEst
    let s9 := { s8.clearDelivered with tmu := { s8.clearDelivered.tmu with tApp := est, lastCyc := s.cyc, stopA := false, stopB := false } }
    ((s9.wr R.TMU_TQ_APPLIED est).sput 0x08F est, true)

/-- A start of the systems of the arrangement the sub-state asks for, where R225 holds and they do not run. -/
def State.tmuStart (s : State) : State :=
  let p := s.planeAsked
  if s.mayStart p && !(planeSystems s.mach p).all (fun k => s.sysState k == 1) && !s.fbit F.TMU_STAT_POS_HOLD then (s.startPlane p).1 else s

/-- TMU_START (R229). -/
def execTmuStart (s : State) : Host.Outcome State Fault Refusal := .next s.tmuStart

/-- The restart after position loss (R236). -/
def State.posReentry (s : State) : State :=
  if s.fbit F.TMU_STAT_POS_HOLD && s.mayStart s.planeAsked then
    let r := s.startPlane s.planeAsked
    if r.2 then
      let s1 := r.1.fput F.TMU_STAT_POS_HOLD false
      s1.raise C.TMU_POS_REENTRY 255 { w1 := s.omega }
    else r.1
  else s

/-- TMU_POS_REENTRY (R236). -/
def execTmuPosReentry (s : State) : Host.Outcome State Fault Refusal := .next s.posReentry

/-- The change of arrangement at the update event of the running system's group (R238, R240). -/
def State.planeChange (s : State) : State :=
  let p := s.planeAsked
  let old := s.plane
  if p = old || s.mach = 2 || !s.mayStart p then s
  else
    let r := s.startPlane p
    if r.2 then r.1.raise C.TMU_PLANE_CHANGE 255 { w0 := bytes4 old p 0 0, w1 := r.1.tmu.tApp } else r.1

/-- TMU_PLANE_CHANGE (R238). -/
def execTmuPlaneChange (s : State) : Host.Outcome State Fault Refusal := .next s.planeChange

/-- Turn every switch of system `k` off: its leg modes become OFF at once and its state stopped (R231). -/
def State.sysOffNow (s : State) (k : Nat) : State :=
  let sh := putBits (putBits (s.rd (R.PWM_GRP_LEGMODE k)) 11 0 0) 27 16 0
  let s1 := (s.wr (R.PWM_GRP_LEGMODE k) sh).setSysState k 0
  let s2 := if k = 0 then { s1 with pwm.ovrA := 0, tmu.stopA := false } else { s1 with pwm.ovrB := 0, tmu.stopB := false }
  (if s2.fbit (F.PWM_GRP_CTRL_RUN k) then s2 else s2.removePattern k).grpFollow k

/-- Ask the systems to stop at their next update event; a group whose carrier stands still is off already (R231). -/
def State.tmuStop (s : State) : State :=
  let s1 := { s with tmu := { s.tmu with stopA := true, stopB := true, tApp := 0 } }
  let s2 := (s1.wr R.TMU_TQ_APPLIED 0).sput 0x08F 0
  let s3 := if (s2.grp 0).running then s2 else s2.sysOffNow 0
  let s4 := if (s3.grp 1).running then s3 else s3.sysOffNow 1
  if s4.tmu.stopA || s4.tmu.stopB then s4 else s4.disableAllManaged

/-- The stop of system `k` at its update event (R231). -/
def State.tmuStopAt (s : State) (k : Nat) : State :=
  if (if k = 0 then s.tmu.stopA else s.tmu.stopB) then
    let s1 := s.sysOffNow k
    if s1.tmu.stopA || s1.tmu.stopB then s1 else s1.disableAllManaged
  else s

/-- Position has become invalid (R233 to R235): T_app is 0, both systems are held, the code raised; with REACQ_EN the device
stays in DRIVE with POS_HOLD. In every mode, and whether or not the TMU is enabled. DEDUCED: log entry 134. -/
def State.posInvalid (s : State) : State :=
  let s1 := { s with tmu := { s.tmu with tApp := 0 } }
  let s2 := ((s1.wr R.TMU_TQ_APPLIED 0).sput 0x08F 0).holdBoth
  let reacq := s.fbit F.TMU_CFG_REACQ_EN
  let s3 := if reacq && s.inMode .drive then s2.fput F.TMU_STAT_POS_HOLD true else s2
  s3.raiseAs C.TMU_POS_INVALID.code 255 (if reacq then 1 else 4) 0 { w0 := bytes4 (s2.selCode 0) 0 0 0, w1 := s.omega } false

/-! ### Offset measurement (R197) -/

/-- Begin the offset measurement of system `k`; with MACH = 2 TS-B's settings are ignored (R173). -/
def State.calBegin (s : State) (k : Nat) : State :=
  if s.mach = 2 ∧ k = 1 then s
  else (((s.fput (F.TMU_SYS_CAL_REQ k) true).fput (F.TMU_SYS_CAL_DONE k) false).fput (F.TMU_SYS_CAL_FAIL k) false).setTsys k
    { s.tsys k with cal := some 0, sumU := 0, sumV := 0 }

/-- 1/1,024 as binary32. -/
def fPer1024 : F32 := 0x3A800000

/-- The end of an offset measurement of 1,024 samples (R197). -/
def State.calDone (s : State) (k : Nat) : State :=
  let x := s.tsys k
  if x.cal ≠ some 1024 then s
  else
    let u := fMul x.sumU fPer1024
    let v := fMul x.sumV fPer1024
    let mx := s.rd (R.TMU_SYS_IOFS_MAX k)
    let s1 := ((s.setTsys k { x with cal := none }).fput (F.TMU_SYS_CAL_REQ k) false).fput (F.TMU_SYS_CAL_DONE k) true
    if fLt mx (fAbs u) || fLt mx (fAbs v) then
      let ph := if fLt mx (fAbs u) then 0 else 1
      (s1.fput (F.TMU_SYS_CAL_FAIL k) true).raiseSys C.TMU_SENSOR_FAULT k { w0 := bytes4 ph 1 0 0, w1 := if ph = 0 then u else v }
    else (s1.wr (R.TMU_SYS_IOFS_U k) u).wr (R.TMU_SYS_IOFS_V k) v

/-- TMU_OFFSET_CAL_DONE (R197). -/
def execTmuOffsetCalDone (sys : Fin 2) (s : State) : Host.Outcome State Fault Refusal := .next (s.calDone sys.val)

/-! ### Brake chopper (R241 to R245) -/

/-- The on-time of a budgeted switch since time `t0`. -/
def Budget.onTime (b : Budget) (t0 now : Nat) : Nat :=
  let cut (a z : Nat) : Nat := z - (if a < t0 then t0 else a)
  (b.past.foldl (fun n p => n + cut p.1 p.2) 0) + (match b.since with
    | some a => cut a now
    | none => 0)

/-- Switch a budgeted switch on or off at time `now`, keeping the intervals of the last `keep` ticks. -/
def Budget.switch (b : Budget) (on : Bool) (now keep : Nat) : Budget :=
  match b.since, on with
  | none, true => { b with since := some now }
  | some a, false => { b with since := none, past := (a, now) :: b.past.filter fun p => decide (now < p.2 + keep) }
  | _, _ => b

/-- The start of GC12's window: the last TMU_BC_WIN buckets of 1 ms, the present one included (R242). -/
def State.bcWindow (s : State) : Nat := (s.time / msTicks 1 + 1 - s.fget F.TMU_BC_WIN_WIN) * msTicks 1

/-- GC12's on-time in the window in µs (TMU_BC_USED). -/
def State.bcUsed (s : State) : Nat := s.tmu.bc.onTime s.bcWindow s.time / usTicks 1

/-- Bring GC12 to its command, whose on-time is totalled, and show it (R241, R242, R244). -/
def State.bcDrive (s : State) : State :=
  let on := s.command 12
  let s1 := { s with tmu.bc := s.tmu.bc.switch on s.time (msTicks 1000) }
  (s1.fput F.TMU_STAT_BC_ON on).chanFollow 12

/-- The budget of GC12 is used up (R242). -/
def State.bcBudget (s : State) : State :=
  let mx := s.fget F.TMU_BC_MAXON_MAXON
  if mx ≠ 0 && decide (mx ≤ s.bcUsed) && !s.fbit F.TMU_STAT_BC_BUDGET then
    ((s.fput F.TMU_STAT_BC_BUDGET true).bcDrive).raise C.TMU_BC_BUDGET 255 { w1 := w32 s.bcUsed }
  else s

/-- TMU_BC_BUDGET (R242). -/
def execTmuBcBudget (s : State) : Host.Outcome State Fault Refusal := .next s.bcBudget

/-- The on-time has fallen below half the budget (R242). -/
def State.bcBudgetClear (s : State) : State :=
  if s.fbit F.TMU_STAT_BC_BUDGET && decide (2 * s.bcUsed < s.fget F.TMU_BC_MAXON_MAXON) then
    (s.fput F.TMU_STAT_BC_BUDGET false).bcDrive
  else s

/-- BC_BUDGET_CLEAR (R242). -/
def execBcBudgetClear (s : State) : Host.Outcome State Fault Refusal := .next s.bcBudgetClear

/-- The result of the brake-chopper test (R244, R245): the code, or the pass. -/
def State.bcTestResult (s : State) (gsFail : Option (Fin 100)) (v0 v1 : F32) : State :=
  let drop := fSub v0 v1
  let s0 := { s with tmu.bcTest := none }
  match gsFail with
  | some k =>
    { ((s0.fput F.TMU_BC_CTRL_TEST_FAIL true).fput F.TMU_BC_CTRL_TEST_PASS false) with tmu.noRegen := true }.raise
      C.TMU_BC_TEST_FAIL 255 { w0 := bytes4 0 0 0 0, w1 := w32 k.val }
  | none =>
    if fLe 0x42480000 v0 && fLt drop (s.rd R.TMU_BC_TEST_DV) then
      { ((s0.fput F.TMU_BC_CTRL_TEST_FAIL true).fput F.TMU_BC_CTRL_TEST_PASS false) with tmu.noRegen := true }.raise
        C.TMU_BC_TEST_FAIL 255 { w0 := bytes4 1 0 0 0, w1 := drop }
    else { ((s0.fput F.TMU_BC_CTRL_TEST_FAIL false).fput F.TMU_BC_CTRL_TEST_PASS true) with tmu.noRegen := false }

end Sys2Proof.Machine
end

