-- ==== Sys2Proof/Machine/Lvc.lean ====
section
/-! DEFINITION. The LV network converter (R353 to R392): signals, start and stop, buck duties, shedding, load steps, remote sense and protection. -/

namespace Sys2Proof.Machine

/-- LVC_STAT.STATE: 0 off, 1 DCX_SS, 2 BUCK_SS, 3 RUNNING, 4 stopping, 5 FAULTED. -/
def State.lvcSt (s : State) : Nat := s.fget F.LVC_STAT_STATE

/-- The stage is in a step of its start, running or stopping. -/
def State.lvcOn (s : State) : Bool := decide (1 ≤ s.lvcSt) && decide (s.lvcSt ≤ 4)

/-- The group and leg of buck phase `p`. -/
def buckLeg (p : Nat) : Nat × Nat := if p < 4 then (6, p) else (7, p - 4)

/-- The configured phases. -/
def State.lvcPhases (s : State) : List Nat := List.range (s.fget F.LVC_CFG_NPH)

/-- Phase `p` is lost (R387, R388). -/
def State.phLost (s : State) (p : Nat) : Bool := (s.fget F.LVC_STAT_PH_LOST).testBit p

/-- Phase `p` is active (R360). -/
def State.phAct (s : State) (p : Nat) : Bool := (s.fget F.LVC_STAT_PH_ACT).testBit p

/-- The phases available: configured and not lost. -/
def State.lvcAvail (s : State) : List Nat :=
  s.lvcPhases.filter fun p => !s.phLost p && !s.legLatched (buckLeg p).1 (buckLeg p).2

/-- The active phases, ascending. -/
def State.lvcActive (s : State) : List Nat := s.lvcPhases.filter fun p => s.phAct p

/-- A set of phases as bits. -/
def phaseBits (l : List Nat) : Nat := l.foldl (fun a p => a + 2 ^ p) 0

/-- V_dc as TMU_VDC_SEL names it. -/
def State.vdcNow (s : State) : F32 := s.sget (s.fget F.TMU_VDC_SEL_SIG)

/-- I_lim (R355). -/
def State.lvcIlimit (s : State) : F32 := fMul (s.rd R.LVC_ILIM) (s.rd (R.THM_ZONE_F (s.fget F.LVC_SEL_TZONE)))

/-- R_LL in Ω: steps of 10 µΩ (R368). -/
def State.lvcRll (s : State) : F32 := fOfRatio (s.fget F.LVC_RLL_RLL) 100000

/-- Report an invalid write or a refused enable (offset and reason). -/
def State.lvcInvalid (s : State) (off reason : Nat) : State :=
  s.raise C.LVC_CFG_INVALID 255 { w0 := bytes4 off (off / 256) reason 0 }

/-! ### Duties (R360, R361) -/

/-- The factor on a phase's duty: the stop ramp (R372), or the eighths of a shed (R375). -/
def State.lvcFactor (s : State) (p : Nat) : F32 :=
  if s.lvcSt = 4 then
    let d := usTicks (s.fget F.LVC_STOP_T_US)
    fOfRatio (d - (s.time - s.lvc.t0)) d
  else if s.fbit F.LVC_STAT_SHED_PEND && decide (s.fget F.LVC_STAT_SHED_PH = p) then fOfRatio (7 - s.lvc.shedJ) 8
  else fOne

/-- The duty of phase `p` (R360). -/
def State.lvcDuty (s : State) (p : Nat) : F32 :=
  let v := fAdd s.lvc.vc (SMap.get (fun _ => 0) s.lvc.trims p)
  fMul (fClamp 0 (s.rd R.LVC_DMAX) (fDiv v (fMax (s.sget 0x143) fOne))) (s.lvcFactor p)

/-- Write the duty shadow of phase `p`. -/
def State.lvcWriteDuty (s : State) (p : Nat) : State := s.shadowWrite (buckLeg p).1 (buckLeg p).2 (s.lvcDuty p)

/-- Write the duty shadows of all driven phases: the active ones, and in BUCK_SS every available one. -/
def State.lvcDuties (s : State) : State :=
  (if s.lvcSt = 2 then s.lvcAvail else s.lvcActive).foldl State.lvcWriteDuty s

/-- Put the phases of a list in a leg mode. -/
def State.lvcModes (s : State) (mode : Nat) (l : List Nat) : State :=
  l.foldl (fun t p => t.shadowMode (buckLeg p).1 (buckLeg p).2 mode) s

/-- Write the phases k / N of a list of active phases from index `k` (R361). -/
def State.lvcRephaseFrom (s : State) (n : Nat) : List Nat → Nat → State
  | [], _ => s
  | p :: t, k => (s.shadowWrite (buckLeg p).1 (4 + (buckLeg p).2) (fOfRatio k n)).lvcRephaseFrom n t (k + 1)

/-- Re-phase the phases of a list (R361). -/
def State.lvcRephase (s : State) (l : List Nat) : State := s.lvcRephaseFrom l.length l 0

/-- Make a list the active set: trims of phases that leave or join become 0, the phases are re-phased, the hold restarts (R361,
R366, R375). -/
def State.lvcSetActive (s : State) (l : List Nat) : State :=
  let old := s.lvcActive
  if old = l then s
  else
    let keep := old.filter fun p => l.contains p
    let s1 := { s with lvc.trims := s.lvc.trims.filter (fun t => keep.contains t.1), lvc.hold := s.time, lvc.low := none, lvc.adds := 0 }
    ((s1.fset F.LVC_STAT_PH_ACT (phaseBits l)).fput F.LVC_STAT_HOLD true).lvcRephase l

/-- Report a change of the active count (R375, R376). -/
def State.lvcShedReport (s : State) (old new : Nat) : State :=
  (s.count (if new < old then 0x142 else 0x143) 1).raise C.LVC_SHED 255 { w0 := bytes4 old new 0 0, w1 := s.sget 0x144 }

/-- End a shed in progress without a report (R378, R380). -/
def State.lvcShedEnd (s : State) : State :=
  ({ s with lvc.shedJ := 0 }).fput F.LVC_STAT_SHED_PEND false

/-! ### Stops (R372 to R374) -/

/-- Clear RUN of the stage's groups, disable its contexts and enter `st`, reporting the cause and its code. -/
def State.lvcHalt (s : State) (st cause : Nat) (why : BitVec 16) : State :=
  let s1 := ((s.runClear 6).runClear 7).runClear 5
  let s2 := s1.ctxDisable (s1.fget F.LVC_CFG_COMP_CTX)
  let s3 := if s2.fbit F.LVC_CFG_BAL_USE then s2.ctxDisable (s2.fget F.LVC_CFG_BAL_CTX) else s2
  let s4 := ((s3.fset F.LVC_STAT_STATE st).fset F.LVC_STAT_PH_ACT 0).lvcShedEnd
  let s5 := s4.fput F.LVC_STAT_HOLD false
  let s6 := { s5 with lvc := { s5.lvc with window := false, busOk := none, low := none, head := none, uv := none, vin := none, retry := false, rsFall := false } }
  (s6.showGates 12).raise C.LVC_STOPPED 255 { w0 := bytes4 cause why.toNat (why.toNat / 256) 0 }

/-- A fault stop (R373). -/
def State.lvcFaultStop (s : State) (cause : Nat) (why : BitVec 16) : State :=
  if s.lvcOn then s.lvcHalt 5 cause why else s

/-- A stop is due: orderly in RUNNING, at once before (R372, R374). -/
def State.lvcStop (s : State) (cause : Nat) : State :=
  match s.lvcSt with
  | 3 =>
    let s1 := (s.lvcShedEnd).fset F.LVC_STAT_STATE 4
    ({ s1 with lvc := { s1.lvc with t0 := s.time, cause := cause } }).lvcModes 2 s1.lvcActive
  | 1 => s.lvcHalt 0 cause 0
  | 2 => s.lvcHalt 0 cause 0
  | _ => s

/-- The mode has changed: the stage stops where it may not run (R372, R391). -/
def State.lvcMode (s : State) : State :=
  if s.lvcOn && !modePermits s.seq.mode 5 then s.lvcStop 1
  else if s.lvcOn && s.fbit F.SMB_STAT_CCUT && s.inMode .safeHold then s.lvcFaultStop 3 0 else s

/-- The stop ramp has ended (R372). -/
def State.lvcStopDone (s : State) : State :=
  if s.lvcSt = 4 ∧ s.past s.lvc.t0 (usTicks (s.fget F.LVC_STOP_T_US)) then s.lvcHalt 0 s.lvc.cause 0 else s

/-- LVC_STOP_DONE (R372). -/
def execLvcStopDone (s : State) : Host.Outcome State Fault Refusal := .next s.lvcStopDone

/-! ### Start (R370, R371) -/

/-- The compensation context is configured as R364 states. -/
def State.lvcCompOk (s : State) : Bool :=
  let n := s.fget F.LVC_CFG_COMP_CTX
  let ch := s.chainAct n
  s.fget (F.CLE_CTX_TRIG_SRC n) == 2 && s.fget (F.CLE_CTX_TRIG_SEL n) == s.fget F.LVC_CFG_SEQ &&
    s.fget (F.CLE_CTX_MSEL_SIG n) == 0x145 && s.fbit (F.CLE_CTX_SSEL_SRC n) && s.fget (F.CLE_CTX_SSEL_SIG n) == 0x148 &&
    !s.fbit (F.CLE_CTX_CTRL_ERR_MODE n) && s.fbit (F.CLE_CTX_CTRL_RAMP_EN n) && fIsFinite (s.rd (R.CLE_CTX_RAMP_RATE n)) &&
    !s.fbit (F.CLE_CTX_CTRL_ZERO_ON_EN n) && ch.2 != 0 && (s.section ch.1).integ &&
    s.fbit (F.CLE_CTX_LIMSEL_HI_SIG_EN n) && s.fget (F.CLE_CTX_LIMSEL_HI_SIG n) == 0x146 && !s.fbit (F.CLE_CTX_LIMSEL_LO_SIG_EN n) &&
    !s.fbit (F.CLE_CTX_LIMSEL_LO_MIRROR n) && fIsZero (s.rd (R.CLE_CTX_LIM_LO n)) &&
    s.fget (F.CLE_CTX_DST_KIND n) == 3 && s.fget (F.CLE_CTX_DST_INDEX n) == 0 && s.fget (F.CLE_CTX_CTRL_SGRP n) == 6

/-- The balance context is configured as R365 states, or not used. -/
def State.lvcBalOk (s : State) : Bool :=
  let n := s.fget F.LVC_CFG_BAL_CTX
  !s.fbit F.LVC_CFG_BAL_USE ||
    (s.fget (F.CLE_CTX_TRIG_SRC n) == 5 && s.fget (F.CLE_CTX_TRIG_SEL n) == s.fget F.LVC_CFG_COMP_CTX &&
      s.fget (F.CLE_CTX_MSEL_SIG n) == 0x147 && s.fbit (F.CLE_CTX_CTRL_ERR_MODE n) &&
      s.fget (F.CLE_CTX_CHAIN_CNT0 n) == 0 && s.fget (F.CLE_CTX_CHAIN_CNT1 n) == 0 &&
      s.fbit (F.CLE_CTX_LIMSEL_LO_MIRROR n) && fIsFinite (s.rd (R.CLE_CTX_LIM_HI n)) &&
      s.fget (F.CLE_CTX_DST_KIND n) == 3 && s.fget (F.CLE_CTX_DST_INDEX n) == 1 && s.fget (F.CLE_CTX_CTRL_SGRP n) == 6)

/-- TG5, TG6 and TG7 are configured as R356 and R362 state. -/
def State.lvcGroupsOk (s : State) : Bool :=
  let t5 := s.period 5
  let t6 := s.period 6
  !s.fbit (F.PWM_GRP_CFG_CARR 5) && decide (16000 ≤ t5) && decide (t5 ≤ 64000) &&
    !s.fbit (F.PWM_GRP_CFG_CARR 6) && s.fget (F.PWM_GRP_CFG_UPD 6) == 0 && decide (12800 ≤ t6) && decide (t6 ≤ 64000) &&
    (decide (s.fget F.LVC_CFG_NPH ≤ 4) ||
      (s.fget (F.PWM_GRP_PER_PER 7) == s.fget (F.PWM_GRP_PER_PER 6) && !s.fbit (F.PWM_GRP_CFG_CARR 7) &&
        s.fget (F.PWM_GRP_CFG_START_MODE 7) == 2 && s.fget (F.PWM_GRP_CFG_SYNC_G 7) == 6 && fIsZero (s.rd (R.PWM_GRP_SYNC_PH 7))))

/-- The least and greatest target of the selected range, V (R370). -/
def State.lvcRange (s : State) : F32 × F32 :=
  if s.fbit F.LVC_CTRL_RANGE then (fOfNat 40, fOfNat 56) else (fOfNat 10, fOfNat 16)

/-- The thresholds of shedding are in order (R370). -/
def State.lvcShedOk (s : State) : Bool :=
  (List.range (s.fget F.LVC_CFG_NPH - 1)).all fun k => fLt (s.rd (R.LVC_SHED_DN k)) (s.rd (R.LVC_SHED_UP k))

/-- The latched fault concerns the LV converter: SMON-B has cut its drivers' supplies (R77, R391). -/
def State.lvcCut (s : State) : Bool := s.inMode .safeHold && s.fbit F.SMB_STAT_CCUT

/-- Why the stage does not start (R370): the reason of LVC_CFG_INVALID; 5 where the payload has no reason for it. -/
def State.lvcRefuse (s : State) : Option Nat :=
  let nph := s.fget F.LVC_CFG_NPH
  let nmin := s.fget F.LVC_CFG_NMIN
  let v := s.rd R.LVC_VSET
  if !modePermits s.seq.mode 5 || s.lvcCut then some 5
  else if !s.lvcGroupsOk then some 2
  else if !s.lvcCompOk || !s.lvcBalOk then some 1
  else if !(fLe s.lvcRange.1 v && fLe v s.lvcRange.2) then some 0
  else if !fLt v (s.rd R.LVC_OV_THR) then some 3
  else if nmin = 0 || nph < nmin || 8 < nph then some 0
  else if !s.lvcShedOk then some 3
  else if [0, 1, 2, 3].any (fun l => s.legLatched 5 l) then some 5
  else if (s.lvcPhases.filter fun p => !s.legLatched (buckLeg p).1 (buckLeg p).2).length < nmin then some 5
  else none

/-- Vdc is below LVC_VIN_MIN (R359). -/
def State.lvcVinLow (s : State) : Bool := fLt s.vdcNow (s.rd R.LVC_VIN_MIN)

/-- A refused enable: LVC_CFG_INVALID, LVC_VIN_LOW, or both (R359, R370). -/
def State.lvcRefused (s : State) (why : Option Nat) : State :=
  let s1 := s.fput F.LVC_CTRL_EN false
  let s2 := match why with
    | some r => if r < 5 then s1.lvcInvalid 0 r else s1.fresh.2.lvcInvalid 0 (s1.fresh.1.toNat % 256)
    | none => s1
  if s.lvcVinLow then s2.raise C.LVC_VIN_LOW 255 { w1 := s.vdcNow } else s2

/-- EN is written from 0 to 1 (R370, R371, step 1; R383). -/
def State.lvcStart (s : State) : State :=
  match s.lvcRefuse with
  | some r => s.lvcRefused (some r)
  | none =>
    if s.lvcVinLow then s.lvcRefused none
    else
      let lost := s.lvcPhases.filter fun p => s.legLatched (buckLeg p).1 (buckLeg p).2
      let s1 := (((s.fput F.LVC_CTRL_EN true).fset F.LVC_STAT_PH_LOST (phaseBits lost)).fset F.LVC_STAT_PH_ACT 0).fset F.LVC_STAT_STATE 1
      let s2 := (s1.fput F.LVC_STAT_RS_USED (s1.fbit F.LVC_CTRL_RS_EN)).fput F.LVC_STAT_RS_OPEN false
      let s3 := ({ s2 with lvc := { t0 := s.time, stepLast := s.lvc.stepLast, hist := s.lvc.hist, ilim := s.lvc.ilim, ilimRep := s.lvc.ilimRep } }).fput F.LVC_STAT_SHED_PEND false
      let s4 := (((s3.setLegShadow 5 0 1 fHalf 0).setLegShadow 5 1 1 fHalf 0).shadowMode 5 2 0).shadowMode 5 3 0
      s4.runSet 5

/-- LVC_DCX_SS has elapsed: the primary is held at PHASE 0.5 and the bus window is checked (R371, step 2). -/
def State.lvcSsEnd (s : State) : State :=
  if s.lvcSt = 1 ∧ s.lvc.window = false ∧ s.past s.lvc.t0 (usTicks (s.fget F.LVC_DCX_SS_US)) then
    let s1 := s.shadowWrite 5 5 fHalf
    { s1 with lvc := { s1.lvc with window := true, t0 := s.time, busOk := none } }
  else s

/-- LVC_DCX_SS_END (R371). -/
def execLvcDcxSsEnd (s : State) : Host.Outcome State Fault Refusal := .next s.lvcSsEnd

/-- The preload of the compensation context: its divisor (R371, step 3). -/
def State.lvcGain (s : State) : F32 :=
  let n := s.fget F.LVC_CFG_COMP_CTX
  let ch := s.chainAct n
  fMul (s.rd (R.CLE_CTX_GAIN n)) (b0Product (s.sections (ch.1 + 1) (ch.2 - 1)))

/-- The rectifiers enter COMP and the buck starts (R371, steps 2 and 3). -/
def State.lvcSrOn (s : State) : State :=
  let held := match s.lvc.busOk with
    | some t => s.past t (msTicks 1)
    | none => false
  if s.lvcSt = 1 ∧ s.lvc.window = true ∧ held = true then
    if fIsZero s.lvcGain then (s.lvcInvalid 0 4).lvcFaultStop 2 C.LVC_CFG_INVALID.code
    else
      let n := s.fget F.LVC_CFG_COMP_CTX
      let ph := s.rd R.LVC_SRPH
      let s1 := (s.setLegShadow 5 2 1 fHalf ph).setLegShadow 5 3 1 fHalf (fAdd ph fHalf)
      let s2 := (s1.zeroStates n 0 8).wr (R.CLE_CTX_S1 n 0) (fDiv (s1.sget 0x140) s1.lvcGain)
      let s3 := { s2 with lvc := { s2.lvc with trims := [], vc := s1.sget 0x140, turn := 0, t0 := s.time } }
      let s4 := (s3.ctxEnable n).1
      let s5 := if s4.fbit F.LVC_CFG_BAL_USE then (s4.ctxEnable (s4.fget F.LVC_CFG_BAL_CTX)).1 else s4
      let s6 := s5.fset F.LVC_STAT_STATE 2
      let s7 := (s6.lvcModes 2 s6.lvcAvail).lvcDuties
      let s8 := s7.runSet 6
      if 4 < s8.fget F.LVC_CFG_NPH then s8.runSet 7 else s8
  else s

/-- LVC_DCX_SR_ON (R371). -/
def execLvcDcxSrOn (s : State) : Host.Outcome State Fault Refusal := .next s.lvcSrOn

/-- The bus was not in its window in time (R371, step 2). -/
def State.lvcStartFail (s : State) : State :=
  if s.lvcSt = 1 ∧ s.lvc.window = true ∧ s.past s.lvc.t0 (msTicks 5) then
    (s.raise C.LVC_DCX_START_FAIL 255 { w1 := s.sget 0x143 }).lvcFaultStop 2 C.LVC_DCX_START_FAIL.code
  else s

/-- LVC_DCX_START_FAIL (R371). -/
def execLvcDcxStartFail (s : State) : Host.Outcome State Fault Refusal := .next s.lvcStartFail

/-- The ramp is done: every phase that is not lost enters COMP at the next update event (R371, step 4). -/
def State.lvcRunEntry (s : State) : State :=
  if s.lvcSt = 2 ∧ s.lvc.rampDone = true then
    let s1 := s.fset F.LVC_STAT_STATE 3
    let s2 := (s1.lvcModes 1 s1.lvcAvail).lvcSetActive s1.lvcAvail
    { s2 with lvc := { s2.lvc with turn := s1.lvcAvail.headD 0, t0 := s.time, hold := s.time } }
  else s

/-- LVC_RUN_ENTRY (R371). -/
def execLvcRunEntry (s : State) : Host.Outcome State Fault Refusal := .next s.lvcRunEntry

/-! ### Delivered inputs and update events -/

/-- A delivery to LVC input `i`: 0 v_c, 1 a trim (R360, R366). -/
def State.lvcInput (s : State) (i : Nat) (v : F32) : State :=
  if i = 0 then ({ s with lvc.vc := v }).lvcDuties
  else
    let p := s.lvc.turn
    let act := s.lvcActive
    let next := (act.find? fun q => decide (p < q)).getD (act.headD 0)
    ({ s with lvc.trims := SMap.set (fun _ => 0) s.lvc.trims p v, lvc.turn := next }).lvcDuties

/-- The update event of TG5 in the soft start: leg 1's phase takes its next increment, the same for every event of LVC_DCX_SS (R371, step 1). -/
def State.lvcUpdate5 (s : State) : State :=
  if s.lvcSt = 1 ∧ s.lvc.window = false then
    let n := s.lvc.ss + 1
    let perPeriod := if s.fget (F.PWM_GRP_CFG_UPD 5) = 2 then 2 else 1
    ({ s with lvc.ss := n }).shadowWrite 5 5 (fMin fHalf (fOfRatio (n * s.period 5) (2 * perPeriod * 6400 * s.fget F.LVC_DCX_SS_US)))
  else s

/-- The update event of TG6: the next eighth of a shed, or the stop ramp (R372, R375). -/
def State.lvcUpdate6 (s : State) : State :=
  if s.lvcSt = 4 then s.lvcDuties
  else if s.fbit F.LVC_STAT_SHED_PEND then
    let p := s.fget F.LVC_STAT_SHED_PH
    let j := s.lvc.shedJ + 1
    let s1 := { s with lvc.shedJ := j }
    let rest := s1.lvcActive.filter fun q => q != p
    if j < 7 then s1.lvcWriteDuty p
    else if j = 7 then (s1.lvcModes 0 [p]).lvcRephase rest
    else (s1.lvcShedEnd.lvcSetActive rest).lvcShedReport (rest.length + 1) rest.length
  else s

/-- The number of N's threshold in a register array from index `base`. -/
def State.lvcThr (s : State) (up : Bool) (n : Nat) : F32 :=
  if up then s.rd (R.LVC_SHED_UP (n - 1)) else s.rd (R.LVC_SHED_DN (n - 2))

/-- The shed decision (R375). -/
def State.lvcShedGo (s : State) : State :=
  let act := s.lvcActive
  let h := msTicks (s.fget F.LVC_SHED_HOLD_MS)
  let held := match s.lvc.low with
    | some t => s.past t h
    | none => false
  if s.fbit F.LVC_CTRL_SHED_EN && decide (s.lvcSt = 3) && !s.fbit F.LVC_STAT_SHED_PEND && decide (s.fget F.LVC_CFG_NMIN < act.length) &&
      held && s.past s.lvc.hold h then
    let p := act.getLastD 0
    let s1 := (({ s with lvc.shedJ := 0 }).fput F.LVC_STAT_SHED_PEND true).fset F.LVC_STAT_SHED_PH p
    (s1.lvcModes 2 [p]).lvcWriteDuty p
  else s

/-- LVC_SHED (R375). -/
def execLvcShed (s : State) : Host.Outcome State Fault Refusal := .next s.lvcShedGo

/-! ### Losing a phase (R380, R387 to R389) -/

/-- Phase `p` is lost: it leaves the active set, and the stage stops where too few are left. -/
def State.lvcLose (s : State) (p : Nat) (why : BitVec 16) : State :=
  let s1 := if s.fbit F.LVC_STAT_SHED_PEND && decide (s.fget F.LVC_STAT_SHED_PH = p) then s.lvcShedEnd else s
  let s2 := s1.rput R.LVC_STAT (24 + p) true
  let s3 := (s2.lvcModes 0 [p]).lvcSetActive (s2.lvcActive.filter fun q => q != p)
  if s3.lvcOn && decide (s3.lvcAvail.length < s3.fget F.LVC_CFG_NMIN) then s3.lvcFaultStop 2 why else s3

/-- A leg of TG5 to TG7 has latched with `code` (R388). -/
def State.lvcLeg (s : State) (g l : Nat) (code : BitVec 16) : State :=
  if g = 5 then s.lvcFaultStop 2 code
  else
    let p := if g = 6 then l else l + 4
    let s1 := s.rput R.LVC_STAT (24 + p) true
    (s1.raise C.LVC_PHASE_LOST p { w0 := bytes4 s1.lvcAvail.length code.toNat (code.toNat / 256) 0 }).lvcLose p C.LVC_PHASE_LOST.code

/-! ### The LVC sequence (R353 to R358, R376 to R390) -/

/-- Publish the signals of a completion (R354). -/
def State.lvcSignals (s : State) : State :=
  let vl := s.sget (s.fget F.LVC_SEL_VLOC_SIG)
  let vr := fSub (s.sget (s.fget F.LVC_RS_SEL_P_AIN)) (s.sget (s.fget F.LVC_RS_SEL_N_AIN))
  let vb := s.sget (s.fget F.LVC_SEL_VBUS_SIG)
  let fb := if s.fbit F.LVC_STAT_RS_USED then vr else vl
  let cur (p : Nat) := s.sget (s.fget (F.LVC_PH_ISEL_SIG p))
  let io := (s.lvcPhases.filter fun p => !s.phLost p).foldl (fun a p => fAdd a (cur p)) 0
  let m := fAdd (fAdd fb (fMul s.lvcRll io)) (fMul (s.rd R.LVC_RCL) (fMax 0 (fSub io s.lvcIlimit)))
  let act := s.lvcActive
  let s1 := ((((s.sput 0x140 fb).sput 0x141 vl).sput 0x142 vr).sput 0x143 vb).sput 0x144 io
  let s2 := ((s1.sput 0x145 m).sput 0x146 (fMul (s.rd R.LVC_DMAX) vb)).sput 0x148 (s.rd R.LVC_VSET)
  if act.length = 0 then s2
  else s2.sput 0x147 (fSub (fDiv (act.foldl (fun a p => fAdd a (cur p)) 0) (fOfNat act.length)) (cur s.lvc.turn))

/-- Vdc over the ratio, and whether the bus lies in its window (R358). -/
def State.lvcBusIn (s : State) : Bool :=
  let e := fDiv s.vdcNow (s.rd R.LVC_DCX_RATIO)
  fLe (fAbs (fSub (s.sget 0x143) e)) (fMul (s.rd R.LVC_BUS_TOL) e)

/-- The time since which a condition has been seen. -/
def sinceIf (old : Option Nat) (c : Bool) (t : Nat) : Option Nat :=
  if c then some (old.getD t) else none

/-- The bus window at a completion: its time in the window during the start, and the fault after 10 completions out of it (R358,
R371). -/
def State.lvcBusCheck (s : State) : State :=
  let ok := s.lvcBusIn
  let run := s.lvcSt = 2 ∨ s.lvcSt = 3 ∨ s.lvcSt = 4
  let s1 := { s with lvc := { s.lvc with
    busOk := if s.lvcSt = 1 ∧ s.lvc.window = true then sinceIf s.lvc.busOk ok s.time else s.lvc.busOk
    busBad := if run ∧ ok = false then s.lvc.busBad + 1 else 0
    vin := if s.lvcOn then sinceIf s.lvc.vin (fLt s.vdcNow (s.rd R.LVC_VIN_MIN)) s.time else none } }
  if 10 ≤ s1.lvc.busBad then
    (s1.raise C.LVC_BUS_FAULT 255 { w1 := s.sget 0x143, w2 := s.vdcNow }).lvcFaultStop 2 C.LVC_BUS_FAULT.code
  else s1

/-- The over-voltage check at a completion: the second in a row (R385). -/
def State.lvcOvCheck (s : State) : State :=
  let n := if fLt (s.rd R.LVC_OV_THR) (s.sget 0x141) then satAdd s.lvc.ov 1 3 else 0
  let s1 := { s with lvc.ov := n }
  if n = 2 then (s1.raise C.LVC_OUT_OV 255 { w1 := s.sget 0x141 }).lvcFaultStop 2 C.LVC_OUT_OV.code else s1

/-- The fallback to local sense, from the completion after the fourth bad one (R383). -/
def State.lvcFall (s : State) : State :=
  if s.lvc.rsFall then (({ s with lvc.rsFall := false }.fput F.LVC_STAT_RS_USED false).count 0x145 1).fput F.LVC_STAT_RS_OPEN true else s

/-- Remote sense against local sense (R383, R384). -/
def State.lvcSense (s : State) : State :=
  let far := fLt (s.rd R.LVC_RS_WIN) (fAbs (fSub (s.sget 0x142) (s.sget 0x141)))
  let p : Payload := { w1 := s.sget 0x142, w2 := s.sget 0x141 }
  if s.lvc.retry then
    let s1 := { s with lvc.retry := false, lvc.rsBad := 0 }
    if far then s1.raise C.LVC_RS_OPEN 255 p else (s1.fput F.LVC_STAT_RS_USED true).fput F.LVC_STAT_RS_OPEN false
  else if s.fbit F.LVC_STAT_RS_USED then
    let n := if far then s.lvc.rsBad + 1 else 0
    let s1 := { s with lvc.rsBad := n }
    if 4 ≤ n then { s1 with lvc.rsBad := 0, lvc.rsFall := true }.raise C.LVC_RS_OPEN 255 p else s1
  else s

/-- The overcurrent check of one active phase (R387). -/
def State.lvcPhaseOc (s : State) (p : Nat) : State :=
  let i := s.sget (s.fget (F.LVC_PH_ISEL_SIG p))
  let n := if s.phAct p && fLt (s.rd R.LVC_PH_OC) (fAbs i) then SMap.get (fun _ => 0) s.lvc.oc p + 1 else 0
  let s1 := { s with lvc.oc := SMap.set (fun _ => 0) s.lvc.oc p (if 2 ≤ n then 0 else n) }
  if 2 ≤ n then (s1.raise C.LVC_PHASE_OC p { w1 := i }).lvcLose p C.LVC_PHASE_OC.code else s1

/-- The limit and undervoltage conditions of a completion (R386, R390). -/
def State.lvcLevels (s : State) : State :=
  let above := fLt s.lvcIlimit (s.sget 0x144)
  let under := decide (s.lvcSt = 3) && fLt (s.sget 0x140) (s.rd R.LVC_UV_THR)
  let s1 := s.fput F.LVC_STAT_ILIM above
  { s1 with lvc := { s1.lvc with
    ilim := sinceIf s.lvc.ilim above s.time
    ilimRep := s.lvc.ilimRep && above
    uv := sinceIf s.lvc.uv under s.time
    uvRep := s.lvc.uvRep && under } }

/-- A load step at this completion: 0 by voltage, 1 by current (R377). -/
def State.lvcIsStep (s : State) : Option Nat :=
  let io := s.sget 0x144
  let r := (s.ctx (s.fget F.LVC_CFG_COMP_CTX)).r
  let byV := fLt (s.sget 0x140) (fSub (fSub r (fMul s.lvcRll io)) (s.rd R.LVC_STEP_DV))
  let byI := decide (8 ≤ s.lvc.hist.length) && fLt (s.rd R.LVC_STEP_DI) (fSub io (nth 0 s.lvc.hist 7))
  if byV then some 0 else if byI then some 1 else none

/-- The reaction to a load step (R378). -/
def State.lvcLoadStep (s : State) (why : Nat) : State :=
  let io := s.sget 0x144
  let was := s.fbit F.LVC_STAT_SHED_PEND
  let av := s.lvcAvail
  let s1 := s.lvcShedEnd.count 0x141 1
  let s2 := (s1.lvcModes 1 av).lvcSetActive av
  let s3 := if was then s2.lvcRephase av else s2
  let s4 := ({ s3 with lvc.hold := s.time, lvc.low := none, lvc.adds := 0 }.fput F.LVC_STAT_HOLD true).lvcDuties
  if s.lvc.stepLast = 0 || s.past (s.lvc.stepLast - 1) (msTicks (s.fget F.LVC_SHED_HOLD_MS)) then
    { s4 with lvc.stepLast := s.time + 1 }.raise C.LVC_LOAD_STEP 255 { w0 := bytes4 why (b2n was) 0 0, w1 := io }
  else s4

/-- Adding a phase and the time of low current (R375, R376). -/
def State.lvcCount (s : State) : State :=
  let io := s.sget 0x144
  let act := s.lvcActive
  let n := act.length
  let low := sinceIf s.lvc.low (decide (2 ≤ n) && fLt io (s.lvcThr false n)) s.time
  let adds := if n ≠ 0 ∧ n < s.lvcAvail.length ∧ fLt (s.lvcThr true n) io = true then s.lvc.adds + 1 else 0
  let s1 := { s with lvc := { s.lvc with low := low, adds := adds } }
  if 4 ≤ adds then
    match s1.lvcAvail.find? fun p => !s1.phAct p with
    | none => s1
    | some p =>
      let new := s1.lvcPhases.filter fun q => q == p || s1.phAct q
      ((((s1.lvcModes 1 [p]).lvcSetActive new).lvcWriteDuty p)).lvcShedReport n (n + 1)
  else s1

/-- Everything the LVC does at a completion of its sequence, in the order its rules give (R379: stop, load step, count). -/
def State.lvcComplete (s : State) : State :=
  let s1 := (s.lvcFall.lvcSignals.lvcSense.lvcBusCheck.lvcOvCheck).count 0x140 1
  let s2 := (s1.lvcPhases.foldl State.lvcPhaseOc s1).lvcLevels
  let s3 := if s2.lvcSt = 3 then
      match s2.lvcIsStep with
      | some w => s2.lvcLoadStep w
      | none => s2.lvcCount
    else s2
  let s4 := s3.fput F.LVC_STAT_HOLD (decide (s3.lvcSt = 3) && !s3.past s3.lvc.hold (msTicks (s3.fget F.LVC_SHED_HOLD_MS)))
  { s4 with lvc.hist := (s4.sget 0x144 :: s4.lvc.hist).take 8 }

/-- A run of context `n` has committed: the time the compensation context has saturated high (R367), and its ramp's end in the soft start
(R371, step 3). -/
def State.lvcCommit (s : State) (n : Nat) : State :=
  if s.fget F.LVC_CFG_COMP_CTX = n then
    let sat := s.fbit (F.CLE_CTX_STAT_SAT_HI n)
    let done := s.lvc.rampDone || (decide (s.lvcSt = 2) && s.fbit (F.CLE_CTX_STAT_RAMP_DONE n))
    let s1 := { s with lvc := { s.lvc with head := sinceIf s.lvc.head sat s.time, headRep := s.lvc.headRep && sat, rampDone := done } }
    if sat then s1 else s1.fput F.LVC_STAT_HEADROOM false
  else s

/-- A condition has lasted for `n` ticks. -/
def State.lasted (s : State) (since : Option Nat) (n : Nat) : Bool :=
  match since with
  | some t => s.past t n
  | none => false

/-- LVC_VIN_LOW (R359). -/
def execLvcVinLow (s : State) : Host.Outcome State Fault Refusal :=
  .next (if s.lvcOn && s.lasted s.lvc.vin (msTicks 1) then
    (s.raise C.LVC_VIN_LOW 255 { w1 := s.vdcNow }).lvcFaultStop 2 C.LVC_VIN_LOW.code else s)

/-- LVC_OUT_UV (R386). -/
def execLvcOutUv (s : State) : Host.Outcome State Fault Refusal :=
  .next (if s.lasted s.lvc.uv (msTicks 1) && !s.lvc.uvRep then
    ({ s with lvc.uvRep := true }).raise C.LVC_OUT_UV 255 { w1 := s.sget 0x140 } else s)

/-- LVC_HEADROOM (R367). -/
def execLvcHeadroom (s : State) : Host.Outcome State Fault Refusal :=
  .next (if s.lasted s.lvc.head (msTicks 1) && !s.lvc.headRep then
    (({ s with lvc.headRep := true }).fput F.LVC_STAT_HEADROOM true).raise C.LVC_HEADROOM 255 { w1 := s.sget 0x143 } else s)

/-- LVC_ILIM (R390). -/
def execLvcIlim (s : State) : Host.Outcome State Fault Refusal :=
  .next (if s.lasted s.lvc.ilim (msTicks 10) && !s.lvc.ilimRep then
    ({ s with lvc.ilimRep := true }).raise C.LVC_ILIM 255 { w1 := s.sget 0x144, w2 := s.lvcIlimit } else s)

/-- LVC_CTRL is written (R369, R370, R372, R384): RANGE is locked while EN = 1. -/
def State.lvcCtrlWrite (s : State) (v : Word) : State :=
  let old := s.rd R.LVC_CTRL
  let en := v.getLsbD 0
  let range := if old.getLsbD 0 then old.getLsbD 1 else v.getLsbD 1
  let s1 := s.wr R.LVC_CTRL (w32 (b2n (old.getLsbD 0) + 2 * b2n range + 4 * b2n (v.getLsbD 2) + 16 * b2n (v.getLsbD 4)))
  let s2 := if v.getLsbD 3 then { s1 with lvc.retry := true } else s1
  if en && !old.getLsbD 0 then s2.lvcStart
  else if !en && old.getLsbD 0 then (s2.fput F.LVC_CTRL_EN false).lvcStop 0
  else s2

end Sys2Proof.Machine
end

