-- ==== Sys2Proof/Machine/Chg.lean ====
section
/-! DEFINITION. The on-board charger (R393 to R420): grid quantities, converter voltages, dual active bridge, pilot and proximity, start, stop and protection. -/

namespace Sys2Proof.Machine

/-- CHG_STAT.STATE: 0 OFF, 1 WAIT_GRID, 2 FE_START, 3 DAB_START, 4 RUNNING, 5 STOPPING, 6 FAULTED. -/
def State.chgSt (s : State) : Nat := s.fget F.CHG_STAT_STATE

/-- The charger starts, runs or stops. -/
def State.chgOn (s : State) : Bool := decide (1 ≤ s.chgSt) && decide (s.chgSt ≤ 5)

/-- The arrangement is grid-forming. -/
def State.chgForms (s : State) : Bool := s.fbit F.CHG_CFG_FE_MODE

/-- The grid is single-phase. -/
def State.chgSingle (s : State) : Bool := s.fbit F.CHG_CFG_GRID

/-- Enter a step. -/
def State.chgStep (s : State) (st : Nat) : State := ({ s with chg.t0 := s.time }).fset F.CHG_STAT_STATE st

/-- Report an invalid write or refused enable. -/
def State.chgInvalid (s : State) (off reason : Nat) : State :=
  s.raise C.CHG_CFG_INVALID 255 { w0 := bytes4 off (off / 256) reason 0 }

/-- ω_nom = 2π × CHG_FNOM (R393). -/
def State.chgNom (s : State) : F32 := fMul fTwoPi (s.rd R.CHG_FNOM)

/-- The factor c of P_grid (R393). -/
def State.chgC (s : State) : F32 := if s.chgSingle then fHalf else 0x3FC00000

/-- Î_lim (R393). -/
def State.chgPeakLim (s : State) : F32 := fMul fSqrt2 (s.sget 0x161)

/-- θ_g in rad, in [0, 2π) (R393). -/
def State.chgAngle (s : State) : F32 := angleOf s.chg.th.toNat (2 ^ 64)

/-- 2.5 ns / 2π: turns per rad/s and control cycle. -/
def fTurnCycle : F32 := 0x2FDABDAB

/-- Advance θ_g by one control cycle (R397). -/
def State.chgAdvance (s : State) : State :=
  let w := if s.chgForms then s.chgNom else s.chg.w
  let d := fMagScaled (fMul (fAbs w) fTurnCycle) 64
  { s with chg.th := if fSign w then s.chg.th - BitVec.ofNat 64 d else s.chg.th + BitVec.ofNat 64 d }

/-! ### Roles (R395) -/

/-- The role contexts. -/
def State.chgBus (s : State) : Nat := s.fget F.CHG_CTX0_BUS
/-- PLL. -/
def State.chgPll (s : State) : Nat := s.fget F.CHG_CTX0_PLL
/-- CUR_D. -/
def State.chgCurD (s : State) : Nat := s.fget F.CHG_CTX0_CUR_D
/-- CUR_Q. -/
def State.chgCurQ (s : State) : Nat := s.fget F.CHG_CTX0_CUR_Q
/-- VD. -/
def State.chgVd (s : State) : Nat := s.fget F.CHG_CTX1_VD
/-- VQ. -/
def State.chgVq (s : State) : Nat := s.fget F.CHG_CTX1_VQ
/-- PWR. -/
def State.chgPwr (s : State) : Nat := s.fget F.CHG_CTX1_PWR
/-- BAT. -/
def State.chgBat (s : State) : Nat := s.fget F.CHG_CTX1_BAT

/-- Trigger, measured value, suspension group and destination of a role context. -/
def State.roleBase (s : State) (n src sel meas sgrp kind idx : Nat) : Bool :=
  s.fget (F.CLE_CTX_TRIG_SRC n) == src && s.fget (F.CLE_CTX_TRIG_SEL n) == sel && s.fget (F.CLE_CTX_MSEL_SIG n) == meas &&
    s.fget (F.CLE_CTX_CTRL_SGRP n) == sgrp && s.fget (F.CLE_CTX_DST_KIND n) == kind &&
    (kind == 0 || s.fget (F.CLE_CTX_DST_INDEX n) == idx) && s.fbit (F.CLE_CTX_CTRL_ZERO_ON_EN n)

/-- The set-point is signal `sig`, and ERR_MODE = 0. -/
def State.roleSp (s : State) (n sig : Nat) : Bool :=
  !s.fbit (F.CLE_CTX_CTRL_ERR_MODE n) && s.fbit (F.CLE_CTX_SSEL_SRC n) && s.fget (F.CLE_CTX_SSEL_SIG n) == sig

/-- The set-point is CLE_CTX_SETP, and ERR_MODE = 0. -/
def State.roleSetp (s : State) (n : Nat) : Bool := !s.fbit (F.CLE_CTX_CTRL_ERR_MODE n) && !s.fbit (F.CLE_CTX_SSEL_SRC n)

/-- RAMP_EN = 1 with a finite rate, or RAMP_EN = 0. -/
def State.roleRamp (s : State) (n : Nat) (on : Bool) : Bool :=
  if on then s.fbit (F.CLE_CTX_CTRL_RAMP_EN n) && fIsFinite (s.rd (R.CLE_CTX_RAMP_RATE n)) else !s.fbit (F.CLE_CTX_CTRL_RAMP_EN n)

/-- An integrating section at position 0. -/
def State.roleInt (s : State) (n : Nat) : Bool :=
  let ch := s.chainAct n
  ch.2 != 0 && (s.section ch.1).integ

/-- LO_MIRROR = 1 with a finite LIM_HI. -/
def State.roleMirror (s : State) (n : Nat) : Bool := s.fbit (F.CLE_CTX_LIMSEL_LO_MIRROR n) && fIsFinite (s.rd (R.CLE_CTX_LIM_HI n))

/-- The roles the present arrangement uses match R395; else the offset of the register that names the first that does not. -/
def State.chgRoleBad (s : State) : Option Nat :=
  let f := s.fget F.CHG_CFG_FSEQ
  let d := s.fget F.CHG_CFG_DSEQ
  let fm := s.chgForms
  let cd := s.chgCurD
  let cq := s.chgCurQ
  let curD := s.roleBase cd 2 f 0x150 3 3 0x010 && s.roleSp cd (0x180 + (if fm then s.chgVd else s.chgBus)) && s.roleRamp cd false && s.roleInt cd
  let curQ := s.roleBase cq 2 f 0x151 3 3 0x011 && s.roleSp cq (if fm then 0x180 + s.chgVq else 0x15A) && s.roleRamp cq false && s.roleInt cq
  let p := s.chgPll
  let pll := s.roleBase p 2 f 0x153 3 3 0x012 && s.fbit (F.CLE_CTX_CTRL_ERR_MODE p) && s.fget (F.CLE_CTX_FFSEL_MODE p) == 2 &&
    s.fget (F.CLE_CTX_FFSEL_SIG p) == 0x15B && s.roleRamp p false && s.roleInt p
  let b := s.chgBus
  let bus := s.roleBase b 5 cd 0x155 3 0 0 && s.roleSetp b && s.roleRamp b true && s.roleMirror b
  let v := s.chgVd
  let vd := s.roleBase v 5 cd 0x152 3 0 0 && s.roleSp v 0x15F && s.roleRamp v false && s.roleMirror v
  let w := s.chgVq
  let vq := s.roleBase w 5 cd 0x153 3 0 0 && s.roleSetp w && fIsZero (s.rd (R.CLE_CTX_SETP w)) && s.roleRamp w false && s.roleMirror w
  let q := s.chgPwr
  let pwr := s.roleBase q 2 d 0x158 4 3 0x013 && s.roleSp q 0x159 && s.roleRamp q false
  let a := s.chgBat
  let bat := s.roleBase a 5 q 0x156 4 0 0 && s.roleSp a 0x15C && s.roleRamp a true && s.roleInt a &&
    s.fbit (F.CLE_CTX_LIMSEL_HI_SIG_EN a) && s.fget (F.CLE_CTX_LIMSEL_HI_SIG a) == 0x15D && s.fbit (F.CLE_CTX_LIMSEL_LO_SIG_EN a) &&
    s.fget (F.CLE_CTX_LIMSEL_LO_SIG a) == 0x15E && !s.fbit (F.CLE_CTX_LIMSEL_LO_MIRROR a)
  if !(curD && curQ && (fm || pll) && bus) then some 0x20
  else if !((!fm || (vd && vq)) && pwr && (fm || bat)) then some 0x24
  else none

/-! ### Pilot, proximity, current limit (R401 to R404) -/

/-- A 16-bit two's complement number. -/
def int16 (b : BitVec 16) : Int := b.toInt

/-- CHG_PILOT.STATE of a plateau or DC level in mV (R401): 6 where no row names it. -/
def pilotLevel (h : Int) : Nat :=
  if 10500 ≤ h then 0
  else if 7500 ≤ h then 1
  else if 4500 ≤ h then 2
  else if 1500 ≤ h then 3
  else if -1500 ≤ h then 4
  else 6

/-- CHG_PILOT.STATE of a measurement (R401), from its newest period or level. -/
def pilotState : PilotMeas → Nat
  | .pulses _ _ p =>
    let per := p.per.toNat
    if decide (-10500 < int16 p.low) || decide (800000000 < per * 980) || decide (per * 1020 < 800000000) then 6 else pilotLevel (int16 p.high)
  | .quiet _ _ h => if int16 h ≤ -10500 then 5 else pilotLevel (int16 h)

/-- The pilot limit in A and CHG_PILOT.ILIM of a duty of `n` / `d` (R402). -/
def dutyLimit (n d : Nat) : F32 × Nat :=
  if d = 0 then (0, 0xFF)
  else if 100 * n < 3 * d then (0, 0xFF)
  else if 100 * n < 7 * d then (fInf false, 0xFE)
  else if 100 * n < 8 * d then (0, 0xFF)
  else if 100 * n < 10 * d then (fOfNat 6, 6)
  else if 100 * n < 85 * d then (fOfRatio (60 * n) d, 60 * n / d)
  else if 100 * n < 96 * d then (fOfRatio (250 * n - 160 * d) d, (250 * n - 160 * d) / d)
  else if 100 * n < 97 * d then (fOfNat 80, 80)
  else (0, 0xFF)

/-- The pilot limit and ILIM of a measurement (R402); with PWM = 0, no current. -/
def pilotLimit : PilotMeas → F32 × Nat
  | .pulses _ _ p => dutyLimit p.on.toNat p.per.toNat
  | .quiet _ _ _ => (0, 0xFF)

/-- CHG_PILOT.DUTY of a measurement: in 0.1 %, to the nearest. -/
def pilotDuty : PilotMeas → Nat
  | .pulses _ _ p => if p.per = 0 then 0 else (2000 * p.on.toNat + p.per.toNat) / (2 * p.per.toNat)
  | .quiet _ _ _ => 0

/-- The pilot oscillates. -/
def pilotOn : PilotMeas → Bool
  | .pulses _ _ _ => true
  | .quiet _ _ _ => false

/-- Two levels lie within 0.3 V of each other (R401). -/
def nearLevel (x y : BitVec 16) : Bool := decide (int16 x - int16 y ≤ 300) && decide (int16 y - int16 x ≤ 300)

/-- Two periods agree within 0.3 V on both plateaus and 0.5 % in duty (R401). -/
def pulseNear (p q : PilotPulse) : Bool :=
  let x := 200 * (p.on.toNat * q.per.toNat)
  let y := 200 * (q.on.toNat * p.per.toNat)
  let m := p.per.toNat * q.per.toNat
  nearLevel p.high q.high && nearLevel p.low q.low && decide (x ≤ y + m) && decide (y ≤ x + m)

/-- Every two of the three periods, or of the three milliseconds without edges, agree (R401). DESIGN CHOICE: log entry 157. -/
def pilotAgrees : PilotMeas → Bool
  | .pulses a b c => pulseNear a b && pulseNear b c && pulseNear a c
  | .quiet a b c => nearLevel a b && nearLevel b c && nearLevel a c

/-- The grid limit asked for, and its source: 0 host, 1 pilot, 2 cable (R402). -/
def State.chgLimitAsked (s : State) : F32 × Nat :=
  let c := fOfNat (s.fget F.CHG_PP_CAP)
  let h := s.rd R.CHG_HOST_ILIM
  let m := fMin s.chg.pilot c
  if fLt h m then (h, 0) else if fLe s.chg.pilot c then (s.chg.pilot, 1) else (c, 2)

/-- 1.25 ns as binary32. -/
def fTick : F32 := 0x30ABCC77

/-- Step I_lim: down at once, up at no more than CHG_ILIM_RATE (R402). -/
def State.chgLimit (s : State) : State :=
  let t := s.chgLimitAsked.1
  let cur := s.sget 0x161
  let up := fAdd cur (fMul (s.rd R.CHG_ILIM_RATE) (fMul fTick (fOfNat (s.time - s.chg.limAt))))
  ({ s with chg.limAt := s.time }).sput 0x161 (if fLe t cur then t else fMin t up)

/-! ### Stops (R414 to R417) -/

/-- Disable contexts. -/
def State.ctxsOff (s : State) : List Nat → State
  | [] => s
  | n :: t => (s.ctxDisable n).ctxsOff t

/-- The front-end roles of the present arrangement (R395). -/
def State.chgFrontRoles (s : State) : List Nat :=
  [s.chgCurD, s.chgCurQ, s.chgBus] ++ (if s.chgForms then [s.chgVd, s.chgVq] else [s.chgPll])

/-- The DAB roles of the present arrangement (R395). -/
def State.chgDabRoles (s : State) : List Nat := s.chgPwr :: (if s.chgForms then [] else [s.chgBat])

/-- The grid side binds at the DAB: its power limit lies below CHG_PMAX (R405). -/
def State.chgGridBinds (s : State) : Bool :=
  !s.chgForms && fLt (fMul (fMul (fMul s.chgC (s.sget 0x152)) s.chgPeakLim) (s.rd R.CHG_ETA)) (s.rd R.CHG_PMAX)

/-- CHG_STAT.LIM_SRC: the binding limit. -/
def State.chgLimSrc (s : State) : Nat := if s.chgSt = 5 then 3 else if s.chgGridBinds then s.chgLimitAsked.2 else 0

/-- Stop both stages, open S2, disable the roles and report, with P_batt as it stood at the decision. -/
def State.chgHalt (s : State) (st cause : Nat) (why : BitVec 16) (pBatt : F32) : State :=
  let s1 := ((s.runClear 3).runClear 4).ctxsOff (s.chgFrontRoles ++ s.chgDabRoles)
  let s2 := (s1.fput F.CHG_STAT_S2 false).fset F.CHG_STAT_STATE st
  let s3 := s2.fset F.CHG_STAT_LIM_SRC s2.chgLimSrc
  ({ s3 with chg := { s3.chg with vg := none, fr := none, dabOff := false } }).raise C.CHG_STOPPED 255
    { w0 := bytes4 cause why.toNat (why.toNat / 256) 0, w1 := pBatt }

/-- A fault stop (R415, R417). Of an orderly stop before RUNNING in the same control cycle only the fault stop is performed: its record
replaces the other's. -/
def State.chgFaultStop (s : State) (cause : Nat) (why : BitVec 16) : State :=
  if s.chgOn then s.chgHalt 6 cause why (s.sget 0x158)
  else if s.chgSt = 0 ∧ s.chg.halted = s.cyc + 1 then
    ({ s with jrn.waiting := s.jrn.waiting.filter fun r => !(r.code == C.CHG_STOPPED.code && r.raised == s.cyc) }).chgHalt 6 cause why (s.sget 0x158)
  else s

/-- A stop is due: orderly in RUNNING, at once before (R414, R416). -/
def State.chgStop (s : State) (cause : Nat) : State :=
  if s.chgSt = 4 then
    let s1 := (s.chgStep 5).fset F.CHG_STAT_LIM_SRC 3
    { s1 with chg := { s1.chg with cause := cause, vl0 := s.sget 0x15F, pBatt := s.sget 0x158, dabOff := false } }
  else if s.chgOn && decide (s.chgSt ≠ 5) then
    let s1 := s.chgHalt 0 cause 0 (s.sget 0x158)
    { s1 with chg := { s1.chg with halted := s.cyc + 1 } }
  else s

/-- The stop ramp ends: TG4 stops, BAT and PWR are disabled (R414, step 2). -/
def State.chgRampEnd (s : State) : State :=
  if s.chgSt = 5 ∧ s.chg.dabOff = false ∧ s.past s.chg.t0 (usTicks (s.fget F.CHG_STOP_T_US)) then
    let s1 := (s.runClear 4).ctxsOff s.chgDabRoles
    { s1 with chg := { s1.chg with dabOff := true } }
  else s

/-- An update event of TG3 after the end of the ramp: TG3 stops, the front-end roles are disabled, S2 opens (R414, steps 2 and 3). -/
def State.chgUpdate3 (s : State) : State := if s.chgSt = 5 ∧ s.chg.dabOff = true then s.chgHalt 0 s.chg.cause 0 s.chg.pBatt else s

/-- The end of the stop ramp and the update event of TG3 that follows it (R414, steps 2 and 3). -/
def State.chgStopDone (s : State) : State := s.chgRampEnd.chgUpdate3

/-- CHG_STOP_DONE (R414). -/
def execChgStopDone (s : State) : Host.Outcome State Fault Refusal := .next s.chgStopDone

/-- The mode has changed: off outside CHARGE (R415, R420). -/
def State.chgMode (s : State) : State := if s.inMode .charge then s else s.chgFaultStop 1 0

/-- Settle I_lim, change what bounds it, and lower it at once where it must fall (R402). -/
def State.chgRelimit (s : State) (f : State → State) : State := (f s.chgLimit).chgLimit

/-- A new pilot measurement (R401, R402, R410, R414, R415): PWM follows the edges; STATE, DUTY, ILIM and DIG change only where the
measurement agrees. -/
def State.chgPilot (s : State) (p : PilotMeas) : State :=
  if s.inMode .dormant then s
  else
    let old := s.fget F.CHG_PILOT_STATE
    let oldPwm := s.fbit F.CHG_PILOT_PWM
    let oldLim := s.fget F.CHG_PILOT_ILIM
    let l := if pilotAgrees p then pilotLimit p else (s.chg.pilot, oldLim)
    let st := if pilotAgrees p then pilotState p else old
    let duty := if pilotAgrees p then pilotDuty p else s.fget F.CHG_PILOT_DUTY
    let s2 := s.chgRelimit fun t =>
      { t.wr R.CHG_PILOT (w32 (b2n (pilotOn p) * 2 ^ 24 + l.2 * 2 ^ 16 + duty % 1024 * 16 + b2n (l.2 == 0xFE) * 8 + st)) with chg := { t.chg with pilot := l.1 } }
    let s3 := if st ≠ old ∨ l.2 ≠ oldLim then
        (s2.count 0x154 1).raise C.CHG_PILOT_CHANGE 255 { w0 := bytes4 old st l.2 0, w1 := halves duty 0 } else s2
    let changed := st ≠ old
    if s3.chgForms then (if changed ∧ old = 0 then s3.chgFaultStop 3 0 else s3)
    else if changed ∧ (st = 0 ∨ 4 ≤ st) then s3.chgFaultStop 3 0
    else if (oldPwm && !pilotOn p) || (l.2 == 0xFF && oldLim != 0xFF) || (decide changed && st == 1) ||
        (decide changed && st == 3 && !s3.fbit F.CHG_CTRL_VENT_OK) then s3.chgStop 3
    else s3

/-- CHG_PILOT_CHANGE (R401). -/
def execChgPilotChange (p : PilotMeas) (s : State) : Host.Outcome State Fault Refusal := .next (s.chgPilot p)

/-- CHG_PP.STATE and CAP of a resistance (R403). -/
def ppClass (r : Nat) : Nat × Nat :=
  if 4000 < r then (0, 0)
  else if 70 ≤ r ∧ r ≤ 140 then (1, 63)
  else if 160 ≤ r ∧ r ≤ 330 then (1, 32)
  else if 440 ≤ r ∧ r ≤ 1000 then (1, 20)
  else if 1100 ≤ r ∧ r ≤ 2500 then (1, 13)
  else (2, 0)

/-- A proximity measurement (R403, R415). -/
def State.chgProx (s : State) (r : Nat) : State :=
  if s.inMode .dormant then s
  else
    let c := ppClass r
    let s1 := s.chgRelimit fun t => t.wr R.CHG_PP (w32 (c.1 * 2 ^ 24 + c.2 * 2 ^ 16 + satAdd r 0 65535))
    if s.fget F.CHG_PP_STATE = 1 ∧ c.1 ≠ 1 then s1.chgFaultStop 4 0 else s1

/-- PP_MEASURE (R403). -/
def execPpMeasure (ohms : BitVec 24) (s : State) : Host.Outcome State Fault Refusal := .next (s.chgProx ohms.toNat)

/-! ### Start (R411, R412) -/

/-- TG3 and TG4 are configured as R400 states. -/
def State.chgGroupsOk (s : State) : Bool :=
  let ok (g lo hi : Nat) : Bool := !s.fbit (F.PWM_GRP_CFG_CARR g) && s.fget (F.PWM_GRP_CFG_UPD g) == 0 && decide (lo ≤ s.period g) && decide (s.period g ≤ hi)
  ok 3 42666 320000 && ok 4 25600 128000

/-- The pilot and cable conditions of R410 and R411. -/
def State.chgPlugOk (s : State) : Bool :=
  let st := s.fget F.CHG_PILOT_STATE
  let cable := s.fget F.CHG_PP_STATE == 1
  if s.chgForms then s.fbit F.CHG_CTRL_DIR && st == 0 && cable
  else
    let dig := s.fbit F.CHG_PILOT_DIG
    st == 1 && s.fget F.CHG_PILOT_ILIM != 0xFF && cable && (!s.fbit F.CHG_CTRL_DIR || dig) && (!dig || fIsFinite (s.rd R.CHG_HOST_ILIM))

/-- DMAX + D1 ≤ 0.25 (R408). -/
def State.chgShiftOk (s : State) : Bool := fLe (fAdd (s.rd R.CHG_DAB_DMAX) (s.rd R.CHG_DAB_D1)) 0x3E800000

/-- Why the charger does not start: offset and reason (R411). -/
def State.chgRefuse (s : State) : Option (Nat × Nat) :=
  let latched := (List.range 3).any (fun l => s.legLatched 3 l) || (List.range 4).any (fun l => s.legLatched 4 l)
  if !s.inMode .charge || !(s.chgSt == 0 || s.chgSt == 6) || latched || !s.chgPlugOk then some (0, 0)
  else if !s.chgGroupsOk then some (0, 2)
  else if !s.chgShiftOk then some (0xA0, 3)
  else s.chgRoleBad.map fun o => (o, 1)

/-- The duty shadows of TG3 from converter voltages in the αβ frame's phases (R399): scaled where they exceed the bus. -/
def State.chgLegs (s : State) (vd vq : F32) : State :=
  let v := phaseVolts vd vq s.chgAngle
  let vb := fMax (s.sget 0x155) (fOfNat 10)
  let range := if s.chgSingle then fAbs (nth 0 v 0) else fSub (fMax3 v) (fMin3 v)
  let sat := fLt (s.sget 0x155) range
  let k := if sat then fDiv (s.sget 0x155) range else fOne
  let u := v.map fun x => if sat then fMul k x else x
  let s1 := if s.chgSingle then
      let h := fDiv (nth 0 u 0) (fMul fTwo vb)
      (((s.shadowWrite 3 0 (fAdd fHalf h)).shadowWrite 3 1 (fSub fHalf h)).shadowMode 3 0 1 |>.shadowMode 3 1 1).shadowMode 3 2 0
    else
      let off := fNeg (fMul fHalf (fAdd (fMax3 u) (fMin3 u)))
      let d (i : Nat) : F32 := fAdd fHalf (fDiv (fAdd (nth 0 u i) off) vb)
      (((((s.shadowWrite 3 0 (d 0)).shadowWrite 3 1 (d 1)).shadowWrite 3 2 (d 2)).shadowMode 3 0 1).shadowMode 3 1 1).shadowMode 3 2 1
  if sat then
    let s2 := (s1.fput F.CHG_STAT_VSAT true).count 0x153 1
    if s.chg.vsatLast = 0 || s.past (s.chg.vsatLast - 1) (msTicks 100) then
      { s2 with chg.vsatLast := s.time + 1 }.raise C.CHG_VSAT 255 { w1 := k }
    else s2
  else s1

/-- The speed in use: ω or ω_nom (R397). -/
def State.chgOmega (s : State) : F32 := if s.chgForms then s.chgNom else s.chg.w

/-- Form the converter voltages and write the TG3 shadows (R398, R399). -/
def State.chgConvert (s : State) : State :=
  let w := fMul s.chgOmega (s.rd R.CHG_LF)
  s.chgLegs (fAdd (fSub (s.sget 0x152) s.chg.ud) (fMul w (s.sget 0x151))) (fSub (fSub (s.sget 0x153) s.chg.uq) (fMul w (s.sget 0x150)))

/-- Enable a context. -/
def State.ctxOnNow (s : State) (n : Nat) : State := (s.ctxEnable n).1

/-- FE_START (R412, step 2). -/
def State.chgFront (s : State) : State :=
  let s1 := ({ s with chg := { s.chg with ud := 0, uq := 0 } }).chgStep 2
  let s2 := s1.ctxOnNow s1.chgBus
  let s3 := if s2.chgForms then (s2.ctxOnNow s2.chgVd).ctxOnNow s2.chgVq else s2
  let s4 := (s3.ctxOnNow s3.chgCurD).ctxOnNow s3.chgCurQ
  (if s4.chgForms then s4.sput 0x15F 0 else s4).chgConvert.runSet 3

/-- EN is written from 0 to 1 (R411, R412). -/
def State.chgStart (s : State) : State :=
  match s.chgRefuse with
  | some (o, r) => (s.fput F.CHG_CTRL_EN false).chgInvalid o r
  | none =>
    let s1 := ({ s with chg := { s.chg with vbus := 0, vbat := 0, ig := 0, ib := 0, halted := 0 } }.fput F.CHG_CTRL_EN true).chgStep 1
    if s1.chgForms then s1.chgFront else (s1.fput F.CHG_STAT_S2 true).ctxOnNow s1.chgPll

/-- 0.9 × √3. -/
def f09Sqrt3 : F32 := 0x3FC78842

/-- The grid conditions of R412, step 1. -/
def State.chgGridOk (s : State) : Bool :=
  let st := s.fget F.CHG_PILOT_STATE
  let vd := s.sget 0x152
  (st == 2 || (st == 3 && s.fbit F.CHG_CTRL_VENT_OK)) && s.fbit F.CHG_STAT_PLL_LOCK && s.lasted s.chg.lock (msTicks 20) &&
    fLe (s.rd R.CHG_VG_MIN) vd && fLe vd (s.rd R.CHG_VG_MAX) && fLe (fMul (if s.chgSingle then f09 else f09Sqrt3) vd) (s.sget 0x155)

/-- CHG_FE_START (R412). -/
def execChgFeStart (s : State) : Host.Outcome State Fault Refusal :=
  .next (if s.chgSt = 1 ∧ s.chgGridOk = true then s.chgFront else s)

/-- CHG_GRID_TIMEOUT (R412). -/
def execChgGridTimeout (s : State) : Host.Outcome State Fault Refusal :=
  .next (if s.chgSt = 1 ∧ s.past s.chg.t0 (msTicks 5000) then
    (s.raise C.CHG_GRID_TIMEOUT 255 { w0 := bytes4 (s.fget F.CHG_PILOT_STATE) (b2n (s.fbit F.CHG_STAT_PLL_LOCK)) 0 0, w1 := s.sget 0x155 }).chgFaultStop 2
      C.CHG_GRID_TIMEOUT.code else s)

/-- Write the TG4 legs for the outer phase shift D (R406). -/
def State.chgDabLegs (s : State) (d : F32) : State :=
  let delta := if s.fbit F.CHG_CFG_EPS then s.rd R.CHG_DAB_D1 else 0
  let s1 := (s.setLegShadow 4 0 1 fHalf 0).setLegShadow 4 1 1 fHalf (fSub fHalf delta)
  ((s1.setLegShadow 4 2 1 fHalf d).setLegShadow 4 3 1 fHalf (fAdd d fHalf)).sput 0x162 d

/-- A run of context `n` has committed: DAB_START at the end of the BUS ramp (R412, step 3), and CV (R405). -/
def State.chgCommit (s : State) (n : Nat) : State :=
  let s1 := if s.chgOn && !s.chgForms && decide (s.chgBat = n) then
      s.fput F.CHG_STAT_CV (!s.fbit (F.CLE_CTX_STAT_SAT_HI n) && !s.fbit (F.CLE_CTX_STAT_SAT_LO n)) else s
  if s1.chgSt = 2 ∧ s1.chgBus = n ∧ s1.fbit (F.CLE_CTX_STAT_RAMP_DONE n) = true ∧ (s1.chgForms = false ∨ s1.past s1.chg.t0 (msTicks 100)) then
    let s2 := (s1.chgStep 3).ctxOnNow s1.chgPwr
    let s3 := if s2.chgForms then s2 else s2.ctxOnNow s2.chgBat
    (s3.chgDabLegs 0).runSet 4
  else s1

/-! ### The DAB (R407) -/

/-- g(x) = k × x × (1 − 2|x|). -/
def dabG (k x : F32) : F32 := fMul (fMul k x) (fSub fOne (fMul fTwo (fAbs x)))

/-- ½ (g(D) + g(D + δ)). -/
def dabPower (k delta d : F32) : F32 := fMul fHalf (fAdd (dabG k d) (dabG k (fAdd d delta)))

/-- `n` steps of bisection. -/
def dabBisect (k delta p lo hi : F32) : Nat → F32
  | 0 => fMul fHalf (fAdd lo hi)
  | n + 1 =>
    let m := fMul fHalf (fAdd lo hi)
    if fLt (dabPower k delta m) p then dabBisect k delta p m hi n else dabBisect k delta p lo m n

/-- k of R407. -/
def State.dabK (s : State) : F32 :=
  let f := fOfRatio 6400000000 (s.period 4)
  fDiv (fMul (fMul (s.rd R.CHG_DAB_N) (s.sget 0x155)) (fMax (s.sget 0x156) fOne)) (fMul f (s.rd R.CHG_DAB_L))

/-- A delivery of P* (R407, and R412, step 4). -/
def State.chgPower (s : State) (p : F32) : State :=
  let k := s.dabK
  let delta := if s.fbit F.CHG_CFG_EPS then s.rd R.CHG_DAB_D1 else 0
  let mx := s.rd R.CHG_DAB_DMAX
  let hi := fLt (dabPower k delta mx) p
  let lo := fLt p (dabPower k delta (fNeg mx))
  let d := if hi then mx else if lo then fNeg mx else dabBisect k delta p (fNeg mx) mx 16
  let s0 := if decide (3 ≤ s.chgSt) && decide (s.chgSt ≤ 5) then s.chgDabLegs d else ((s.shadowWrite 4 6 d).shadowWrite 4 7 (fAdd d fHalf)).sput 0x162 d
  let s1 := s0.fput F.CHG_STAT_DSAT (hi || lo)
  if s1.chgSt = 3 then s1.chgStep 4 else s1

/-- A delivery to CHG input `i`: 0 u_d, 1 u_q, 2 ω, 3 P* (R394). -/
def State.chgInput (s : State) (i : Nat) (v : F32) : State :=
  match i with
  | 0 => ({ s with chg.ud := v }).chgConvert
  | 1 => ({ s with chg.uq := v }).chgConvert
  | 2 => { s with chg.w := v }
  | _ => s.chgPower v

/-! ### The sequences (R396, R405, R413, R419) -/

/-- The completions of a quarter of the grid period (R396): round(f_s / (4 × CHG_FNOM)). -/
def State.chgQuarter (s : State) : Nat :=
  (fRoundInt (fDiv (fOfRatio 6400000000 (s.period 3)) (fMul (fOfNat 4) (s.rd R.CHG_FNOM)))).toNat

/-- The αβ quantities of a completion: vα, vβ, iα, iβ (R396). -/
def State.chgAlphaBeta (s : State) : (F32 × F32 × F32 × F32) × State :=
  let v1 := s.sget (s.fget F.CHG_GSEL0_V1)
  let v2 := s.sget (s.fget F.CHG_GSEL0_V2)
  let i1 := s.sget (s.fget F.CHG_GSEL1_I1)
  let i2 := s.sget (s.fget F.CHG_GSEL2_I2)
  if s.chgSingle then
    let n := s.chgQuarter
    let f := s.fresh
    let s1 := if s.chg.hist.length < n then f.2 else s
    let q := if s.chg.hist.length < n then (f.1.setWidth 32, (f.1 >>> 32).setWidth 32) else if n = 0 then (v1, i1) else nth (0, 0) s.chg.hist (n - 1)
    ((v1, q.1, i1, q.2), { s1 with chg.hist := ((v1, i1) :: s1.chg.hist).take 1024 })
  else
    ((v1, fMul (fAdd v1 (fMul fTwo v2)) fInvSqrt3, i1, fMul (fAdd i1 (fMul fTwo i2)) fInvSqrt3), s)

/-- The formed-voltage set-point (R409). -/
def State.chgFormed (s : State) : F32 :=
  let a := s.rd R.CHG_VL_AMP
  match s.chgSt with
  | 2 => fMul a (fMin fOne (fOfRatio (s.time - s.chg.t0) (msTicks 100)))
  | 3 => a
  | 4 => a
  | 5 =>
    let d := usTicks (s.fget F.CHG_STOP_T_US)
    fMul s.chg.vl0 (fOfRatio (d - (s.time - s.chg.t0)) d)
  | _ => 0

/-- Publish the grid quantities (R393, R396). -/
def State.chgSignals (s : State) : State :=
  let q := s.chgAlphaBeta
  let va := q.1.1
  let vb := q.1.2.1
  let ia := q.1.2.2.1
  let ib := q.1.2.2.2
  let s0 := q.2.chgLimit
  let th := s0.chgAngle
  let v := park va vb th
  let i := park ia ib th
  let pg := fMul s0.chgC (fAdd (fMul v.1 i.1) (fMul v.2 i.2))
  let pk := s0.chgPeakLim
  let root := fSqrt (fMax 0 (fSub (fMul pk pk) (fMul i.1 i.1)))
  let s1 := ((((s0.sput 0x150 i.1).sput 0x151 i.2).sput 0x152 v.1).sput 0x153 v.2).sput 0x154 th
  let s2 := ((s1.sput 0x155 (s1.sget (s1.fget F.CHG_GSEL2_VBUS))).sput 0x15A (fClamp (fNeg root) root (s1.rd R.CHG_IQ_REF))).sput 0x15B s1.chgNom
  (if s2.chgForms then s2.sput 0x15F s2.chgFormed else s2).sput 0x160 pg

/-- PLL_LOCK and the times of R413 and R419. -/
def State.chgWatch (s : State) : State :=
  let vd := s.sget 0x152
  let vq := fAbs (s.sget 0x153)
  let ok := fLe vq (fMul 0x3D4CCCCD vd)
  let bad := fLt (fMul 0x3E19999A vd) vq
  let run := s.chgSt = 4
  let vout := fLt vd (s.rd R.CHG_VG_MIN) || fLt (s.rd R.CHG_VG_MAX) vd
  let fout := !s.chgForms && fLt (s.rd R.CHG_F_TOL) (fAbs (fSub (fDiv s.chg.w fTwoPi) (s.rd R.CHG_FNOM)))
  let was := s.fbit F.CHG_STAT_PLL_LOCK
  let s1 := if ok then s.fput F.CHG_STAT_PLL_LOCK true else s
  { s1 with chg := { s1.chg with
    lock := if ok && !was then some s.time else s.chg.lock
    unlock := sinceIf s.chg.unlock bad s.time
    vg := sinceIf s.chg.vg (decide run && vout) s.time
    fr := sinceIf s.chg.fr (decide run && fout) s.time } }

/-- A protection condition counted over completions: raise and stop at the second in a row (R419). -/
def State.chgTrip (s : State) (n : Nat) (c : Code) (p : Payload) : State :=
  if n = 2 then (s.raise c 255 p).chgFaultStop 2 c.code else s

/-- The grid currents, and the first over CHG_IG_OC (R419). -/
def State.chgOverPhase (s : State) : Option (Nat × F32) :=
  let i1 := s.sget (s.fget F.CHG_GSEL1_I1)
  let i2 := s.sget (s.fget F.CHG_GSEL2_I2)
  let lim := s.rd R.CHG_IG_OC
  let l := if s.chgSingle then [(0, i1)] else [(0, i1), (1, i2), (2, fSub (fNeg i1) i2)]
  l.find? fun p => fLt lim (fAbs p.2)

/-- Everything the CHG does at a completion of FSEQ. -/
def State.chgFseq (s : State) : State :=
  let s1 := (s.chgSignals.chgWatch).count 0x150 1
  let vb := s1.sget 0x155
  let nb := if fLt (s1.rd R.CHG_VBUS_OV) vb then s1.chg.vbus + 1 else 0
  let oc := s1.chgOverPhase
  let ng := if oc.isSome then s1.chg.ig + 1 else 0
  let s2 := { s1 with chg := { s1.chg with vbus := nb, ig := ng } }
  let s3 := s2.chgTrip nb C.CHG_VBUS_OV { w1 := vb }
  let o := oc.getD (0, 0)
  s3.chgTrip ng C.CHG_GRID_OC { w0 := bytes4 o.1 0 0 0, w1 := o.2 }

/-- The factor on P_lim in an orderly stop (R414). -/
def State.chgStopFactor (s : State) : F32 :=
  if s.chgSt = 5 then
    let d := usTicks (s.fget F.CHG_STOP_T_US)
    fOfRatio (d - (s.time - s.chg.t0)) d
  else fOne

/-- Everything the CHG does at a completion of DSEQ (R405, R419). -/
def State.chgDseq (s : State) : State :=
  let s0 := (s.chgLimit).count 0x151 1
  let vt := s0.sget (s0.fget F.CHG_GSEL3_VBAT)
  let it := s0.sget (s0.fget F.CHG_GSEL3_IBAT)
  let v1 := fMax vt fOne
  let pmax := s0.rd R.CHG_PMAX
  let pg := fMul (fMul (fMul s0.chgC (s0.sget 0x152)) s0.chgPeakLim) (s0.rd R.CHG_ETA)
  let base := if s0.chgForms then pmax else fMin pmax pg
  let pl := fMul base s0.chgStopFactor
  let dir := s0.fbit F.CHG_CTRL_DIR
  let hi := if dir then 0 else fMin (s0.rd R.CHG_ICHG) (fDiv pl v1)
  let lo := if dir then fNeg (fMin (s0.rd R.CHG_IDIS) (fDiv pl v1)) else 0
  let pref := if s0.chgForms then fMul v1 (fClamp lo hi (fNeg (s0.sget (0x180 + s0.chgBus)))) else fMul v1 (s0.sget (0x180 + s0.chgBat))
  let s1 := ((((s0.sput 0x156 vt).sput 0x157 it).sput 0x158 (fMul vt it)).sput 0x159 pref).sput 0x15C (if dir then s0.rd R.CHG_VMIN else s0.rd R.CHG_VCV)
  let s2 := (s1.sput 0x15D hi).sput 0x15E lo
  let nv := if fLt (s2.rd R.CHG_VBAT_MAX) vt then s2.chg.vbat + 1 else 0
  let ni := if fLt (s2.rd R.CHG_IB_OC) (fAbs it) then s2.chg.ib + 1 else 0
  let s3 := ({ s2 with chg := { s2.chg with vbat := nv, ib := ni } }).fset F.CHG_STAT_LIM_SRC s2.chgLimSrc
  let s4 := s3.chgTrip nv C.CHG_VBAT_OV { w1 := vt }
  s4.chgTrip ni C.CHG_BATT_OC { w1 := it }

/-- CHG_GRID_FAULT (R419). -/
def execChgGridFault (freq : Bool) (s : State) : Host.Outcome State Fault Refusal :=
  .next (if s.chgSt = 4 ∧ s.lasted (if freq then s.chg.fr else s.chg.vg) (msTicks (if freq then 100 else 10)) = true then
    (s.raise C.CHG_GRID_FAULT 255 { w0 := bytes4 (b2n freq) 0 0 0, w1 := if freq then fDiv s.chg.w fTwoPi else s.sget 0x152 }).chgFaultStop 2
      C.CHG_GRID_FAULT.code else s)

/-- CHG_PLL_UNLOCK (R413, R419). -/
def execChgPllUnlock (s : State) : Host.Outcome State Fault Refusal :=
  .next (if s.fbit F.CHG_STAT_PLL_LOCK = true ∧ s.lasted s.chg.unlock (msTicks 2) = true then
    let s1 := { s with chg.lock := none }.fput F.CHG_STAT_PLL_LOCK false
    if 2 ≤ s1.chgSt ∧ s1.chgSt ≤ 4 then
      (s1.raise C.CHG_PLL_UNLOCK 255 { w1 := s.sget 0x153, w2 := s.sget 0x152 }).chgFaultStop 2 C.CHG_PLL_UNLOCK.code
    else s1
    else s)

/-- The park lock has left ENGAGED (R419, R441). -/
def State.chgParkLost (s : State) (st : Nat) : State :=
  if s.chgOn then (s.raise C.CHG_PARK_LOST 255 { w0 := bytes4 st 0 0 0 }).chgFaultStop 2 C.CHG_PARK_LOST.code else s

/-- CHG_CTRL is written (R411, R414, R418): DIR is locked while EN = 1. -/
def State.chgCtrlWrite (s : State) (v : Word) : State :=
  let old := s.rd R.CHG_CTRL
  let en := v.getLsbD 0
  let dir := if old.getLsbD 0 then old.getLsbD 1 else v.getLsbD 1
  let s1 := s.wr R.CHG_CTRL (w32 (b2n (old.getLsbD 0) + 2 * b2n dir + 4 * b2n (v.getLsbD 2)))
  if en && s1.chgSt == 5 then s1.chgInvalid 0 0
  else if en && !old.getLsbD 0 then s1.chgStart
  else if !en && old.getLsbD 0 then (s1.fput F.CHG_CTRL_EN false).chgStop 0
  else s1

end Sys2Proof.Machine
end

