-- ==== Sys2Proof/Machine/Cmp.lean ====
section
/-! DEFINITION. The compare unit (R287 to R291): arming, firing and the change of a counter; and the filter of the Hall inputs (R281). -/

namespace Sys2Proof.Machine

/-- The state of Hall decoder `m` beside its registers. -/
def State.hallAt (s : State) (m : Nat) : Hall := SMap.get (fun _ => {}) s.pfb.halls m

/-- The peripheral clock, counted from VBAT. -/
def State.perClock (s : State) : Nat := s.time / 16

/-- A level of a Hall input that has stood for `n` peripheral clocks is accepted: N of them after the last write of N (R281). -/
def State.hallStable (s : State) (m n : Nat) : Bool :=
  decide (s.fget (F.PFB_HALL_CFG_N m) ≤ min n (s.perClock - (s.hallAt m).nAt / 16))

/-- The counter a channel's SRC names: 0 resolver position, 1 encoder count, 2 to 4 Hall steps. -/
def State.cmpCounter (s : State) (src : Nat) : Word :=
  match src with
  | 0 => s.rd R.PFB_RES_ANGLE
  | 1 => s.rd R.PFB_ENC_COUNT
  | _ => s.rd (R.PFB_HALL_STEP (src - 2))

/-- Channel `c` is armed. -/
def State.cmpArmed (s : State) (c : Nat) : Bool := s.fbit (F.PFB_CMP_STAT_ARMED c)

/-- Channel `c` fires with a stamp (R291). -/
def State.cmpFire (s : State) (c : Nat) (behind : Bool) (stamp : Tick) : State :=
  let src := s.fget (F.PFB_CMP_CTRL_SRC c)
  let s1 := (((s.fput (F.PFB_CMP_STAT_ARMED c) false).fput (F.PFB_CMP_STAT_FIRED c) true).fput (F.PFB_CMP_STAT_CMP_BEHIND c) behind).wr64
    (R.PFB_CMP_STAMP_LO c) (R.PFB_CMP_STAMP_HI c) stamp
  let s2 := (s1.count (0x0CC + c) 1).irq 1 .leading C.PFB_CMP_EVENT.code (BitVec.ofNat 8 (8 + c)) stamp
  if s.fbit (F.PFB_CMP_CTRL_JRN c) then
    s2.raise C.PFB_CMP_EVENT (8 + c) { w0 := bytes4 src (b2n behind) 0 0, w1 := s.rd (R.PFB_CMP_VAL c), w2 := s.cmpCounter src }
  else s2

/-- Arm channel `c` for a value: the direction is latched, and the channel fires at once where the value is reached or behind (R287, R289);
true where it fired. -/
def State.cmpTest (s : State) (c : Nat) (v : Word) : State × Bool :=
  let src := s.fget (F.PFB_CMP_CTRL_SRC c)
  let dir := s.fget (F.PFB_CMP_CTRL_DIR c)
  let back := if dir = 0 then SMap.get (fun _ => 0) s.pfb.cmpDirs src == 1 else dir == 2
  let s1 := (((s.wr (R.PFB_CMP_VAL c) v).fput (F.PFB_CMP_STAT_ARMED c) true).fput (F.PFB_CMP_STAT_CMP_BEHIND c) false).fput
    (F.PFB_CMP_STAT_D c) back
  let d := (s.cmpCounter src - v).toInt
  if d = 0 then (s1.cmpFire c false s.clave, true)
  else if (back = false ∧ 0 < d) ∨ (back = true ∧ d < 0) then (s1.cmpFire c true s.clave, true)
  else (s1, false)

/-- Write PFB_CMP_VAL[c] of an enabled channel (R287, R289, R290). -/
def State.cmpArmAt (s : State) (c : Nat) (v : Word) : State × Bool :=
  { s with pfb := { s.pfb with cmpWrote := SMap.set (fun _ => 0) s.pfb.cmpWrote c (s.cyc + 1) } }.cmpTest c v

/-- A change of a counter from `p` to `q` reaches or passes `v` in the direction (R288). -/
def cmpReaches (back : Bool) (p q v : Word) : Bool :=
  let step := (q - p).toInt
  let gap := (v - p).toInt
  if back then decide (step < 0) && decide (gap < 0) && decide (step ≤ gap)
  else decide (0 < step) && decide (0 < gap) && decide (gap ≤ step)

/-- Fire the armed channels below `k` that a counter change reaches, the channels that fired, ascending; one whose VAL was written in the
change's control cycle is tested as a write against the new value (R288, R290). -/
def State.cmpFires (s : State) (src : Nat) (p q : Word) (stamp : Tick) : Nat → State × List Nat
  | 0 => (s, [])
  | c + 1 =>
    let r := s.cmpFires src p q stamp c
    let t := r.1
    if t.cmpArmed c && t.fget (F.PFB_CMP_CTRL_SRC c) == src && SMap.get (fun _ => 0) t.pfb.cmpWrote c == t.cyc + 1 then
      let x := t.cmpTest c (t.rd (R.PFB_CMP_VAL c))
      (x.1, if x.2 then r.2 ++ [c] else r.2)
    else if t.cmpArmed c && t.fget (F.PFB_CMP_CTRL_SRC c) == src && cmpReaches (t.fbit (F.PFB_CMP_STAT_D c)) p q (t.rd (R.PFB_CMP_VAL c)) then
      (t.cmpFire c false stamp, r.2 ++ [c])
    else r

/-- A counter has changed from `p` to `q` (R287, R288). -/
def State.cmpChange (s : State) (src : Nat) (p q : Word) (stamp : Tick) : State × List Nat :=
  if p = q then (s, [])
  else
    let s1 := { s with pfb.cmpDirs := SMap.set (fun _ => 0) s.pfb.cmpDirs src (b2n (decide ((q - p).toInt < 0))) }
    s1.cmpFires src p q stamp 8

/-- Disarm channel `c`. -/
def State.cmpDisarm (s : State) (c : Nat) : State := s.fput (F.PFB_CMP_STAT_ARMED c) false

end Sys2Proof.Machine
end

