-- ==== Sys2Proof/Machine/Act.lean ====
section
/-! DEFINITION. The actuator sequencer (R421 to R451): commutation, moves, the park-lock state. Actuator `m`: 0 shift drum, 1 park lock, 2 clutch; its group is 8 + m, its compare channel 5 + m. -/

namespace Sys2Proof.Machine

/-- The record of actuator `m`. -/
def State.actm (s : State) (m : Nat) : ActM :=
  match m with
  | 0 => s.act.a0
  | 1 => s.act.a1
  | _ => s.act.a2

/-- Store it. -/
def State.setActm (s : State) (m : Nat) (v : ActM) : State :=
  match m with
  | 0 => { s with act.a0 := v }
  | 1 => { s with act.a1 := v }
  | _ => { s with act.a2 := v }

/-- ACT_STAT.STATE: 0 IDLE, 1 BRAKE, 2 RUN, 3 CREEP, 4 HOLD. -/
def State.actSt (s : State) (m : Nat) : Nat := s.fget (F.ACT_STAT_STATE m)

/-- ACT_CFG[m].EN. -/
def State.actEn (s : State) (m : Nat) : Bool := s.fbit (F.ACT_CFG_EN m)

/-- The actuator's context. -/
def State.actCtx (s : State) (m : Nat) : Nat := s.fget (F.ACT_CFG_CTX m)

/-- A move is in progress: BRAKE, RUN or CREEP. -/
def State.actMoving (s : State) (m : Nat) : Bool := decide (1 ≤ s.actSt m) && decide (s.actSt m ≤ 3)

/-- The step count. -/
def State.actCount (s : State) (m : Nat) : Word := s.rd (R.PFB_HALL_STEP m)

/-- The speed signal of actuator `m`. -/
def State.actSpeed (s : State) (m : Nat) : F32 := s.sget (0x111 + 2 * m)

/-- V_act (R427). -/
def State.vAct (s : State) : F32 := s.sget (s.fget F.ACT_SUP_SEL_SIG)

/-- The present Hall sector. -/
def State.actSector (s : State) (m : Nat) : Nat := s.fget (F.PFB_HALL_STAT_SECTOR m)

/-- Report an invalid write (offset and reason). -/
def State.actInvalid (s : State) (m off reason : Nat) : State :=
  s.raise C.ACT_CFG_INVALID m { w0 := bytes4 off (off / 256) reason 0 }

/-- Report an invalid write whose reason the payload's list does not give. -/
def State.actInvalidOpen (s : State) (m off : Nat) : State :=
  s.fresh.2.actInvalid m off (s.fresh.1.toNat % 256)

/-- |ω| ≤ ACT_STILL_W now: keep or restart the time since when. -/
def State.actWatch (s : State) (m : Nat) : State :=
  let slow := fLe (fAbs (s.actSpeed m)) (s.rd (R.ACT_STILL_W m))
  s.setActm m { s.actm m with stillSince := sinceIf (s.actm m).stillSince slow s.time }

/-- The actuator is still (R430). -/
def State.actStillNow (s : State) (m : Nat) : Bool := s.lasted (s.actm m).stillSince (usTicks (s.fget (F.ACT_STILL_T_US m)))

/-! ### Commutation (R423 to R427) -/

/-- The high and low leg of six-step state `k` (R423). -/
def sixStep (k : Nat) : Nat × Nat :=
  match k with
  | 1 => (0, 1)
  | 2 => (0, 2)
  | 3 => (1, 2)
  | 4 => (1, 0)
  | 5 => (2, 0)
  | _ => (2, 1)

/-- The state three further on. -/
def plus3 (h : Nat) : Nat := (h + 2) % 6 + 1

/-- All legs OFF in the shadows. -/
def State.actLegsOff (s : State) (m : Nat) : State := ((s.shadowMode (8 + m) 0 0).shadowMode (8 + m) 1 0).shadowMode (8 + m) 2 0

/-- Put the legs of state `k` in the given modes, the third leg OFF. -/
def State.actLegs (s : State) (m k hm lm : Nat) : State :=
  let t := sixStep k
  ((s.actLegsOff m).shadowMode (8 + m) t.1 hm).shadowMode (8 + m) t.2 lm

/-- π/3 and π/6 as binary32. -/
def fPi3 : F32 := 0x3F860A92
/-- π/6. -/
def fPi6 : F32 := 0x3F060A92

/-- The rotor angle of the sinusoidal commutation (R426). -/
def State.actAngle (s : State) (m : Nat) : F32 :=
  let h := s.actSector m
  let c := fMul (fOfInt (Int.ofNat h - 3)) fPi3
  let w := s.actSpeed m
  if fIsZero w then c
  else
    let te := (tickOf (s.rd (R.PFB_HALL_STAMP_LO m)) (s.rd (R.PFB_HALL_STAMP_HI m))).toNat
    let dt := fMul fTick (fOfNat (s.now - te))
    let base := if fSign w then fAdd c fPi6 else fSub c fPi6
    fClamp (fSub c fPi6) (fAdd c fPi6) (fAdd base (fMul w dt))

/-- Write the shadows for the present sector and voltage command (R425, R426). -/
def State.actCommutate (s : State) (m : Nat) : State :=
  if !s.actEn m || !s.actMoving m then s
  else
    let h := s.actSector m
    let v := (s.actm m).v
    if h = 0 ∨ h = 7 then s.actLegsOff m
    else if s.fbit (F.ACT_CFG_COMM m) then
      let d := modDuties 0 s.vAct (phaseVolts 0 v (s.actAngle m))
      [0, 1, 2].foldl (fun t l => (t.shadowMode (8 + m) l 1).shadowWrite (8 + m) l (nth 0 d l)) s
    else
      let k := if fLt v 0 then plus3 h else h
      let duty := fMin (fDiv (fAbs v) (fMax s.vAct fOne)) fOne
      ((s.actLegs m k 1 5).shadowWrite (8 + m) (sixStep k).1 duty).setActm m { s.actm m with lastK := k }

/-- A delivery of the voltage command of actuator `m` (R428). -/
def State.actInput (s : State) (m : Nat) (v : F32) : State := (s.setActm m { s.actm m with v := v }).actCommutate m

/-- The move's direction as a sign on a magnitude. -/
def State.actDir (s : State) (m : Nat) (x : F32) : F32 := if (s.actm m).back then fNeg x else x

/-- The current reference of the present phase (R430). -/
def State.actRef (s : State) (m : Nat) : F32 :=
  match s.actSt m with
  | 1 =>
    let w := s.actSpeed m
    let ch := (SMap.get (fun _ => {}) s.pfb.halls m).changes
    let brisk := match ch with
      | a :: b :: _ => decide (s.now < a.1 + 2 * (a.1 - b.1))
      | _ => false
    if fLt (s.rd (R.ACT_STILL_W m)) (fAbs w) && brisk then
      (if fSign w then s.rd (R.ACT_IBRAKE m) else fNeg (s.rd (R.ACT_IBRAKE m))) else 0
  | 2 => s.actDir m (s.rd (R.ACT_IRUN m))
  | 3 => s.actDir m (s.rd (R.ACT_ICREEP m))
  | _ => 0

/-- Publish the signals of actuator `m` at the sequence that provides its current (R427). -/
def State.actSample (s : State) (m : Nat) : State :=
  let i := s.sget (s.fget (F.ACT_ISEL_SIG m))
  let v := (s.actm m).v
  let sg := if fLt v 0 then fNeg i else if s.fbit (F.ACT_CFG_COMM m) && fIsZero v then 0 else i
  ((((s.sput (0x170 + 4 * m) sg).sput (0x171 + 4 * m) (s.actRef m)).sput (0x172 + 4 * m) s.vAct).sput (0x173 + 4 * m)
    (fOfInt (s.actCount m).toInt)).sput 0x17C s.vAct

/-- A sequence with these inputs has completed: sample the actuators below `k` whose current it holds. -/
def State.actSamples (s : State) (ains : List Nat) : Nat → State
  | 0 => s
  | m + 1 =>
    let s1 := s.actSamples ains m
    if ains.contains (s1.fget (F.ACT_ISEL_SIG m)) then s1.actSample m else s1

/-! ### The park-lock state (R441) -/

/-- |n − pos| ≤ ACT_PL_TOL. -/
def State.plNear (s : State) (n pos : Word) : Bool := decide ((n - pos).toInt.natAbs ≤ s.fget F.ACT_PL_TOL_STEPS)

/-- ACT_PL_STAT.STATE as R441 derives it. -/
def State.plDerive (s : State) : Nat :=
  let n := s.actCount 1
  let h := s.actSector 1
  if !s.fbit F.ACT_PL_STAT_REF then 0
  else if s.actMoving 1 then 4
  else if s.actStillNow 1 && s.plNear n (s.rd R.ACT_PL_ENG_POS) && h == s.fget F.ACT_PL_SECT_ENG_SECT then 1
  else if s.actStillNow 1 && s.plNear n (s.rd R.ACT_PL_REL_POS) && h == s.fget F.ACT_PL_SECT_REL_SECT then 2
  else 3

/-- Derive the park-lock state, report a change and tell the charger of one out of ENGAGED (R419, R441). -/
def State.plUpdate (s : State) : State :=
  let old := s.fget F.ACT_PL_STAT_STATE
  let new := s.plDerive
  if old = new then s
  else
    let s1 := (s.fset F.ACT_PL_STAT_STATE new).raise C.ACT_PL_STATE 1 { w0 := bytes4 old new 0 0, w1 := s.actCount 1 }
    if old = 1 then s1.chgParkLost new else s1

/-! ### Phases of a move (R430 to R438) -/

/-- Enter BRAKE, RUN or CREEP; the context is enabled on the way from IDLE or HOLD. -/
def State.actEnter (s : State) (m st : Nat) : State :=
  let was := s.actMoving m
  let s1 := s.fset (F.ACT_STAT_STATE m) st
  if was then s1 else (s1.ctxEnable (s1.actCtx m)).1

/-- Leave for IDLE or HOLD: the context is disabled, the legs are OFF or hold (R430, R444). -/
def State.actLeave (s : State) (m : Nat) (hold : Bool) : State :=
  let s1 := ((s.fset (F.ACT_STAT_STATE m) (if hold then 4 else 0)).fput (F.ACT_STAT_PEND m) false).ctxDisable (s.actCtx m)
  let s2 := s1.cmpDisarm (5 + m)
  let s3 := if hold && (s2.actm m).lastK != 0 then s2.actLegs m (s2.actm m).lastK 4 5 else s2.actLegsOff m
  s3.setActm m { s3.actm m with goAt := none, stopping := false, v := 0 }

/-- End a move with a result (R434 to R439). -/
def State.actEnd (s : State) (m result : Nat) (hold : Bool) : State :=
  let s1 := (s.actLeave m hold).fset (F.ACT_STAT_RESULT m) result
  let s2 := s1.raise C.ACT_MOVE_END m
    { w0 := bytes4 result (b2n (s1.fbit (F.ACT_STAT_BEHIND m))) 0 0, w1 := s1.actCount m, w2 := s1.rd (R.ACT_TARGET m) }
  if m = 1 then s2.plUpdate else s2

/-- The end action of ACT_CFG[m].END with RESULT = 1 (R434). -/
def State.actDone (s : State) (m : Nat) : State := s.actEnd m 1 (decide (m = 1) && s.fbit (F.ACT_CFG_END m))

/-- Arm the reserved channel at a count in the move's direction; true where it fired at once (R432). -/
def State.actArm (s : State) (m : Nat) (v : Word) : State × Bool :=
  let back := (s.actm m).back
  let s1 := (s.fput (F.PFB_CMP_CTRL_EN (5 + m)) true).fset (F.PFB_CMP_CTRL_SRC (5 + m)) (2 + m)
  (s1.fset (F.PFB_CMP_CTRL_DIR (5 + m)) (if back then 2 else 1)).cmpArmAt (5 + m) v

/-- The creep point has fired: arm the target and enter CREEP; BRAKE where that fires too (R432). -/
def State.actCreep (s : State) (m : Nat) : State :=
  let r := s.actArm m (s.rd (R.ACT_TARGET m))
  if r.2 then r.1.actEnter m 1 else r.1.actEnter m 3

/-- A compare fire of the reserved channel (R432). -/
def State.actFired (s : State) (m : Nat) : State :=
  if !s.actEn m then s
  else
    match s.actSt m with
    | 2 => s.actCreep m
    | 3 => s.actEnter m 1
    | _ => s

/-- Start a move (R432, R433). -/
def State.actStart (s : State) (m : Nat) : State :=
  let d := (s.rd (R.ACT_TARGET m) - s.actCount m).toInt
  if d = 0 then (s.fput (F.ACT_STAT_BEHIND m) false).actDone m
  else
    let s1 := (((s.count (0x158 + m) 1).fput (F.ACT_STAT_BEHIND m) false).fput (F.ACT_STAT_PEND m) false).setActm m
      { s.actm m with back := decide (d < 0), stopping := false, runAt := s.time }
    let creep := w32 (s.fget (F.ACT_CREEP_STEPS m))
    let tgt := s.rd (R.ACT_TARGET m)
    let r := s1.actArm m (if d < 0 then tgt + creep else tgt - creep)
    let s2 := if r.2 then (r.1.fput (F.ACT_STAT_BEHIND m) true).actCreep m else r.1.actEnter m 2
    if m = 1 then s2.plUpdate else s2

/-- The inhibit of either channel is active (R448, R450). -/
def State.plInhibit (s : State) : Bool := s.safe.a.inh || s.safe.b.inh

/-- The move to ACT_TARGET[1] runs in the engage direction. -/
def State.plToEngage (s : State) : Bool :=
  let d := (s.rd (R.ACT_TARGET 1) - s.actCount 1).toInt
  if s.fbit F.ACT_PL_SEAL_ENG_DIR then decide (d < 0) else decide (0 < d)

/-- A zone of KIND 5 is tripped (R539): GO is refused, with a reason that the spec does not name. -/
def State.actHot (s : State) : Bool := (List.range 16).any fun z => s.fget (F.THM_ZONE_CFG_KIND z) == 5 && s.fbit (F.THM_ZONE_STAT_TRIP z)

/-- Why a GO is refused: the reason of ACT_REFUSED (R431, R438, R439, R443, R450). -/
def State.actRefuse (s : State) (m : Nat) : Option Nat :=
  if !modePermits s.seq.mode (8 + m) then some 0
  else if !fLe (s.rd R.ACT_VMIN) s.vAct then some 1
  else if [0, 1, 2].any (fun l => s.legLatched (8 + m) l) then some 2
  else if m = 1 ∧ s.plToEngage = true ∧ s.plInhibit = true then some 3
  else if m = 1 ∧ s.inMode .charge = true ∧ s.plNear (s.rd (R.ACT_TARGET 1)) (s.rd R.ACT_PL_ENG_POS) = false then some 4
  else if m = 1 ∧ s.inMode .service = false ∧ s.fbit F.ACT_PL_STAT_REF = false then some 5
  else none

/-- What a GO finds (R436). -/
def State.actGone (s : State) (m : Nat) : ActGo :=
  { cyc := s.cyc + 1, goAt := (s.actm m).goAt, back := (s.actm m).back, runAt := (s.actm m).runAt
    behind := s.fbit (F.ACT_STAT_BEHIND m), result := s.fget (F.ACT_STAT_RESULT m) }

/-- A write of GO (R431); nothing where STOP was written in the same control cycle (R436). -/
def State.actGoCmd (s0 : State) (m : Nat) : State :=
  if !s0.actEn m || (s0.actm m).stopCyc == s0.cyc + 1 then s0
  else
    let s := s0.setActm m { s0.actm m with went := s0.actGone m }
    match s.actRefuse m with
    | some r => (s.fset (F.ACT_STAT_RESULT m) 6).raise C.ACT_REFUSED m { w0 := bytes4 r 0 0 0 }
    | none =>
      if s.actHot then (s.fresh.2.fset (F.ACT_STAT_RESULT m) 6).raise C.ACT_REFUSED m { w0 := bytes4 (s.fresh.1.toNat % 256) 0 0 0 } else
      let s1 := s.setActm m { s.actm m with goAt := some s.time, stopping := false }
      if !s.actMoving m && s.actStillNow m then s1.actStart m
      else
        let s2 := ((s1.cmpDisarm (5 + m)).fput (F.ACT_STAT_PEND m) true).actEnter m 1
        if m = 1 then s2.plUpdate else s2

/-- Undo a GO of this control cycle: STOP alone counts (R436). -/
def State.actUngo (s : State) (m : Nat) : State :=
  let g := (s.actm m).went
  if g.cyc = s.cyc + 1 then
    let s1 := (s.fput (F.ACT_STAT_BEHIND m) g.behind).fset (F.ACT_STAT_RESULT m) g.result
    let gone (r : JRec) : Bool := (r.code == C.ACT_REFUSED.code || r.code == C.ACT_MOVE_END.code) && r.inst.toNat == m && r.raised == s.cyc
    { s1 with jrn.waiting := s1.jrn.waiting.filter fun r => !gone r }.setActm m { s1.actm m with goAt := g.goAt, back := g.back, runAt := g.runAt }
  else s

/-- A write of STOP (R435, R436). -/
def State.actStopCmd (s0 : State) (m : Nat) : State :=
  if !s0.actEn m then s0
  else
    let s := s0.actUngo m
    let s1 := ((s.cmpDisarm (5 + m)).fput (F.ACT_STAT_PEND m) false).setActm m { s.actm m with stopping := true, stopCyc := s.cyc + 1 }
    let s2 := s1.actEnter m 1
    if m = 1 then s2.plUpdate else s2

/-- ACT_CMD[m] is written: STOP wins over GO (R436). -/
def State.actCmdWrite (s : State) (m : Nat) (v : Word) : State :=
  if v.getLsbD 1 then s.actStopCmd m else if v.getLsbD 0 then s.actGoCmd m else s

/-- The actuator has been still for ACT_STILL_T (R430, R432, R434, R435). -/
def State.actStillEv (s : State) (m : Nat) : State :=
  if !s.actStillNow m then s
  else if s.actEn m && decide (s.actSt m = 1) then
    if s.fbit (F.ACT_STAT_PEND m) then s.actStart m
    else if (s.actm m).stopping then s.actEnd m 2 false
    else s.actDone m
  else if m = 1 then s.plUpdate else s

/-- ACT_STILL (R430). -/
def execActStill (a : Fin 3) (s : State) : Host.Outcome State Fault Refusal := .next (s.actStillEv a.val)

/-- ACT_STALL (R437): still in RUN or CREEP for ACT_STALL_T. -/
def execActStall (a : Fin 3) (s : State) : Host.Outcome State Fault Refusal :=
  let m := a.val
  let r := s.actm m
  let from0 := match r.stillSince with
    | some t => max (t + usTicks (s.fget (F.ACT_STILL_T_US m))) r.runAt
    | none => s.time
  .next (if s.actEn m && decide (2 ≤ s.actSt m) && decide (s.actSt m ≤ 3) && s.actStillNow m && s.past from0 (msTicks (s.fget (F.ACT_STALL_T_MS m))) then
    (s.raise C.ACT_STALL m { w1 := s.actCount m }).actEnd m 3 false else s)

/-- ACT_MOVE_TMO (R437). -/
def execActMoveTmo (a : Fin 3) (s : State) : Host.Outcome State Fault Refusal :=
  let m := a.val
  .next (if s.actEn m && s.actMoving m && s.lasted (s.actm m).goAt (msTicks (s.fget (F.ACT_MOVE_TMO_MS m))) then
    (s.raise C.ACT_MOVE_TMO m { w1 := s.actCount m }).actEnd m 4 false else s)

/-- Watch V_act against ACT_VMIN (R438). -/
def State.actSupWatch (s : State) : State := { s with act.low := sinceIf s.act.low (fLt s.vAct (s.rd R.ACT_VMIN)) s.time }

/-- ACT_SUP_LOW (R438): V_act has been below ACT_VMIN for 1 ms, during a move. -/
def execActSupLow (a : Fin 3) (s : State) : Host.Outcome State Fault Refusal :=
  let m := a.val
  .next (if s.actEn m && s.actMoving m && s.lasted s.act.low (msTicks 1) then
    (s.raise C.ACT_SUP_LOW m { w1 := s.vAct }).actEnd m 5 false else s)

/-- A leg of group 8 + m has latched (R438): in IDLE no move ends, and RESULT shows the fault. -/
def State.actLeg (s : State) (m : Nat) : State :=
  if !s.actEn m then s else if s.actSt m ≠ 0 then s.actEnd m 5 false else s.fset (F.ACT_STAT_RESULT m) 5

/-- End the move of actuator `m` where the mode does not permit it; a hold stays (R439). -/
def State.actModeOne (s : State) (m : Nat) : State :=
  if !modePermits s.seq.mode (8 + m) && s.actMoving m then s.actEnd m 2 false else s

/-- The mode has changed (R439). -/
def State.actMode (s : State) : State := ((s.actModeOne 0).actModeOne 1).actModeOne 2

/-- A channel's park-lock cut acts: the move ends and the cut is reported (R450). -/
def State.actPlCut (s : State) (b : Bool) (c h : Nat) : State :=
  let s1 := (s.fput (if b then F.ACT_PL_STAT_INH_B else F.ACT_PL_STAT_INH_A) true).count 0x15B 1
  let s2 := s1.raise C.ACT_PL_INHIBIT 1 { w0 := bytes4 (b2n b) c h 0 }
  if s2.actMoving 1 then s2.actEnd 1 2 false else s2

/-! ### Enabling (R421, R422, R429, R444, R446) -/

/-- The context named in ACT_CFG[m].CTX is configured as R429 states. -/
def State.actCtxOk (s : State) (m n : Nat) : Bool :=
  let ch := s.chainAct n
  s.fget (F.CLE_CTX_TRIG_SRC n) == 1 && s.fget (F.CLE_CTX_TRIG_SEL n) == 4 * (8 + m) + 1 && s.fget (F.CLE_CTX_MSEL_SIG n) == 0x170 + 4 * m &&
    s.fbit (F.CLE_CTX_SSEL_SRC n) && s.fget (F.CLE_CTX_SSEL_SIG n) == 0x171 + 4 * m && !s.fbit (F.CLE_CTX_CTRL_ERR_MODE n) &&
    !s.fbit (F.CLE_CTX_CTRL_RAMP_EN n) && s.fbit (F.CLE_CTX_CTRL_ZERO_ON_EN n) && ch.2 != 0 && (s.section ch.1).integ &&
    s.fbit (F.CLE_CTX_LIMSEL_HI_SIG_EN n) && s.fget (F.CLE_CTX_LIMSEL_HI_SIG n) == 0x172 + 4 * m && s.fbit (F.CLE_CTX_LIMSEL_LO_MIRROR n) &&
    s.fget (F.CLE_CTX_DST_KIND n) == 3 && s.fget (F.CLE_CTX_DST_INDEX n) == 0x020 + m && s.fget (F.CLE_CTX_CTRL_SGRP n) == 8 + m

/-- PFB_HALL_MAP[1] equals the map of the sealed parameters (R446). -/
def State.plMapOk (s : State) : Bool :=
  match s.safe.a.params with
  | some p => s.rd (R.PFB_HALL_MAP 1) == p.hallMap &&& RegMap.impl (R.PFB_HALL_MAP 1)
  | none => false

/-- ACT_CFG[m] is written: all fields but EN are locked while EN = 1 (R429). -/
def State.actCfgWrite (s : State) (m : Nat) (v : Word) : State :=
  let off := 0x100 + 0x40 * m
  let en := v.getLsbD 0
  if s.actEn m then
    if en then s
    else
      let s1 := if s.actSt m ≠ 0 then s.actEnd m 2 false else s
      s1.fput (F.ACT_CFG_EN m) false
  else
    let comm := v.getLsbD 1
    let end_ := v.getLsbD 2 && decide (m = 1)
    let s1 := s.wr (R.ACT_CFG m) (w32 (2 * b2n comm + 4 * b2n end_ + 256 * bits v 14 8))
    if !en then s1
    else if !s1.actCtxOk m (bits v 14 8) then s1.actInvalid m off 0
    else if m = 1 ∧ comm = true then s1.actInvalid m off 2
    else if m = 1 ∧ end_ = true ∧ s1.fbit (F.GDR_LGB_CFG_HS_SUP 10) = false then s1.actInvalidOpen m off
    else if m = 1 ∧ s1.plMapOk = false then s1.actInvalid m off 3
    else s1.fput (F.ACT_CFG_EN m) true

/-- ACT_PL_CTRL is written (R442). -/
def State.actPlRefWrite (s : State) (v : Word) : State :=
  if !v.getLsbD 0 then s
  else if s.actEn 1 then s.actInvalidOpen 255 0x300
  else (s.fput F.ACT_PL_STAT_REF true).plUpdate

end Sys2Proof.Machine
end

