-- ==== Sys2Proof/Machine/Pfb.lean ====
section
/-! DEFINITION. Position feedback (R250 to R293): published angles and speeds, the resolver's demodulation, acquisition, lock, loss and calibration, the encoder and the Hall decoders. -/

namespace Sys2Proof.Machine

/-! ### Published position (R250 to R254) -/

/-- An angle reduced to [0, 2π) after adding an offset in [0, 2π]. -/
def addAngle (x ofs : F32) : F32 :=
  let y := fAdd x ofs
  belowTwoPi (if fLe fTwoPi y then fSub y fTwoPi else y)

/-- ω̂: the output of the tracking context (R259). -/
def State.wHat (s : State) : F32 := s.sget (0x180 + s.fget F.PFB_RES_CTRL_TRK_CTX)

/-- The encoder's count from its index, modulo CPR (R251). -/
def State.encMod (s : State) : Nat :=
  ((s.rd R.PFB_ENC_COUNT - s.rd R.PFB_ENC_IDX_POS).toInt % Int.ofNat (s.rd R.PFB_ENC_CPR).toNat).toNat

/-- Electrical angle, electrical speed, mechanical angle, mechanical speed of the selected source (R251). -/
def State.posNow (s : State) : F32 × F32 × F32 × F32 :=
  let pole := s.fget F.PFB_CFG_POLE
  let ofs := s.rd R.PFB_THETA_OFS
  if s.fget F.PFB_CFG_SRC = 1 then
    let n := s.encMod
    let cpr := (s.rd R.PFB_ENC_CPR).toNat
    let w := fDiv (s.sget 0x109) (fOfNat pole)
    (addAngle (angleOf (pole * n % cpr) cpr) ofs, s.sget 0x109, angleOf n cpr, w)
  else
    let phi := (s.rd R.PFB_RES_FINE).toNat
    let rp := s.fget F.PFB_CFG_RPOLE
    let k := pole / rp
    (addAngle (angleOf (k * phi % 2 ^ 32) (2 ^ 32)) ofs, fMul (fOfNat k) s.wHat, angleOf phi (rp * 2 ^ 32), fDiv s.wHat (fOfNat rp))

/-- Publish φ̂, and the selected position while it is valid (R250, R254). -/
def State.posPublish (s : State) : State :=
  let s1 := s.sput 0x104 (angleOf (s.rd R.PFB_RES_FINE).toNat (2 ^ 32))
  if s1.fbit F.PFB_STAT_VALID && s1.fbit F.PFB_CFG_EN then
    let p := s1.posNow
    (((s1.sput 0x100 p.1).sput 0x101 p.2.1).sput 0x102 p.2.2.1).sput 0x103 p.2.2.2
  else s1

/-- Publish the encoder's angle and speed (R250, R251, R280). -/
def State.encPublish (s : State) (speed : F32) : State :=
  let pole := s.fget F.PFB_CFG_POLE
  let cpr := (s.rd R.PFB_ENC_CPR).toNat
  ((s.sput 0x108 (addAngle (angleOf (pole * s.encMod % cpr) cpr) (s.rd R.PFB_THETA_OFS))).sput 0x109 speed).posPublish

/-- Form the encoder's angle anew after a write of what it depends on (R251). -/
def State.encForm (s : State) : State := s.encPublish (s.sget 0x109)

/-- The selected source gives a valid position (R250, R264, R275, R279). -/
def State.srcValid (s : State) : Bool :=
  s.fbit F.PFB_CFG_EN && (if s.fget F.PFB_CFG_SRC = 1 then s.fbit F.PFB_STAT_ENC_REF && !s.pfb.encInval else s.fbit F.PFB_STAT_LOCK)

/-- Bring VALID up to date; its loss with its cause drops torque (R233, R254, R267). -/
def State.validUpdate (s : State) (cause : Nat) : State :=
  let was := s.fbit F.PFB_STAT_VALID
  let now := s.srcValid
  if was = now then s
  else if now then { (s.fput F.PFB_STAT_VALID true) with pfb.validSince := some s.time }.posPublish
  else ({ (s.fput F.PFB_STAT_VALID false) with pfb.validSince := none }.fset F.PFB_STAT_CAUSE cause).posInvalid

/-- The class of a position-loss code of a source: 0 resolver, 1 encoder (R293). -/
def State.lossClass (s : State) (src : Nat) : Nat :=
  if s.fget F.PFB_CFG_SRC = src ∧ s.inMode .drive = true ∧ s.fbit F.TMU_CFG_REACQ_EN = false then 4 else 1

/-- Pass the fires of the reserved channels on to the actuators (R291, R432). -/
def State.actEvents (s : State) : List Nat → State
  | [] => s
  | c :: t => (if 5 ≤ c then s.actFired (c - 5) else s).actEvents t

/-- A counter has changed: the compare channels see it, and the actuators their fires (R288, R291). -/
def State.counterChange (s : State) (src : Nat) (p q : Word) (stamp : Tick) : State :=
  let r := s.cmpChange src p q stamp
  r.1.actEvents r.2

/-! ### The resolver (R255 to R272) -/

/-- Move φ̂ by `d` fractions of 2^-32 turn; TURNS follows (R259). -/
def State.phiMove (s : State) (d : Int) : State :=
  let turns := s.fget F.PFB_RES_ANGLE_TURNS
  let pos := Int.ofNat (turns * 2 ^ 32 + (s.rd R.PFB_RES_FINE).toNat) + d
  let n := (pos % (2 ^ 48 : Int)).toNat
  let old := s.rd R.PFB_RES_ANGLE
  let new := w32 (n / 2 ^ 16)
  let s1 := (s.wr R.PFB_RES_FINE (w32 n)).wr R.PFB_RES_ANGLE new
  (s1.counterChange 0 old new s.clave).posPublish

/-- Set φ̂ to a fraction of a turn, by the shorter way round. -/
def State.phiSet (s : State) (f : Word) : State := s.phiMove (f - s.rd R.PFB_RES_FINE).toInt

/-- An angle in (−π, π] as a 32-bit fraction of a turn. -/
def radFraction (x : F32) : Word :=
  let m := w32 (fMagScaled (fDiv (fAbs x) fTwoPi) 32)
  if fSign x then -m else m

/-- Advance φ̂ by ω̂ × 2.5 ns (R259) and publish angle and speed, once per control cycle. -/
def State.phiAdvance (s : State) : State :=
  if s.fbit F.PFB_RES_CTRL_EN then
    let w := s.wHat
    let d := fMagScaled (fMul (fAbs w) fTurnCycle) 32
    if d = 0 then s.posPublish else s.phiMove (if fSign w then -Int.ofNat d else Int.ofNat d)
  else s

/-- The place of sample `k` of the excitation period in the demodulation reference, in 1/256 turn: 2πk/64 less DLY (R258). -/
def State.refPlace (s : State) (k : Nat) : Nat := (4 * k + 256 - s.fget F.PFB_RES_CTRL_DLY) % 256

/-- ref_k (R258). -/
def State.refAt (s : State) (k : Nat) : F32 := Config.sin (angleOf (s.refPlace k) 256)

/-- A sample qualifies: |ref_k| is at least 0.3, which 13/256 turn is the first to reach (R265). -/
def State.qualifies (s : State) (k : Nat) : Bool :=
  let i := s.refPlace k % 128
  decide (13 ≤ i) && decide (i ≤ 115)

/-- The commanded voltage at RES_EXC_P/N at sample `k`: a sine of peak PFB_RES_EXC_AMP, zero upward at `k` = 0 (R255). -/
def State.excCommand (s : State) (k : Nat) : F32 := fMul (s.rd R.PFB_RES_EXC_AMP) (Config.sin (angleOf k 64))

/-- The uncorrected results S and C over the last 64 pairs (R258). -/
def State.resRaw (s : State) : F32 × F32 :=
  let sum (f : ResSample → BitVec 16) : F32 :=
    fMul 0x3D000000 (s.pfb.pairs.foldr (fun x a => fAdd a (fMul (s.refAt x.k) (fOfInt (f x).toInt))) 0)
  (sum (·.s), sum (·.c))

/-- The calibrated sums S′ and C′ (R268). -/
def State.resSums (s : State) (d : F32 × F32) : F32 × F32 :=
  let g := s.rd R.PFB_RES_CAL_G
  let dl := s.rd R.PFB_RES_CAL_DELTA
  let sp := fDiv (fSub d.1 (s.rd R.PFB_RES_CAL_S0)) g
  (sp, fDiv (fSub (fSub d.2 (s.rd R.PFB_RES_CAL_C0)) (fMul (fMul sp g) (Config.sin dl))) (fMul g (Config.cos dl)))

/-- The generator's period suits the excitation (R256). -/
def State.resPerOk (s : State) (g : Nat) : Bool :=
  let p := (s.rd (R.CLE_GLB_RATE g)).toNat
  p % 8 == 0 && decide (5000 ≤ p) && decide (p ≤ 25000)

/-- The tracking context is configured as R260 states and enabled (R261). -/
def State.trkOk (s : State) : Bool :=
  let n := s.fget F.PFB_RES_CTRL_TRK_CTX
  let ch := s.chainAct n
  s.ctxOn n && s.fget (F.CLE_CTX_TRIG_SRC n) == 3 && s.fget (F.CLE_CTX_TRIG_SEL n) == s.fget F.PFB_RES_CTRL_GEN &&
    s.fget (F.CLE_CTX_TRIG_DIVM1 n) == 0 && s.fget (F.CLE_CTX_MSEL_SIG n) == 0x105 && s.fbit (F.CLE_CTX_CTRL_ERR_MODE n) &&
    s.fget (F.CLE_CTX_FFSEL_MODE n) == 2 && s.fget (F.CLE_CTX_FFSEL_SIG n) == 0x107 && s.fget (F.CLE_CTX_DST_KIND n) == 0 &&
    !s.fbit (F.CLE_CTX_CTRL_RAMP_EN n) && s.fbit (F.CLE_CTX_CTRL_ZERO_ON_EN n) && ch.2 != 0 && (s.section ch.1).integ

/-- A loss condition holds (R265): amplitude, excitation, tracking or converter. -/
def Pfb.lossHolds (p : Pfb) : Bool :=
  p.ampBad == 3 || p.excBad == 3 || p.curLim || !p.exc || p.trkBad || decide (16 < p.devSin.toInt.natAbs) || decide (16 < p.devCos.toInt.natAbs)

/-- Bring up to date since when no loss condition holds, at time `t`; a declared loss ends where none does (R262). -/
def State.lossNote (s : State) (t : Nat) : State :=
  if s.pfb.lossHolds then { s with pfb := { s.pfb with cleanSince := max s.pfb.cleanSince t } } else { s with pfb := { s.pfb with lossOn := false } }

/-- Begin an acquisition (R262). -/
def State.resAcquireStart (s : State) : State :=
  ({ s with pfb := { s.pfb with stage := .clean, locks := 0, trkBad := false, cleanSince := s.time } }).fput F.PFB_STAT_ACQ true |>.sput 0x105 0

/-- Declare a resolver loss and acquire again (R265 to R267). -/
def State.resLost (s : State) (cause : Nat) (c : Code) (p : Payload) : State :=
  let cls := s.lossClass 0
  let s1 := ({ s with pfb.lossOn := true }.fput F.PFB_STAT_LOCK false).fset F.PFB_STAT_CAUSE cause
  let s2 := s1.validUpdate cause
  (s2.raiseAs c.code 0 cls 0 p false).resAcquireStart

/-- Declare a loss on the first condition that holds, once until the loss has ended (R265). -/
def State.resDeclare (s : State) : State :=
  let p := s.pfb
  if p.lossOn then s
  else if p.ampBad = 3 then s.resLost 1 C.PFB_RES_AMP { w1 := p.ratio }
  else if p.excBad = 3 then s.resLost 2 C.PFB_RES_EXC {}
  else if p.curLim then s.resLost 2 C.PFB_RES_EXC { w0 := bytes4 1 0 0 0 }
  else if p.trkBad then s.resLost 3 C.PFB_RES_TRACK { w1 := s.sget 0x105, w2 := s.wHat }
  else if 16 < p.devSin.toInt.natAbs then s.resLost 4 C.PFB_RES_ADC { w1 := halves p.devSin.toNat 0 }
  else if 16 < p.devCos.toInt.natAbs then s.resLost 4 C.PFB_RES_ADC { w0 := bytes4 1 0 0 0, w1 := halves p.devCos.toNat 0 }
  else s

/-- A further qualifying sample, good or bad, in a count of consecutive bad ones (R265). -/
def badCount (n : Nat) (qual bad : Bool) : Nat := if !qual then n else if bad then satAdd n 1 3 else 0

/-- The next pair of the converters, at its instant after the last firing (R257, R265). -/
def State.pairIn (s : State) (x : ResPair) : State :=
  match s.pfb.firedAt with
  | none => s
  | some t0 =>
    let p := s.pfb
    if 8 ≤ p.taken then s
    else
      let k := 8 * p.eighth + p.taken
      let after := p.taken * (s.rd (R.CLE_GLB_RATE (s.fget F.PFB_RES_CTRL_GEN))).toNat / 8
      let stamp := t0 + BitVec.ofNat 64 after
      let a := fOfInt x.s.toInt
      let b := fOfInt x.c.toInt
      let ratio := fDiv (fSqrt (fAdd (fMul a a) (fMul b b))) (fMul (fAbs (s.refAt k)) (s.rd R.PFB_RES_AMP_NOM))
      let ampOut := fLt ratio (s.rd R.PFB_RES_AMP_LO) || fLt (s.rd R.PFB_RES_AMP_HI) ratio
      let excOut := fLt (fMul 0x3DCCCCCD (s.rd R.PFB_RES_EXC_AMP)) (fAbs (fSub x.exc (s.excCommand k)))
      let q := s.qualifies k
      let r : Pfb := { p with
          taken := p.taken + 1
          pairs := ({ k := k, s := x.s, c := x.c, stamp := stamp } :: p.pairs).take 64
          ampBad := badCount p.ampBad q ampOut
          excBad := badCount p.excBad q excOut
          ratio := ratio }
      ({ s with pfb := r }.lossNote (s.time - (s.clave - stamp).toNat)).resDeclare

/-- The pairs of a list, oldest first. -/
def State.pairsIn (s : State) (l : List ResPair) : State := l.foldl State.pairIn s

/-- A pair the converters give that no command names, left open. -/
def State.pairFree (s : State) : State :=
  let f := s.fresh
  f.2.pairIn { s := f.1.setWidth 16, c := (f.1 >>> 16).setWidth 16, exc := (f.1 >>> 32).setWidth 32 }

/-- Take pairs no command names until all `n` after the last firing are held. -/
def State.pairsFree (s : State) : Nat → State
  | 0 => s
  | n + 1 => (if s.pfb.taken < 8 && s.pfb.firedAt.isSome then s.pairFree else s).pairsFree n

/-- One full excitation period has passed in which no loss condition held (R262). -/
def State.resClean (s : State) : Bool :=
  !s.pfb.lossHolds && s.past s.pfb.cleanSince (8 * (s.rd (R.CLE_GLB_RATE (s.fget F.PFB_RES_CTRL_GEN))).toNat)

/-- Set the step of the acquisition. -/
def State.setStage (s : State) (x : ResStage) : State := { s with pfb := { s.pfb with stage := x } }

/-- Take a result into the acquisition (R262), the lock count (R264) and the tracking condition (R265). -/
def State.resTake (s : State) (ang eps : F32) : State :=
  let p := s.pfb
  let ok := !p.lossHolds
  match p.stage with
  | .off => s
  | .clean => if s.resClean then ({ s with pfb := { p with stage := .first, angLast := ang } }).phiSet (radFraction ang) else s
  | .first => if ok then { s with pfb := { p with stage := .second, angPrev := p.angLast, angLast := ang } } else s.setStage .clean
  | .second => if ok then s else s.setStage .clean
  | .track =>
    let good := ok && fLe (fAbs eps) (s.rd R.PFB_RES_LOCK_LIM)
    { s with pfb := { p with locks := if good then satAdd p.locks 1 32 else 0, trkBad := fLt (s.rd R.PFB_RES_TRK_LIM) (fAbs eps) } }

/-- One sixteenth of the way from a parameter to its fit (R269). -/
def sixteenth (a b : F32) : F32 := fAdd a (fMul (fSub b a) 0x3D800000)

/-- The parameters move one sixteenth of the way to a fit that is due (R269). -/
def State.calMove (s : State) : State :=
  match s.pfb.fitDue with
  | none => s
  | some l =>
    let step (t : State) (a i : Nat) : State := t.wr a (sixteenth (t.rd a) (Config.ellipseFit l i))
    let s1 := { s with pfb := { s.pfb with fitDue := none } }
    step (step (step (step s1 R.PFB_RES_CAL_S0 0) R.PFB_RES_CAL_C0 1) R.PFB_RES_CAL_G 2) R.PFB_RES_CAL_DELTA 3

/-- The online calibration runs (R269). -/
def State.calRuns (s : State) : Bool :=
  let w := fAbs s.wHat
  s.fbit F.PFB_RES_CTRL_CAL_EN && s.fbit F.PFB_STAT_VALID && fLe (s.rd R.PFB_RES_CAL_WMIN) w && fLe w (s.rd R.PFB_RES_CAL_WMAX)

/-- Gather a result for the fit over the present revolution; one that is complete waits for its fit (R269). -/
def State.calGather (s : State) (d : F32 × F32) : State :=
  let p := s.pfb
  let pos := s.rd R.PFB_RES_ANGLE
  if !s.calRuns then { s with pfb := { p with revStart := none, rev := [] } }
  else
    match p.revStart with
    | none => { s with pfb := { p with revStart := some pos, rev := [d] } }
    | some x =>
      if 65536 ≤ (pos - x).toInt.natAbs then { s with pfb := { p with revStart := some pos, rev := [d], revDone := some p.rev.reverse } }
      else { s with pfb := { p with rev := d :: p.rev } }

/-- A demodulation result at a firing of the resolver's generator (R258, R263). -/
def State.resDemod (s : State) : State :=
  let s := s.calMove
  let raw := s.resRaw
  let sc := s.resSums raw
  let m := fSqrt (fAdd (fMul sc.1 sc.1) (fMul sc.2 sc.2))
  let a := fDiv m (s.rd R.PFB_RES_AMP_NOM)
  let phi := angleOf (s.rd R.PFB_RES_FINE).toNat (2 ^ 32)
  let eps := if fLe (s.rd R.PFB_RES_AMP_LO) a && s.pfb.stage == .track then
      fDiv (fSub (fMul sc.1 (Config.cos phi)) (fMul sc.2 (Config.sin phi))) m else 0
  let s1 := { (((s.sput 0x106 a).sput 0x105 eps).count 0x0C0 1) with pfb.lastRes := s.time }
  (s1.resTake (Config.atan2 sc.1 sc.2) eps).calGather raw

/-- The generator has fired: the next eighth of the excitation period begins, the first at its upward zero (R255). -/
def State.eighthNext (s : State) : State :=
  { s with pfb := { s.pfb with
      firedAt := some s.clave
      eighth := if s.pfb.firedAt.isSome then (s.pfb.eighth + 1) % 8 else 0
      taken := 0 } }

/-- Rate generator `g` has fired: where it paces the resolver, the pairs since its last firing are held, a loss condition they show is declared
and the result is taken (R255 to R258, R265). -/
def State.resFiring (s : State) (g : Nat) (l : List ResPair) : State :=
  if s.fbit F.PFB_RES_CTRL_EN && s.pfb.exc && decide (s.fget F.PFB_RES_CTRL_GEN = g) then
    ((((s.pairsIn l).pairsFree 8).resDeclare).resDemod.lossNote s.time).eighthNext
  else s

/-- Both results after the clean period are there: ω_acq takes up the speed and tracking starts (R262). -/
def State.resAcquired (s : State) : State :=
  if s.pfb.stage = .second then
    let w := fSub s.pfb.angLast s.pfb.angPrev
    let wr := if fLt fPi w then fSub w fTwoPi else if fLe w (fNeg fPi) then fAdd w fTwoPi else w
    let dt := fMul fTick (fOfNat ((s.rd (R.CLE_GLB_RATE (s.fget F.PFB_RES_CTRL_GEN))).toNat))
    let acq := fAdd (s.sget 0x107) (fSub (fDiv wr dt) s.wHat)
    let s1 := { s with pfb := { s.pfb with stage := .track, locks := 0 } }
    ((s1.sput 0x107 acq).phiSet (radFraction s.pfb.angLast)).fput F.PFB_STAT_ACQ false |>.count 0x0C2 1
  else s

/-- RES_ACQUIRE (R262). -/
def execResAcquire (s : State) : Host.Outcome State Fault Refusal := .next s.resAcquired

/-- RES_LOCK (R261, R264): 32 results within the limit and a tracking context as R260 states. -/
def execResLock (s : State) : Host.Outcome State Fault Refusal :=
  .next (if s.fbit F.PFB_RES_CTRL_EN && decide (s.pfb.stage = .track) && decide (32 ≤ s.pfb.locks) && !s.fbit F.PFB_STAT_LOCK && s.trkOk then
    (s.fput F.PFB_STAT_LOCK true).validUpdate 0 else s)

/-- What the sender of RES_LOSS sees enters the state (R265, R270). -/
def State.lossSeen (s : State) (cond : ResCond) : State :=
  match cond with
  | .samples l => s.pairsIn l
  | .current n => ({ s with pfb := { s.pfb with curLim := decide (800 ≤ n) } }).lossNote s.time
  | .tracking => s
  | .converter cosine dev =>
    (if cosine then { s with pfb := { s.pfb with devCos := dev } } else { s with pfb := { s.pfb with devSin := dev } }).lossNote s.time

/-- RES_LOSS (R265, R270). -/
def State.resLossEv (s : State) (cond : ResCond) : State :=
  if !s.fbit F.PFB_RES_CTRL_EN || !s.pfb.exc then s else (s.lossSeen cond).resDeclare

/-- RES_LOSS (R266). -/
def execResLoss (cond : ResCond) (s : State) : Host.Outcome State Fault Refusal := .next (s.resLossEv cond)

/-- The period of generator `g` has changed: with EN = 1 the excitation stops and an excitation fault is declared (R256). -/
def State.resPeriodChanged (s : State) (g : Nat) : State :=
  if s.fbit F.PFB_RES_CTRL_EN && s.pfb.exc && decide (s.fget F.PFB_RES_CTRL_GEN = g) then
    ({ s with pfb.exc := false }).resLost 2 C.PFB_RES_EXC { w0 := bytes4 2 0 0 0 }
  else s

/-- The first parameter of a fit outside its limits: its number and value (R269). -/
def State.fitBad (s : State) (f : Nat → F32) : Option (Nat × F32) :=
  let lim := fMul (s.rd R.PFB_RES_AMP_NOM) 0x3DCCCCCD
  if !fLe (fAbs (f 0)) lim then some (0, f 0)
  else if !fLe (fAbs (f 1)) lim then some (1, f 1)
  else if !(fLe 0x3F4CCCCD (f 2) && fLe (f 2) 0x3FA00000) then some (2, f 2)
  else if !fLe (fAbs (f 3)) 0x3DCCCCCD then some (3, f 3)
  else none

/-- RES_CAL_FIT (R269): the fit of a complete revolution is taken at the next result, or reported. -/
def State.resCalFit (s : State) : State :=
  match s.pfb.revDone with
  | none => s
  | some l =>
    let s1 := { s with pfb := { s.pfb with revDone := none } }
    if !s.calRuns then s1
    else
      match s.fitBad (Config.ellipseFit l) with
      | some (i, v) => s1.raise C.PFB_RES_CAL_LIMIT 0 { w0 := bytes4 i 0 0 0, w1 := v }
      | none => { s1 with pfb := { s1.pfb with fitDue := some l } }

/-- RES_CAL_FIT (R269). -/
def execResCalFit (s : State) : Host.Outcome State Fault Refusal := .next s.resCalFit

/-- DONE bit 5 needs the resolver check and the LG diagnostics (R107, R272); a check that passes after it had failed has not failed. -/
def State.armBit5 (s : State) : State :=
  if s.seq.diagOk && s.seq.resOk then (s.rput R.SYS_ARM_STAT 5 true).rput R.SYS_ARM_STAT 13 false else s

/-- RES_CHECK_PASS (R272). -/
def execResCheckPass (s : State) : Host.Outcome State Fault Refusal :=
  .next (if s.inMode .arming && s.lasted s.pfb.validSince (msTicks 10) && !s.seq.resOk then ({ s with seq.resOk := true }).armBit5 else s)

/-- VALID had held for 10 ms within 100 ms of the excitation's start (R272). -/
def State.heldInTime (s : State) : Bool :=
  match s.pfb.validSince with
  | some t => decide (t + msTicks 10 ≤ s.pfb.excStart + msTicks 100)
  | none => false

/-- PFB_RES_CHECK_FAIL (R109, R272): within 100 ms of the excitation's start VALID has not held for 10 ms. -/
def execPfbResCheckFail (s : State) : Host.Outcome State Fault Refusal :=
  .next (if s.inMode .arming && s.fbit F.PFB_RES_CTRL_EN && s.past s.pfb.excStart (msTicks 100) && !s.seq.resOk && !s.pfb.chkFail && !s.heldInTime then
    (({ s with pfb.chkFail := true }).rput R.SYS_ARM_STAT 13 true).raise C.PFB_RES_CHECK_FAIL 0 { w0 := bytes4 (s.fget F.PFB_STAT_CAUSE) 0 0 0 } else s)

/-- The excitation starts at time `t`: nothing is held of an earlier one (R255, R262). -/
def Pfb.excited (p : Pfb) (t : Nat) : Pfb :=
  { p with
    exc := true
    excStart := t
    lossOn := false
    firedAt := none
    eighth := 0
    taken := 0
    pairs := []
    ampBad := 0
    excBad := 0
    curLim := false
    trkBad := false
    devSin := 0
    devCos := 0
    revStart := none
    rev := []
    revDone := none
    fitDue := none }

/-- PFB_RES_CTRL is written (R256): GEN and TRK_CTX are locked while EN = 1. -/
def State.resCtrlWrite (s : State) (v : Word) : State :=
  let old := s.rd R.PFB_RES_CTRL
  let on := old.getLsbD 0
  let v1 := if on then putBits (putBits v 22 16 (bits old 22 16)) 6 4 (bits old 6 4) else v
  let s1 := s.wr R.PFB_RES_CTRL (putBits v1 0 0 (b2n on))
  if v.getLsbD 0 && !on then
    if s1.resPerOk (s1.fget F.PFB_RES_CTRL_GEN) then
      let s2 := (s1.fput F.PFB_RES_CTRL_EN true).sput 0x107 0
      ({ s2 with pfb := s2.pfb.excited s.time }).resAcquireStart
    else s1.raise C.PFB_CFG_INVALID 255 { w0 := bytes4 0 1 0 0 }
  else if !v.getLsbD 0 && on then
    let s2 := ({ (s1.fput F.PFB_RES_CTRL_EN false) with pfb := { s1.pfb with exc := false, stage := .off, locks := 0 } }).fput F.PFB_STAT_ACQ false
    ((s2.fput F.PFB_STAT_LOCK false).sput 0x105 0).validUpdate 7
  else s1

/-- PFB_CFG is written (R253): POLE, RPOLE and SRC are locked while EN = 1; SRC 2 and 3 are ignored. -/
def State.pfbCfgWrite (s : State) (v : Word) : State :=
  let old := s.rd R.PFB_CFG
  if old.getLsbD 31 then
    if v.getLsbD 31 then s else (s.fput F.PFB_CFG_EN false).validUpdate 7
  else
    let v1 := s.openRange F.PFB_CFG_POLE 1 16 (s.openRange F.PFB_CFG_RPOLE 1 8 v)
    let pole := fldOf F.PFB_CFG_POLE v1
    let rp := fldOf F.PFB_CFG_RPOLE v1
    let src := if bits v 1 0 ≤ 1 then bits v 1 0 else bits old 1 0
    let s1 := s.wr R.PFB_CFG (w32 (pole * 2 ^ 16 + rp * 2 ^ 8 + src))
    if !v.getLsbD 31 then s1.encForm
    else if pole % rp = 0 then ((s1.fput F.PFB_CFG_EN true).validUpdate 0).encForm
    else s1.raise C.PFB_CFG_INVALID 255 {}

/-! ### The encoder (R273 to R280) -/

/-- Counts per tick as an electrical speed in rad/s. -/
def State.encRate (s : State) (counts : Int) (ticks : Nat) : F32 :=
  let w := fMul (turnsRad (s.fget F.PFB_CFG_POLE * counts.natAbs) (s.rd R.PFB_ENC_CPR).toNat) (fOfRatio 800000000 ticks)
  if counts < 0 then fNeg w else w

/-- The encoder speed at an edge: the change over the last four edges by the time they took; a free value before there are five
edges (R280). -/
def State.encSpeed (s : State) : F32 × State :=
  match s.pfb.encEdges with
  | a :: b :: c :: d :: e :: _ =>
    let sg (p : Nat × Bool) : Int := if p.2 then 1 else -1
    (s.encRate (sg a + sg b + sg c + sg d) (a.1 - e.1), s)
  | _ => (s.fresh.1.setWidth 32, s.fresh.2)

/-- The direction of an edge: up when A leads B (R273). -/
def encUp (a a' b' : Bool) : Bool := if a != a' then a' != b' else a == b'

/-- A level of ENC_A, ENC_B or ENC_Z that has stood for `n` control cycles passes the filter (R273). -/
def State.encStable (s : State) (n : Nat) : Bool := decide (s.fget F.PFB_ENC_CFG_FILT < n)

/-- An index taken in the control cycle of a quadrature error is ignored: what it did is taken back, and its record that still waits (R278). -/
def State.encUntake (s : State) : State :=
  match s.pfb.encIdx with
  | none => s
  | some x =>
    if x.cyc ≠ s.cyc then s
    else
      let s1 := ((s.wr R.PFB_ENC_COUNT x.count).wr R.PFB_ENC_IDX_DEV x.dev).fput F.PFB_STAT_ENC_REF x.ref
      let mine (r : JRec) : Bool := [C.PFB_ENC_IDX_FIRST.code, C.PFB_ENC_IDX_CORR.code, C.PFB_ENC_IDX_FAULT.code].contains r.code && r.raised == s.cyc
      { s1 with
        pfb := { s1.pfb with encInval := x.inval, encIdx := none }
        jrn := { s1.jrn with waiting := s1.jrn.waiting.filter fun r => !mine r } }

/-- A and B changed in one control cycle: nothing counts for it, an edge counted in it is taken back (R275). -/
def State.encError (s : State) (a b : Bool) : State :=
  let s := s.encUntake
  let p := s.pfb
  let s0 := if p.encCyc = s.cyc + 1 then (s.wr R.PFB_ENC_COUNT p.encWas).encPublish (s.sget 0x109) else s
  let sel := s.fget F.PFB_CFG_SRC == 1
  let cls := s.lossClass 1
  let s1 := { s0 with pfb := { p with
      encA := a
      encB := b
      encQerr := s.cyc + 1
      encInval := p.encInval || sel
      encCyc := 0
      encEdges := if p.encCyc = s.cyc + 1 then p.encEdges.drop 1 else p.encEdges } }
  (s1.validUpdate 5).raiseAs C.PFB_ENC_QERR.code 1 cls 0 { w1 := s0.rd R.PFB_ENC_COUNT } false |>.count 0x0C4 1

/-- An edge of A or B (R273, R275, R280). -/
def State.encEdgeEv (s : State) (a b : Bool) : State :=
  let p := s.pfb
  if a == p.encA && b == p.encB then s
  else if (a != p.encA && b != p.encB) || decide (p.encCyc = s.cyc + 1) then s.encError a b
  else if p.encQerr = s.cyc + 1 then { s with pfb := { p with encA := a, encB := b } }
  else
    let up := encUp p.encA a b != s.fbit F.PFB_ENC_CFG_DIR_INV
    let old := s.rd R.PFB_ENC_COUNT
    let new := if up then old + 1 else old - 1
    let s1 := ({ s with pfb := { p with
        encA := a
        encB := b
        encEdges := ((s.now, up) :: p.encEdges).take 6
        encLast := s.time
        encCyc := s.cyc + 1
        encWas := old } }).wr R.PFB_ENC_COUNT new
    let v := s1.encSpeed
    ((v.2.encPublish v.1).counterChange 1 old new s.clave).count 0x0C3 1

/-- ENC_EDGE (R273): the levels that have stood long enough are the filtered ones. -/
def execEncEdge (a b : Bool) (na nb : Nat) (s : State) : Host.Outcome State Fault Refusal :=
  .next (if s.fbit F.PFB_ENC_CFG_EN then
    s.encEdgeEv (if s.encStable na then a else s.pfb.encA) (if s.encStable nb then b else s.pfb.encB) else s)

/-- d = count − expected at an index, in (−CPR/2, CPR/2] (R277). -/
def State.encDev (s : State) : Int :=
  let cpr := Int.ofNat (s.rd R.PFB_ENC_CPR).toNat
  let r := Int.ofNat s.encMod
  if 2 * r ≤ cpr then r else r - cpr

/-- An index (R276 to R279). -/
def State.encIndexEv (s : State) (n : Nat) : State :=
  let p := s.pfb
  if !s.fbit F.PFB_ENC_CFG_EN || !s.encStable n || (s.fbit F.PFB_ENC_CFG_ZQUAL && !(p.encA && p.encB)) || p.encQerr = s.cyc + 1 then s
  else
    let old := s.rd R.PFB_ENC_COUNT
    let x : EncTaken := { cyc := s.cyc, count := old, dev := s.rd R.PFB_ENC_IDX_DEV, ref := s.fbit F.PFB_STAT_ENC_REF, inval := p.encInval }
    let s := { s.count 0x0C5 1 with pfb := { p with encIdx := some x } }
    if !s.fbit F.PFB_STAT_ENC_REF || p.encInval then
      let new := s.rd R.PFB_ENC_IDX_POS
      let s1 := (({ s with pfb.encInval := false }).wr R.PFB_ENC_COUNT new).fput F.PFB_STAT_ENC_REF true
      let s2 := (s1.encPublish (s1.sget 0x109)).validUpdate 0
      (s2.raise C.PFB_ENC_IDX_FIRST 1 { w1 := old }).counterChange 1 old new s.clave
    else
      let d := s.encDev
      let dw : Word := BitVec.ofInt 32 d
      let s1 := s.wr R.PFB_ENC_IDX_DEV dw
      if d = 0 then s1
      else if d.natAbs ≤ s.fget F.PFB_ENC_IDX_TOL_TOL then
        let s2 := s1.wr R.PFB_ENC_COUNT (old - dw)
        ((s2.encPublish (s2.sget 0x109)).raise C.PFB_ENC_IDX_CORR 1 { w1 := dw }).counterChange 1 old (old - dw) s.clave
      else
        let cls := s.lossClass 1
        ((s1.fput F.PFB_STAT_ENC_REF false).validUpdate 6).raiseAs C.PFB_ENC_IDX_FAULT.code 1 cls 0 { w1 := dw } false

/-- ENC_INDEX (R276). -/
def execEncIndex (n : Nat) (s : State) : Host.Outcome State Fault Refusal := .next (s.encIndexEv n)

/-- ENC_SPEED_TIMEOUT (R280): no edge for PFB_ENC_TMO. -/
def execEncSpeedTimeout (s : State) : Host.Outcome State Fault Refusal :=
  .next (if s.fbit F.PFB_ENC_CFG_EN && s.past s.pfb.encLast (usTicks (s.fget F.PFB_ENC_TMO_TMO)) then s.encPublish 0 else s)

/-- The encoder speed's bound while no edge follows (R280): 4 counts by the time since the fourth-last edge. -/
def State.encLimit (s : State) : State :=
  match s.pfb.encEdges with
  | a :: b :: _ :: d :: _ =>
    if s.now ≤ a.1 + (a.1 - b.1) || s.now = d.1 then s
    else
      let lim := s.encRate 4 (s.now - d.1)
      let w := s.sget 0x109
      if fLt lim (fAbs w) then s.encPublish (if fSign w then fNeg lim else lim) else s
  | _ => s

/-! ### The Hall decoders (R281 to R286) -/

/-- The sector of a filtered code (R282). -/
def State.hallSector (s : State) (m c : Nat) : Nat :=
  if c = 0 then 0 else if c = 7 then 7 else bits (s.rd (R.PFB_HALL_MAP m)) (4 * (c - 1) + 2) (4 * (c - 1))

/-- The step between valid sectors, in −3 (ambiguous) to 2 (R284). -/
def hallStep (a b : Nat) : Int :=
  match (b + 6 - a) % 6 with
  | 0 => 0
  | 1 => 1
  | 2 => 2
  | 3 => -3
  | 4 => -2
  | _ => -1

/-- The speed after a step (R285), from the sector changes, newest first: over a turn where the last six were single steps of one direction, else
over the last change. The second part is the state after a free value where the rule gives none: before two changes, and the sign of an
ambiguous step. -/
def State.hallSpeed (s : State) (ch : List (Nat × Int)) : F32 × State :=
  let one (d : Int) : Bool := (ch.take 6).all fun p => p.2 == d
  match ch with
  | a :: b :: _ =>
    if ch.length = 7 ∧ (one 1 = true ∨ one (-1) = true) then
      let w := fDiv fTwoPi (fMul fTick (fOfNat (a.1 - (nth (0, 0) ch 6).1)))
      (if a.2 < 0 then fNeg w else w, s)
    else
      let w := fDiv fPi3 (fMul fTick (fOfNat (a.1 - b.1)))
      if a.2 = -3 then (if s.fresh.1.getLsbD 0 then fNeg w else w, s.fresh.2) else (if a.2 < 0 then fNeg w else w, s)
  | _ => (s.fresh.1.setWidth 32, s.fresh.2)

/-- PFB_HALL_STEP[m] moves by `d` (R284, R286). -/
def State.hallMove (s : State) (m : Nat) (d : Int) (stamp : Nat) : State :=
  let h := s.hallAt m
  let old := s.actCount m
  let new := old + BitVec.ofInt 32 d
  let by_ := if h.stepAt = s.perClock + 1 then h.stepBy + d else d
  let s1 := { s with pfb.halls := SMap.set (fun _ => {}) s.pfb.halls m { h with stepAt := s.perClock + 1, stepBy := by_ } }
  (s1.wr (R.PFB_HALL_STEP m) new).counterChange (2 + m) old new (BitVec.ofNat 64 stamp)

/-- The sector of decoder `m` has changed to `sec`, at `stamp` (R283 to R286). -/
def State.hallEnter (s : State) (m sec stamp : Nat) (valid : Bool) (last : Nat) : State :=
  let h := s.hallAt m
  let s1 := ((s.wr64 (R.PFB_HALL_STAMP_LO m) (R.PFB_HALL_STAMP_HI m) (BitVec.ofNat 64 stamp)).count (0x0C6 + m) 1).count (0x0C9 + m) (b2n (!valid))
  let d := if valid && last != 0 then hallStep last sec else 0
  let ch := ((stamp, d) :: h.changes).take 7
  let s2 := { s1 with pfb.halls := SMap.set (fun _ => {}) s1.pfb.halls m { h with changes := ch, last := s.time + 1 } }
  let s3 := if d = -3 then s2.finc (F.PFB_HALL_INV_CNT_AMB m) 1 else s2
  let s4 := if d ≠ 0 then
      let v := s3.hallSpeed ch
      (v.2.sput (0x111 + 2 * m) v.1).actWatch m else s3
  let s5 := (s4.sput (0x110 + 2 * m) (fOfNat sec)).actCommutate m
  let s6 := if d = -3 ∨ d = 0 then s5 else s5.hallMove m d stamp
  if m = 1 then s6.plUpdate else s6

/-- A Hall code that has stood for `n` peripheral clocks, unlike the filtered one, is accepted (R281 to R286). -/
def State.hallChange (s : State) (m c n jit : Nat) : State :=
  if !s.fbit (F.PFB_HALL_CFG_EN m) || decide (c = s.fget (F.PFB_HALL_STAT_CODE m)) || !s.hallStable m n then s
  else
    let oldSec := s.actSector m
    let sec := s.hallSector m c
    let last := s.fget (F.PFB_HALL_STAT_LAST m)
    let valid := sec != 0 && sec != 7
    let s1 := ((s.fset (F.PFB_HALL_STAT_CODE m) c).fset (F.PFB_HALL_STAT_SECTOR m) sec).fset (F.PFB_HALL_STAT_LAST m) (if valid then sec else last)
    let s2 := if valid then s1 else s1.finc (F.PFB_HALL_INV_CNT_INV m) 1
    if sec = oldSec then s2 else s2.hallEnter m sec (s.now + jit - 16 - 16 * n) valid last

/-- HALL_SECTOR_CHANGE (R282). -/
def execHallSectorChange (m : Fin 3) (code : Fin 8) (stable : Nat) (jitter : Fin 33) (s : State) : Host.Outcome State Fault Refusal :=
  .next (s.hallChange m.val code.val stable jitter.val)

/-- HALL_TIMEOUT (R285): no change for PFB_HALL_TMO. -/
def execHallTimeout (m : Fin 3) (s : State) : Host.Outcome State Fault Refusal :=
  let h := s.hallAt m.val
  .next (if h.last ≠ 0 ∧ s.past (h.last - 1) (usTicks ((s.rd (R.PFB_HALL_TMO m.val)).toNat)) then (s.sput (0x111 + 2 * m.val) 0).actWatch m.val else s)

/-- PFB_CMP_VAL[c] is written (R287, R289, R422). -/
def State.cmpValWrite (s : State) (c : Nat) (v : Word) : State :=
  if 5 ≤ c ∧ s.actEn (c - 5) = true then s.actInvalid (c - 5) (0x404 + 0x20 * c) 1
  else if s.fbit (F.PFB_CMP_CTRL_EN c) then
    let r := s.cmpArmAt c v
    if r.2 then r.1.actEvents [c] else r.1
  else s.wr (R.PFB_CMP_VAL c) v

end Sys2Proof.Machine
end

