-- ==== Sys2Proof/Machine/Protect.lean ====
section
/-! DEFINITION. The timer groups' events, the gate feedback and the protections of the drivers, with what the stages do when a leg latches (R298 to R301, R306, R312, R317 to R352, R246). -/

namespace Sys2Proof.Machine

/-! ### Carrier events -/

/-- The carrier of group `g` starts at 0 (R299, R300). -/
def State.carrierStart (s : State) (g : Nat) : State :=
  if s.startDue g then
    s.setGrp g { s.grp g with running := true, starting := none, resync := none, t0 := s.time, centres := 0, peaks := 0, updates := 0 }
  else s

/-- PWM_CARRIER_START (R299). -/
def execPwmCarrierStart (g : Fin 12) (s : State) : Host.Outcome State Fault Refusal := .next (s.carrierStart g.val)

/-- The requests of group `g` are evaluated; at an update instant once its load has come (R308). -/
def State.requestsFollow (s : State) (g : Nat) : State := if s.updFresh g then s else s.grpFollow g

/-- A centre event (R298): its stamp, and its triggers at the ADC and the CLE. -/
def State.centreEvent (s : State) (g : Nat) : State :=
  let gr := s.grp g
  if gr.running && decide (gr.centres < s.centresDue g) then
    let s1 := (s.setGrp g { gr with centres := gr.centres + 1 }).wr64 (R.PWM_GRP_EVSTAMP_LO g) (R.PWM_GRP_EVSTAMP_HI g) s.clave
    (((s1.adcPwm g 0).clePwm g 0).syncGroups g 12).requestsFollow g
  else s

/-- PWM_CENTRE_EVENT (R298). -/
def execPwmCentreEvent (g : Fin 12) (s : State) : Host.Outcome State Fault Refusal := .next (s.centreEvent g.val)

/-- A peak event (R298). -/
def State.peakEvent (s : State) (g : Nat) : State :=
  let gr := s.grp g
  if gr.running && decide (gr.peaks < s.peaksDue g) then
    (((s.setGrp g { gr with peaks := gr.peaks + 1 }).adcPwm g 1).clePwm g 1).requestsFollow g
  else s

/-- PWM_PEAK_EVENT (R298). -/
def execPwmPeakEvent (g : Fin 12) (s : State) : Host.Outcome State Fault Refusal := .next (s.peakEvent g.val)

/-- The traction part of an update event: a change of modulation applies (R218), a stop takes effect (R231). -/
def State.tmuUpdate (s : State) (g : Nat) : State :=
  if 1 < g then s else ({ s with tmu := { s.tmu with mod := s.fget F.TMU_CFG_MOD } }).tmuStopAt g

/-- The sequencers' part of an update event: the charger's (R414) and the LV converter's (R371, R372, R375). -/
def State.stageUpdate (s : State) (g : Nat) : State :=
  if g = 3 then s.chgUpdate3 else if g = 5 then s.lvcUpdate5 else if g = 6 then s.lvcUpdate6 else s

/-- An update event (R298, R306, R308, R312): removed overrides end, the shadows load, the requests follow, and the trigger goes to the ADC
and the CLE. -/
def State.updateEvent (s : State) (g : Nat) : State :=
  let gr := s.grp g
  if gr.running && decide (gr.updates < s.updatesDue g) then
    let s1 := (((s.setGrp g { gr with updates := gr.updates + 1 }).removePattern g).loadShadows g).count (0x0E0 + 8 * g) 1
    (((s1.bootLimits g (pwmLegs g)).tmuUpdate g).stageUpdate g).grpFollow g |>.adcPwm g 3 |>.clePwm g 3
  else s

/-- PWM_UPDATE_EVENT (R306). -/
def execPwmUpdateEvent (g : Fin 12) (s : State) : Host.Outcome State Fault Refusal := .next (s.updateEvent g.val)

/-! ### What a latched leg does to its stage -/

/-- A short or a switch stuck on is recorded on side `low`. -/
def LegRec.conducts (r : LegRec) (low : Nat) : Bool := if low = 0 then r.hShort || r.hStuck else r.lShort || r.lStuck

/-- Some traction leg latched within the window conducts on side `low` (R246). -/
def State.sideRecent (s : State) (low : Nat) : Bool :=
  s.pwm.legs.any fun p => decide (p.1 < 32) && s.legLatched (p.1 / 16) (p.1 % 16) && p.2.conducts low &&
    decide (s.time ≤ p.2.stamp + usTicks (s.fget F.GDR_DETWIN_US))

/-- The sides that conduct in each system: bits 0 and 1 high and low of TS-A, bits 2 and 3 of TS-B. -/
def State.sidesByte (s : State) : Nat :=
  let f (g low : Nat) : Nat := b2n ([0, 1, 2].any fun l => s.legLatched g l && (s.leg g l).conducts low)
  f 0 0 + 2 * f 0 1 + 4 * f 1 0 + 8 * f 1 1

/-- Shorts or stuck switches on both sides within one window: both systems OFF and the contactor-open request (R246). -/
def State.shortBoth (s : State) (code : BitVec 16) : State :=
  if !s.tmu.bothSides && s.sideRecent 0 && s.sideRecent 1 then
    let s1 := ({ s with tmu := { s.tmu with bothSides := true } }).fput F.TMU_STAT_CONT_OPEN_REQ true
    (s1.holdBoth).raise C.TMU_SHORT_BOTH_SIDES 255 { w0 := bytes4 s.sidesByte code.toNat (code.toNat / 256) 0 }
  else s

/-- The stage of group `g` answers the latch of its leg `l` (R246, R352, R373, R388, R419, R438); `was`: the leg was latched before, and its
phase lost by it. -/
def State.stageLatched (s : State) (g l : Nat) (code : BitVec 16) (was : Bool) : State :=
  match g with
  | 0 => s.shortBoth code
  | 1 => s.shortBoth code
  | 2 => { s with tmu := { s.tmu with noRegen := true } }
  | 3 => s.chgFaultStop 2 code
  | 4 => s.chgFaultStop 2 code
  | 5 => s.lvcLeg 5 l code
  | 6 => if was then s else s.lvcLeg 6 l code
  | 7 => if was then s else s.lvcLeg 7 l code
  | 8 => s.actLeg 0
  | 9 => s.actLeg 1
  | 10 => s.actLeg 2
  | _ => s

/-- A leg latches for a code of class "by group": the latch, the code, a second leg, and the stage (R328 to R332). -/
def State.latchLeg (s : State) (g l low : Nat) (k : SideKind) (code : Code) (inst : Nat) (p : Payload) (dDie : Bool) : State :=
  let was := s.legLatched g l
  ((((s.latchQuiet g l low k code.code).raiseGroup g code inst p dDie).multiLeg g l was).stageLatched g l code.code was)

/-! ### Gate feedback (R317, R322 to R325) -/

/-- A channel's opposite switch counts as confirmed off because it is not used. -/
def State.unused (s : State) (ch : Nat) : Bool := decide (ch < 31) && !s.fbit (F.GDR_GC_CFG_USED ch)

/-- The traction groups' gate codes are not raised while SSA or SSB carries a code (R325). -/
def State.gateCodesOff (s : State) (g : Nat) : Bool := decide (g ≤ 1) && (s.safe.a.code != 0 || s.safe.b.code != 0)

/-- Channel `ch` waits for its turn-on since CONF_TMO. -/
def State.waitedOut (s : State) (ch : Nat) : Bool :=
  let x := s.chan ch
  s.command ch && x.cmd && !x.on && s.past x.reqAt (2 * s.fget (F.PWM_GRP_DT_CONF_TMO (legOf ch).1))

/-- The opposite switch of channel `ch` was not confirmed off in time (R317, R330). -/
def State.confirmTmo (s : State) (ch : Nat) : State :=
  let t := legOf ch
  let o := oppositeOf ch
  if t.1 = 2 || !s.waitedOut ch || (s.chan o).cmd || s.unused o || s.legLatched t.1 t.2.1 || s.gateCodesOff t.1 then s
  else
    s.latchLeg t.1 t.2.1 (1 - t.2.2) .stuck C.PWM_CONFIRM_TMO (16 * t.1 + t.2.1)
      { w0 := bytes4 t.2.2 0 0 0, w1 := w32 ((s.time - (s.chan ch).reqAt) / 2) } false

/-- PWM_CONFIRM_TMO (R317). -/
def execPwmConfirmTmo (ch : Fin 69) (s : State) : Host.Outcome State Fault Refusal := .next (s.confirmTmo ch.val)

/-- Channel `n` has been confirmed off since its last off command: its opposite was released on, or GS stood high for the 8 cycles of the
confirmation's filter before it fell, both after that command (R321, R322). -/
def State.confirmedOff (s : State) (n low high : Nat) : Bool :=
  let x := s.chan n
  x.conf || (decide (8 ≤ high) && decide (x.offAt + 2 * (low + high) ≤ s.time))

/-- GS of channel `n` has gone low for its filter time without a command (R321, R322). -/
def State.gateUncmd (s : State) (n low high : Nat) : State :=
  let t := legOf n
  let x := s.chan n
  if low < 40 || !s.confirmedOff n low high || t.1 = 2 || x.cmd || x.on || s.unused n || s.gateCodesOff t.1 then s
  else (s.rput R.GDR_GC_GS n false).latchLeg t.1 t.2.1 t.2.2 .stuck C.PWM_GATE_UNCMD (16 * t.1 + t.2.1) { w0 := bytes4 t.2.2 0 0 0 } false

/-- PWM_GATE_UNCMD (R322). -/
def execPwmGateUncmd (n : Fin 31) (low high : Nat) (s : State) : Host.Outcome State Fault Refusal := .next (s.gateUncmd n.val low high)

/-- Channel `ch` has not turned on in time (R323); for an LG channel the time is the D-die's. -/
def State.gateNoOn (s : State) (ch : Nat) : State :=
  let t := legOf ch
  let x := s.chan ch
  let due := decide (31 ≤ ch) || s.past x.onAt (16 * s.fget (F.GDR_GC_CFG_GS_ON_TMO ch))
  if t.1 = 2 || !x.on || s.unused ch || !due then s
  else s.latchLeg t.1 t.2.1 t.2.2 .opened C.PWM_GATE_NO_ON (16 * t.1 + t.2.1) { w0 := bytes4 t.2.2 0 0 0 } false

/-- PWM_GATE_NO_ON (R323). -/
def execPwmGateNoOn (ch : Fin 69) (s : State) : Host.Outcome State Fault Refusal := .next (s.gateNoOn ch.val)

/-- GF of channel `n` has been low for `low` control cycles, 40 of them its filter (R321, R324). -/
def State.gcFault (s : State) (n low : Nat) : State :=
  let t := legOf n
  if s.unused n || low < 40 then s
  else
    let s1 := s.rput R.GDR_GC_GF n true
    if s.fbit (F.GDR_GC_CFG_GF_EN n) then s1.latchLeg t.1 t.2.1 t.2.2 .short C.GDR_GC_FAULT n { w0 := bytes4 n t.2.2 0 0 } false else s1

/-- GDR_GC_FAULT (R324). -/
def execGdrGcFault (n : Fin 31) (low : Nat) (s : State) : Host.Outcome State Fault Refusal := .next (s.gcFault n.val low)

/-! ### The integrated drivers (R337, R341 to R344) -/

/-- The bridge of LG channel `k`. -/
def lgBridge (k : Nat) : Nat := bridgeOfLeg (k / 2)

/-- Bit of LG channel `k`'s leg within its bridge. -/
def legInBridge (k : Nat) : Nat := k / 2 - (bridgeLegs (lgBridge k)).1

/-- The D-die holds a channel off by its own protection. -/
def State.dTurnOff (s : State) (ch : Nat) : State := s.setChan ch { s.chan ch with dOff := true }

/-- The bootstrap of high side LG`k` stayed low (R337). -/
def State.bootUv (s : State) (k : Nat) : State :=
  let ch := 31 + k
  let t := legOf ch
  let b := lgBridge k
  if t.2.2 = 0 && !s.fbit (F.GDR_LGB_CFG_HS_SUP b) && s.waitedOut ch && !s.legLatched t.1 t.2.1 then
    (s.rput (R.GDR_LGB_STAT b) (1 + legInBridge k) true).latchLeg t.1 t.2.1 0 .none C.GDR_BOOT_UV (64 + k) { w0 := bytes4 (k / 2) 0 0 0 } false
  else s

/-- GDR_BOOT_UV (R337). -/
def execGdrBootUv (k : Fin 38) (s : State) : Host.Outcome State Fault Refusal := .next (s.bootUv k.val)

/-- The charge pump of high side LG`k` has failed (R341). -/
def State.cpFail (s : State) (k : Nat) : State :=
  let ch := 31 + k
  let t := legOf ch
  let b := lgBridge k
  if t.2.2 = 0 && s.fbit (F.GDR_LGB_CFG_HS_SUP b) && (s.chan ch).on then
    (((s.rput (R.GDR_LGB_STAT b) 4 false).dTurnOff ch)).latchLeg t.1 t.2.1 0 .none C.GDR_CP_FAIL (64 + k) { w0 := bytes4 b 0 0 0 } true
  else s

/-- GDR_CP_FAIL (R341). -/
def execGdrCpFail (k : Fin 38) (s : State) : Host.Outcome State Fault Refusal := .next (s.cpFail k.val)

/-- A drain voltage is over its threshold after blanking (R342): the D-die turns the leg off. -/
def State.lgVds (s : State) (k : Nat) : State :=
  let ch := 31 + k
  let t := legOf ch
  let b := lgBridge k
  let x := s.chan ch
  if x.on && s.fbit (F.GDR_LGB_CFG_EN b) && s.past x.onAt (200 * s.fget (F.GDR_LGB_CFG_TBLANK b)) then
    ((s.dTurnOff ch).dTurnOff (oppositeOf ch)).latchLeg t.1 t.2.1 t.2.2 .short C.GDR_LG_VDS (64 + k) { w0 := bytes4 k t.2.2 0 0 } true
  else s

/-- GDR_LG_VDS (R342). -/
def execGdrLgVds (k : Fin 38) (s : State) : Host.Outcome State Fault Refusal := .next (s.lgVds k.val)

/-- The LG channels of bridge `b`. -/
def bridgeChans (b : Nat) : List Nat := (List.range (2 * (bridgeLegs b).2)).map fun j => 31 + 2 * (bridgeLegs b).1 + j

/-- Latch each of the legs that follow LG leg `k` (`n` of them), every switch in `on` recorded as a short (R344). -/
def State.latchBridge (s : State) (on : List Nat) (k : Nat) : Nat → State
  | 0 => s
  | n + 1 =>
    let t := lgLegGroup k
    let was := s.legLatched t.1 t.2
    let kind (low : Nat) : SideKind := if on.contains (31 + 2 * k + low) then .short else .none
    let s1 := (s.latchQuiet t.1 t.2 0 (kind 0) C.GDR_LG_CC.code).latchQuiet t.1 t.2 1 (kind 1) C.GDR_LG_CC.code
    ((s1.multiLeg t.1 t.2 was).stageLatched t.1 t.2 C.GDR_LG_CC.code was).latchBridge on (k + 1) n

/-- The current comparator of bridge `b` trips (R344). -/
def State.lgCc (s : State) (b : Nat) : State :=
  if s.fbit (F.GDR_LGB_CFG_CC_EN b) then
    let chs := bridgeChans b
    let on := chs.filter fun ch => (s.chan ch).on
    let mask := on.foldl (fun a ch => a + 2 ^ (ch - 31 - 2 * (bridgeLegs b).1)) 0
    let s1 := chs.foldl (fun s ch => s.dTurnOff ch) (s.rput (R.GDR_LGB_STAT b) 0 true)
    let s2 := s1.raiseGroup (bridgeGroup b) C.GDR_LG_CC (128 + b) { w0 := bytes4 b mask 0 0 } true
    s2.latchBridge on (bridgeLegs b).1 (bridgeLegs b).2
  else s

/-- GDR_LG_CC (R344). -/
def execGdrLgCc (b : Fin 12) (s : State) : Host.Outcome State Fault Refusal := .next (s.lgCc b.val)

/-! ### Clearing a latch (R333) -/

/-- The levels that P0's write sees: GS high (off) and GF high (no fault) of the GC channels, confirmed off and flags clear of the LG channels. -/
structure GateLevels where
  gs : BitVec 31
  gf : BitVec 31
  off : BitVec 38
  clear : BitVec 38
deriving DecidableEq, Repr

/-- The conditions of R333 hold for one channel of a latched leg. -/
def State.clearOk (s : State) (v : GateLevels) (ch : Nat) : Bool :=
  let x := s.chan ch
  if ch < 31 then s.unused ch || (v.gf.getLsbD ch && (x.cmd || v.gs.getLsbD ch))
  else v.clear.getLsbD (ch - 31) && (x.cmd || v.off.getLsbD (ch - 31))

/-- The latch of leg `l` of group `g` may be cleared: the conditions of R333, the last that hardware does not latch it in this control cycle,
by an event already taken or one of `hw` that comes with the write (R10). -/
def State.mayClear (s : State) (v : GateLevels) (g l : Nat) (hw : List Nat) : Bool :=
  let stopped := !s.fbit (F.PWM_GRP_CTRL_RUN g) || (s.grp g).pat != 0
  let chans := if g = 2 then [12] else [chanOf g l 0, chanOf g l 1]
  let r := s.leg g l
  stopped && !r.diagFail && (r.again == 0 || decide ((r.again - 1) / 2 ≠ s.cyc)) && chans.all fun ch => s.clearOk v ch && !hw.contains ch

/-- Forget what was recorded of a leg, but for its conflicts. -/
def LegRec.forget (r : LegRec) : LegRec := { conflicts := r.conflicts, lastConflict := r.lastConflict, inConflict := r.inConflict }

/-- One bit of a write to a latch register (R333). -/
def State.clearBit (s : State) (v : GateLevels) (hw : List Nat) (ch : Nat) : State :=
  let t := legOf ch
  if !s.latched ch then s
  else
    let p (r : Nat) : Payload := { w0 := bytes4 (chanInst ch) r 0 0 }
    if s.mayClear v t.1 t.2.1 hw then
      let s1 := (s.setLeg t.1 t.2.1 (s.leg t.1 t.2.1).forget).putLatch t.1 t.2.1 false
      let free (s : State) (c : Nat) : State := s.setChan c { s.chan c with dOff := false }
      let s2 := if t.1 = 2 then s1 else free (free s1 (chanOf t.1 t.2.1 0)) (chanOf t.1 t.2.1 1)
      ((s2.sideFlags t.1).grpFollow t.1).raise C.GDR_LATCH_CLEAR (chanInst ch) (p 0)
    else s.raise C.GDR_LATCH_CLEAR (chanInst ch) (p 1)

/-- The first channel and the number of channels of latch register `which`. -/
def latchSpan (which : Nat) : Nat × Nat := if which = 0 then (0, 31) else if which = 1 then (31, 32) else (63, 6)

/-- A write of 1s to a latch register, bit by bit upward: a leg is cleared, or refused, once (R333). -/
def State.clearBits (s : State) (v : GateLevels) (hw : List Nat) (base : Nat) (value : Word) : Nat → State
  | 0 => s
  | n + 1 =>
    let s1 := s.clearBits v hw base value n
    let t := legOf (base + n)
    let twin := decide (t.1 ≠ 2) && t.2.2 == 1 && decide (1 ≤ n) && value.getLsbD (n - 1)
    if value.getLsbD n && !twin then s1.clearBit v hw (base + n) else s1

/-- Bring GDR_GC_GS and GDR_GC_GF to the levels seen. -/
def State.gateLevels (s : State) (v : GateLevels) : State :=
  (s.wr R.GDR_GC_GS (v.gs.setWidth 32)).wr R.GDR_GC_GF ((~~~ v.gf).setWidth 32)

/-- The GS level of a channel where the state determines it (R321): high while it is confirmed off, low once a switch has been on for its
GS_ON_TMO; else the free bit. -/
def State.gsLevel (s : State) (n : Nat) (free : Bool) : Bool :=
  let x := s.chan n
  if x.on then !s.past x.onAt (16 * s.fget (F.GDR_GC_CFG_GS_ON_TMO n)) && free else x.conf || free

/-- Before a read of GDR_GC_GS or GDR_GC_GF: the levels as they stand; a fault line that has been low may have risen (R321). DESIGN CHOICE:
log entry 137. -/
def State.gateRead (s : State) (a : Nat) : State :=
  let word (f : Nat → Bool) : Word := (List.range 31).foldl (fun v n => putBits v n n (b2n (f n))) 0
  let x := s.fresh
  if a = R.GDR_GC_GS then x.2.wr a (word fun n => s.gsLevel n (x.1.getLsbD n))
  else if a = R.GDR_GC_GF then x.2.wr a (s.rd a &&& x.1.setWidth 32)
  else s

/-! ### Off-state diagnostics (R346 to R348) -/

/-- A voltage in steps of 20 mV. -/
def fMv20 (n : Nat) : F32 := fOfRatio n 50

/-- The reference V_o of the buck legs (R348). -/
def State.diagRef (s : State) (vbat vo : Nat) : F32 :=
  let sig := s.fget F.LVC_SEL_VLOC_SIG
  if sig < 96 then fAdd (fMul (s.rd (R.ADC_AIN_SCALE sig)) (fOfNat vo)) (s.rd (R.ADC_AIN_OFS sig)) else fMv20 vbat

/-- The result of leg `k` (R346): 1 pass, 2 short to supply, 3 short to ground, 4 open load, 5 gate-sense fault, 6 not evaluated;
`t3` is the T3 voltage of the pair in which it is leg a. -/
def diagResult (k : Nat) (x : DiagLeg) (t3 : Option (BitVec 12)) (vbat : Nat) (vo : F32) : Nat :=
  let b := bridgeOfLeg k
  let buck := decide (1 ≤ b) && decide (b ≤ 8)
  if vbat < 450 || 800 < vbat then 6
  else if buck && fLt vo 0x40400000 then 6
  else
    let t1 := fMv20 x.t1.toNat
    let r :=
      if buck then
        (if fLt (fAdd vo fTwo) t1 then 2 else if fLe (fSub vo fOne) t1 then 1 else if x.t2.toNat < 15 then 3 else 4)
      else if 150 < x.t1.toNat then 2
      else if x.t2.toNat < 15 then 3
      else if (decide ((bridgeLegs b).1 < k) && decide (x.t3.toNat < 125)) || (t3.map fun v => decide (v.toNat < 125)).getD false then 4
      else 1
    if r = 1 && x.gate then 5 else r

/-- Write the result of leg `k`: a failure latches the leg, which its stage answers (R332, R388), a pass ends the latch of an earlier failure
(R347); a voltage beyond its field is left open there. DESIGN CHOICE: log entry 138. -/
def State.diagNote (s : State) (k r : Nat) (x : DiagLeg) : State :=
  let f := s.fresh
  let shown (v : BitVec 12) (free : Nat) : Nat := if v.toNat < 1024 then v.toNat else free % 1024
  let t := lgLegGroup k
  let s1 := f.2.wr (R.GDR_DIAG_RES k) (w32 (r + 16 * shown x.t1 f.1.toNat + 65536 * shown x.t2 (f.1.toNat / 1024)))
  let lg := s1.leg t.1 t.2
  if r = 1 then
    if lg.diagFail then
      let only := lg.code == C.GDR_DIAG_FAIL.code && !lg.faulty 0 && !lg.faulty 1
      let s2 := s1.setLeg t.1 t.2 { lg with diagFail := false }
      if only then s2.putLatch t.1 t.2 false else s2
    else s1
  else if r = 6 then s1
  else
    let s2 := s1.latchQuiet t.1 t.2 0 .none C.GDR_DIAG_FAIL.code
    (((s2.setLeg t.1 t.2 { s2.leg t.1 t.2 with diagFail := true }).raise C.GDR_DIAG_FAIL (64 + 2 * k)
      { w0 := bytes4 k r 0 0, w1 := halves x.t1.toNat x.t2.toNat }).multiLeg t.1 t.2 (s1.legLatched t.1 t.2)).stageLatched t.1 t.2 C.GDR_DIAG_FAIL.code (s1.legLatched t.1 t.2)

/-- Evaluate the legs from leg `k` on; true where one failed. -/
def State.diagLegs (s : State) (vbat : Nat) (vo : F32) (k : Nat) : List DiagLeg → State × Bool
  | [] => (s, false)
  | x :: t =>
    let b := bridgeOfLeg k
    if s.fbit (F.GDR_LGB_CFG_EN b) then
      let t3 := if bridgeOfLeg (k + 1) = b then t.head?.map (·.t3) else none
      let r := diagResult k x t3 vbat vo
      let q := (s.diagNote k r x).diagLegs vbat vo (k + 1) t
      (q.1, q.2 || decide (2 ≤ r ∧ r ≤ 5))
    else s.diagLegs vbat vo (k + 1) t

/-! ### The brake of the actuator supply (R349, R350) -/

/-- The ABC on-time in the last 100 ms in µs. -/
def State.abcUsed (s : State) : Nat := s.pwm.abc.onTime (s.time - msTicks 100) s.time / usTicks 1

/-- Drive ABC as its thresholds wish and its budget allows. -/
def State.abcDrive (s : State) : State :=
  let on := s.fbit F.GDR_ABC_CFG_EN && s.pwm.abcWant && !s.fbit F.GDR_ABC_STAT_BUDGET && !s.inMode .dormant
  ({ s with pwm.abc := s.pwm.abc.switch on s.time (msTicks 100) }).fput F.GDR_ABC_STAT_ON on

/-- VSNS_ACT has crossed a threshold (R349). -/
def State.abcSwitch (s : State) (mv : Nat) : State :=
  let want := if 100 * s.fget F.GDR_ABC_ON_V < mv then true
    else if mv < 100 * s.fget F.GDR_ABC_OFF_V then false else s.pwm.abcWant
  ({ s with pwm.abcWant := want }).abcDrive

/-- ABC_SWITCH (R349). -/
def execAbcSwitch (mv : BitVec 16) (s : State) : Host.Outcome State Fault Refusal := .next (s.abcSwitch mv.toNat)

/-- ABC has used its budget (R350). -/
def State.abcBudget (s : State) : State :=
  if !s.fbit F.GDR_ABC_STAT_BUDGET && s.pwm.abc.since.isSome && decide (s.fget F.GDR_ABC_MAXON_US ≤ s.abcUsed) then
    ((s.fput F.GDR_ABC_STAT_BUDGET true).abcDrive).raiseD C.GDR_ABC_BUDGET 255 { w1 := w32 s.abcUsed }
  else s

/-- GDR_ABC_BUDGET (R350). -/
def execGdrAbcBudget (s : State) : Host.Outcome State Fault Refusal := .next s.abcBudget

/-- Half of the budget is free again (R350). -/
def State.abcRelease (s : State) : State :=
  if s.fbit F.GDR_ABC_STAT_BUDGET && decide (2 * s.abcUsed < s.fget F.GDR_ABC_MAXON_US) then (s.fput F.GDR_ABC_STAT_BUDGET false).abcDrive else s

/-- ABC_BUDGET_RELEASE (R350). -/
def execAbcBudgetRelease (s : State) : Host.Outcome State Fault Refusal := .next s.abcRelease

end Sys2Proof.Machine
end

