-- ==== Sys2Proof/Machine/Lks.lean ====
section
/-! DEFINITION. Lockstep pairs and triads (R492 to R530): mismatch and recovery, retirement, checker tests, untrusted pairs and take-over, split and rejoin. In Triangle mode unit 0 is TX and unit 2 is TY, each with the records and the verified register file of that pair (R524). -/

namespace Sys2Proof.Machine

/-- The record of pair `p`. -/
def State.lksP (s : State) (p : Nat) : LksP :=
  match p with
  | 0 => s.lks.p0
  | 1 => s.lks.p1
  | _ => s.lks.p2

/-- Store it. -/
def State.setLksP (s : State) (p : Nat) (v : LksP) : State :=
  match p with
  | 0 => { s with lks.p0 := v }
  | 1 => { s with lks.p1 := v }
  | _ => { s with lks.p2 := v }

/-- Triangle mode (R523). -/
def State.triangle (s : State) : Bool := s.fget F.LKS_CFG_MODE == 1

/-- The triad of unit `u`: 0 TX, 1 TY. -/
def triadOf (u : Nat) : Nat := if u = 2 then 1 else 0

/-- The state of a pair, or of the triad of unit `u`: 0 joined, 1 recovering, 2 splitting, 3 split, 4 rejoining, 5 untrusted. -/
def State.lksSt (s : State) (u : Nat) : Nat :=
  if s.triangle then s.fget (F.LKS_TRI_STAT_STATE (triadOf u)) else s.fget (F.LKS_PAIR_STAT_STATE u)

/-- Set it; in Triangle mode the unit's pair register shows it too. -/
def State.setLksSt (s : State) (u st : Nat) : State :=
  let s1 := s.fset (F.LKS_PAIR_STAT_STATE u) st
  if s.triangle then s1.fset (F.LKS_TRI_STAT_STATE (triadOf u)) st else s1

/-- INST of a unit's codes: the pair, or 8 + t. -/
def State.lksInst (s : State) (u : Nat) : Nat := if s.triangle then 8 + triadOf u else u

/-- The unit that a pair belongs to. -/
def State.unitOf (s : State) (p : Nat) : Nat := if s.triangle then (if p = 2 then 2 else 0) else p

/-- Pair `p` is frozen: recovering, rejoining or untrusted (R501, R510, R519). -/
def State.pairFrozen (s : State) (p : Nat) : Bool :=
  let st := s.lksSt (s.unitOf p)
  st == 1 || st == 4 || st == 5

/-- Pair `p` is untrusted (R510). -/
def State.untrusted (s : State) (p : Nat) : Bool := s.lksSt (s.unitOf p) == 5

/-- The retirement window in ticks (R506). -/
def State.retWin (s : State) : Nat := msTicks (100 * s.fget F.LKS_CFG_RET_WIN)

/-- The events of a list, newest first, that lie in the window. -/
def State.inWin (s : State) (l : List Nat) : List Nat := l.filter fun t => decide (s.time < t + s.retWin)

/-- Raise a code whose class is SAFE for P0 or TX, and DEGRADE for the others (R511, R529). -/
def State.raiseUnit (s : State) (c : Code) (u : Nat) (p : Payload) : State :=
  s.raiseAs c.code (s.lksInst u) (if u = 0 then 4 else 3) 0 p false

/-- Mark a unit untrusted: both cores frozen, its requests dropped (R510). -/
def State.untrust (s : State) (u cause : Nat) : State :=
  if s.lksSt u = 5 then s
  else
    let s1 := (s.setLksSt u 5).fset (F.LKS_PAIR_STAT_UNTR u) cause
    s1.setLksP u { s1.lksP u with pend := 0, readyL := false, readyT := false, redo := false, untrAt := s.time, replay := [] }

/-- The code of an item. -/
def itemCode : LksItem → Nat
  | .bus => 0
  | .regWrite => 1
  | .csrWrite => 2
  | .branch => 3
  | .parity => 4

/-- Record an error of the verified register file: corrected, or FATAL (R507). -/
def State.vrfError (s : State) (u : Nat) (e : Option VrfErr) : State :=
  match e with
  | none => s
  | some r =>
    if r.uncorrectable then
      (s.setLksP u { s.lksP u with vrfBad := true }).raise C.LKS_VRF_UNCORR (s.lksInst u) { w0 := bytes4 r.word.toNat 0 0 0 }
    else s.raise C.LKS_VRF_CORR (s.lksInst u) { w0 := bytes4 r.word.toNat 0 0 0 }

/-- Note a mismatch or rollback in the registers; answers how many lie in the window (R506). `cnt` is false for an injection that does
not count toward retirement (R685). -/
def State.lksNote (s : State) (u item chk : Nat) (v : Verified) (cnt : Bool) : State × Nat :=
  let ts := s.inWin (if cnt then s.time :: (s.lksP u).times else (s.lksP u).times)
  let n := ts.length
  let s1 := (s.setLksP u { s.lksP u with times := ts }).wr (R.LKS_PAIR_MCNT u) (w32 (satAdd (s.rd (R.LKS_PAIR_MCNT u)).toNat 1 (2 ^ 32 - 1)))
  let s2 := (s1.wr (R.LKS_PAIR_LAST u) (w32 (item + 256 * chk))).fset (F.LKS_PAIR_STAT_MWIN u) (satAdd n 0 15)
  let s3 := (s2.wr64 (R.LKS_PAIR_STAMP_LO u) (R.LKS_PAIR_STAMP_HI u) s.clave).wr (R.LKS_PAIR_VPC u) v.pc
  ((s3.wr64 (R.LKS_PAIR_VCNT_LO u) (R.LKS_PAIR_VCNT_HI u) v.count).count (0x009 + 16 * u) 1, n)

/-- A recovery or rollback begins, or the unit is retired (R501, R506). -/
def State.lksRecover (s : State) (u item chk : Nat) (v : Verified) (e : Option VrfErr) (cnt : Bool) : State :=
  let r := s.lksNote u item chk v cnt
  let s1 := r.1
  if cnt && decide (s.fget F.LKS_CFG_RET_N ≤ r.2) then
    (s1.untrust u 2).raiseUnit C.LKS_PAIR_RETIRED u { w0 := bytes4 r.2 0 0 0, w1 := w32 (100 * s.fget F.LKS_CFG_RET_WIN) }
  else
    let redo := s.lksSt u == 2
    let s2 := (s1.setLksSt u 1).setLksP u { s1.lksP u with detect := s.time, redo := redo, rejoin := false, vrf := v.file }
    let s3 := s2.raise C.LKS_RECOVERY (s2.lksInst u) { w0 := bytes4 item chk r.2 0, w1 := v.pc, w2 := loWord v.count, w3 := hiWord v.count }
    s3.vrfError u e

/-- A mismatch of a joined pair in native mode (R496, R501, R508); of a triad, one that only one of its voter copies flags (R529). -/
def State.mismatch (s : State) (p : Nat) (item : LksItem) (a b : Bool) (v : Verified) (e : Option VrfErr) (cnt : Bool) : State :=
  if !(a || b) || !(s.lksSt p == 0 || s.lksSt p == 2) || (s.triangle && (a == b || p == 1)) then s
  else
    let chk := b2n a + 2 * b2n b
    let one := a != b
    let s1 := if one then s.raise C.LKS_CHECKER_DISAGREE (s.lksInst p) { w0 := bytes4 chk (itemCode item) 0 0 } else s
    s1.lksRecover p (if one then 5 else itemCode item) chk v e cnt

/-- LKS_MISMATCH (R496). -/
def execLksMismatch (p : Fin 3) (item : LksItem) (a b : Bool) (v : Verified) (err : Option VrfErr) (s : State) :
    Host.Outcome State Fault Refusal := .next (s.mismatch p.val item a b v err true)

/-- The pair has an access to the D-die in flight (R20, R501). -/
def State.draining (s : State) (p : Nat) : Bool :=
  s.idl.accesses.any fun a => match a.master with
    | .core q _ _ => q.val == p
    | _ => false

/-- A recovery or rejoin ends: the test-lane injection, the resumption and the replay (R500 to R502, R519). -/
def State.lksResumed (s : State) (u : Nat) (a b : Bool) : State :=
  let r := s.lksP u
  let st := s.lksSt u
  if !(st == 1 || st == 4) || r.vrfBad || s.draining u then s
  else
    let s := s.count (0x00B + 16 * u) 1
    if !(a && b) then
      ((s.fput (F.LKS_PAIR_STAT_TEST_OK u) false).untrust u 1).raiseUnit C.LKS_CHECKER_FAIL u { w0 := bytes4 (b2n (!a) + 2 * b2n (!b)) 0 0 0 }
    else
      let s1 := s.fput (F.LKS_PAIR_STAT_TEST_OK u) true
      if st = 4 then
        let s2 := (s1.setLksSt u 0).setLksP u { r with pend := 0, readyL := false, readyT := false, rejoin := false, forced := false }
        s2.raise C.LKS_SPLIT (s.lksInst u) { w0 := bytes4 (if r.forced then 2 else 1) s.seq.mode.code 0 0 }
      else
        let d := s.time - r.detect
        let mx := max (s.fget (F.LKS_PAIR_RTIME_MAX u)) (satAdd d 0 65535)
        let s2 := (s1.fset (F.LKS_PAIR_RTIME_LAST u) (satAdd d 0 65535)).fset (F.LKS_PAIR_RTIME_MAX u) mx
        let s3 := if 2400 < d then s2.fput (F.LKS_PAIR_STAT_SLOW u) true else s2
        let cnt := tickOf (s.rd (R.LKS_PAIR_VCNT_LO u)) (s.rd (R.LKS_PAIR_VCNT_HI u))
        let again := (r.iau.filter fun i => decide (cnt.toNat < i.tag.toNat)).reverse
        (s3.setLksSt u (if r.redo then 2 else 0)).setLksP u { r with redo := false, replay := again }

/-- LKS_RESUME (R502). -/
def execLksResume (p : Fin 3) (a b : Bool) (s : State) : Host.Outcome State Fault Refusal := .next (s.lksResumed (s.unitOf p.val) a b)

/-- The test lane of unit `u` was injected (R509). -/
def State.testUnit (s : State) (u : Nat) (a b : Bool) : State :=
  if !(s.lksSt u == 0 || s.lksSt u == 2) then s
  else if a && b then (s.count (0x00B + 16 * u) 1).fput (F.LKS_PAIR_STAT_TEST_OK u) true
  else
    (((s.count (0x00B + 16 * u) 1).fput (F.LKS_PAIR_STAT_TEST_OK u) false).untrust u 1).raiseUnit C.LKS_CHECKER_FAIL u { w0 := bytes4 (b2n (!a) + 2 * b2n (!b)) 0 0 0 }

/-- The injections on every pair, or on both triads (R509, R529). -/
def State.testInject (s : State) (ma mb : BitVec 3) : State :=
  if s.past s.lks.lastTest (usTicks (100 * s.fget F.LKS_TEST_PER)) then
    let s1 := { s with lks.lastTest := s.time }
    let t (x : State) (u i : Nat) : State := x.testUnit u (!ma.getLsbD i) (!mb.getLsbD i)
    if s1.triangle then t (t s1 0 0) 2 1 else t (t (t s1 0 0) 1 1) 2 2
  else s

/-- LKS_TEST_INJECT (R509). -/
def execLksTestInject (missA missB : BitVec 3) (s : State) : Host.Outcome State Fault Refusal := .next (s.testInject missA missB)

/-- LKS_VRF_SCRUB (R507). -/
def execLksVrfScrub (p : Fin 3) (err : Option VrfErr) (s : State) : Host.Outcome State Fault Refusal :=
  .next (if s.untrusted p.val || (s.lksP (s.unitOf p.val)).vrfBad then s else s.vrfError (s.unitOf p.val) err)

/-! ### Untrusted pairs and take-over (R512 to R514) -/

/-- The standby of unit `p` in LKS_STBY: the unit that takes over, if enabled. -/
def State.standby (s : State) (p : Nat) : Option Nat :=
  if s.triangle then (if p = 2 ∧ s.fbit F.LKS_STBY_SB2 = true then some 0 else none)
  else if p = 1 ∧ s.fbit F.LKS_STBY_SB1 = true then some 2
  else if p = 2 ∧ s.fbit F.LKS_STBY_SB2 = true then some 1
  else none

/-- The offer of the take-over of `p` (R512). -/
def State.offer (s : State) (p : Nat) : State :=
  match s.standby p with
  | none => s
  | some q =>
    if s.lksSt p = 5 ∧ s.fbit (F.LKS_PAIR_STAT_TAKEN p) = false ∧ s.lksSt q = 0 ∧ (s.lksP q).pend ≠ 3 then
      let s1 := (s.setLksP q { s.lksP q with pend := 3 }).fset (F.LKS_PAIR_STAT_FOR_P q) p
      { s1 with irqs := { pair := (if q = 0 then 0 else if q = 1 then 1 else 2), code := 0xFE02, inst := BitVec.ofNat 8 p, value := s.clave } :: s1.irqs }
    else s

/-- LKS_TAKEOVER_OFFER (R512). -/
def execLksTakeoverOffer (p : Fin 3) (s : State) : Host.Outcome State Fault Refusal := .next (s.offer p.val)

/-- End the watch of pair `p` in both channels (R513). -/
def State.watchEnd (s : State) (p : Nat) : State :=
  let off (k : Nat) (m : SMap WdP) : SMap WdP := SMap.set (fun _ => {}) m k {}
  { s with safe.wd := off (3 + p) (off p s.safe.wd) }

/-- `q` takes over (R513). -/
def State.takeOver (s : State) (q : Nat) : State :=
  let p := s.fget (F.LKS_PAIR_STAT_FOR_P q)
  if (s.lksP q).pend = 3 ∧ s.lksSt q = 0 ∧ p ≤ 2 then
    let s1 := ((s.setLksP q { s.lksP q with pend := 0 }).watchEnd p).fput (F.LKS_PAIR_STAT_TAKEN p) true
    s1.raise C.LKS_TAKEOVER (s.lksInst p) { w0 := bytes4 p q 0 0, w1 := w32 ((s.time - (s.lksP p).untrAt) / usTicks 1) }
  else s

/-- LKS_TAKEOVER (R513). -/
def execLksTakeover (q : Fin 3) (s : State) : Host.Outcome State Fault Refusal := .next (s.takeOver (s.unitOf q.val))

/-- Raise LKS_TAKEOVER_FAIL for an untrusted pair that was not taken over (R514). -/
def State.takeoverFail (s : State) (p : Nat) : State :=
  if s.lksSt p = 5 ∧ s.fbit (F.LKS_PAIR_STAT_TAKEN p) = false then
    let why := match s.standby p with
      | none => 0
      | some q => if s.lksSt q ≠ 0 then 1 else 2
    s.raise C.LKS_TAKEOVER_FAIL (s.lksInst p) { w0 := bytes4 p why 0 0 }
  else s

/-! ### Split and rejoin (R515 to R522, R530) -/

/-- Raise the hand-over interrupt to a half of pair `p`. -/
def State.handIrq (s : State) (p : Nat) (h : Half) : State :=
  { s with irqs := { pair := (if p = 0 then 0 else if p = 1 then 1 else 2), half := h, code := 0xFE01, inst := 0, value := s.clave } :: s.irqs }

/-- Refuse a request (R515). -/
def State.splitRefused (s : State) (p req why : Nat) : State := s.raise C.LKS_SPLIT_REFUSED p { w0 := bytes4 req why 0 0 }

/-- SPLIT_REQ (R515, R517). -/
def State.splitReq (s : State) (p : Nat) : State :=
  if s.triangle then s.splitRefused p 1 3
  else if s.lksSt p = 3 then s
  else if p = 0 then s.splitRefused p 1 0
  else if p = 1 ∧ s.inMode .drive = true then s.splitRefused p 1 1
  else if s.lksSt p ≠ 0 ∨ (s.lksP p).pend = 3 ∨ s.fget (F.LKS_PAIR_STAT_FOR_P p) ≠ 3 then s.splitRefused p 1 2
  else (s.setLksP p { s.lksP p with pend := 1, readyL := false, readyT := false, hoAt := s.time }).handIrq p .leading

/-- REJOIN_REQ (R515, R519, R522). A request written again is made again. -/
def State.rejoinReq (s : State) (p : Nat) : State :=
  match s.lksSt p with
  | 0 => s
  | 3 =>
    let r := s.lksP p
    let again := r.pend == 2
    ((s.setLksP p { r with pend := 2, readyL := again && r.readyL, readyT := again && r.readyT, hoAt := s.time }).handIrq p .leading).handIrq p .trailing
  | _ => s.splitRefused p 2 (if s.triangle then 3 else 2)

/-- CMD = 1 (R517): the pair is ready to split. -/
def execLkshoSplitReady (p : Fin 3) (s : State) : Host.Outcome State Fault Refusal :=
  .next (if s.triangle = false ∧ (s.lksP p.val).pend = 1 ∧ s.lksSt p.val = 0 then
    (s.setLksP p.val { s.lksP p.val with readyL := true }).setLksSt p.val 2 else s)

/-- The cores separate (R517, R518). -/
def execLksSplit (p : Fin 3) (s : State) : Host.Outcome State Fault Refusal :=
  .next (if s.lksSt p.val = 2 ∧ s.draining p.val = false then
    ((s.setLksP p.val { s.lksP p.val with pend := 0, readyL := false }).setLksSt p.val 3).raise C.LKS_SPLIT p.val
      { w0 := bytes4 0 s.seq.mode.code 0 0 } else s)

/-- The rejoin begins: both cores freeze and the leading core's state is taken over (R519, R520). -/
def State.rejoinStart (s : State) (p : Nat) (forced : Bool) (v : Verified) : State :=
  let s1 := (s.setLksSt p 4).setLksP p { s.lksP p with detect := s.time, rejoin := true, forced := forced, vrf := v.file, replay := [], iau := [] }
  (s1.wr (R.LKS_PAIR_VPC p) v.pc).wr64 (R.LKS_PAIR_VCNT_LO p) (R.LKS_PAIR_VCNT_HI p) v.count

/-- CMD = 2 of one core (R519). -/
def State.rejoinReady (s : State) (p : Nat) (h : Half) (v : Verified) : State :=
  if s.lksSt p = 3 ∧ (s.lksP p).pend = 2 then
    let r := s.lksP p
    let r1 := if h = .leading then { r with readyL := true } else { r with readyT := true }
    let s1 := s.setLksP p r1
    if r1.readyL && r1.readyT then s1.rejoinStart p false v else s1
  else s

/-- LKSHO_REJOIN_READY (R519). -/
def execLkshoRejoinReady (p : Fin 3) (h : Half) (v : Verified) (s : State) : Host.Outcome State Fault Refusal :=
  .next (s.rejoinReady p.val h v)

/-- HO_TMO has passed (R520). -/
def State.handTimeout (s : State) (p : Nat) (v : Verified) : State :=
  let r := s.lksP p
  if !s.past r.hoAt (msTicks (s.fget (F.LKS_PAIR_CTRL_HO_TMO p))) then s
  else
    let out (req ans : Nat) : State :=
      (s.setLksP p { r with pend := 0, readyL := false, readyT := false }).raise C.LKS_HO_TMO p { w0 := bytes4 req ans 0 0 }
    if r.pend = 1 ∧ (s.lksSt p = 0 ∨ (s.lksSt p = 1 ∧ r.redo = false)) then out 1 0
    else if r.pend = 2 ∧ s.lksSt p = 3 then
      if r.readyL then s.rejoinStart p true v else out 2 (b2n r.readyL + 2 * b2n r.readyT)
    else s

/-- LKS_HO_TMO (R520). -/
def execLksHoTmo (p : Fin 3) (v : Verified) (s : State) : Host.Outcome State Fault Refusal := .next (s.handTimeout p.val v)

/-! ### Triads (R523 to R529) -/

/-- The unit of triad `t`. -/
def unitOfTriad (t : Nat) : Nat := if t = 0 then 0 else 2

/-- The dissents of core `k`. -/
def LksP.dis (r : LksP) (k : Nat) : List Nat :=
  match k with
  | 0 => r.dis0
  | 1 => r.dis1
  | _ => r.dis2

/-- Store them. -/
def LksP.setDis (r : LksP) (k : Nat) (l : List Nat) : LksP :=
  match k with
  | 0 => { r with dis0 := l }
  | 1 => { r with dis1 := l }
  | _ => { r with dis2 := l }

/-- A dissent of core `k` of triad `t` (R526, R528): masked, counted, retired at the RET_N-th. -/
def State.dissent (s : State) (t k : Nat) (item : LksItem) : State :=
  let u := unitOfTriad t
  let ret := s.fget (F.LKS_TRI_STAT_RETIRED t)
  if !s.triangle || s.lksSt u ≠ 0 || ret.testBit k || s.fget (F.LKS_TRI_STAT_MASKED t) ≠ 0 || ret ≠ 0 then s
  else
    let l := s.inWin (s.time :: (s.lksP u).dis k)
    let s1 := (s.setLksP u ((s.lksP u).setDis k l)).fset (F.LKS_TRI_STAT_MASKED t) (k + 1)
    let s2 := s1.fset ⟨R.LKS_TRI_DCNT t, 8 * k + 3, 8 * k⟩ (satAdd l.length 0 15)
    let s3 := s2.raise C.LKS_TRI_DISSENT (8 + t) { w0 := bytes4 k (itemCode item) l.length 0 }
    if s.fget F.LKS_CFG_RET_N ≤ l.length then
      let s4 := (s3.rput (R.LKS_TRI_STAT t) (4 + k) true).fset (F.LKS_TRI_STAT_MASKED t) 0
      s4.raise C.LKS_TRI_CORE_RETIRED (8 + t) { w0 := bytes4 k 2 0 0 }
    else s3

/-- LKS_TRI_DISSENT (R526). -/
def execLksTriDissent (t : Fin 2) (k : Fin 3) (item : LksItem) (s : State) : Host.Outcome State Fault Refusal :=
  .next (s.dissent t.val k.val item)

/-- LKS_TRI_RELOAD (R526): the masked core runs with the others again. -/
def execLksTriReload (t : Fin 2) (s : State) : Host.Outcome State Fault Refusal :=
  .next (if s.triangle then s.fset (F.LKS_TRI_STAT_MASKED t.val) 0 else s)

/-- LKS_TRI_ROLLBACK (R527, R528). -/
def execLksTriRollback (t : Fin 2) (item : LksItem) (v : Verified) (err : Option VrfErr) (s : State) : Host.Outcome State Fault Refusal :=
  let u := unitOfTriad t.val
  .next (if s.triangle && s.lksSt u == 0 then (s.fset (F.LKS_TRI_STAT_MASKED t.val) 0).lksRecover u (itemCode item) 3 v err true else s)

end Sys2Proof.Machine
end

