-- ==== Sys2Proof/Machine/Smon.lean ====
section
/-! DEFINITION. The safety channels (R452 to R470): what they measure, the codes they drive, what each can force alone, the enable chain (R96 to R100), and the park-lock cut (R447 to R450). -/

namespace Sys2Proof.Machine

/-! ### Publishing -/

/-- Bits 10 to 0 of SMA_STAT and SMB_STAT. -/
def smonWord (m : Smon) : Nat :=
  m.code + 16 * b2n m.barH + 32 * b2n m.barL + 64 * b2n m.req + 128 * b2n (!m.speedOk) + 256 * b2n m.asc +
    512 * b2n m.cause + 1024 * b2n m.params.isSome

/-- What SMON-A shows and forces: SMA_STAT, its codes, PWM_GLB_SAFE and the global disable (R462, R468). -/
def State.showA (s : State) : State :=
  let m := s.safe.a
  let s1 := ((s.wr R.SMA_STAT (w32 (smonWord m + 2048 * b2n m.cause))).wr R.SMA_SPEED m.speed).wr R.SMA_VDC m.vdc
  let s2 := s1.wr R.PWM_GLB_SAFE (w32 (5 * m.code + (if m.plCut then 2 ^ 18 else 0)))
  (s2.fput F.PWM_GLB_STAT_GD m.cause).removeStopped s 12

/-- What SMON-B shows: SMB_STAT but for its cuts, its speed, voltage and amplitude. -/
def State.showB (s : State) : State :=
  let m := s.safe.b
  let s1 := s.wr R.SMB_STAT (putBits (s.rd R.SMB_STAT) 10 0 (smonWord m))
  ((s1.wr R.SMB_SPEED m.speed).wr R.SMB_VDC m.vdc).wr R.SMB_AMP m.amp

/-- Show a channel. -/
def State.showChan (s : State) (c : Chan) : State :=
  match c with
  | .smonA => s.showA
  | .smonB => s.showB

/-! ### Selection (R459 to R463) -/

/-- The bars a channel sees on the axle: (high, low) (R460, R461, R464). -/
def State.axleBars (s : State) (c : Chan) : Bool × Bool :=
  match c with
  | .smonA => barsOf (s.rd (R.GDR_TS_SIDE 0)) (s.rd (R.GDR_TS_SIDE 1))
  | .smonB =>
    let b := barsOf s.safe.sideB0 s.safe.sideB1
    (b.1 || s.safe.b.ownH, b.2 || s.safe.b.ownL)

/-- Choose the axle code of a channel anew from what it has measured (R460); a change is journalled. -/
def State.reselect (s : State) (c : Chan) : State :=
  let m := s.smon c
  let req := s.requesting c
  let asc := nextAsc m.speedOk req m.asc m.speed (xoverOf m.params)
  let b := s.axleBars c
  let code := if m.started then selectCode req m.params asc b.1 b.2 else 1
  let s1 := s.setSmon c { m with req := req, asc := asc, barH := b.1, barL := b.2, code := code, imp := if code = m.code then m.imp else [] }
  let s2 := if code = m.code then s1
    else s1.raiseAs C.SMON_CODE_CHANGE.code (chanNum c) 0 0 { w0 := bytes4 m.code code (chanNum c) 0, w1 := m.speed } (c == .smonB)
  s2.showChan c

/-- The system code of a system: a held system takes a changed code at once (R232, R462). -/
def State.reholdSys (s : State) (k : Nat) : State :=
  if 2 ≤ s.sysState k && (if k = 0 then s.pwm.ovrA else s.pwm.ovrB) != 0 && (if k = 0 then s.pwm.ovrA else s.pwm.ovrB) != s.selCode k then s.holdSys k else s

/-- SMON-A's system codes (R462, R719). -/
def State.systemCodes (s : State) : State :=
  let x := xoverOf s.safe.a.params
  let s1 := { s with safe := { s.safe with ascA := nextAsc s.speedOkA true s.safe.ascA s.rpmA x, ascB := nextAsc s.speedOkA true s.safe.ascB s.rpmA x } }
  let s2 := s1.wr R.SMA_SEL_SYS (w32 (s1.selCode 0 + 4 * s1.selCode 1))
  (s2.reholdSys 0).reholdSys 1

/-- `n` ticks have passed since `t` in channel `c`: SMON-B's clock may run 3 % fast (R452). DEDUCED: log entry 84. -/
def State.pastBy (s : State) (c : Chan) (t n : Nat) : Bool :=
  match c with
  | .smonA => s.past t n
  | .smonB => decide (100 * n ≤ 103 * (s.time - t))

/-- A condition has held for `n` ticks of SMON-B's clock. -/
def State.lastedB (s : State) (since : Option Nat) (n : Nat) : Bool :=
  match since with
  | some t => s.pastBy .smonB t n
  | none => false

/-- A channel's inhibit of the park lock: its speed above the limit or invalid, now or within 100 ms (R448). -/
def State.inhibitStep (s : State) (c : Chan) : State :=
  let m := s.smon c
  let low := match m.params with
    | some p => m.speedOk && fLe (fAbs m.speed) (fOfNat p.plRpm.toNat)
    | none => false
  if low then s.setSmon c { m with inh := m.inh && !s.pastBy c m.inhAt (msTicks 100) } else s.setSmon c { m with inh := true, inhAt := s.time }

/-- SMON-A evaluates (R453, R463). -/
def State.evaluateA (s : State) : State :=
  if !s.safe.a.started then s
  else
    let s1 := { s with safe.a := { s.safe.a with speed := s.rpmA, speedOk := s.speedOkA, vdc := s.tmu.vdc, sector := s.actSector 1 } }
    (((s1.inhibitStep .smonA).systemCodes).reselect .smonA)

/-- The sector of a Hall code in a sealed map (R445). -/
def sealedSector (p : Params) (c : Nat) : Nat :=
  if c = 0 then 0 else if c = 7 then 7 else bits p.hallMap (4 * (c - 1) + 2) (4 * (c - 1))

/-- An angle difference brought into (−π, π]. -/
def wrapPi (x : F32) : F32 := if fLt fPi x then fSub x fTwoPi else if fLe x (fNeg fPi) then fAdd x fTwoPi else x

/-- The sum of angle advances, and of their times. -/
def advSum : List (F32 × Nat) → F32 × Nat
  | [] => (0, 0)
  | a :: t => (fAdd a.1 (advSum t).1, a.2 + (advSum t).2)

/-- SMON-B's own resolver (R454, R457): the angle with the sign of the excitation's peak; the mechanical speed is the advance over the last 8
samples by their time and RPOLE; it is valid while the amplitude and the period lie in their windows, with at most one sample in a row missed.
DEDUCED: log entry 161. -/
def resolverB (m : Smon) (p : Params) : SadcRes → Smon
  | .none => m
  | .missed =>
    let n := satAdd m.missed 1 2
    { m with missed := n, speedOk := m.speedOk && decide (n ≤ 1) }
  | .taken sn cs neg per clk =>
    let a := Config.atan2 (if neg then fNeg sn else sn) (if neg then fNeg cs else cs)
    let advs := match m.ang with
      | some b => ((wrapPi (fSub a b), clk.toNat) :: m.advs).take 8
      | none => []
    let amp := fSqrt (fAdd (fMul sn sn) (fMul cs cs))
    let ampOk := fLe p.ampLo amp && fLe amp p.ampHi
    let ok := ampOk && fLe (fAbs (fSub (fOfRatio per.toNat 16) p.nomPer)) (fMul 0x3DCCCCCD p.nomPer) && advs.length == 8
    let rpm := fMul (fDiv (fDiv (advSum advs).1 (fOfRatio (advSum advs).2 16000000)) (fOfNat p.rpole.toNat)) fRadToRpm
    let fast := ok && fLt (fMul 0x3F866666 (fOfNat p.maxRpm.toNat)) (fAbs rpm)
    { m with
      ang := some a
      advs := advs
      missed := 0
      amp := amp
      ampOk := ampOk
      speed := if ok then rpm else m.speed
      speedOk := ok
      overRun := if fast then satAdd m.overRun 1 2 else 0 }

/-- The voltage of SMON-B's input `k` (0: AIN88) from its code (R456). -/
def voltsB (p : Params) (k : Nat) (code : BitVec 16) : F32 :=
  fAdd (fMul (nth 0 (p.scaleB.drop k) 0) (fOfNat code.toNat)) (nth 0 (p.ofsB.drop k) 0)

/-- A phase voltage contradicts an ASC code at a DC-link reading (R464). -/
def contradicts (code : Nat) (vdc v : F32) : Bool :=
  (code == 2 && fLt (fMul 0x3E800000 vdc) v) || (code == 3 && fLt v (fMul 0x3F400000 vdc))

/-- Since when phases `k` up contradict the code (R464). -/
def State.impStep (s : State) (m : Smon) (p : Params) (codes : List (BitVec 16)) (k : Nat) : Nat → List (Option Nat)
  | 0 => []
  | n + 1 => sinceIf (nth none (m.imp.drop k) 0) (contradicts m.code m.vdc (voltsB p (k + 1) (nth 0 codes k))) s.time :: s.impStep m p codes (k + 1) n

/-- What SMON-B measures (R445, R454, R456, R457, R464) and receives (R461). Its Hall filter has the N of R281. -/
def State.measureB (s : State) (i : SadcIn) : State :=
  let m := s.safe.b
  let s0 := if s.idl.lost then s else { s with safe.sideB0 := s.rd (R.GDR_TS_SIDE 0), safe.sideB1 := s.rd (R.GDR_TS_SIDE 1) }
  match m.params with
  | none => { s0 with safe.b := { m with speedOk := false, ampOk := false, ang := none, advs := [], sector := 0, ovSince := none, imp := [] } }
  | some p =>
    let vdc := voltsB p 0 i.vdc
    let m1 := { resolverB m p i.res with vdc := vdc, ovSince := sinceIf m.ovSince (fLt p.ovB vdc) s.time }
    { s0 with safe.b := { m1 with
        imp := s.impStep m1 p i.ph 0 6
        sector := if s.hallStable 1 i.stable then sealedSector p i.hall.val else m.sector } }

/-- SMON-B evaluates (R454, R456, R457, R463). -/
def State.evaluateB (s : State) (i : SadcIn) : State :=
  if !s.safe.b.started then s else ((s.measureB i).inhibitStep .smonB).reselect .smonB

/-- SMON_EVALUATE (R463). -/
def execSmonEvaluate (c : Chan) (inp : SadcIn) (s : State) : Host.Outcome State Fault Refusal :=
  .next (match c with
    | .smonA => s.evaluateA
    | .smonB => s.evaluateB inp)

/-- A channel's first selection, within 100 µs of its start (R105). -/
def State.firstSelection (s : State) (c : Chan) : State :=
  if (s.smon c).started || (c == .smonB && s.safe.bOff) then s
  else
    let s1 := s.setSmon c { s.smon c with started := true }
    match c with
    | .smonA => s1.evaluateA
    | .smonB => (s1.inhibitStep .smonB).reselect .smonB

/-- SMON_FIRST_SELECTION (R105). -/
def execSmonFirstSelection (c : Chan) (s : State) : Host.Outcome State Fault Refusal := .next (s.firstSelection c)

/-- Both channels choose anew, SMON-A with its present inputs. -/
def State.bothSelect (s : State) : State := (s.evaluateA).reselect .smonB

/-! ### SAFE causes (R457, R464, R467, R470) -/

/-- Latch a SAFE cause in SMON-A, which forwards it to SMON-B while the link is up (R463, R470). -/
def State.latchCauses (s : State) : State :=
  let s1 := { s with safe.a := { s.safe.a with cause := true } }
  let s2 := if s.idl.lost then s1 else { s1 with safe.b := { s1.safe.b with cause := true } }
  s2.bothSelect

/-- A SAFE decision of SMON-B's own (R457, R470): its outputs follow, and the code is raised over the link. -/
def State.decideB (s : State) (c : Code) (inst : Nat) (p : Payload) : State :=
  (({ s with safe.b := { s.safe.b with cause := true } }).reselect .smonB).raiseD c inst p

/-- SMONB_VDC_OV (R457): its reading has been over the threshold for 20 µs. -/
def execSmonbVdcOv (s : State) : Host.Outcome State Fault Refusal :=
  .next (if s.safe.b.params.isSome && s.lastedB s.safe.b.ovSince (usTicks 20) then s.decideB C.SMONB_VDC_OV 1 { w1 := s.safe.b.vdc } else s)

/-- SMONB_OVERSPEED (R457): two consecutive samples were over. -/
def execSmonbOverspeed (s : State) : Host.Outcome State Fault Refusal :=
  .next (if s.safe.b.overRun = 2 then s.decideB C.SMONB_OVERSPEED 1 { w1 := s.safe.b.speed } else s)

/-- Phase voltage `phase` has contradicted SMON-B's ASC for 20 µs (R464): the side is barred. -/
def State.ascImplausible (s : State) (phase : Nat) : State :=
  let m := s.safe.b
  let rep (t : State) : State := (t.fresh.2.raiseD C.SMONB_ASC_IMPLAUS 1 { w0 := bytes4 phase (t.fresh.1.toNat % 256) 0 0 }).reselect .smonB
  if s.lastedB (nth none (m.imp.drop phase) 0) (usTicks 20) then
    if m.code = 2 then rep { s with safe.b := { m with ownL := true } }
    else if m.code = 3 then rep { s with safe.b := { m with ownH := true } }
    else s
  else s

/-- SMONB_ASC_IMPLAUS (R464). -/
def execSmonbAscImplaus (phase : Fin 6) (s : State) : Host.Outcome State Fault Refusal := .next (s.ascImplausible phase.val)

/-- SMON_OUT_FAULT (R467): the readback differs from the driven code. -/
def execSmonOutFault (c : Chan) (back : BitVec 2) (s : State) : Host.Outcome State Fault Refusal :=
  let m := s.smon c
  let p : Payload := { w0 := bytes4 (chanNum c) m.code back.toNat 0 }
  .next (if m.code = back.toNat then s
    else match c with
      | .smonA => s.raise C.SMON_OUT_FAULT 0 p
      | .smonB => s.decideB C.SMON_OUT_FAULT 1 p)

/-- SMON_SADC_FAULT: the safety ADC's reference is off by more than 2 %. -/
def execSmonSadcFault (i : BitVec 8) (s : State) : Host.Outcome State Fault Refusal :=
  .next (s.decideB C.SMON_SADC_FAULT 1 { w0 := bytes4 i.toNat 0 0 0 })

/-! ### Supply cuts (R469) -/

/-- Bring the groups of the integrated drivers to their commands. -/
def State.lgFollow (s : State) : State := (((((s.grpFollow 5).grpFollow 6).grpFollow 7).grpFollow 8).grpFollow 9).grpFollow 10

/-- SMON-B cuts the supplies of the integrated drivers (R469): cause 0 link, 1 XTAL25, 2 rail; a reset's has no number. -/
def State.supplyCut (s : State) (cause : Option Nat) : State :=
  let s1 := { s with safe := { s.safe with cutReset := false, okSince := none } }
  if s.safe.cut then s1
  else
    let s2 := (({ s1 with safe.cut := true }).fput F.SMB_STAT_CCUT true).fput F.SMB_STAT_ACUT true
    let s3 := match cause with
      | some k => s2.raiseD C.SMONB_SUPPLY_CUT 1 { w0 := bytes4 k 0 0 0 }
      | none => s2.fresh.2.raiseD C.SMONB_SUPPLY_CUT 1 { w0 := bytes4 (s2.fresh.1.toNat % 256) 0 0 0 }
    s3.lgFollow.lvcMode

/-- The L-die has come out of a reset or wake: the cut that stands may end (R469). -/
def State.cutAfterReset (s : State) : State := { s with safe.cutReset := s.safe.cut }

/-- What must hold for the supplies to return (R469): a lane delivers, the rails are in their windows, XTAL25 runs, SMON-A holds parameters. -/
def State.cutMayEnd (s : State) : Bool :=
  s.safe.cut && s.safe.cutReset && !s.idl.lost && !(s.idl.lane0.down && s.idl.lane1.down) && !s.lDead && !s.clocks.xtal25 && s.safe.a.params.isSome

/-- Watch those conditions. -/
def State.cutWatch (s : State) : State := { s with safe.okSince := sinceIf s.safe.okSince s.cutMayEnd s.time }

/-- SMONB_SUPPLY_RESTORE (R469): the conditions have held for 1 ms. -/
def execSmonbSupplyRestore (s : State) : Host.Outcome State Fault Refusal :=
  .next (if s.cutMayEnd && s.lastedB s.safe.okSince (msTicks 1) then
    ((({ s with safe.cut := false, safe.cutReset := false }).fput F.SMB_STAT_CCUT false).fput F.SMB_STAT_ACUT false).lgFollow
  else s)

/-! ### The park-lock cut (R447 to R450) -/

/-- The park-lock command of a side of leg `l` as channel `c` reads it (R447): SMON-A the generator's at the PWM block, SMON-B
what reaches the D-die. -/
def State.plCommand (s : State) (c : Chan) (l low : Nat) : Bool :=
  if c == .smonB && (s.grp 9).pat != 0 then false
  else if !modePermits s.seq.mode 9 then
    (s.inMode .arming || s.inMode .safeHold) && ((low == 0 && s.legMode 9 l == 4) || (low == 1 && s.legMode 9 l == 5))
  else (s.grp 9).running && s.legRequest 9 l low

/-- The six-step state of a pattern: 0 for none, 7 for one with no single state. -/
def State.plPattern (s : State) (c : Chan) : Nat :=
  let hs := [0, 1, 2].filter fun l => s.plCommand c l 0
  let ls := [0, 1, 2].filter fun l => s.plCommand c l 1
  match hs, ls with
  | [], _ => 0
  | _, [] => 0
  | [h], [l] => if h = l then 7 else ([1, 2, 3, 4, 5, 6].find? fun k => sixStep k == (h, l)).getD 7
  | _, _ => 7

/-- The pattern is engage-directed in channel `c` (R447). -/
def State.plEngaging (s : State) (c : Chan) : Bool :=
  let m := s.smon c
  let h := if c == .smonA then s.actSector 1 else m.sector
  match s.plPattern c with
  | 0 => false
  | 7 => true
  | k =>
    if h = 0 || h = 7 then true
    else
      match m.params with
      | none => true
      | some p =>
        let d := (k + 6 - h) % 6
        let fwd := d == 5 || d == 0 || d == 1
        fwd != p.engBack

/-- The cut of a channel begins (R449, R450). -/
def State.plCutBegin (s : State) (c : Chan) : State :=
  let m := s.smon c
  if m.inh && !m.plCut && s.plEngaging c then
    let k := s.plPattern c
    let s1 := s.setSmon c { m with plCut := true }
    let s2 := match c with
      | .smonA => s1.showA
      | .smonB => (s1.fput F.SMB_STAT_PLCUT true).grpFollow 9
    s2.actPlCut (c == .smonB) k (if c == .smonA then s.actSector 1 else m.sector)
  else s

/-- PL_INHIBIT_CUT (R449). -/
def execPlInhibitCut (c : Chan) (s : State) : Host.Outcome State Fault Refusal := .next (s.plCutBegin c)

/-- The cut of a channel ends (R449). -/
def State.plCutEnd (s : State) (c : Chan) : State :=
  let s0 := s.inhibitStep c
  let m := s0.smon c
  if m.plCut && !(m.inh && s0.plEngaging c) then
    let s1 := s0.setSmon c { m with plCut := false }
    match c with
    | .smonA => (s1.fput F.ACT_PL_STAT_INH_A false).showA
    | .smonB => ((s1.fput F.SMB_STAT_PLCUT false).fput F.ACT_PL_STAT_INH_B false).grpFollow 9
  else s0

/-- PL_INHIBIT_END (R449). -/
def execPlInhibitEnd (c : Chan) (s : State) : Host.Outcome State Fault Refusal := .next (s.plCutEnd c)

/-! ### The enable chain (R96 to R100) -/

/-- The code of a test state. -/
def OpenOnce.num : OpenOnce → Nat
  | .notDone => 0
  | .lowOk => 1
  | .done => 2

/-- Set the test state of a channel and show it. -/
def State.setOo (s : State) (c : Chan) (o : OpenOnce) : State :=
  let m := s.smon c
  let s1 := s.setSmon c { m with oo := o, ooAt := if m.oo = o then m.ooAt else s.time }
  s1.fset (match c with
    | .smonA => F.SYS_EN_STAT_STATE_A
    | .smonB => F.SYS_EN_STAT_STATE_B) o.num

/-- Both channels hold the test done (R98). -/
def State.openOnceDone (s : State) : Bool := s.safe.a.oo == .done && s.safe.b.oo == .done

/-- Torque is inhibited by the enable chain (R99): T_app is 0 and both systems are held. -/
def State.torqueInhibit (s : State) : State :=
  let s1 := s.fput F.SYS_EN_STAT_TORQUE_INH true
  let s2 := { s1 with tmu := { s1.tmu with tApp := 0 } }
  ((s2.wr R.TMU_TQ_APPLIED 0).sput 0x08F 0).holdBoth

/-- A line opened with the test done (R97, R99). -/
def State.enOpened (s : State) (c : Chan) (lv : Nat) : State :=
  let s1 := (s.setOo c .notDone).raise C.EN_OPENED (chanNum c) { w0 := bytes4 (chanNum c) lv 0 0 }
  if s1.inMode .drive then s1.torqueInhibit else s1

/-- Both channels hold the test done again in DRIVE (R100). -/
def State.torqueAllowAgain (s : State) : State :=
  if s.inMode .drive && s.openOnceDone && s.fbit F.SYS_EN_STAT_TORQUE_INH then s.fput F.SYS_EN_STAT_TORQUE_INH false else s

/-- TORQUE_READY follows its conditions (R110). -/
def State.torqueReady (s : State) : State :=
  s.fput F.SYS_ARM_STAT_TORQUE_READY (s.seq.stepsDone && s.safe.a.sealRes == 1 && s.safe.b.sealRes == 1 && s.openOnceDone)

/-- New filtered levels in a channel (R96, R97); SYS_EN_STAT.EN_A and EN_B show SMON-A's. DESIGN CHOICE: log entry 130. -/
def State.enLevels (s : State) (c : Chan) (a b : Bool) : State :=
  let m := s.smon c
  let o := m.en.getD (false, false)
  let m1 := { m with
    en := some (a, b)
    diffSince := sinceIf m.diffSince (a != b) s.time
    diffRep := m.diffRep && (a != b)
    lowSince := sinceIf m.lowSince (!a && !b) s.time
    riseA := if a && !o.1 then s.time else m.riseA
    riseB := if b && !o.2 then s.time else m.riseB }
  let s1 := s.setSmon c m1
  let s2 := if c == .smonA then (s1.fput F.SYS_EN_STAT_EN_A a).fput F.SYS_EN_STAT_EN_B b else s1
  let lv := b2n a + 2 * b2n b
  let d := if m1.riseA ≤ m1.riseB then m1.riseB - m1.riseA else m1.riseA - m1.riseB
  let s3 :=
    if m1.oo = .done && !(a && b) then s2.enOpened c lv
    else if m1.oo = .lowOk && a && b && decide (d ≤ msTicks 20) then s2.setOo c .done
    else s2
  (s3.torqueAllowAgain.torqueReady).bothSelect

/-- EN_LEVEL_CHANGE (R96). -/
def execEnLevelChange (c : Chan) (enA enB : Bool) (s : State) : Host.Outcome State Fault Refusal := .next (s.enLevels c enA enB)

/-- OPEN_ONCE_LOW_OK (R97): both lines low for 10 ms, within the tolerance of R96. -/
def execOpenOnceLowOk (c : Chan) (s : State) : Host.Outcome State Fault Refusal :=
  let m := s.smon c
  .next (if m.oo = .notDone && s.lasted m.lowSince (msTicks 10 - usTicks 300) then s.setOo c .lowOk else s)

/-- EN_DISCREPANCY (R97): the lines differ for 20 ms, within the tolerance of R96. -/
def execEnDiscrepancy (c : Chan) (s : State) : Host.Outcome State Fault Refusal :=
  let m := s.smon c
  let l := m.en.getD (false, false)
  .next (if !m.diffRep && s.lasted m.diffSince (msTicks 20 - usTicks 300) then
    let s1 := s.setSmon c { m with diffRep := true }
    let p : Payload := { w0 := bytes4 (chanNum c) (b2n l.1 + 2 * b2n l.2) 0 0 }
    match c with
    | .smonA => s1.raise C.EN_DISCREPANCY 0 p
    | .smonB => s1.decideB C.EN_DISCREPANCY 1 p
  else s)

end Sys2Proof.Machine
end

