-- ==== Sys2Proof/Machine/Control.lean ====
section
/-! DEFINITION. How the hardware control path connects: completed sequences and sigma-delta results go to the traction unit and the stages, committed outputs to their latches, rate generators to their users (R143 to R193). -/

namespace Sys2Proof.Machine

/-! ### Sequences and the spare core -/

/-- The last slot of sequence `q` completes: results, then the samples of the traction unit and the stages, then the trigger
of the CLE (R176, R193, R354, R396, R405). -/
def State.seqComplete (s : State) (q : Nat) (codes : List (BitVec 16)) : State :=
  if s.convDone q then
    let ains := s.seqAins q
    let s1 := ((s.setAseq q { s.aseq q with hold := none }).adcResults ains codes).count (0x088 + q) 1
    let s2 := s1.tmuSample (s1.sampledBy ains)
    let s3 := if s2.fget F.LVC_CFG_SEQ = q then s2.lvcComplete else s2
    let s4 := if s3.fget F.CHG_CFG_FSEQ = q then s3.chgFseq else s3
    let s5 := if s4.fget F.CHG_CFG_DSEQ = q then s4.chgDseq else s4
    ((s5.actSamples ains 3).actSupWatch.cleAdc q).releaseDue
  else s

/-- ADC_SEQ_COMPLETE (R176). -/
def execAdcSeqComplete (q : Fin 32) (codes : List (BitVec 16)) (s : State) : Host.Outcome State Fault Refusal :=
  .next (s.seqComplete q.val codes)

/-- One more core of the ARMING calibration is complete; with the 16th, or when no spare is left to go on with, the step is
done (R185). -/
def State.armCalCount (s : State) : State :=
  let n := satAdd s.adc.armCal 1 16
  let s1 := { s with adc := { s.adc with armCal := n } }
  if s1.inMode .arming && n = 16 then s1.rput R.SYS_ARM_STAT 4 true else s1.armCalEnd

/-- The calibration of the spare ends (R182). -/
def State.spareCalDone (s : State) (dev : Nat) : State :=
  if !s.adc.hasSpare || s.adc.spareCal then s
  else if 4 < dev then (s.retireCore (s.fget F.ADC_STAT_SPARE) dev).armCalCount
  else ({ s with adc := { s.adc with spareCal := true } }).armCalCount

/-- ADC_SPARE_CAL_DONE (R182). -/
def execAdcSpareCalDone (dev : BitVec 16) (s : State) : Host.Outcome State Fault Refusal := .next (s.spareCalDone dev.toNat)

/-! ### Window comparators (R187, R188) -/

/-- A comparator signals an overcurrent of system `k` (R188, R191). -/
def State.cmpOvercurrent (s : State) (k : Nat) (i : F32) : State :=
  if s.mach = 2 ∧ k = 1 then s else s.raiseSys C.TMU_OVERCURRENT k { w0 := bytes4 3 0 0 0, w1 := i }

/-- A window comparator's filtered output changes (R188, R241). -/
def State.wcTrip (s : State) (k : Nat) (above below : Bool) : State :=
  if !s.fbit (F.ADC_WC_CTRL_EN k) || s.inMode .dormant then s
  else if s.fget (F.ADC_WC_CTRL_ACTION k) = 2 then
    if s.fget F.TMU_BC_CTRL_WC = k && (above || below) then ({ s with tmu := { s.tmu with bcWant := above } }).bcDrive else s
  else if s.fbit (F.ADC_WC_CTRL_TRIP k) || !(above || below) then s
  else
    let act := s.fget (F.ADC_WC_CTRL_ACTION k)
    let s1 := ((s.fput (F.ADC_WC_CTRL_TRIP k) true).count (0x0AA + k) 1).raise C.ADC_WC_TRIP k { w0 := bytes4 act (s.fget (F.ADC_WC_CTRL_AIN k)) 0 0 }
    if act = 1 then
      let f := s1.fresh
      f.2.cmpOvercurrent (s1.fget (F.ADC_WC_CTRL_SYS k)) (f.1.setWidth 32)
    else s1

/-- ADC_WC_TRIP (R188). -/
def execAdcWcTrip (k : Fin 16) (above below : Bool) (s : State) : Host.Outcome State Fault Refusal := .next (s.wcTrip k.val above below)

/-! ### Sigma-delta inputs (R190 to R193) -/

/-- The signal of sigma-delta input `n`. -/
def sdSig (n : Nat) : Nat := 0x60 + n

/-- Input `n` has no unused result, unless it is system `k`'s. -/
def State.sdReady (s : State) (k : Nat) : Bool :=
  let u := s.fget (F.TMU_SYS_ISEL_IU_SIG k)
  let v := s.fget (F.TMU_SYS_ISEL_IV_SIG k)
  decide (0x60 ≤ u) && decide (u < 0x68) && decide (0x60 ≤ v) && decide (v < 0x68) &&
    s.adc.sdFresh.getLsbD (u - 0x60) && s.adc.sdFresh.getLsbD (v - 0x60)

/-- Bit `i` of a byte set or cleared. -/
def putBit8 (w : BitVec 8) (i : Nat) (b : Bool) : BitVec 8 :=
  let m := BitVec.ofNat 8 (2 ^ i)
  if b then w ||| m else w &&& ~~~ m

/-- Take the samples of systems whose two inputs have new results. -/
def State.sdSample (s : State) : List Nat → State
  | [] => s
  | k :: t =>
    let s1 := if s.sdReady k then
        let f := putBit8 (putBit8 s.adc.sdFresh (s.fget (F.TMU_SYS_ISEL_IU_SIG k) - 0x60) false) (s.fget (F.TMU_SYS_ISEL_IV_SIG k) - 0x60) false
        ((({ s with adc := { s.adc with sdFresh := f } }).tmuSample [k]).sdFormed k).releaseDue
      else s
    s1.sdSample t

/-- A decimation result (R190); it ends a loss (R192). -/
def State.sdResult (s : State) (n : Nat) (y : F32) : State :=
  if !s.fbit (F.ADC_SD_CFG_EN n) then s
  else
    let s1 := s.sput (sdSig n) (fAdd (fMul (s.rd (R.ADC_SD_SCALE n)) y) (s.rd (R.ADC_SD_OFS n)))
    let s2 := { s1 with adc := { s1.adc with sdLost := putBit8 s1.adc.sdLost n false, sdFresh := putBit8 s1.adc.sdFresh n true } }
    (s2.sdSensors).sdSample s2.systems

/-- A sigma-delta input is disabled: its loss and its unused result are forgotten (R192). -/
def State.sdOff (s : State) (n : Nat) : State :=
  (({ s with adc := { s.adc with sdLost := putBit8 s.adc.sdLost n false, sdFresh := putBit8 s.adc.sdFresh n false } }).sdSensors).releaseDue

/-- ADC_SD_RESULT (R190). -/
def execAdcSdResult (n : Fin 8) (y : F32) (s : State) : Host.Outcome State Fault Refusal := .next (s.sdResult n.val y)

/-- The comparator of a sigma-delta input trips (R191). -/
def State.sdCmp (s : State) (n : Nat) (v : F32) : State :=
  if !s.fbit (F.ADC_SD_CFG_EN n) || !s.fbit (F.ADC_SD_CMP_CTRL_EN n) || s.fbit (F.ADC_SD_CMP_CTRL_TRIP n) ||
      !(fLt (s.rd (R.ADC_SD_CMP_HI n)) v || fLt v (s.rd (R.ADC_SD_CMP_LO n))) then s
  else
    let act := s.fget (F.ADC_SD_CMP_CTRL_ACTION n)
    let s1 := (s.fput (F.ADC_SD_CMP_CTRL_TRIP n) true).raise C.ADC_SD_CMP_TRIP n { w0 := bytes4 act 0 0 0, w1 := v }
    if act = 1 then s1.cmpOvercurrent (s1.fget (F.ADC_SD_CMP_CTRL_SYS n)) v else s1

/-- ADC_SD_CMP_TRIP (R191). -/
def execAdcSdCmpTrip (n : Fin 8) (value : F32) (s : State) : Host.Outcome State Fault Refusal := .next (s.sdCmp n.val value)

/-- The loss of a sigma-delta input (R192, R195); ADC_SD_LOSS is assigned to the first system that names the input. -/
def State.sdLoss (s : State) (n : Nat) (data : Bool) : State :=
  if !s.fbit (F.ADC_SD_CFG_EN n) || s.adc.sdLost.getLsbD n then s
  else
    let s1 := { s with adc := { s.adc with sdLost := putBit8 s.adc.sdLost n true } }
    let named := s1.systems.find? fun k => s1.fget (F.TMU_SYS_ISEL_IU_SIG k) == sdSig n || s1.fget (F.TMU_SYS_ISEL_IV_SIG k) == sdSig n
    let s2 := s1.raiseAs C.ADC_SD_LOSS.code n (if named.isSome then 3 else 1) (match named with
      | some k => k + 1
      | none => 0) { w0 := bytes4 (b2n data) 0 0 0 } false
    (s2.sdSensors).releaseDue

/-- ADC_SD_LOSS (R192). -/
def execAdcSdLoss (n : Fin 8) (data : Bool) (s : State) : Host.Outcome State Fault Refusal := .next (s.sdLoss n.val data)

/-! ### The CLE's outputs, commits and rate generators -/

/-- Deliver a value to its destination latch (R155); a destination that names no latch (R160, R305) takes nothing. DEDUCED: log
entry 119. -/
def State.deliver (s : State) (o : CleOut) : State :=
  if !dstValid o.kind o.index then s
  else match o.kind with
  | 1 => s.shadowWrite (o.index / 16) (o.index % 16) o.value
  | 2 => s.tmuInput o.index o.value
  | 3 =>
    if o.index < 0x10 then s.lvcInput o.index o.value
    else if o.index < 0x20 then s.chgInput (o.index - 0x10) o.value
    else s.actInput (o.index - 0x20) o.value
  | _ => s

/-- Note the release-to-delivery time of a context's run (CLE_CTX_LAT). -/
def State.latNote (s : State) (o : CleOut) : State :=
  let d := satAdd (s.cyc - o.rel) 0 65535
  (s.fset (F.CLE_CTX_LAT_LAST o.ctx.val) d).fset (F.CLE_CTX_LAT_MAX o.ctx.val) (max d (s.fget (F.CLE_CTX_LAT_MAX o.ctx.val)))

/-- The oldest committed output reaches its latch. -/
def State.deliverNext (s : State) : State :=
  match s.cle.outs with
  | [] => s
  | o :: rest => (({ s with cle := { s.cle with outs := rest } }).latNote o).deliver o

/-- CLE_DELIVER (R155). -/
def execCleDeliver (s : State) : Host.Outcome State Fault Refusal := .next s.deliverNext

/-- A run ends, and the stage whose role the context has takes notice of its commit (R367, R405, R412). -/
def State.commitRun (s : State) (l : Nat) (errs : List CleError) : State :=
  match s.runCommit l errs with
  | (s1, none) => s1.tmuModulate
  | (s1, some n) => (s1.lvcCommit n).chgCommit n |>.tmuModulate

/-- CLE_RUN_COMMIT (R119). -/
def execCleRunCommit (lane : Fin 4) (errs : List CleError) (s : State) : Host.Outcome State Fault Refusal := .next (s.commitRun lane.val errs)

/-- Rate generator `g` fires at the latest due multiple of its period, once (R144): the ADC, the resolver and the CLE. -/
def State.rateGen (s : State) (g : Nat) (pairs : List ResPair) : State :=
  let p := (s.rd (R.CLE_GLB_RATE g)).toNat
  let due := s.now / p * p
  if p = 0 || decide (due < SMap.get (fun _ => 0) s.cle.rateLast g) then s
  else
    let s1 := { s with cle := { s.cle with rateLast := SMap.set (fun _ => 0) s.cle.rateLast g (due + 1) } }
    ((s1.adcRate g).resFiring g pairs).cleRate g

/-- CLE_RATE_GEN (R144). -/
def execCleRateGen (g : Fin 8) (pairs : List ResPair) (s : State) : Host.Outcome State Fault Refusal := .next (s.rateGen g.val pairs)

/-- CLE_SCRUB (R169): a single-bit error found by the scrub is corrected. -/
def execCleScrub (word : Fin 8192) (err : Bool) (s : State) : Host.Outcome State Fault Refusal :=
  .next (if err then s.eccCorr 255 (w32 (4 * word.val)) else s)

/-! ### Loads from peripherals (R498, R499) -/

/-- The response of a load enters the input agreement unit of its pair, which keeps the last 16 (R498). -/
def State.iauTake (s : State) (u : Nat) (tag : BitVec 64) (v : Word) : State :=
  (s.setLksP u { s.lksP u with iau := ({ tag := tag, value := v } :: (s.lksP u).iau).take 16 }).count (0x007 + 16 * u) 1

end Sys2Proof.Machine
end

