-- ==== Sys2Proof/Machine/Idl.lean ====
section
/-! DEFINITION. The inter-die link and the clock monitors (R13 to R28). -/

namespace Sys2Proof.Machine

/-! ### Lanes -/

/-- Lane `l` of the link. -/
def State.idlLane (s : State) (l : Nat) : IdlLane := if l = 0 then s.idl.lane0 else s.idl.lane1

/-- Store it. -/
def State.setIdlLane (s : State) (l : Nat) (v : IdlLane) : State :=
  if l = 0 then { s with idl := { s.idl with lane0 := v } } else { s with idl := { s.idl with lane1 := v } }

/-- A die sends a frame, on both lanes (R13). -/
def State.idlSend (s : State) (die : Die) (f : BitVec 48) : State :=
  let put (t : State) (l : Nat) : State :=
    let v := t.idlLane l
    t.setIdlLane l (match die with
      | .lDie => { v with sentL := f }
      | .dDie => { v with sentD := f })
  put (put s 0) 1

/-- A frame leaves each die every 160 ns (spec/01, What crosses between the dies); its words, of which the spec gives no layout, are free. -/
def State.idlFrames (s : State) : State :=
  if s.lDead || s.time % 128 ≠ 0 then s
  else
    let a := s.fresh
    let b := a.2.fresh
    (b.2.idlSend .lDie (a.1.setWidth 48)).idlSend .dDie (b.1.setWidth 48)

/-- Count one copy's arrival on a lane: a training lane counts good frames in a row, up to 1,000 (R19). -/
def State.idlTrain (s : State) (l : Nat) (c : Option IdlCopy) : State :=
  let v := s.idlLane l
  match c with
  | none => s
  | some f => if v.training then s.setIdlLane l { v with good := if f.good then satAdd v.good 1 1000 else 0 } else s

/-- A copy with a bad CRC on a lane in service (R15). -/
def State.idlError (s : State) (l : Nat) : State :=
  let v := s.idlLane l
  ((s.setIdlLane l { v with errors := v.errors + 1 }).raise C.IDL_LANE_ERROR l {}).count 0x185 1

/-- The receiving die takes a frame (R14). -/
def State.idlAccept (s : State) (die : Die) (f : BitVec 48) : State :=
  let i := s.idl
  match die with
  | .lDie => { s with idl := { i with toL := f, lost := false } }
  | .dDie => { s with idl := { i with toD := f, lost := false } }

/-- The copies of one frame reach a die (R14, R15, R17); a lane that is down carries none. -/
def State.idlReceive (s : State) (die : Die) (c0 c1 : Option IdlCopy) : State :=
  if s.lDead then s
  else
    let s1 := (s.idlTrain 0 c0).idlTrain 1 c1
    let a := if s1.idl.lane0.down then none else c0
    let b := if s1.idl.lane1.down then none else c1
    match a, b with
    | none, none => s1
    | some x, none => if x.good then s1.idlAccept die x.frame else s1.idlError 0
    | none, some y => if y.good then s1.idlAccept die y.frame else s1.idlError 1
    | some x, some y =>
      if x.good && y.good then
        if x.frame = y.frame then s1.idlAccept die x.frame
        else match die with
          | .lDie => s1.raise C.IDL_COPY_MISMATCH 0 {}
          | .dDie => s1.decideB C.IDL_COPY_MISMATCH 1 {}
      else if x.good then (s1.idlError 1).idlAccept die x.frame
      else if y.good then (s1.idlError 0).idlAccept die y.frame
      else s1

/-- IDL_FRAME_RECEIVE (R14). -/
def execIdlFrameReceive (die : Die) (copy0 copy1 : Option IdlCopy) (s : State) : Host.Outcome State Fault Refusal :=
  .next (s.idlReceive die copy0 copy1)

/-- A lane goes down (R16). -/
def State.idlDown (s : State) (l : Nat) : State :=
  let v := s.idlLane l
  if v.down || s.lDead then s
  else (s.setIdlLane l { v with down := true, training := false, good := 0, since := s.time }).raise C.IDL_LANE_DOWN l {}

/-- IDL_LANE_DOWN (R16). -/
def execIdlLaneDown (lane : Fin 2) (s : State) : Host.Outcome State Fault Refusal := .next (s.idlDown lane.val)

/-- Both lanes are silent (R18): each die raises IDL_LOST, each channel selects the safe state, and SMON-B cuts its supplies (R469); expected
while the L-die is in a reset. The D-die's record waits for a lane (R56). -/
def State.idlLost (s : State) : State :=
  if s.lDead || s.idl.lost then s
  else
    let s1 := ({ s with idl := { s.idl with lost := true, lostD := true } }).raise C.IDL_LOST 0 {}
    let s2 := ({ s1 with safe := { s1.safe with b := { s1.safe.b with cause := true } } }).evaluateA.reselect .smonB
    s2.supplyCut (some 0)

/-- IDL_LOST (R18). -/
def execIdlLost (s : State) : Host.Outcome State Fault Refusal := .next s.idlLost

/-- A lane that is down is trained every 10 ms (R19). -/
def State.idlRetry (s : State) (l : Nat) : State :=
  let v := s.idlLane l
  if v.down && !s.lDead && s.past v.since (msTicks 10) then s.setIdlLane l { v with training := true, good := 0, since := s.time } else s

/-- IDL_LANE_RETRY (R19). -/
def execIdlLaneRetry (lane : Fin 2) (s : State) : Host.Outcome State Fault Refusal := .next (s.idlRetry lane.val)

/-- The first lane back brings the D-die's record of its IDL_LOST (R18, R56). DEDUCED: log entry 122. -/
def State.lostReport (s : State) : State :=
  if s.idl.lostD then ({ s with idl := { s.idl with lostD := false } }).raiseD C.IDL_LOST 1 {} else s

/-- A lane returns to service after 1,000 good frames in a row (R19). -/
def State.idlRestored (s : State) (l : Nat) : State :=
  let v := s.idlLane l
  if v.down && v.training && v.good = 1000 then
    let s1 := s.setIdlLane l { v with down := false, training := false, good := 0 }
    { s1 with idl := { s1.idl with lost := false } }.lostReport
  else s

/-- IDL_LANE_RESTORED (R19). -/
def execIdlLaneRestored (lane : Fin 2) (s : State) : Host.Outcome State Fault Refusal := .next (s.idlRestored lane.val)

/-! ### Clock monitors (R25 to R28) -/

/-- CLK_MON_CPU (R25); the fault lasts until the next L-die reset. DESIGN CHOICE: log entry 121. -/
def execClkMonCpu (s : State) : Host.Outcome State Fault Refusal :=
  .next (if s.clocks.pllA || s.lDead then s else ({ s with clocks := { s.clocks with pllA := true } }).raise C.CLK_MON_CPU 0 {})

/-- CLK_MON_CTRL (R25); the fault lasts until the next L-die reset. DESIGN CHOICE: log entry 121. -/
def execClkMonCtrl (s : State) : Host.Outcome State Fault Refusal :=
  .next (if s.clocks.pllB || s.lDead then s else ({ s with clocks := { s.clocks with pllB := true } }).raise C.CLK_MON_CTRL 0 {})

/-- SMON-B takes a SAFE cause of its own that no code names (R26, R27). -/
def State.causeB (s : State) : State := ({ s with safe := { s.safe with b := { s.safe.b with cause := true } } }).reselect .smonB

/-- SMONB_CLOCK_FAULT (R26); in DORMANT and in a reset no check clock is expected. -/
def execSmonbClockFault (s : State) : Host.Outcome State Fault Refusal := .next (if s.lDead then s else s.causeB)

/-- XTAL25 has stopped (R27, R469); the fault lasts until the next L-die reset. DESIGN CHOICE: log entry 121. -/
def State.xtal25Loss (s : State) : State :=
  if s.clocks.xtal25 || s.lDead then s
  else ((({ s with clocks := { s.clocks with xtal25 := true } }).raise C.XTAL25_LOSS 0 {}).causeB).supplyCut (some 1)

/-- XTAL25_LOSS (R27). -/
def execXtal25Loss (s : State) : Host.Outcome State Fault Refusal := .next s.xtal25Loss

/-- XTAL32 has stopped (R28, R44); the record of a loss in DORMANT waits for the journal writer. -/
def State.xtal32Loss (s : State) : State :=
  if s.clocks.xtal32 then s
  else (({ s with clocks := { s.clocks with xtal32 := true } }).fput F.CLV_STATUS_XTAL32_FB true).raise C.XTAL32_LOSS 0 {}

/-- XTAL32_LOSS (R28). -/
def execXtal32Loss (s : State) : Host.Outcome State Fault Refusal := .next s.xtal32Loss

end Sys2Proof.Machine
end

