-- ==== Sys2Proof/Machine/Journal.lean ====
section
/-! DEFINITION. The event journal (R58 to R72): insertion, pinned copies, overruns, firmware records; and Clave's steps, lock and periodics (R40 to R52, R75, R76). -/

namespace Sys2Proof.Machine

/-! ### Records (R58, R61, R65) -/

/-- Byte 15 of a record: class and flags. -/
def JRec.flags (r : JRec) (pinned : Bool) : Nat :=
  r.cls % 16 + 16 * b2n r.fw + 32 * b2n r.receipt + 64 * b2n r.unsync + 128 * b2n pinned

/-- The 32 bytes of a record with its sequence (R58). -/
def JRec.bytes (r : JRec) (seq : Word) (pinned : Bool) : List Byte :=
  wordBytes (loWord r.stamp) ++ wordBytes (hiWord r.stamp) ++ wordBytes seq ++
    wordBytes (w32 (r.code.toNat + 2 ^ 16 * r.inst.toNat + 2 ^ 24 * r.flags pinned)) ++
    wordBytes r.payload.w0 ++ wordBytes r.payload.w1 ++ wordBytes r.payload.w2 ++ wordBytes r.payload.w3

/-- The ring slot of a sequence (R61). -/
def ringAddr (seq : Word) : Nat := 0x10D00000 + 32 * (seq.toNat % 4096)

/-- The address of a pinned slot (R65). -/
def pinAddr (k : Nat) : Nat := 0x10D20000 + 32 * k

/-- The lowest pinned slot that holds no unreleased record. -/
def freePin (pins : List Pin) : Option Nat := (List.range 256).find? fun k => !(pins.any fun p => p.slot == k)

/-- Copy a record into the pinned area (R65); with all slots in use the oldest goes (R66). -/
def State.pinCopy (s : State) (r : JRec) (seq : Word) : State :=
  let put (t : State) (k : Nat) (pins : List Pin) : State :=
    (({ t with jrn.pins := pins ++ [(⟨k, seq⟩ : Pin)] }).mputs (pinAddr k) (r.bytes seq true)).fset
      F.JRN_STATUS_PIN_USED (pins.length + 1)
  match freePin s.jrn.pins with
  | some k => put s k s.jrn.pins
  | none =>
    match s.jrn.pins with
    | [] => s
    | o :: rest =>
      ((put s o.slot rest).fput F.JRN_STATUS_PIN_LOST true).raise C.JRN_PIN_LOST 0 { w0 := o.seq }

/-- The EVENT copies that a record asks for (R582, R587). -/
def State.hifEvent (s : State) (cls : Nat) (b : List Byte) : State :=
  let m := s.fget F.HIF_CFG_EVT_MIN
  if m ≤ 5 && decide (m ≤ cls) && s.fbit F.HIF_CTRL_EN then
    if 4 ≤ cls then { s with hif.evHi := s.hif.evHi ++ [b] } else { s with hif.evLo := s.hif.evLo ++ [b] }
  else s

/-- Latch the sequence of the FATAL record whose snapshot is frozen (R675). -/
def State.gongSeq (s : State) (r : JRec) (seq : Word) : State :=
  if r.cls = 5 && s.fbit F.PMC_GNG_STAT_FROZEN && r.stamp == tickOf (s.rd R.PMC_GNG_CAUSE_LO) (s.rd R.PMC_GNG_CAUSE_HI) &&
      decide (s.fget F.PMC_GNG_CODE_CODE = r.code.toNat) && decide (s.fget F.PMC_GNG_CODE_INST = r.inst.toNat) then
    s.wr R.PMC_GNG_SEQ seq
  else s

/-- Insert a record: its sequence, its ring slot, the oldest sequence held, a pinned copy (R60, R61, R65, R582). -/
def State.jrnPut (s : State) (r : JRec) : State :=
  let seq := s.rd R.JRN_NEXT_SEQ
  let pin := decide (4 ≤ r.cls)
  let b := r.bytes seq pin
  let s1 := (s.mputs (ringAddr seq) b).wr R.JRN_NEXT_SEQ (seq + 1)
  let s2 := if (seq + 1 - s1.rd R.JRN_OLDEST_SEQ).toNat ≤ 4096 then s1 else s1.wr R.JRN_OLDEST_SEQ (seq + 1 - 4096)
  let s3 := if pin then (s2.pinCopy r seq).count 0x1F2 1 else s2
  ((s3.gongSeq r seq).hifEvent r.cls b).count 0x1F0 1

/-- The place of the record served next: the first of class SAFE or FATAL, else the first (R64). -/
def nextServed (q : List JRec) : Nat :=
  match q.findIdx? fun r => decide (4 ≤ r.cls) with
  | some k => k
  | none => 0

/-- A waiting record is below SAFE and older than 2 µs (R62 to R64). -/
def State.tooOld (s : State) (r : JRec) : Bool := decide (r.cls < 4) && decide (r.stamp.toNat + usTicks 2 < s.now)

/-- The writer inserts the next waiting record, or discards it where 2 µs have passed since its stamp (R62, R63); nothing comes before
JRN_START (R64, R69). -/
def State.jrnInsert (s : State) : State :=
  if s.jrn.startDue || s.lDead then s
  else
    let k := nextServed s.jrn.waiting
    match s.jrn.waiting.drop k with
    | [] => s
    | r :: _ =>
      let s1 := { s with jrn.waiting := s.jrn.waiting.eraseIdx k }
      if s.tooOld r then (s1.overrun r).count 0x1F1 1 else s1.jrnPut r

/-- JRN_INSERT (R60). -/
def execJrnInsert (s : State) : Host.Outcome State Fault Refusal := .next s.jrnInsert

/-- Count discarded records. -/
def State.overruns (s : State) : List JRec → State
  | [] => s
  | r :: t => (s.overrun r).overruns t

/-- Discard what could not be inserted in time (R63). -/
def State.jrnTimeout (s : State) : State :=
  if s.jrn.startDue || s.lDead then s
  else
    let old := s.jrn.waiting.filter fun r => s.tooOld r
    (({ s with jrn.waiting := s.jrn.waiting.filter fun r => !s.tooOld r }).overruns old).count 0x1F1 old.length

/-- JRN_INSERT_TIMEOUT (R63). -/
def execJrnInsertTimeout (s : State) : Host.Outcome State Fault Refusal := .next s.jrnTimeout

/-- With the backlog clear, one JRN_OVERRUN for the first source that lost records (R63). -/
def State.jrnOverrun (s : State) : State :=
  match s.jrn.waiting, s.jrn.overrun with
  | [], (_, o) :: rest =>
    if s.jrn.startDue || s.lDead then s
    else ({ s with jrn.overrun := rest }).raise C.JRN_OVERRUN 0
      { w0 := w32 (o.code.toNat + 2 ^ 16 * o.inst.toNat), w1 := w32 o.count, w2 := loWord o.first, w3 := hiWord o.first }
  | _, _ => s

/-- JRN_OVERRUN (R63). -/
def execJrnOverrun (s : State) : Host.Outcome State Fault Refusal := .next s.jrnOverrun

/-- The journal writer runs: JRN_START is its first record (R68, R69, R102, R118). The sources seen before the L-die starts are
now complete (R102). -/
def State.jrnStart (s : State) : State :=
  if !s.jrn.startDue || s.lDead then s
  else
    let p : Payload :=
      { w0 := w32 (s.fget F.SYS_RESET_CAUSE_CAUSE)
        w1 := w32 (s.fget F.SYS_WAKE_SRC_FIRST)
        w2 := loWord s.jrn.wakeClave
        w3 := hiWord s.jrn.wakeClave }
    let m := s.mkRec (sourceKey C.JRN_START.code 0) C.JRN_START.code 0 C.JRN_START.cls p 0 false false
    let s1 := { m.2 with jrn := { m.2.jrn with startDue := false }, seq := { m.2.seq with waking := false } }
    s1.jrnPut m.1

/-- JRN_START (R69). -/
def execJrnStart (s : State) : Host.Outcome State Fault Refusal := .next s.jrnStart

/-- The first word and the rest of a staged record's payload. -/
def State.staged (s : State) (c : Nat) : Payload :=
  { w0 := s.rd (R.JRN_FW_DATA c 0)
    w1 := s.rd (R.JRN_FW_DATA c 1)
    w2 := s.rd (R.JRN_FW_DATA c 2)
    w3 := s.rd (R.JRN_FW_DATA c 3) }

/-- Core `c` commits its staged record (R70, R472); the caller has refused a class above 5 (R72). -/
def State.fwCommit (s : State) (c : Nat) : State :=
  let code : BitVec 16 := BitVec.ofNat 16 (s.fget (F.JRN_FW_HDR_CODE c))
  let p := s.staged c
  if code = 0x04FF then
    let a : WdAns :=
      { pair := match c / 2 with
          | 0 => 0
          | 1 => 1
          | _ => 2
        half := if c % 2 = 0 then .leading else .trailing
        stamp := s.now
        ansA := p.w0
        ansB := p.w1 }
    { s with safe.answers := s.safe.answers ++ [a] }
  else
    let m := s.mkRec (2 ^ 16 + c) code (BitVec.ofNat 8 c) (s.fget (F.JRN_FW_HDR_CLASS c)) p 0 false true
    { m.2 with jrn.waiting := m.1.join m.2.jrn.waiting }

/-- `x` is at or before `y` in sequence order, modulo 2^32. -/
def seqLe (x y : Word) : Bool := decide ((y - x).toNat < 2 ^ 31)

/-- Release the pinned records up to a sequence (R67). -/
def State.pinRelease (s : State) (v : Word) : State :=
  let pins := s.jrn.pins.filter fun p => !seqLe p.seq v
  ({ s with jrn.pins := pins }).fset F.JRN_STATUS_PIN_USED pins.length

/-! ### Periodics (R75, R76) -/

/-- Raise periodic `n` for a due value (R75); a split pair's interrupt goes to the half its HALF names. -/
def State.perRaise (s : State) (n due : Nat) : State :=
  let t := s.fget (F.CLV_PER_CTRL_TARGET n)
  let s1 := { s with clv := { s.clv with perLast := SMap.set (fun _ => 0) s.clv.perLast n (due + 1) } }
  let half (p : Nat) : Half := if s.lksSt p = 3 && s.fbit (F.CLV_PER_CTRL_HALF n) then .trailing else .leading
  match t with
  | 0 => s1.irq 0 (half 0) (BitVec.ofNat 16 (0xFF00 + n)) 0 (BitVec.ofNat 64 due)
  | 1 => s1.irq 1 (half 1) (BitVec.ofNat 16 (0xFF00 + n)) 0 (BitVec.ofNat 64 due)
  | 2 => s1.irq 2 (half 2) (BitVec.ofNat 16 (0xFF00 + n)) 0 (BitVec.ofNat 64 due)
  | _ => s1

/-- The multiple of the period at or before `t`. -/
def dueAt (t per : Nat) : Nat := t / per * per

/-- Periodic `n` is due: a multiple of its period has been reached that was not raised yet (R75). -/
def State.periodic (s : State) (n : Nat) : State :=
  let per := (s.rd (R.CLV_PER_PERIOD n)).toNat
  let due := dueAt s.now per
  if s.fbit (F.CLV_PER_CTRL_EN n) && decide (0 < per) && decide (SMap.get (fun _ => 0) s.clv.perLast n ≤ due) && !s.lDead then s.perRaise n due
  else s

/-- CLV_PERIODIC (R75). -/
def execClvPeriodic (n : Fin 16) (s : State) : Host.Outcome State Fault Refusal := .next (s.periodic n.val)

/-- The periodics that a forward step from `old` has passed, numbers below the argument (R76); a due time at which the step lands counts as
passed. DESIGN CHOICE: log entry 128. -/
def State.perStep (s : State) (old : Nat) : Nat → State
  | 0 => s
  | k + 1 =>
    let s1 := s.perStep old k
    let per := (s1.rd (R.CLV_PER_PERIOD k)).toNat
    let n := s1.now / per - old / per
    if s1.fbit (F.CLV_PER_CTRL_EN k) && decide (0 < per) && decide (0 < n) then
      (s1.perRaise k (dueAt s1.now per)).finc (F.CLV_PER_CTRL_MISSED k) (n - 1)
    else s1

/-- Step Clave forward and journal it (R40, R76). -/
def State.clvStep (s : State) (d : Nat) : State :=
  let s1 := { s with clave := s.clave + BitVec.ofNat 64 d }
  ((s1.raise C.CLV_STEP 0 { w0 := loWord s.clave, w1 := hiWord s.clave, w2 := loWord s1.clave, w3 := hiWord s1.clave }).perStep s.now 16).count 0x1F4 1

/-! ### Lock and rate (R49, R52) -/

/-- LOCKED is cleared (R49). -/
def State.syncLost (s : State) : State :=
  let s1 := ({ s with clv.goodRun := 0 }).fput F.CLV_STATUS_LOCKED false
  if s.fbit F.CLV_STATUS_LOCKED then
    s1.raise C.CLV_SYNC_LOST 0 { w0 := s.rd R.CLV_OFFSET, w1 := w32 (s.fget F.CLV_STATUS_HOPS) }
  else s1

/-- CLV_SYNC_TIMEOUT (R49). -/
def execClvSyncTimeout (s : State) : Host.Outcome State Fault Refusal :=
  .next (if s.fbit F.CLV_STATUS_LOCKED && s.past s.clv.lastDone (msTicks 5) then s.syncLost else s)

/-- The demanded correction is beyond ±500 ppm. -/
def rateOver (d : Word) : Bool := decide (500000 < d.toInt) || decide (d.toInt < -500000)

/-- The servo has saturated for 100 ms (R52). -/
def State.rateLimit (s : State) (d : Word) : State :=
  if s.fget F.CLV_STATUS_ROLE = 2 && rateOver d then
    (s.wr R.CLV_RATE (if d.toInt < 0 then w32 (2 ^ 32 - 500000) else 500000)).raise C.CLV_RATE_LIMIT 0 { w0 := d }
  else s

/-- CLV_RATE_LIMIT (R52). -/
def execClvRateLimit (demand : Word) (s : State) : Host.Outcome State Fault Refusal := .next (s.rateLimit demand)

end Sys2Proof.Machine
end

