-- ==== Sys2Proof/Machine/Crc.lean ====
section
/-! DEFINITION. CRC-32C (Castagnoli: polynomial 0x1EDC6F41 reflected, initial value and final exclusive-or all ones), named by R472, R480 and R638. -/

namespace Sys2Proof.Machine

/-- Shift `n` bits of a CRC-32C. -/
def crcShift : Nat → Word → Word
  | 0, c => c
  | n + 1, c => crcShift n (if c.getLsbD 0 then (c >>> 1) ^^^ 0x82F63B78 else c >>> 1)

/-- The CRC register after a byte string. -/
def crcBytes : List Byte → Word → Word
  | [], c => c
  | b :: t, c => crcBytes t (crcShift 8 (c ^^^ b.setWidth 32))

/-- CRC-32C of a byte string. -/
def crc32c (bs : List Byte) : Word := ~~~ (crcBytes bs 0xFFFFFFFF)

end Sys2Proof.Machine
end

