-- ==== Sys2Proof/Machine/Watch.lean ====
section
/-! DEFINITION. The watchdogs (R471 to R478, R720), the cross-comparison (R479 to R481) and the seal (R458, R482 to R486, R490). -/

namespace Sys2Proof.Machine

/-! ### Watchdogs -/

/-- The watch of pair `p` by channel `c`. -/
def State.wdog (s : State) (c : Chan) (p : Nat) : WdP := SMap.get (fun _ => {}) s.safe.wd (3 * chanNum c + p)

/-- Store it and show it in the channel's WD_STAT. -/
def State.setWdog (s : State) (c : Chan) (p : Nat) (v : WdP) : State :=
  let s1 := { s with safe.wd := SMap.set (fun _ => {}) s.safe.wd (3 * chanNum c + p) v }
  let a := match c with
    | .smonA => R.SMA_WD_STAT p
    | .smonB => R.SMB_WD_STAT p
  s1.wr a (w32 (satAdd v.hist.sum 0 15 + 16 * b2n v.fail + 32 * b2n v.pause))

/-- The hold timer of a watch in 100 µs (SMA_WD_STAT, SMB_WD_STAT). -/
def State.wdHold (s : State) (c : Chan) (p : Nat) : Nat :=
  let v := s.wdog c p
  if v.on then satAdd ((s.time - v.hold) / usTicks 100) 0 65535 else 0

/-- The period of pair `p` in ticks. -/
def State.wdPeriod (s : State) (p : Nat) : Nat := 80000 * s.fget (F.SMA_WD_CFG_PER p)

/-- A new non-zero challenge for pair `p` (R471): the sequence of the register is not given. -/
def State.wdChallenge (s : State) (c : Chan) (p : Nat) : State :=
  let v : Word := s.fresh.1.setWidth 32
  let a := match c with
    | .smonA => R.SMA_WD_CHAL p
    | .smonB => R.SMB_WD_CHAL p
  s.fresh.2.wr a (if v = 0 then 1 else v)

/-- Begin a period. -/
def State.wdBegin (s : State) (c : Chan) (p : Nat) (v : WdP) : State :=
  (s.setWdog c p { v with start := s.now, answered := false }).wdChallenge c p

/-- The watch of every pair starts in both channels (R720). -/
def State.watchStart (s : State) : State :=
  let one (t : State) (c : Chan) (p : Nat) : State := t.wdBegin c p { on := true, hist := [0], hold := s.time }
  let ch (t : State) (c : Chan) : State := one (one (one t c 0) c 1) c 2
  ch (ch s .smonA) .smonB

/-- The watch stops with the L-die (R720). -/
def State.watchStop (s : State) : State := { s with safe.wd := [], safe.answers := [] }

/-- The watchdog of pair `p` has failed in channel `c` (R474, R475, R478, R514): cause 0 errors, 1 hold timer. -/
def State.wdFail (s : State) (c : Chan) (p cause : Nat) : State :=
  let u := s.unitOf p
  let s1 := s.raiseAs C.SMON_WD_FAIL.code p (if u = 0 then 4 else 3) 0 { w0 := bytes4 (chanNum c) cause 0 0 } (c == .smonB)
  let s2 := if cause = 1 then s1.takeoverFail u else s1
  if p = 0 then s2 else s2.untrust u 3

/-- Count an error of pair `p` (R473, R474): 0 early, 1 missing, 2 wrong, 3 second; none while paused or untrusted (R476, R514). -/
def State.wdError (s : State) (c : Chan) (p kind : Nat) : State :=
  let v := s.wdog c p
  if v.pause || s.untrusted p then s
  else
    let hist := match v.hist with
      | n :: t => (n + 1) :: t
      | [] => [1]
    let two := decide (2 ≤ hist.sum)
    let s1 := (s.setWdog c p { v with hist := hist, fail := v.fail || two }).raiseAs C.SMON_WD_ERROR.code p 1 0
      { w0 := bytes4 kind (chanNum c) 0 0 } (c == .smonB) |>.count 0x182 1
    if two && !v.fail then s1.wdFail c p 0 else s1

/-- The next period of pair `p` is due in channel `c`: SMON-A's on Clave, SMON-B's on its own clock, up to 3 % fast. -/
def State.wdDue (s : State) (c : Chan) (p : Nat) : Bool :=
  let e := s.now - (s.wdog c p).start
  match c with
  | .smonA => decide (s.wdPeriod p ≤ e)
  | .smonB => decide (100 * s.wdPeriod p ≤ 103 * e)

/-- A period ends and the next begins (R471, R473). -/
def State.wdPeriodEnd (s : State) (c : Chan) (p : Nat) : State :=
  if (s.wdog c p).on && s.wdDue c p then
    let s1 := if (s.wdog c p).answered then s else s.wdError c p 1
    let v := s1.wdog c p
    let hist := 0 :: v.hist.take 7
    s1.wdBegin c p { v with hist := hist, fail := decide (2 ≤ hist.sum) || v.holdRep }
  else s

/-- WD_PERIOD_START (R471). -/
def execWdPeriodStart (c : Chan) (p : Fin 3) (s : State) : Host.Outcome State Fault Refusal := .next (s.wdPeriodEnd c p.val)

/-- The right answer of pair `p` to channel `c` (R472). -/
def State.wdExpected (s : State) (c : Chan) (p : Nat) : Word :=
  let ch := s.rd (match c with
    | .smonA => R.SMA_WD_CHAL p
    | .smonB => R.SMB_WD_CHAL p)
  crc32c (wordBytes ch ++ [BitVec.ofNat 8 p, BitVec.ofNat 8 (chanNum c)])

/-- Judge an answer, `early` before the window, in channel `c` (R473, R477). -/
def State.wdJudge (s : State) (c : Chan) (p : Nat) (h : Half) (ans : Word) (early : Bool) : State :=
  let v := s.wdog c p
  if !v.on then s
  else if s.lksSt (s.unitOf p) = 3 && h == .trailing then s.wdError c p 2
  else if v.answered then s.wdError c p 3
  else
    let s1 := s.setWdog c p { v with answered := true }
    if early then s1.wdError c p 0
    else if ans ≠ s.wdExpected c p then s1.wdError c p 2
    else s1.setWdog c p { v with answered := true, hold := s.time, pause := false, holdRep := false, fail := decide (2 ≤ v.hist.sum) }

/-- The pair an answer is for: TX answers for pairs 0 and 1 with staging set 0, and a record that is right for pair 1 is pair 1's
(R524; DESIGN CHOICE). -/
def State.answerPair (s : State) (a : WdAns) : Nat :=
  if s.triangle && a.pair == 0 && a.ansA == s.wdExpected .smonA 1 then 1 else a.pair.val

/-- The oldest answer reaches the channels (R472). -/
def State.wdAnswer (s : State) (bClock : Nat) : State :=
  match s.safe.answers with
  | [] => s
  | a :: t =>
    let p := s.answerPair a
    let s1 := ({ s with safe.answers := t }).count (0x00C + 16 * p) 1
    let per := s.fget (F.SMA_WD_CFG_PER p)
    let opn := s.fget (F.SMA_WD_CFG_OPEN p)
    let s2 := s1.wdJudge .smonA p a.half a.ansA (decide (16 * (a.stamp - (s.wdog .smonA p).start) < opn * 80000 * per))
    if s2.idl.lost then s2 else s2.wdJudge .smonB p a.half a.ansB (decide (16 * bClock < opn * 1600 * per))

/-- WD_ANSWER (R472). -/
def execWdAnswer (bClock : BitVec 32) (s : State) : Host.Outcome State Fault Refusal := .next (s.wdAnswer bClock.toNat)

/-- The hold timer of pair `p` reaches HOLD_MAX in channel `c` (R475). -/
def State.wdHoldExpire (s : State) (c : Chan) (p : Nat) : State :=
  let v := s.wdog c p
  let mx := msTicks (s.fget (F.SMA_WD_CFG_HOLD_MAX p))
  let due := match c with
    | .smonA => s.past v.hold mx
    | .smonB => decide (100 * mx ≤ 103 * (s.time - v.hold))
  if v.on && !v.holdRep && due then (s.setWdog c p { v with fail := true, holdRep := true }).wdFail c p 1 else s

/-- WD_HOLD_EXPIRE (R475). -/
def execWdHoldExpire (c : Chan) (p : Fin 3) (s : State) : Host.Outcome State Fault Refusal := .next (s.wdHoldExpire c p.val)

/-- A pause of pair `p`'s errors in both channels (R476). -/
def State.wdPauseSet (s : State) (p : Nat) : State :=
  if p = 0 && !(s.inMode .arming || s.inMode .service) then s
  else
    let f (t : State) (c : Chan) : State := if (t.wdog c p).on then t.setWdog c p { t.wdog c p with pause := true } else t
    if s.idl.lost then f s .smonA else f (f s .smonA) .smonB

/-! ### Cross-comparison (R479 to R481) -/

/-- The exchanges run: both channels hold parameters, the L-die is out of reset and the link is up (R479). -/
def State.xcmpRuns (s : State) : Bool :=
  s.safe.a.params.isSome && s.safe.b.params.isSome && !s.inMode .dormant && !s.lDead && !s.idl.lost

/-- The larger magnitude. -/
def fLarger (x y : F32) : F32 := fMax (fAbs x) (fAbs y)

/-- |x − y| ≤ k × the larger + d. -/
def fAgree (x y k d : F32) : Bool := fLe (fAbs (fSub x y)) (fAdd (fMul k (fLarger x y)) d)

/-- A speed's magnitude lies within ±5 % of `t`. -/
def fNear5 (w t : F32) : Bool := fLe (fAbs (fSub (fAbs w) t)) (fMul 0x3D4CCCCD t)

/-- SMON-A's resolver amplitude is valid: the resolver's state is a lock. -/
def State.ampOkA (s : State) : Bool := s.fbit F.PFB_STAT_LOCK

/-- The items that disagree, bit per item in the table's order (R480). -/
def State.xcmpBits (s : State) : Nat :=
  let a := s.safe.a
  let b := s.safe.b
  let x := xoverOf a.params
  let pl := match a.params with
    | some p => fOfNat p.plRpm.toNat
    | none => 0
  let near (t : F32) : Bool := fNear5 a.speed t && fNear5 b.speed t
  let ascOff := (decide (2 ≤ a.code) && b.code == 1) || (a.code == 1 && decide (2 ≤ b.code))
  let fresh := s.tmu.sampleAt != 0 && decide (s.time + 1 ≤ s.tmu.sampleAt + usTicks 100)
  let bb := barsOf s.safe.sideB0 s.safe.sideB1
  let recent (m : Smon) : Bool := m.ooAt != 0 && decide (s.time ≤ m.ooAt + msTicks 1)
  let wd := [0, 1, 2].all fun p => (s.wdog .smonA p).fail == (s.wdog .smonB p).fail
  let ok : List Bool := [
    a.code == b.code || (ascOff && (near x || near (fMul f09 x))),
    a.req == b.req,
    a.speedOk == b.speedOk,
    !(a.speedOk && b.speedOk) || fAgree a.speed b.speed 0x3D4CCCCD 0x42C80000,
    !fresh || fAgree s.tmu.vdc b.vdc 0x3CF5C28F 0x41200000,
    (a.barH == bb.1) && (a.barL == bb.2),
    a.oo == b.oo || recent a || recent b,
    a.inh == b.inh || near pl,
    a.sealRes == b.sealRes && wd,
    !(s.ampOkA && b.ampOk) || fLe (fAbs (fSub (s.sget 0x106) b.amp)) 0x3DCCCCCD]
  ok.foldr (fun k n => b2n (!k) + 2 * n) 0

/-- The exchange at a Clave multiple of 80,000 (R479 to R481); SMON-B gives none without its regulator (R551). -/
def State.xcmp (s : State) : State :=
  let k := s.now / 80000
  if s.xcmpRuns && !s.safe.bOff && decide (s.safe.xLast < k) then
    let bits : Word := w32 s.xcmpBits
    let twice := bits &&& s.safe.xBits
    let new := twice &&& ~~~ s.safe.xRep
    let s1 := { s with safe := { s.safe with xLast := k, xTime := s.time, xBits := bits, xRep := (s.safe.xRep ||| new) &&& bits } }
    let s2 := (s1.wr R.SMA_XCMP_STAT bits).count 0x180 1
    let n := bits.cpop.toNat
    let s3 := if bits = 0 then s2 else (s2.count 0x181 n).wr R.SMA_XCMP_CNT (w32 (satAdd (s2.rd R.SMA_XCMP_CNT).toNat n (2 ^ 32 - 1)))
    if new = 0 then s3
    else (s3.raise C.SMON_XCMP_MISMATCH 0 { w0 := bits }).decideB C.SMON_XCMP_MISMATCH 1 { w0 := bits }
  else s

/-- XCMP_EXCHANGE (R479). -/
def execXcmpExchange (s : State) : Host.Outcome State Fault Refusal := .next s.xcmp

/-- SMON_XCMP_LOST (R479): no exchange for 300 µs while they run. -/
def execSmonXcmpLost (s : State) : Host.Outcome State Fault Refusal :=
  .next (if s.xcmpRuns && !s.fbit F.SMA_XCMP_STAT_LOST && s.past s.safe.xTime (usTicks 300) then
    let s1 := (s.fput F.SMA_XCMP_STAT_LOST true).raise C.SMON_XCMP_LOST 0 { w0 := bytes4 0 0 0 0 }
    if s.safe.bOff then s1 else s1.decideB C.SMON_XCMP_LOST 1 { w0 := bytes4 1 0 0 0 }
  else s)

/-! ### The seal (R458, R482 to R486, R490) -/

/-- A seal slot is blown and its complement checks. -/
def State.slotGood (s : State) (k : Nat) : Bool :=
  s.fbit (F.SMA_SEAL_SLOT_LO_BLOWN k) && decide (s.fget (F.SMA_SEAL_SLOT_LO_STRAP k) + s.fget (F.SMA_SEAL_SLOT_LO_COMP k) = 255) &&
    !s.safe.sealNew.getLsbD k

/-- The slot in force: the newest whose complement checks, blown before the last reset (R482, R486). -/
def State.sealSlot (s : State) : Option Nat := [3, 2, 1, 0].find? s.slotGood

/-- No slot has been blown (R484). -/
def State.unsealed (s : State) : Bool := [0, 1, 2, 3].all fun k => !(s.fbit (F.SMA_SEAL_SLOT_LO_BLOWN k) && !s.safe.sealNew.getLsbD k)

/-- The CRC of a slot. -/
def State.slotCrc (s : State) (k : Nat) : Word := s.rd (R.SMA_SEAL_SLOT_HI k)

/-- The parameter set of a strap value. -/
def podSet (pod : SafetyPod) (strap : BitVec 8) : Option Params := (pod.sets.find? fun p => p.1 == strap).map fun p => p.2

/-- The parameters a channel may take from a pod (R458): the pod of the seal in force, or on an unsealed part any good pod. -/
def State.podParams (s : State) (pod : Option SafetyPod) (strap : Option (BitVec 8)) : Option Params :=
  match pod, strap with
  | some q, some v =>
    if s.unsealed then (if q.good then podSet q v else none)
    else
      match s.sealSlot with
      | some k => if q.crc = s.slotCrc k then podSet q v else none
      | none => none
  | _, _ => none

/-- Channel `c` takes parameters from its pod where it may; SMON-B keeps what it holds otherwise (R458). -/
def State.adopt (s : State) (c : Chan) : State :=
  let m := s.smon c
  let pod := match c with
    | .smonA => s.safe.podA
    | .smonB => s.safe.podB
  match s.podParams pod m.strap with
  | some p =>
    let s1 := s.setSmon c { m with params := some p }
    let s2 := if s1.safe.a.params.isSome && s1.safe.b.params.isSome then
        { s1 with safe := { s1.safe with xTime := s1.time, xLast := if s.xcmpRuns then s.safe.xLast else s1.now / 80000 } } else s1
    s2.reselect c
  | none => s

/-- SMON-B has read the safety pod over the link (R458, R483). -/
def State.podReceive (s : State) : State :=
  match s.safe.podA with
  | some p => if s.idl.lost then s else ({ s with safe.podB := some p }).adopt .smonB
  | none => s

/-- SMONB_POD_RECEIVE (R458). -/
def execSmonbPodReceive (s : State) : Host.Outcome State Fault Refusal := .next s.podReceive

/-- The strap value while it is valid: the last 3 reads agree (R482). -/
def validStrap (m : Smon) : Option (BitVec 8) := if m.strapCnt = 3 then m.strap else none

/-- A read of the straps by channel `c` (R482, R483). -/
def State.sealReadBy (s : State) (c : Chan) (a b : BitVec 8) : State :=
  let m := s.smon c
  let ok := b == ~~~ a
  let cnt := if !ok then 0 else if m.strapCnt ≠ 0 && m.strapVal == a && s.pastBy c m.strapAt (msTicks 1) then satAdd m.strapCnt 1 3 else 1
  let moved := cnt == 3 && decide (m.strap ≠ none) && decide (m.strap ≠ some a) && !s.inMode .arming
  let s1 := s.setSmon c { m with
    strapCnt := cnt
    strapVal := a
    strapB := b
    strapAt := s.time
    strap := if cnt = 3 then some a else m.strap
    strapMoved := m.strapMoved || moved }
  let s2 := if c == .smonA then (s1.fset F.SMA_SEAL_STAT_STRAP_A a.toNat).fset F.SMA_SEAL_STAT_STRAP_B b.toNat else s1
  let s3 := if moved then s2.raiseAs C.SMON_SEAL_FAIL.code (chanNum c) 1 0 { w0 := bytes4 2 a.toNat b.toNat 0 } (c == .smonB) else s2
  if cnt = 3 && (s3.smon c).params.isNone then s3.adopt c else s3

/-- SEAL_READ (R482). -/
def execSealRead (c : Chan) (a b : BitVec 8) (s : State) : Host.Outcome State Fault Refusal := .next (s.sealReadBy c a b)

/-- The global-disable masks are as R490 requires under a policy. -/
def State.gdMasksOk (s : State) (policy : BitVec 2) : Bool :=
  let gc := s.rd R.PWM_GLB_GD_MASK_GC
  let lg := s.rd R.PWM_GLB_GD_MASK_LG
  (gc &&& 0x07FFE000) == 0x07FFE000 && (gc &&& 0x78001000) == 0 && (policy == 1 || (gc &&& 0xFFF) == 0) && (lg &&& 0xE3FF) == 0

/-- The outcome of the seal check of channel `c`: RESULT and DETAIL (R483, R484, R490). -/
def State.sealOutcome (s : State) (c : Chan) : Nat × Nat :=
  let m := s.smon c
  let pod := match c with
    | .smonA => s.safe.podA
    | .smonB => s.safe.podB
  if s.unsealed then (1, 0)
  else
    match s.sealSlot, validStrap m with
    | some k, some v =>
      if m.strapMoved || v.toNat ≠ s.fget (F.SMA_SEAL_SLOT_LO_STRAP k) then (2, 0)
      else
        match pod with
        | none => (3, if c == .smonB then 3 else 0)
        | some q =>
          if q.crc ≠ s.slotCrc k then (3, 0)
          else
            match podSet q v with
            | none => (3, 1)
            | some p => if s.gdMasksOk p.policy then (1, 0) else (3, 2)
    | _, _ => (2, 0)

/-- Note an outcome; a failure is reported (R483). -/
def State.sealNote (s : State) (c : Chan) : State :=
  let r := s.sealOutcome c
  let m := s.smon c
  let s1 := s.setSmon c { m with sealRes := r.1, sealDet := r.2, strapMoved := false }
  let s2 := if c == .smonA then (s1.fset F.SMA_SEAL_STAT_RESULT r.1).fset F.SMA_SEAL_STAT_DETAIL r.2 else s1
  if r.1 = 1 then s2
  else s2.raiseAs C.SMON_SEAL_FAIL.code (chanNum c) 1 0
    { w0 := bytes4 r.1 m.strapVal.toNat m.strapB.toNat r.2 } (c == .smonB)

/-- A reaction override outside the bounds of R488: a barred code, class 5, or a class 3 or 4 lowered. -/
def reactBad (v : Word) : Bool :=
  v.getLsbD 31 && (reactBarred (bits v 15 0) || decide (5 ≤ bits v 18 16) ||
    C.table.any fun c => c.code.toNat == bits v 15 0 && (c.cls == 5 || (c.cls == 3 && decide (bits v 18 16 < 3)) || (c.cls == 4 && bits v 18 16 != 4)))

/-- SMA_REACT[i] is written; an entry outside the bounds is reported, and never applied (R488). -/
def State.reactWrite (s : State) (i : Nat) (v : Word) : State :=
  let s1 := s.wr (R.SMA_REACT i) v
  if reactBad v then s1.raise C.SMON_REACT_INVALID 255 { w0 := bytes4 i (bits v 15 0) (bits v 15 0 / 256) 0 } else s1

/-- The bits of SYS_FW_BLK_WR[p] that are forced or fixed, and their values (spec/01, Peripheral ownership). -/
def fwFixed (p : Nat) (v : Word) : Word := (v &&& 0x00F7FFC2) ||| (if p = 0 then 0x0308001D else 0x00080004)

/-- A register the boot ROM loads takes its value, fixed bits and reaction bounds kept (R485, R488). -/
def State.loadReg (s : State) (a : Nat) (v : Word) : State :=
  if decide (R.SMA_REACT 0 ≤ a) && decide (a ≤ R.SMA_REACT 31) && decide (a % 4 = 0) then s.reactWrite (offs a (R.SMA_REACT 0) / 4) v
  else if decide (R.SYS_FW_BLK_WR 0 ≤ a) && decide (a ≤ R.SYS_FW_BLK_WR 2) then s.wr a (fwFixed (offs a (R.SYS_FW_BLK_WR 0) / 4) v)
  else s.wr a v

/-- Store the registers a pod loads (R485). -/
def State.loadRws (s : State) : List (Nat × Word) → State
  | [] => s
  | (a, v) :: t => (s.loadReg a v).loadRws t

/-- The boot ROM loads the sealed registers (R485). -/
def State.loadParams (s : State) : State :=
  match s.safe.a.params with
  | none => s
  | some p =>
    let s1 := s.loadRws p.rws
    let s2 := s1.wr R.SMA_PAR_XOVER (halves p.xover.toNat p.maxRpm.toNat)
    let s3 := s2.wr R.SMA_PAR_POLICY (w32 (p.policy.toNat + 256 * (s.safe.a.strap.getD 0).toNat))
    (s3.fset F.ACT_PL_SEAL_PL_RPM p.plRpm.toNat).fput F.ACT_PL_SEAL_ENG_DIR p.engBack

/-- Report an unsealed part (R484). -/
def State.reportUnsealed (s : State) : State :=
  if s.unsealed then (s.fput F.SMA_SEAL_STAT_UNSEALED true).raise C.SMON_UNSEALED 255 {} else s

/-- The seal check of both channels (R106, R483 to R485): DONE bit 3 where both pass. -/
def State.sealCheck (s : State) : State :=
  let s1 := s.fset F.SMA_SEAL_STAT_SLOT (s.sealSlot.getD 0)
  let s2 := (s1.adopt .smonA).loadParams
  let s3 := (s2.reportUnsealed.sealNote .smonA).sealNote .smonB
  let ok := s3.safe.a.sealRes == 1 && s3.safe.b.sealRes == 1
  let s4 := if ok then s3.rput R.SYS_ARM_STAT 3 true else s3.rput R.SYS_ARM_STAT 11 true
  s4.bothSelect

/-- A write of SMA_SEAL_KEY (R486). -/
def State.sealKey (s : State) (v : Word) : State :=
  { s with safe.keyStep := if v = 0x5EA1 then 1 else if v = 0x0C1D && s.safe.keyStep = 1 then 2 else 0 }

/-- Another register access between the key and GO (R486). -/
def State.sealBreak (s : State) : State := if s.safe.keyStep = 0 then s else { s with safe.keyStep := 0 }

/-- The outcome of a re-seal (R486). -/
def State.sealProgEnd (s : State) (prog slot : Nat) : State :=
  (s.fset F.SMA_SEAL_STAT_PROG prog).raise C.SMON_SEAL_PROG 255 { w0 := bytes4 prog slot 0 0 }

/-- GO is written (R486). -/
def State.sealProg (s : State) (go supply cool : Bool) : State :=
  if !go || s.safe.prog.isSome then s
  else
    let s0 := { s with safe.keyStep := 0 }
    let free := [0, 1, 2, 3].find? fun k => !s.fbit (F.SMA_SEAL_SLOT_LO_BLOWN k)
    let same := match s.safe.podA, s.safe.podB with
      | some a, some b => a.crc == b.crc
      | _, _ => false
    if s.safe.keyStep ≠ 2 then s0.sealProgEnd 4 (free.getD 0)
    else
      match free with
      | none => s0.sealProgEnd 2 0
      | some k =>
        if s.inMode .service && (validStrap s.safe.a).isSome && same && supply && cool then { s0 with safe.prog := some k }
        else s0.sealProgEnd 3 k

/-- The blown slot is read back (R486); a slot that fails reads as it does. -/
def State.sealProgDone (s : State) (ok : Bool) : State :=
  match s.safe.prog with
  | none => s
  | some k =>
    let s0 := { s with safe := { s.safe with prog := none, sealNew := s.safe.sealNew ||| BitVec.ofNat 4 (2 ^ k) } }
    if ok then
      let v := (s.safe.a.strap.getD 0).toNat
      let crc := (s.safe.podA.map (·.crc)).getD 0
      ((s0.wr (R.SMA_SEAL_SLOT_LO k) (w32 (v + 256 * (255 - v) + 65536))).wr (R.SMA_SEAL_SLOT_HI k) crc).sealProgEnd 1 k
    else
      let s1 := s0.fresh.2.wr (R.SMA_SEAL_SLOT_LO k) (s0.fresh.1.setWidth 32)
      (s1.fresh.2.wr (R.SMA_SEAL_SLOT_HI k) (s1.fresh.1.setWidth 32)).sealProgEnd 5 k

/-- SEAL_PROG_DONE (R486). -/
def execSealProgDone (ok : Bool) (s : State) : Host.Outcome State Fault Refusal := .next (s.sealProgDone ok)

end Sys2Proof.Machine
end

