-- ==== Sys2Proof/Machine/Modes.lean ====
section
/-! DEFINITION. The mode sequencer (R77 to R118, R717, R718): conditions, transitions, entries, DRIVE sub-states, ARMING steps and tests; the reactions of class DEGRADE and SAFE. -/

namespace Sys2Proof.Machine

/-! ### Active causes (R718) -/

/-- A switch of a traction system is recorded as conducting on the given side. -/
def State.tractionShort (s : State) (low : Nat) : Bool :=
  [0, 1].any fun g => [0, 1, 2].any fun l => (s.leg g l).conducts low

/-- The gate channel that a GDR instance names (R352). -/
def instChan (i : Nat) : Nat := if i < 64 then i else 31 + (i - 64)

/-- The lines differ now in a channel. -/
def Smon.differ (m : Smon) : Bool :=
  match m.en with
  | some (a, b) => a != b
  | none => false

/-- A comparator that signals an overcurrent of system `k` is tripped (R188, R191). -/
def State.cmpTripped (s : State) (k : Nat) : Bool :=
  ((List.range 16).any fun c => s.fbit (F.ADC_WC_CTRL_TRIP c) && s.fget (F.ADC_WC_CTRL_ACTION c) == 1 && s.fget (F.ADC_WC_CTRL_SYS c) == k) ||
    (List.range 8).any fun n => s.fbit (F.ADC_SD_CMP_CTRL_TRIP n) && s.fget (F.ADC_SD_CMP_CTRL_ACTION n) == 1 && s.fget (F.ADC_SD_CMP_CTRL_SYS n) == k

/-- The source of a code asserts it now (R718); a code whose source shows one event only is not active afterwards. -/
def State.asserts (s : State) (c : Cause) : Bool :=
  let i := c.inst.toNat
  match c.code.toNat with
  | 0x0105 => s.idl.lost
  | 0x0106 => s.clocks.pllA
  | 0x0107 => s.clocks.pllB
  | 0x0108 => s.clocks.xtal25
  | n =>
    if n = C.EN_DISCREPANCY.code.toNat then (s.smon (if i = 0 then .smonA else .smonB)).differ
    else if n = C.SELFTEST_FAIL.code.toNat || n = C.BOOT_NO_IMAGE.code.toNat || n = C.BOOT_POD_FAIL.code.toNat then true
    else if n = C.CLE_FOLLOW_ERR.code.toNat then s.fbit (F.CLE_CTX_STAT_FE i)
    else if n = C.CLE_LANE_RETIRED.code.toNat || n = C.ADC_CORE_SHORT.code.toNat then true
    else if n = C.TMU_OVERCURRENT.code.toNat then (s.tsys i).overCur || s.cmpTripped i
    else if n = C.TMU_SENSOR_FAULT.code.toNat then s.sensBad i || s.fbit (F.TMU_SYS_CAL_FAIL i)
    else if n = C.TMU_POS_INVALID.code.toNat then !s.fbit F.PFB_STAT_VALID
    else if n = C.TMU_VDC_OV.code.toNat then s.tmu.vdcOv
    else if n = C.TMU_OVERSPEED_TRIP.code.toNat then s.tmu.overspeedTrip
    else if n = C.TMU_SHORT_BOTH_SIDES.code.toNat then s.tractionShort 0 && s.tractionShort 1
    else if n = C.ADC_SD_LOSS.code.toNat then s.adc.sdLost.getLsbD i
    else if n = C.PFB_RES_AMP.code.toNat || n = C.PFB_RES_EXC.code.toNat || n = C.PFB_RES_TRACK.code.toNat || n = C.PFB_RES_ADC.code.toNat then s.pfb.lossOn
    else if n = C.PFB_RES_CHECK_FAIL.code.toNat then s.pfb.chkFail && !s.seq.resOk
    else if n = C.PFB_ENC_QERR.code.toNat then s.pfb.encInval
    else if n = C.PFB_ENC_IDX_FAULT.code.toNat then !s.fbit F.PFB_STAT_ENC_REF
    else if n = C.GDR_LG_CC.code.toNat then (bridgeChans (i - 128)).any fun ch => s.latched ch
    else if n = C.PWM_CONFIRM_TMO.code.toNat || n = C.PWM_GATE_UNCMD.code.toNat || n = C.PWM_GATE_NO_ON.code.toNat ||
        n = C.GDR_GC_FAULT.code.toNat || n = C.GDR_LG_VDS.code.toNat || n = C.GDR_BOOT_UV.code.toNat || n = C.GDR_CP_FAIL.code.toNat then
      s.latched (instChan i)
    else if n = C.SMON_WD_FAIL.code.toNat then (s.wdog .smonA i).fail || (s.wdog .smonB i).fail
    else if n = C.SMON_XCMP_MISMATCH.code.toNat then s.safe.xRep != 0
    else if n = C.SMON_XCMP_LOST.code.toNat then s.xcmpRuns && s.past s.safe.xTime (usTicks 300)
    else if n = C.SMONB_VDC_OV.code.toNat then
      match s.safe.b.params with
      | some p => fLt p.ovB s.safe.b.vdc
      | none => false
    else if n = C.SMONB_OVERSPEED.code.toNat then s.safe.b.overRun == 2
    else if n = C.LKS_CHECKER_FAIL.code.toNat || n = C.LKS_PAIR_RETIRED.code.toNat || n = C.LKS_TAKEOVER_FAIL.code.toNat then
      s.lksSt (if i < 8 then i else unitOfTriad (i - 8)) == 5
    else if n = C.THM_ZONE_TRIP.code.toNat || n = C.THM_DIE_SHUTDOWN.code.toNat then s.fbit (F.THM_ZONE_STAT_TRIP (i % 16))
    else if n = C.SUP_RAIL_FAULT.code.toNat then s.thm.out.getLsbD i
    else false

/-- The causes of a class that are active (R718), oldest first. -/
def State.activeCauses (s : State) (cls : Nat) : List Cause := s.seq.causes.filter fun c => c.cls == cls && s.asserts c

/-- A DEGRADE cause in DRIVE: the sub-state and RED_PEND it leads to, or none for SAFE-HOLD (R89, R91 to R93). -/
def degNext (sub : Sub) (red : Bool) (assign : Nat) : Option (Sub × Bool) :=
  match sub, assign with
  | .full, 1 => some (.halfB, red)
  | .full, 2 => some (.halfA, red)
  | .full, _ => some (.reduced, red)
  | .reduced, 1 => some (.halfB, true)
  | .reduced, 2 => some (.halfA, true)
  | .reduced, _ => some (.reduced, red)
  | .halfA, 1 => none
  | .halfA, 2 => some (.halfA, red)
  | .halfA, _ => some (.halfA, true)
  | .halfB, 2 => none
  | .halfB, 1 => some (.halfB, red)
  | .halfB, _ => some (.halfB, true)

/-- The sub-state that causes arriving in order lead to from a sub-state (R90). -/
def degFold : List Cause → Sub × Bool → Option (Sub × Bool)
  | [], x => some x
  | c :: t, x =>
    match degNext x.1 x.2 c.assign with
    | none => none
    | some y => degFold t y

/-! ### Conditions (R80, R81) -/

/-- The torque command is zero. -/
def State.torqueZero (s : State) : Bool := fIsZero (s.rd R.TMU_TQ_REF)

/-- |speed| is below the park-speed limit; false without a valid position (R81). -/
def State.parkSlow (s : State) : Bool := s.speedOkA && fLt (fAbs s.rpmA) (fOfNat (s.fget F.ACT_PL_SEAL_PL_RPM))

/-- The park lock is confirmed engaged (R441). -/
def State.parkEngaged (s : State) : Bool := s.fget F.ACT_PL_STAT_STATE == 1

/-- Both channels have passed the seal check (R483). -/
def State.sealOk (s : State) : Bool := s.safe.a.sealRes == 1 && s.safe.b.sealRes == 1

/-- The first of a row's conditions that fails, as a RESULT. -/
def firstFail : List (Bool × Nat) → Option Nat
  | [] => none
  | (ok, r) :: t => if ok then firstFail t else some r

/-- The conditions of SLEEP. -/
def State.sleepFail (s : State) : Option Nat := firstFail [(s.torqueZero, 7), (s.parkSlow, 8), (!s.chgOn, 10)]

/-- What a request answers in the present mode (R80): the target, or the RESULT of its refusal; CLEAR_DEGRADE (9) apart. None for DRIVE while
P1 is split (R516). -/
def State.modeAsk (s : State) (req : Nat) : Except Nat Mode :=
  let go (m : Mode) (f : Option Nat) : Except Nat Mode :=
    match f with
    | none => .ok m
    | some r => .error r
  let joined := s.lksSt 1 != 3
  let drive := match degFold (s.activeCauses 3) (.full, false) with
    | some _ => true
    | none => false
  match s.seq.mode, req with
  | .arming, 2 => go .drive (firstFail [(joined, 6), (s.seq.stepsDone, 3), (s.sealOk, 4), (s.openOnceDone, 5), (drive, 11)])
  | .arming, 3 => go .charge (firstFail [(s.seq.stepsDone, 3), (s.parkEngaged, 9)])
  | .arming, 4 => go .service (firstFail [(s.seq.stepsDone, 3)])
  | .drive, 3 => go .charge (firstFail [(s.torqueZero, 7), (s.parkSlow, 8), (s.parkEngaged, 9)])
  | .charge, 2 => go .drive (firstFail [(joined, 6), (!s.chgOn, 10), (s.sealOk, 4), (s.openOnceDone, 5), (drive, 11)])
  | .drive, 4 => go .service (firstFail [(s.torqueZero, 7), (s.parkSlow, 8), (!s.chgOn, 10)])
  | .charge, 4 => go .service (firstFail [(s.torqueZero, 7), (s.parkSlow, 8), (!s.chgOn, 10)])
  | .service, 1 => .ok .arming
  | .safeHold, 8 => go .arming (firstFail [(s.openOnceDone, 5), ((s.activeCauses 4).isEmpty, 11)])
  | .dormant, _ => .error 6
  | _, 6 => go .dormant s.sleepFail
  | _, _ => .error 6

/-! ### Entering a mode -/

/-- On leaving SERVICE every RTL register returns to its reset value (R683). -/
def State.rtlReset (s : State) : State :=
  { s with regs := s.regs.filter fun p => p.1 / 65536 != 0x201F, rtl := {} }

/-- TS-A and TS-B at the exit from DRIVE (R231): off, or in SAFE-HOLD held in the selected safe state. -/
def State.tmuLeave (s : State) (m : Mode) : State :=
  let s1 := s.fput F.TMU_STAT_POS_HOLD false
  if m = .safeHold then
    let s2 := { s1 with tmu := { s1.tmu with tApp := 0, stopA := false, stopB := false } }
    (((s2.wr R.TMU_TQ_APPLIED 0).sput 0x08F 0).disableAllManaged).holdBoth
  else s1.tmuStop

/-- The offset measurement of system `k` is due once in every ARMING (R197). -/
def State.calArm (s : State) (k : Nat) : State :=
  ((s.fput (F.TMU_SYS_CAL_DONE k) false).fput (F.TMU_SYS_CAL_FAIL k) false).setTsys k { s.tsys k with cal := some 0, sumU := 0, sumV := 0 }

/-- A queued brake-chopper test begins with the in-mode steps of ARMING (R107, R111). -/
def State.queuedTest (s : State) : State :=
  if (s.fget F.SYS_TEST_QUEUE_Q).testBit 3 && s.seq.test.isNone then
    { s with seq := { s.seq with test := some 3 }, tmu := { s.tmu with bcTest := some s.time } }
  else s

/-- A test that runs when the mode changes to one that does not permit it stops without a result and is queued (R111).
DESIGN CHOICE: log entry 129. -/
def State.testStop (s : State) : State :=
  match s.seq.test with
  | none => s
  | some t =>
    (((({ s with seq := { s.seq with test := none }, tmu := { s.tmu with bcTest := none } }).fset F.SYS_TEST_STAT_STATUS 4).fset
      F.SYS_TEST_STAT_TEST t.val).rput R.SYS_TEST_QUEUE t.val true)

/-- Begin the in-mode steps of ARMING (R107): ADC calibration, LG diagnostics, resolver check, offset measurement; the brake-chopper
test where it is queued. The straps and the pod of SMON-B are read anew (R482, R483). An open key is reported (R639). The sleep timeout starts (R717), and the host timer (R577). -/
def State.armingEntry (s : State) : State :=
  let w := s.rd R.SYS_ARM_STAT
  let keep4 := !s.adc.hasSpare
  let w1 := putBits (putBits w 5 5 0) 13 13 0
  let w2 := if keep4 then w1 else putBits (putBits w1 4 4 0) 12 12 0
  let s1 := (s.wr R.SYS_ARM_STAT w2).calArm 0
  let s2 := if s.mach = 2 then s1 else s1.calArm 1
  let s3 := if s2.fbit F.SEC_STAT_OPEN then s2.raise C.SEC_KEY_OPEN 255 {} else s2
  { s3.queuedTest with
    seq := { s3.queuedTest.seq with
      stepsDone := false
      timedOut := false
      diagOk := false
      diagBad := false
      resOk := false
      bootArming := false
      sleepStart := s.time
      sleepDue := false }
    adc.armCal := if keep4 then s3.adc.armCal else 0
    safe := { s3.queuedTest.safe with
      a := { s3.queuedTest.safe.a with strapCnt := 0 }
      b := { s3.queuedTest.safe.b with strapCnt := 0 }
      podB := none }
    pfb.chkFail := false
    pfb.excStart := if s3.pfb.exc then s.time else s3.pfb.excStart
    hif.hostAt := s.time }

/-- Clear SAFE_LATCH and the causes in both channels, their bars, and the contactor request, on SAFE-HOLD to ARMING (R87, R246,
R464, R470). -/
def State.clearSafe (s : State) : State :=
  let s1 := { s with
    seq.safeLatch := false
    safe.a := { s.safe.a with cause := false }
    safe.b := { s.safe.b with cause := false, ownH := false, ownL := false }
    tmu.bothSides := false }
  ((s1.fput F.TMU_STAT_CONT_OPEN_REQ false).sysOffNow 0).sysOffNow 1

/-- What the stages do at a mode change (R77, R231, R313, R372, R415, R439). -/
def State.stagesFollow (s : State) : State :=
  let s1 := (if s.seq.entry = .awake then s.lvcMode else s).chgMode.actMode
  (((s1.showGates 12).allFollow 12).abcDrive).torqueReady.bothSelect

/-- Change the mode with everything that follows from it. -/
def State.enter (s : State) (m : Mode) (sub : Sub) (red : Bool) (why : BitVec 16) : State :=
  let old := s.seq.mode
  let s1 := { s.keepHeld m with seq := { s.seq with redPend := red } }
  let s2 := s1.setMode m sub why
  if old = m then s2
  else
    let s3 := if old = .service then s2.rtlReset else s2
    let s4 := if old = .drive then (s3.fput F.SYS_EN_STAT_TORQUE_INH false).tmuLeave m else if m = .safeHold then s3.holdBoth else s3
    let s5 := if old = .safeHold && m = .arming then s4.clearSafe else s4
    let s6 := if m = .arming then s5.armingEntry else if m = .service then s5 else s5.testStop
    s6.stagesFollow

/-- An NVM operation is in flight (R104). -/
def State.nvmBusy (s : State) : Bool := s.nvm.op0.isSome || s.nvm.op1.isSome || s.nvm.op2.isSome || s.upd.blk.isSome

/-- Entry into DORMANT is accepted (R104): the mode at once, then the steps in order. -/
def State.sleepEntry (s : State) : State :=
  let wait := s.nvmBusy
  let s1 := { s with seq := { s.seq with entry := if wait then .nvmWait else .lvcRamp, wakeDue := false } }
  let s2 := s1.enter .dormant .full false 0
  if wait then s2 else s2.lvcMode

/-! ### Requests (R78 to R85, R95) -/

/-- Journal a refusal. -/
def State.modeRefused (s : State) (req result src : Nat) : State :=
  s.raise C.MODE_REFUSED 0 { w0 := bytes4 req result s.seq.mode.code src }

/-- End a request with a refusal (R83). -/
def State.requestFail (s : State) (req result : Nat) : State := (({ s with seq := { s.seq with acted := none } }).fset F.SYS_MODE_STAT_RESULT result).modeRefused req result 0

/-- CLEAR_DEGRADE (R95): the target sub-state, or the RESULT of its refusal. -/
def State.clearAsk (s : State) : Except Nat Sub :=
  if !s.inMode .drive then .error 6
  else
    let act := s.activeCauses 3
    if act.isEmpty then .ok .full
    else if (s.seq.sub == .halfA || s.seq.sub == .halfB) && act.all fun c => c.assign == 0 then .ok .reduced
    else .error 11

/-- A SAFE reaction is about to take effect (R85). -/
def State.safeDue (s : State) : Bool := s.reacts.any fun r => r.cls == 4

/-- The sequencer acts on the waiting request (R80, R82, R83); with a SAFE reaction due it does not, and the reaction ends it (R85). On
CLEAR_DEGRADE RED_PEND is cleared, to FULL and to REDUCED alike. DESIGN CHOICE: log entry 124. -/
def State.modeEval (s : State) : State :=
  match s.seq.request with
  | none => s
  | some q =>
    let req := q.toNat
    let s0 := ({ s with seq := { s.seq with request := none } }).fset F.SYS_MODE_STAT_LAST_REQ req
    let s1 : State := { s0 with seq := { s0.seq with acted := some (s.cyc, q) } }
    if s.safeDue then s
    else if req = 9 then
      match s1.clearAsk with
      | .ok sub => (s1.enter .drive sub false 0).fset F.SYS_MODE_STAT_RESULT 2
      | .error r => s1.requestFail 9 r
    else
      match s1.modeAsk req with
      | .error r => s1.requestFail req r
      | .ok .dormant => (s1.fset F.SYS_MODE_STAT_RESULT 2).sleepEntry
      | .ok .drive =>
        match degFold (s1.activeCauses 3) (.full, false) with
        | none => s1.requestFail req 11
        | some x =>
          let s2 := s1.enter .drive x.1 x.2 0
          let s3 := match x.1 with
            | .halfA => s2.holdSys 1
            | .halfB => s2.holdSys 0
            | _ => s2
          s3.fset F.SYS_MODE_STAT_RESULT 2
      | .ok m => (s1.enter m .full false 0).fset F.SYS_MODE_STAT_RESULT 2

/-- SYS_MODE_REQ lists the value (R84). -/
def listedRequest (v : Nat) : Bool := v == 1 || v == 2 || v == 3 || v == 4 || v == 6 || v == 8 || v == 9

/-- A write of SYS_MODE_REQ: a listed value replaces a waiting request; any other is no request (R84). -/
def State.modeReqWrite (s : State) (v : Nat) : State :=
  if listedRequest v then
    ({ s with seq := { s.seq with request := some (BitVec.ofNat 4 v) } }).fset F.SYS_MODE_STAT_RESULT 1
  else
    let s1 := if s.seq.request.isNone then s.fset F.SYS_MODE_STAT_RESULT 6 else s
    s1.modeRefused v 6 0

/-! ### Reactions (R85 to R94, R237, R487) -/

/-- Take the first waiting reaction of a class out of a list. -/
def takeReact (cls : Nat) : List React → Option (React × List React)
  | [] => none
  | r :: t =>
    if r.cls = cls then some (r, t)
    else match takeReact cls t with
      | some (x, t') => some (x, r :: t')
      | none => none

/-- A waiting request ends refused at a SAFE reaction, and so does one carried out in the control cycle of the reaction (R85). The record names
the mode after SAFE-HOLD is entered. DESIGN CHOICE: log entry 125. -/
def State.requestEnd (s : State) (cyc : Option Nat) : State :=
  match s.seq.request, s.seq.acted with
  | some q, _ => ({ s with seq := { s.seq with request := none } }).requestFail q.toNat 6
  | none, some (c, q) => if cyc = some c then s.requestFail q.toNat 6 else s
  | none, none => s

/-- The FAULT frame of a SAFE-HOLD entry (R607). -/
def State.faultFrame (s : State) (code : BitVec 16) (stamp : Tick) : State :=
  let w : List Byte := wordBytes (w32 (code.toNat + 2 ^ 16 * s.safe.a.code)) ++ wordBytes (loWord stamp) ++ wordBytes (hiWord stamp) ++ wordBytes 0
  { s with olk.faultDue := some w }

/-- Enter SAFE-HOLD (R85 to R87, R97, R607): on a reaction of control cycle `cyc`, or at the end of ARMING. -/
def State.safeHoldEntry (s : State) (why : BitVec 16) (cyc : Option Nat) : State :=
  if s.inMode .dormant then s
  else if s.inMode .safeHold then s.requestEnd cyc
  else
    let s1 := { s with seq := { s.seq with safeLatch := true } }
    let s2 := (s1.setOo .smonA .notDone).setOo .smonB .notDone
    let s3 := s2.enter .safeHold .full false why
    (s3.faultFrame why s.clave).requestEnd cyc

/-- A SAFE decision of SMON-A on a code (R463, R470). -/
def State.safeDecide (s : State) (code : BitVec 16) (cyc : Nat) : State :=
  if s.inMode .dormant then s else (s.latchCauses.safeHoldEntry code (some cyc)).count 0x183 1

/-- The first waiting SAFE record takes effect. -/
def State.safeDecision (s : State) : State :=
  match takeReact 4 s.reacts with
  | none => s
  | some (r, rest) => ({ s with reacts := rest }).safeDecide r.code r.cyc

/-- SAFE_DECISION (R463). -/
def execSafeDecision (s : State) : Host.Outcome State Fault Refusal := .next s.safeDecision

/-- The first waiting DEGRADE record takes effect in DRIVE (R89, R91 to R93, R237). -/
def State.degradeReaction (s : State) : State :=
  match takeReact 3 s.reacts with
  | none => s
  | some (r, rest) =>
    let s1 := { s with reacts := rest }
    if !s1.inMode .drive then s1
    else
      match degNext s1.seq.sub s1.seq.redPend r.assign with
      | none => s1.safeDecide r.code r.cyc
      | some x =>
        let s2 := if r.assign = 1 then s1.holdSys 0 else if r.assign = 2 then s1.holdSys 1 else s1
        s2.enter .drive x.1 x.2 r.code

/-- DEGRADE_REACTION (R89). -/
def execDegradeReaction (s : State) : Host.Outcome State Fault Refusal := .next s.degradeReaction

/-! ### Sleep (R104, R717) -/

/-- The sleep timeout expires (R717). -/
def State.sleepTimeout (s : State) : State :=
  let t := s.fget F.SYS_SLEEP_CFG_TMO
  if s.inMode .arming && decide (0 < t) && !s.seq.sleepDue && s.past s.seq.sleepStart (msTicks (1000 * t)) && !s.lDead then
    if s.sleepFail.isNone then s.sleepEntry else { s with seq := { s.seq with sleepDue := true } }
  else s

/-- SLEEP_TIMEOUT (R717). -/
def execSleepTimeout (s : State) : Host.Outcome State Fault Refusal := .next s.sleepTimeout

/-- SLEEP_DEFERRED (R717). -/
def execSleepDeferred (s : State) : Host.Outcome State Fault Refusal :=
  .next (if s.inMode .arming && s.seq.sleepDue && s.sleepFail.isNone && !s.lDead then s.sleepEntry else s)

/-- A host frame accepted under R570 restarts the sleep timeout (R717). -/
def State.sleepRestart (s : State) : State :=
  if s.inMode .arming then { s with seq := { s.seq with sleepStart := s.time, sleepDue := false } } else s

/-- The NVM operation in flight has ended (R104); it takes at most 2 ms. -/
def State.dormantNvmIdle (s : State) : State :=
  if s.seq.entry = .nvmWait && (!s.nvmBusy || s.past s.seq.since (msTicks 2)) then
    ({ s with seq := { s.seq with entry := .lvcRamp } }).lvcMode
  else s

/-- DORMANT_NVM_IDLE (R104). -/
def execDormantNvmIdle (s : State) : Host.Outcome State Fault Refusal := .next s.dormantNvmIdle

/-! ### The end of ARMING (R88, R107, R108) -/

/-- All ARMING steps have passed, with no permitted test still queued (R107). -/
def State.armingPassed (s : State) : Bool :=
  let d := s.fget F.SYS_ARM_STAT_DONE
  let q := s.fget F.SYS_TEST_QUEUE_Q
  decide (d &&& 0x37 = 0x37) && !(q.testBit 0 || q.testBit 3) && (!s.seq.bootArming || !(q.testBit 1 || q.testBit 2))

/-- The steps end: SAFE-HOLD where SAFE_LATCH is set (R88), else a request is awaited. -/
def State.armingStepsDone (s : State) : State :=
  if s.inMode .arming && !s.seq.stepsDone && s.armingPassed && s.seq.held = .no then
    let s1 := { s with seq := { s.seq with stepsDone := true } }
    if s.seq.safeLatch then s1.safeHoldEntry 0 none else s1.torqueReady
  else s

/-- ARMING_STEPS_DONE (R88). -/
def execArmingStepsDone (s : State) : Host.Outcome State Fault Refusal := .next s.armingStepsDone

/-- ARMING_TIMEOUT (R108). -/
def execArmingTimeout (s : State) : Host.Outcome State Fault Refusal :=
  .next (if s.inMode .arming && !s.seq.stepsDone && !s.seq.timedOut && s.past s.seq.since (msTicks 1000) && !s.lDead then
    ({ s with seq := { s.seq with timedOut := true } }).raise C.ARMING_TIMEOUT 0
      { w0 := bytes4 (s.fget F.SYS_ARM_STAT_DONE) (s.fget F.SYS_ARM_STAT_FAILED) 0 0 }
  else s)

/-! ### Tests (R111 to R115) -/

/-- Answer a test request. -/
def State.testStat (s : State) (t st : Nat) : State := (s.fset F.SYS_TEST_STAT_STATUS st).fset F.SYS_TEST_STAT_TEST t

/-- Set or clear a queue bit. -/
def State.testQueue (s : State) (t : Nat) (b : Bool) : State := s.rput R.SYS_TEST_QUEUE t b

/-- Start test 0 or 3 at once. -/
def State.testRun (s : State) (t : Nat) : State :=
  let s1 := { s with seq := { s.seq with test := some (if t = 3 then 3 else 0) } }
  (if t = 3 then { s1 with tmu := { s1.tmu with bcTest := some s.time } } else s1).testStat t 1

/-- A test of this number runs: requested, queued or of ARMING. -/
def State.testOn (s : State) (t : Nat) : Bool :=
  (t == 0 && s.diagRoutine) || (match s.seq.test with
    | some r => r.val == t
    | none => false)

/-- A test is requested (R111 to R115). A request of the test that runs is answered with its status. DESIGN CHOICE: log entry 126. -/
def State.testReq (s : State) (t : Nat) : State :=
  if [0, 1, 2, 3].any fun r => r != t && s.testOn r then s.testStat t 5
  else if (s.fget F.SYS_TEST_QUEUE_Q).testBit t then s.testStat t 4
  else if s.testOn t then s.testStat t 1
    else if s.inMode .drive || s.inMode .charge || s.inMode .safeHold then
      ((s.testStat t 4).testQueue t true).raise C.TEST_REFUSED 0 { w0 := bytes4 t s.seq.mode.code 0 0 }
    else if t = 1 || t = 2 then (s.testStat t 6).testQueue t true
    else s.testRun t

/-- A test has completed: its queue bit is cleared and, where it was requested, its status given (R114). -/
def State.testDone (s : State) (t : Nat) (ok : Bool) : State :=
  let s1 := s.testQueue t false
  match s.seq.test with
  | some r =>
    if r.val = t then ({ s1 with seq := { s1.seq with test := none } }).testStat t (if ok then 2 else 3) else s1
  | none => s1

/-- The LG off-state diagnostics end (R107, R347): DONE or FAILED bit 5 in ARMING. -/
def State.lgDiag (s : State) (legs : List DiagLeg) (vbat vo : Nat) : State :=
  let arming := s.inMode .arming && s.seq.boot = .running
  if s.testOn 0 then
    let r := s.diagLegs vbat (s.diagRef vbat vo) 0 legs
    let s1 := r.1.testDone 0 (!r.2)
    if !arming then s1
    else if r.2 then ({ s1 with seq := { s1.seq with diagBad := true } }).rput R.SYS_ARM_STAT 13 true
    else ({ s1 with seq := { s1.seq with diagOk := true } }).armBit5
  else s

/-- LG_DIAG_DONE (R347). -/
def execLgDiagDone (legs : List DiagLeg) (vbat : BitVec 12) (vo : BitVec 16) (s : State) : Host.Outcome State Fault Refusal :=
  .next (s.lgDiag legs vbat.toNat vo.toNat)

/-- The brake-chopper test ends once its 10 ms have passed (R244, R245). -/
def State.bcTestDone (s : State) (gsFail : Option (Fin 100)) (v0 v1 : F32) : State :=
  if !(s.tmu.bcTest.any fun t => s.past t (msTicks 10)) then s
  else
    let s1 := s.bcTestResult gsFail v0 v1
    s1.testDone 3 (!s1.fbit F.TMU_BC_CTRL_TEST_FAIL)

/-- BC_TEST_DONE (R244). -/
def execBcTestDone (gsFail : Option (Fin 100)) (v0 v1 : F32) (s : State) : Host.Outcome State Fault Refusal :=
  .next (s.bcTestDone gsFail v0 v1)

end Sys2Proof.Machine
end

