-- ==== Sys2Proof/Machine/Flash.lean ====
section
/-! DEFINITION. The external flash (R625 to R649): bytes of the image slots and the firmware area, configuration banks, boot header, ring log; images and their checks (R637 to R640). -/

namespace Sys2Proof.Machine

/-! ### Bytes -/

/-- An erased byte. -/
def flashBlank (_ : Nat) : Byte := 0xFF

/-- A byte of the flash. -/
def State.fl (s : State) (a : Nat) : Byte := SMap.get flashBlank s.nvm.flash a

/-- `n` bytes from an offset. -/
def State.fls (s : State) (a : Nat) : Nat → List Byte
  | 0 => []
  | n + 1 => s.fl a :: s.fls (a + 1) n

/-- A little-endian word. -/
def State.flw (s : State) (a : Nat) : Word := bytesWord (s.fl a) (s.fl (a + 1)) (s.fl (a + 2)) (s.fl (a + 3))

/-- Store bytes. -/
def State.flPut (s : State) (a : Nat) : List Byte → State
  | [] => s
  | b :: t => ({ s with nvm := { s.nvm with flash := SMap.set flashBlank s.nvm.flash a b } }).flPut (a + 1) t

/-- Erase a range. -/
def State.flErase (s : State) (a n : Nat) : State :=
  { s with nvm := { s.nvm with flash := s.nvm.flash.filter fun p => decide (p.1 < a) || decide (a + n ≤ p.1) } }

/-- A page reads blank. -/
def State.pageBlank (s : State) (a : Nat) : Bool :=
  s.nvm.flash.all fun p => decide (p.1 < a / 256 * 256) || decide (a / 256 * 256 + 256 ≤ p.1)

/-- Program bytes page by page; a page that is not blank has its sector erased first (R625). The first argument bounds the pages. -/
def State.flProgram (s : State) : Nat → Nat → List Byte → State
  | 0, _, _ => s
  | _ + 1, _, [] => s
  | n + 1, a, b =>
    let k := 256 - a % 256
    let s1 := if s.pageBlank a then s else (s.flErase (a / 4096 * 4096) 4096).count 0x1E1 1
    ((s1.flPut a (b.take k)).count 0x1E0 1).flProgram n (a + k) (b.drop k)

/-- `n` free bytes: what a failed operation leaves. -/
def freeBytes (k : Nat) : Nat → List Byte
  | 0 => []
  | n + 1 => (Config.freeValue k).setWidth 8 :: freeBytes (k + 1) n

/-- Free values in place of what a failed operation leaves in a range of the flash. -/
def State.flSpoil (s : State) (a n : Nat) : State := ({ s with free := s.free + n }).flPut a (freeBytes s.free n)

/-- The base of an image slot (R626). -/
def slotBase (slot : Nat) : Nat := 0x01000000 + 0x01000000 * slot

/-! ### Banks (R627 to R633) -/

/-- A bank. -/
def State.bank (s : State) (b : Nat) : Bank := if b = 0 then s.nvm.bank0 else s.nvm.bank1

/-- Store it. -/
def State.setBank (s : State) (b : Nat) (v : Bank) : State :=
  if b = 0 then { s with nvm := { s.nvm with bank0 := v } } else { s with nvm := { s.nvm with bank1 := v } }

/-- The pod of a type with the highest sequence, a bad one left out (R629). -/
def bestPod (t : Byte) : List Pod → Option Pod
  | [] => none
  | p :: rest =>
    let r := bestPod t rest
    if p.type = t && p.good then
      match r with
      | some q => if q.seq.toNat < p.seq.toNat then some p else some q
      | none => some p
    else r

/-- The current pod of a type in a bank that is present (R629, R632). -/
def Bank.current (b : Bank) (t : Byte) : Option Pod := if b.gen.isSome then bestPod t b.pods else none

/-- The sequence of the next pod (R628). -/
def Bank.nextSeq (b : Bank) : Word := w32 (b.pods.foldl (fun m p => if m < p.seq.toNat then p.seq.toNat else m) 0 + 1)

/-- The bytes a pod of `n` payload bytes takes (R627). -/
def podSize (n : Nat) : Nat := (16 + n + 15) / 16 * 16

/-- The bytes a bank has for pods. -/
def bankRoom : Nat := 0x200000 - 4096

/-- Append a pod where it fits. -/
def Bank.append (b : Bank) (p : Pod) : Bank := { b with used := b.used + podSize p.payload.length, pods := p :: b.pods }

/-- The types of pods a bank holds, each once. -/
def podTypes : List Pod → List Byte
  | [] => []
  | p :: t => let r := podTypes t; if r.any (· == p.type) then r else p.type :: r

/-- A fresh bank of the given generation with copies of the current pods of another, their sequences kept (R633). -/
def Bank.copyCurrent (b : Bank) (g : Word) : Bank :=
  (podTypes b.pods).foldl (fun nb t =>
    match bestPod t b.pods with
    | some p => nb.append p
    | none => nb) { gen := some g }

/-! ### The boot header (R636) -/

/-- The current header, a blank one where there is none. -/
def State.hdr (s : State) : BootHeader := s.nvm.header.getD {}

/-- Program a header page with the sequence increased (R636). -/
def State.putHdr (s : State) (h : BootHeader) : State :=
  let full := decide (16 ≤ s.nvm.hdrPages)
  { s with nvm := { s.nvm with
      header := some { h with seq := s.hdr.seq + 1 }
      hdrSector := if full then 1 - s.nvm.hdrSector else s.nvm.hdrSector
      hdrPages := if full then 1 else s.nvm.hdrPages + 1 } }

/-- A slot record. -/
def BootHeader.slot (h : BootHeader) (k : Nat) : SlotRec := if k = 0 then h.slotA else h.slotB

/-- Replace it. -/
def BootHeader.setSlot (h : BootHeader) (k : Nat) (v : SlotRec) : BootHeader :=
  if k = 0 then { h with slotA := v } else { h with slotB := v }

/-- The slot that pair `p` runs. -/
def BootHeader.runs (h : BootHeader) (p : Nat) : Nat := b2n (h.pairSlot.getLsbD p)

/-- Let pair `p` run a slot. -/
def BootHeader.setRuns (h : BootHeader) (p k : Nat) : BootHeader :=
  { h with pairSlot := if k = 0 then h.pairSlot &&& ~~~ (BitVec.ofNat 3 (2 ^ p)) else h.pairSlot ||| BitVec.ofNat 3 (2 ^ p) }

/-- NEXT_SLOT of pair `p`. -/
def BootHeader.next (h : BootHeader) (p : Nat) : Option Nat :=
  match p with
  | 0 => h.next0
  | 1 => h.next1
  | _ => h.next2

/-- Write NEXT_SLOT of pair `p`. -/
def BootHeader.setNext (h : BootHeader) (p : Nat) (v : Option Nat) : BootHeader :=
  match p with
  | 0 => { h with next0 := v }
  | 1 => { h with next1 := v }
  | _ => { h with next2 := v }

/-- A pair runs slot `k`. -/
def BootHeader.inUse (h : BootHeader) (k : Nat) : Bool := h.runs 0 == k || h.runs 1 == k || h.runs 2 == k

/-! ### Images (R637 to R640) -/

/-- A segment entry. -/
structure Seg where
  off : Nat
  addr : Nat
  len : Nat
  owner : Nat
  digest : List Word
deriving DecidableEq, Repr

/-- Eight words from an offset. -/
def State.flWords (s : State) (a : Nat) : Nat → List Word
  | 0 => []
  | n + 1 => s.flw a :: s.flWords (a + 4) n

/-- Segment entry `i` of the image in a slot. -/
def State.seg (s : State) (k i : Nat) : Seg :=
  let a := slotBase k + 96 + 48 * i
  { off := (s.flw a).toNat
    addr := (s.flw (a + 4)).toNat
    len := (s.flw (a + 8)).toNat
    owner := (s.fl (a + 12)).toNat
    digest := s.flWords (a + 16) 8 }

/-- The used segments of the image in a slot. -/
def State.segs (s : State) (k : Nat) : List Seg := ((List.range 8).map fun i => s.seg k i).filter fun g => g.len != 0

/-- The length and tag of the image in a slot. -/
def State.imgLen (s : State) (k : Nat) : Nat := (s.flw (slotBase k + 12)).toNat
/-- Its tag. -/
def State.imgTag (s : State) (k : Nat) : BitVec 16 := s.fl (slotBase k + 5) ++ s.fl (slotBase k + 4)
/-- Its version. -/
def State.imgVer (s : State) (k : Nat) : Word := s.flw (slotBase k + 8)

/-- The address at which it starts pair `p` (R637). -/
def State.imgEntry (s : State) (k p : Nat) : Word := s.flw (slotBase k + 480 + 4 * p)

/-- The SRAM region of a pair (first and last address); 3 for the shared region (spec/01). -/
def sramRegion (p : Nat) : Nat × Nat :=
  match p with
  | 0 => (0x10000000, 0x101FFFFF)
  | 1 => (0x10200000, 0x104FFFFF)
  | 2 => (0x10500000, 0x109FFFFF)
  | _ => (0x10A00000, 0x10BFFFFF)

/-- A range lies within a region. -/
def inRegion (a n p : Nat) : Bool := decide ((sramRegion p).1 ≤ a) && decide (a + n ≤ (sramRegion p).2 + 1)

/-- Two segments overlap in the image or in SRAM. -/
def segOverlap (x y : Seg) : Bool :=
  (decide (x.off < y.off + y.len) && decide (y.off < x.off + x.len)) || (decide (x.addr < y.addr + y.len) && decide (y.addr < x.addr + x.len))

/-- No segment of a list overlaps another. -/
def segsApart : List Seg → Bool
  | [] => true
  | x :: t => (t.all fun y => !segOverlap x y) && segsApart t

/-- The layout of the image in a slot is good (R637, R638). -/
def State.imgLayoutOk (s : State) (k : Nat) : Bool :=
  let n := s.imgLen k
  s.flw (slotBase k) == 0x1A9E90D5 && decide (n ≤ 0x1000000) && segsApart (s.segs k) &&
    (s.segs k).all fun g => decide (g.off + g.len ≤ n) && g.off % 4 == 0 && g.addr % 4 == 0 && decide (g.owner < 3) &&
      (inRegion g.addr g.len g.owner || inRegion g.addr g.len 3)

/-- No key hash has been blown (R639). -/
def State.keysOpen (s : State) : Bool := (List.range 8).all fun i => s.rd (R.SEC_KEYHASH 0 i) == 0 && s.rd (R.SEC_KEYHASH 1 i) == 0

/-- The image's key is one the fuses accept (R638, R639). -/
def State.imgKeyOk (s : State) (k : Nat) : Bool :=
  let slot := (s.fl (slotBase k + 16)).toNat
  s.keysOpen || (decide (slot < 2) && !s.rbit R.SEC_REVOKE slot &&
    decide (Config.sha256 (s.fls (slotBase k + 32) 64) = (List.range 8).map fun i => s.rd (R.SEC_KEYHASH slot i)))

/-- Its signature verifies (R637, R638). -/
def State.imgSigOk (s : State) (k : Nat) : Bool :=
  Config.ecdsaVerify (Config.sha256 (s.fls (slotBase k) 512)) (s.fls (slotBase k + 32) 64) (s.fls (slotBase k + 512) 64)

/-- The digest of a segment is good. -/
def State.segOk (s : State) (k : Nat) (g : Seg) : Bool := decide (Config.sha256 (s.fls (slotBase k + g.off) g.len) = g.digest)

/-- Verify the image in a slot with the digests of some of its segments: the check it fails (0 key, 1 signature, 2 layout, 3 digest)
(R638, R640). -/
def State.imgFailOn (s : State) (k : Nat) (f : Seg → Bool) : Option Nat :=
  if !s.imgKeyOk k then some 0
  else if !s.imgSigOk k then some 1
  else if !s.imgLayoutOk k then some 2
  else if !(((s.segs k).filter f).all fun g => s.segOk k g) then some 3
  else none

/-- Verify a whole image (R649). -/
def State.imgFail (s : State) (k : Nat) : Option Nat := s.imgFailOn k fun _ => true

/-- A slot may be loaded by its state and its bank's generation (R632, R640). -/
def State.slotLoads (s : State) (k : Nat) : Bool :=
  let r := s.hdr.slot k
  (r.state == 2 || r.state == 3 || r.state == 4) && decide ((s.bank r.bank).gen = some r.bankGen)

/-- The check a slot fails for booting pair `p`, 4 for its state or bank (R640, R642). -/
def State.slotFail (s : State) (p k : Nat) : Option Nat :=
  if s.nvm.header.isSome && s.slotLoads k then s.imgFailOn k fun g => g.owner == p else some 4

/-- Note a verification in SEC_STAT (R638, R639). -/
def State.secNote (s : State) (k : Nat) (ok : Bool) : State :=
  ((s.fset F.SEC_STAT_KEY ((s.fl (slotBase k + 16)).toNat)).fput F.SEC_STAT_PASS ok).fput F.SEC_STAT_OPEN s.keysOpen

/-- Copy a list of segments into SRAM. -/
def State.copySegs (s : State) (k : Nat) : List Seg → State
  | [] => s
  | g :: t => (s.mputs g.addr (s.fls (slotBase k + g.off) g.len)).copySegs k t

/-- Load the segments of pair `p` from a slot (R640). -/
def State.loadPair (s : State) (p k : Nat) : State := s.copySegs k ((s.segs k).filter fun g => g.owner == p)

/-! ### The ring log (R634, R635) -/

/-- Its length. -/
def logSize : Nat := 0x800000

/-- The sector with number `j` of the ring is entered by `n` bytes written at offset `a`. -/
def sectorEntered (a n j : Nat) : Bool :=
  let first := (a + 4095) / 4096
  let last := (a + n + 4095) / 4096
  (decide (first ≤ j) && decide (j < last)) || (decide (first ≤ j + 2048) && decide (j + 2048 < last))

/-- A record touches a sector that is entered. -/
def LogRec.hit (r : LogRec) (a n : Nat) : Bool :=
  (List.range (r.data.length / 4096 + 2)).any fun i =>
    decide (r.at_ / 4096 * 4096 + 4096 * i < r.at_ + 16 + r.data.length) && sectorEntered a n ((r.at_ / 4096 + i) % 2048)

/-- Append a record: what its sectors held is discarded (R634). -/
def State.logAppend (s : State) (kind : Byte) (data : List Byte) : State :=
  let a := s.nvm.logHead
  let n := 16 + data.length
  let head := (a + n) % logSize
  let s1 := { s with nvm := { s.nvm with
      logHead := head
      logs := { at_ := a, kind := kind, data := data } :: s.nvm.logs.filter fun r => !r.hit a n } }
  s1.wr R.NVC_LOG_HEAD (w32 (0x03400000 + head))

end Sys2Proof.Machine
end

