-- ==== Sys2Proof/Machine/Nvc.lean ====
section
/-! DEFINITION. The NVM controller's commands (R625 to R634, R545): what each pair's port starts, and what its completion does. -/

namespace Sys2Proof.Machine

/-- The command in progress of pair `p`'s port. -/
def State.nvcOp (s : State) (p : Nat) : Option NvcOp :=
  match p with
  | 0 => s.nvm.op0
  | 1 => s.nvm.op1
  | _ => s.nvm.op2

/-- Store it. -/
def State.setNvcOp (s : State) (p : Nat) (v : Option NvcOp) : State :=
  match p with
  | 0 => { s with nvm := { s.nvm with op0 := v } }
  | 1 => { s with nvm := { s.nvm with op1 := v } }
  | _ => { s with nvm := { s.nvm with op2 := v } }

/-- An operation with the given code is in progress on some port. -/
def State.nvcAny (s : State) (f : NvcOp → Bool) : Bool :=
  [0, 1, 2].any fun p => match s.nvcOp p with
    | some o => f o
    | none => false

/-- ERASING while an erase is in flight, a staged block's sector among them, SUSPENDED while another operation holds it up (R625, R646). -/
def State.nvcShow (s : State) : State :=
  let e := s.nvcAny fun o => o.op == 6
  let held := e && (s.upd.blk.isSome || s.nvcAny fun o => o.op != 6)
  ((s.fput F.NVC_STAT_ERASING (e || s.upd.blk.isSome)).fput F.NVC_STAT_SUSPENDED held).count 0x1E2 (b2n (held && !s.fbit F.NVC_STAT_SUSPENDED))

/-- The bank bound to the slot that pair `p` runs, or with `old` the other one (R660). -/
def State.bankOf (s : State) (p : Nat) (old : Bool) : Nat :=
  let b := (s.hdr.slot (s.hdr.runs p)).bank
  if old then 1 - b else b

/-- What UPD_PAIR_STAT shows of the slot that pair `p` runs (R659). -/
def State.pairShow (s : State) (p : Nat) : State :=
  let k := s.hdr.runs p
  let r := s.hdr.slot k
  (((s.fset (F.UPD_PAIR_STAT_SLOT p) k).fset (F.UPD_PAIR_STAT_BANK p) r.bank).fset (F.UPD_PAIR_STAT_OLD_BANK p) (1 - r.bank)).fset
    (F.UPD_PAIR_STAT_TAG p) r.tag.toNat

/-- Show every pair. -/
def State.pairsShow (s : State) : State := ((s.pairShow 0).pairShow 1).pairShow 2

/-- Pair `p` may append a pod of a type (R630). -/
def State.podOwner (s : State) (p : Nat) (t : Byte) : Bool :=
  let n := t.toNat
  ((n == 1 || n == 2) && p == 0 && s.inMode .service) || (decide (0x10 ≤ n) && decide (n ≤ 0x4F) && p == 0) ||
    (decide (0x50 ≤ n) && decide (n ≤ 0x8F) && p == 1) || (decide (0x90 ≤ n) && decide (n ≤ 0xCF) && p == 2)

/-- A range of the flash lies in the firmware area (R626). -/
def State.inFwArea (s : State) (a n : Nat) : Bool :=
  (decide (0xB000 ≤ a) && decide (a + n ≤ 0x1000000)) || (decide (0x4000000 ≤ a) && decide (a + n ≤ s.fget F.NVC_STAT_SIZE * 0x100000))

/-- COMPACT may run (R633). -/
def State.compactOk (s : State) : Bool :=
  let h := s.hdr
  let k := h.runs 0
  let o := (h.slot (1 - k)).state
  s.nvm.header.isSome && h.runs 1 == k && h.runs 2 == k && (h.slot k).state == 4 && s.fget F.UPD_STAT_STAGE == 0 && s.upd.armed.isNone &&
    (o == 0 || o == 5 || o == 6)

/-- Why a command ends at its start: 2 refused, 4 NO_NVM, 6 range or state (R545, R626, R627, R630, R633). -/
def State.nvcRefuse (s : State) (p : Nat) (o : NvcOp) : Option Nat :=
  if s.fbit F.THM_STAT_NO_NVM && (o.op == 2 || o.op == 3 || o.op == 5 || o.op == 6 || o.op == 7) then some 4
  else match o.op with
    | 2 => if !s.podOwner p o.type then some 2 else if decide (1 ≤ o.len) && decide (o.len ≤ 65520) then none else some 6
    | 4 => if s.inFwArea o.nor o.len then none else some 6
    | 5 => if s.inFwArea o.nor o.len then none else some 6
    | 6 => if s.inFwArea (o.nor / 4096 * 4096) 4096 then none else some 6
    | 7 => if s.compactOk then none else some 6
    | _ => none

/-- A write of NVC_CMD[p] starts a command; a port that is busy takes none. -/
def State.nvcCmd (s : State) (p : Nat) (v : Word) : State :=
  let op := bits v 3 0
  if op = 0 || 8 ≤ op || (s.nvcOp p).isSome then s
  else
    let o : NvcOp :=
      { op := op
        old := v.getLsbD 4
        type := BitVec.ofNat 8 (bits v 15 8)
        addr := (s.rd (R.NVC_ADDR p)).toNat
        len := (s.rd (R.NVC_LEN p)).toNat
        nor := (s.rd (R.NVC_NOR p)).toNat }
    match s.nvcRefuse p o with
    | some r => s.fset (F.NVC_RES_RESULT p) r
    | none => ((s.setNvcOp p (some o)).fput (F.NVC_RES_BUSY p) true).nvcShow

/-- A found pod is copied to SRAM with its length and sequence (R629); the firewall denies a write outside the shared region (R32). -/
def State.nvcFind (s : State) (p : Nat) (o : NvcOp) : State × Nat :=
  match (s.bank (s.bankOf p o.old)).current o.type with
  | none => (s, 1)
  | some q =>
    if inRegion o.addr q.payload.length 3 then
      (((s.mputs o.addr q.payload).wr (R.NVC_LEN p) (w32 q.payload.length)).wr (R.NVC_SEQ p) q.seq, 0)
    else (s.deniedBy 3 o.addr, 6)

/-- A pod is appended to the pair's own bank (R628); `ok`: its pages verified. -/
def State.nvcAppend (s : State) (p : Nat) (o : NvcOp) (ok : Bool) : State × Nat :=
  let k := s.bankOf p false
  let b := s.bank k
  if bankRoom < b.used + podSize o.len then (s, 3)
  else
    let q : Pod :=
      { type := o.type
        fmt := s.fresh.1.setWidth 8
        seq := b.nextSeq
        payload := s.mgets o.addr o.len
        good := ok }
    let s1 := s.fresh.2.setBank k (b.append q)
    if ok then (s1.wr (R.NVC_SEQ p) q.seq, 0) else (s1, 5)

/-- A log record is appended (R634). -/
def State.nvcLog (s : State) (o : NvcOp) (ok : Bool) : State × Nat :=
  if logSize < 16 + o.len then (s, 3)
  else if ok then (s.logAppend o.type (s.mgets o.addr o.len), 0)
  else (s.fresh.2.logAppend (s.fresh.1.setWidth 8) (freeBytes (s.free + 1) o.len), 5)

/-- COMPACT (R633). -/
def State.nvcCompact (s : State) (ok : Bool) : State × Nat :=
  let h := s.hdr
  let k := h.runs 0
  let b := (h.slot k).bank
  let g := ((s.bank b).gen.getD 0) + 1
  if !ok then
    let other := h.slot (1 - k)
    let s1 := if other.state = 6 then s.putHdr (h.setSlot (1 - k) { other with state := 0 }) else s
    (s1.setBank (1 - b) { s1.bank (1 - b) with gen := none }, 5)
  else
    let s1 := s.setBank (1 - b) ((s.bank b).copyCurrent g)
    let other := h.slot (1 - k)
    let h1 := h.setSlot k { h.slot k with bank := 1 - b, bankGen := g }
    let h2 := h1.setSlot (1 - k) { other with state := if other.state = 6 then 0 else other.state, bank := 1 - b, bankGen := g }
    (((s1.putHdr h2).setBank b { s1.bank b with gen := none }).pairsShow, 0)

/-- What the operation does at its completion, and its RESULT. -/
def State.nvcEffect (s : State) (p : Nat) (o : NvcOp) (ok : Bool) : State × Nat :=
  match o.op with
  | 1 => s.nvcFind p o
  | 2 => s.nvcAppend p o ok
  | 3 => s.nvcLog o ok
  | 4 => if inRegion o.addr o.len 3 then (s.mputs o.addr (s.fls o.nor o.len), 0) else (s.deniedBy 3 o.addr, 6)
  | 5 =>
    let t := s.flProgram (o.len / 256 + 2) o.nor (s.mgets o.addr o.len)
    if ok then (t, 0) else (t.flSpoil o.nor o.len, 5)
  | 6 =>
    let a := o.nor / 4096 * 4096
    if ok then (s.flErase a 4096, 0) else ((s.flErase a 4096).flSpoil a 4096, 5)
  | _ => s.nvcCompact ok

/-- The operation of pair `p`'s port completes. -/
def State.nvcDone (s : State) (p : Nat) (ok : Bool) : State :=
  match s.nvcOp p with
  | none => s
  | some o =>
    let r := s.nvcEffect p o ok
    let s1 := ((r.1.setNvcOp p none).fput (F.NVC_RES_BUSY p) false).fset (F.NVC_RES_RESULT p) r.2
    (s1.count 0x1E1 (b2n (o.op == 6))).nvcShow

/-- NVC_OP_COMPLETE (R625). -/
def execNvcOpComplete (p : Fin 3) (ok : Bool) (s : State) : Host.Outcome State Fault Refusal :=
  .next (if s.lDead then s else s.nvcDone p.val ok)

/-- What an operation that does not finish leaves of its range in the flash: free values, and of an append a record that fails its CRC
(R625, R629). -/
def State.opCut (s : State) (p : Nat) : State :=
  match s.nvcOp p with
  | some o =>
    match o.op with
    | 2 => (s.nvcAppend p o false).1
    | 5 => s.flSpoil o.nor o.len
    | 6 => s.flSpoil (o.nor / 4096 * 4096) 4096
    | _ => s
  | none => s

/-- Abandon suspended erases below port `n` (R625): their result is NO_NVM's. -/
def State.eraseDrop (s : State) : Nat → State
  | 0 => s
  | n + 1 =>
    let s1 := s.eraseDrop n
    match s1.nvcOp n with
    | some o => if o.op = 6 then (((s1.opCut n).setNvcOp n none).fput (F.NVC_RES_BUSY n) false).fset (F.NVC_RES_RESULT n) 4 else s1
    | none => s1

/-- NO_NVM sets: a suspended erase is abandoned (R625, R545). -/
def State.nvmStop (s : State) : State := if s.fbit F.NVC_STAT_SUSPENDED then (s.eraseDrop 3).nvcShow else s

end Sys2Proof.Machine
end

