-- ==== Sys2Proof/Machine/Upd.lean ====
section
/-! DEFINITION. The update block (R644 to R664): staging, activation, migration, revert and confirmation. -/

namespace Sys2Proof.Machine

/-- The update state of pair `p`. -/
def State.updP (s : State) (p : Nat) : UpdPair :=
  match p with
  | 0 => s.upd.u0
  | 1 => s.upd.u1
  | _ => s.upd.u2

/-- Store it. -/
def State.setUpdP (s : State) (p : Nat) (v : UpdPair) : State :=
  match p with
  | 0 => { s with upd := { s.upd with u0 := v } }
  | 1 => { s with upd := { s.upd with u1 := v } }
  | _ => { s with upd := { s.upd with u2 := v } }

/-- Pair `p` is restarted onto an image (R654). -/
def State.restarting (s : State) (p : Nat) : Bool := (s.updP p).run.isSome

/-- Set the STATE of a slot through a header page. -/
def State.slotState (s : State) (k st : Nat) : State := s.putHdr (s.hdr.setSlot k { s.hdr.slot k with state := st })

/-! ### Staging (R644 to R649) -/

/-- Block `b` of slot `k` in the flash. -/
def State.blockBytes (s : State) (k b : Nat) : List Byte := s.fls (slotBase k + 4096 * b) 4096

/-- Block `b` is committed: its entry is valid and the block still matches it (R647). -/
def State.committed (s : State) (k b : Nat) : Bool :=
  match SMap.get (fun _ => none) s.nvm.commits b with
  | some c => crc32c (s.blockBytes k b) == c
  | none => false

/-- Blocks of an image of `n` bytes. -/
def blocksOf (n : Nat) : Nat := (n + 4095) / 4096

/-- The first block from `b` that is not committed; the last argument bounds the search. -/
def State.firstMiss (s : State) (k b : Nat) : Nat → Nat
  | 0 => b
  | n + 1 => if s.committed k b then s.firstMiss k (b + 1) n else b

/-- Show the staging bitmap and descriptor (R647). -/
def State.stageShow (s : State) : State :=
  match s.nvm.stage with
  | none => (s.wr R.UPD_MISS 0).wr R.UPD_STG_TAG 0
  | some (tag, k) =>
    let n := (s.nvm.commits.filter fun q => s.committed k q.1).length
    (s.wr R.UPD_MISS (halves (s.firstMiss k 0 4096) n)).wr R.UPD_STG_TAG (w32 (tag.toNat + 2 ^ 16 * k))

/-- Every block of the image in slot `k` is committed (R649). -/
def State.stageFull (s : State) (k : Nat) : Bool :=
  s.committed k 0 && (let n := blocksOf (s.imgLen k); decide (1 ≤ n) && decide (n ≤ 4096) && decide (n ≤ s.firstMiss k 0 n))

/-- The target slot: no pair runs it and it is not the fallback of an unconfirmed update (R644). -/
def State.targetSlot (s : State) : Option Nat :=
  let h := s.hdr
  if h.slotA.state = 3 || h.slotB.state = 3 then none
  else if !h.inUse 0 then some 0
  else if !h.inUse 1 then some 1
  else none

/-- The staging state after a reset (R647). -/
def State.stageBoot (s : State) : State :=
  match s.nvm.stage with
  | none => s.stageShow
  | some (_, k) =>
    let st := (s.hdr.slot k).state
    let s1 := s.stageShow
    if st = 1 then s1.fset F.UPD_STAT_STAGE (if s1.stageFull k then 2 else 1) else if st = 2 then s1.fset F.UPD_STAT_STAGE 4 else s1

/-- A block's commit is refused, fails or is busy: BLK_RESULT. -/
def State.blkResult (s : State) (r : Nat) : State := s.fset F.UPD_STAT_BLK_RESULT r

/-- UPD_BLOCK_FAIL (R646). -/
def State.blkFail (s : State) (blk : Nat) (step : Nat) : State :=
  (s.blkResult 2).raise C.UPD_BLOCK_FAIL 255 { w0 := bytes4 blk (blk / 256) step 0 }

/-- The first block of a new tag begins the staging of slot `k` (R645). -/
def State.stageStart (s : State) (k : Nat) (tag : BitVec 16) : State :=
  let s1 := { s with nvm := { s.nvm with commits := [], stage := some (tag, k) }, upd := { s.upd with abandon := false } }
  let r : SlotRec := { s1.hdr.slot k with state := 1, tag := tag }
  ((s1.putHdr (s1.hdr.setSlot k r)).raise C.UPD_STAGE_START 255 { w0 := bytes4 tag.toNat (tag.toNat / 256) k 0 }).stageShow

/-- UPD_BLK_GO is written (R644 to R646): the block is checked and its commit begins. -/
def State.blkGo (s : State) : State :=
  let tag : BitVec 16 := BitVec.ofNat 16 (s.fget F.UPD_BLK_NUM_TAG)
  let blk := s.fget F.UPD_BLK_NUM_BLK
  let crc := s.rd R.UPD_BLK_CRC
  if s.upd.blk.isSome then s.blkResult 4
  else
    match s.targetSlot with
    | none => s.blkResult 3
    | some k =>
      let isNew := match s.nvm.stage with
        | some (t, k') => !(t == tag && k' == k)
        | none => true
      let stuck := isNew && (s.hdr.slot k).state == 1 && s.nvm.stage.isSome && !s.upd.abandon
      if stuck || 4096 ≤ blk || s.fbit F.THM_STAT_NO_NVM then s.blkResult 3
      else
        let data := s.mgets (s.rd R.UPD_BLK_ADDR).toNat 4096
        if crc32c data ≠ crc then s.blkFail blk 1
        else
          let s1 := if isNew then s.stageStart k tag else s
          let s2 := { s1 with upd := { s1.upd with blk := some { blk := BitVec.ofNat 16 blk, tag := tag, crc := crc, data := data } } }
          ((s2.blkResult 0).fset F.UPD_STAT_STAGE 1).nvcShow

/-- The block is programmed and read back (R646, R649). -/
def State.blkDone (s : State) (ok : Bool) : State :=
  match s.upd.blk, s.nvm.stage with
  | some g, some (_, k) =>
    let a := slotBase k + 4096 * g.blk.toNat
    let s0 := ({ s with upd := { s.upd with blk := none } } : State).nvcShow
    let s1 := (((s0.flErase a 4096).flPut a g.data).count 0x1E1 1).count 0x1E0 16
    if ok then
      let s2 := { s1 with nvm := { s1.nvm with commits := SMap.set (fun _ => none) s1.nvm.commits g.blk.toNat (some g.crc) } }
      let s3 := ((s2.blkResult 1).stageShow).count 0x1E4 1
      if s3.stageFull k then s3.fset F.UPD_STAT_STAGE 2 else s3
    else ((s1.flSpoil a 4096).blkFail g.blk.toNat 4).stageShow
  | _, _ => s

/-- UPD_BLOCK_COMMITTED (R646). -/
def execUpdBlockCommitted (ok : Bool) (s : State) : Host.Outcome State Fault Refusal := .next (if s.lDead then s else s.blkDone ok)

/-- ABANDON is written (R645). -/
def State.stageAbandon (s : State) : State :=
  match s.nvm.stage with
  | some (tag, k) =>
    let armed := match s.upd.armed with
      | some a => a.tag == tag
      | none => false
    if s.upd.blk.isNone && (s.hdr.slot k).state == 2 && !s.hdr.inUse k && !armed then
      let s1 := { s.slotState k 0 with nvm := { (s.slotState k 0).nvm with stage := none } }
      (s1.stageShow).fset F.UPD_STAT_STAGE 0
    else { s with upd := { s.upd with abandon := true } }
  | none => { s with upd := { s.upd with abandon := true } }

/-- Verification and bank preparation end (R649). -/
def State.stagingEnd (s : State) : State :=
  match s.nvm.stage with
  | some (tag, k) =>
    if s.fget F.UPD_STAT_STAGE ≠ 2 || s.fbit F.THM_STAT_NO_NVM then s
    else
      let f := s.imgFail k
      let s1 := s.secNote k f.isNone
      match f with
      | some why =>
        (((s1.slotState k 0).stageShow).fset F.UPD_STAT_STAGE 0).raise C.UPD_STAGE_INVALID 255 { w0 := bytes4 tag.toNat (tag.toNat / 256) why 0 }
      | none =>
        let b := s1.bankOf 0 false
        let g := ((s1.bank b).gen.getD 0) + 1
        let s2 := s1.setBank (1 - b) { gen := some g }
        let r : SlotRec := { state := 2, bank := 1 - b, tag := s2.imgTag k, version := s2.imgVer k, bankGen := g }
        ((s2.putHdr (s2.hdr.setSlot k r)).fset F.UPD_STAT_STAGE 4).raise C.UPD_STAGED 255 { w0 := halves tag.toNat 0, w1 := g }
  | none => s

/-- UPD_STAGED (R649). -/
def execUpdStaged (s : State) : Host.Outcome State Fault Refusal := .next (if s.lDead then s else s.stagingEnd)

/-! ### Activation (R650 to R658) -/

/-- The slot that holds a tag and may be activated (R651). -/
def State.actSlot (s : State) (tag : BitVec 16) : Option Nat := [0, 1].find? fun k => (s.hdr.slot k).tag == tag && s.slotLoads k

/-- Show what has become of pair `p`'s activation: 0 pending, 1 done, 2 skipped, 3 deferred. -/
def State.actShow (s : State) (p v : Nat) : State :=
  match p with
  | 0 => s.fset F.UPD_ACT_STAT_P0 v
  | 1 => s.fset F.UPD_ACT_STAT_P1 v
  | _ => s.fset F.UPD_ACT_STAT_P2 v

/-- ARM is written (R651). -/
def State.actArmUpd (s : State) : State :=
  let tag : BitVec 16 := BitVec.ofNat 16 (s.fget F.UPD_ACT_TAG_TAG)
  let at_ := tickOf (s.rd R.UPD_ACT_TIME_LO) (s.rd R.UPD_ACT_TIME_HI)
  match s.actSlot tag with
  | none => s
  | some k =>
    let ok := s.imgSigOk k
    let s0 := s.secNote k ok
    if ok && decide (s.now + msTicks 100 ≤ at_.toNat) && decide (at_.toNat ≤ s.now + msTicks 3600000) then
      let a : Armed := { tag := tag, mask := BitVec.ofNat 3 (s.fget F.UPD_ACT_TAG_MASK), at_ := at_ }
      let clear (u : UpdPair) : UpdPair := { u with ready := false, told := false, wait := false }
      let s1 := { s0 with upd := { s0.upd with armed := some a, fired := false, u0 := clear s0.upd.u0, u1 := clear s0.upd.u1, u2 := clear s0.upd.u2 } }
      (((s1.actShow 0 0).actShow 1 0).actShow 2 0).fput F.UPD_ACT_STAT_ARMED true
    else s0

/-- CANCEL is written (R651): before T nothing happens any more. -/
def State.actCancel (s : State) : State :=
  if s.upd.fired then s else ({ s with upd := { s.upd with armed := none } }).fput F.UPD_ACT_STAT_ARMED false

/-- The update interrupt goes to the pairs below `n` that the activation names (R652). -/
def State.preIrq (s : State) (a : Armed) : Nat → State
  | 0 => s
  | n + 1 =>
    let s1 := s.preIrq a n
    if a.mask.getLsbD n && !(s1.updP n).told then
      let s2 := s1.setUpdP n { s1.updP n with told := true, ready := false }
      s2.irq (if n = 0 then 0 else if n = 1 then 1 else 2) .leading 0xFE03 0 a.at_
    else s1

/-- UPD_PRE_INTERRUPT (R652). -/
def execUpdPreInterrupt (s : State) : Host.Outcome State Fault Refusal :=
  .next (match s.upd.armed with
    | some a => if decide (a.at_.toNat ≤ s.now + msTicks (s.fget F.UPD_CFG_PRE_T)) && !s.lDead then s.preIrq a 3 else s
    | none => s)

/-- UPDHO_READY (R652). -/
def execUpdhoReady (p : Fin 3) (s : State) : Host.Outcome State Fault Refusal :=
  let u := s.updP p.val
  .next (if u.told && !s.pairFrozen p.val then s.setUpdP p.val { u with ready := true } else s)

/-- P1's window in DRIVE (R653). -/
def State.p1Still (s : State) : Bool :=
  !s.inMode .drive || (s.torqueZero && fIsZero s.tmu.tApp && s.fbit F.PFB_STAT_VALID && fLt (fAbs s.rpmA) (s.rd R.UPD_P1_WMAX))

/-- Why the window of pair `p` fails at T (R653, R656). -/
def State.windowFail (s : State) (p : Nat) : Option Nat :=
  if s.triangle then some 5
  else if p = 0 && !(s.inMode .arming || s.inMode .service) then some 0
  else if p = 1 && !s.p1Still then some 1
  else if s.lksSt p ≠ 0 then some 2
  else if !(s.updP p).ready then some 3
  else if s.fbit F.THM_STAT_NO_NVM then some 4
  else none

/-- A window has failed (R656): deferred where the pair's DEFER bit asks for it, and always in Triangle mode. -/
def State.actSkip (s : State) (p why k : Nat) (tag : BitVec 16) : State :=
  let d := why == 5 || (s.fget F.UPD_CFG_DEFER).testBit p
  let s1 := if d then s.putHdr (s.hdr.setNext p (some k)) else s
  (s1.actShow p (if d then 3 else 2)).raise C.UPD_ACT_SKIPPED p { w0 := bytes4 tag.toNat (tag.toNat / 256) why (b2n d) }

/-- Pair `p` is frozen and its segments copied (R654, steps 1 and 2); its watchdogs pause (R476). -/
def State.restart (s : State) (p k : Nat) (why : RestartWhy) : State :=
  (s.setUpdP p { s.updP p with run := some { slot := k, start := s.time, why := why }, wait := false }).wdPauseSet p

/-- Evaluate pair `p` at T (R653 to R656). -/
def State.actEval (s : State) (a : Armed) (k p : Nat) : State :=
  let u := s.updP p
  if (s.hdr.slot (s.hdr.runs p)).tag = a.tag then (s.setUpdP p { u with wait := false }).actShow p 1
  else if s.lksSt p = 1 && !s.triangle then s.setUpdP p { u with wait := true }
  else
    match s.windowFail p with
    | some why => (s.setUpdP p { u with wait := false }).actSkip p why k a.tag
    | none => s.restart p k .activate

/-- Evaluate the pairs below `n`: all named ones at T, afterwards those that waited for a recovery to end. -/
def State.actEvals (s : State) (a : Armed) (k : Nat) (first : Bool) : Nat → State
  | 0 => s
  | n + 1 =>
    let s1 := s.actEvals a k first n
    if a.mask.getLsbD n && (first || (s1.updP n).wait) then s1.actEval a k n else s1

/-- Every named pair has been evaluated: the activation is no longer armed. -/
def State.actOver (s : State) : State :=
  if s.upd.u0.wait || s.upd.u1.wait || s.upd.u2.wait then s
  else ({ s with upd := { s.upd with armed := none, fired := false } }).fput F.UPD_ACT_STAT_ARMED false

/-- UPD_ACTIVATE (R653). -/
def execUpdActivate (s : State) : Host.Outcome State Fault Refusal :=
  .next (match s.upd.armed with
    | some a =>
      if decide (a.at_.toNat ≤ s.now) && !s.lDead then
        match s.actSlot a.tag with
        | some k => (({ s with upd := { s.upd with fired := true } }).actEvals a k (!s.upd.fired) 3).actOver
        | none => s.actOver
      else s
    | none => s)

/-! ### Restart, migration, revert (R654 to R663) -/

/-- The generation of the bank that slot `k` is not bound to (R662). -/
def State.oldGen (s : State) (k : Nat) : Word := (s.bank (1 - (s.hdr.slot k).bank)).gen.getD 0

/-- A slot in TRIAL that no pair runs any longer returns to STAGED (R662). -/
def State.trialIdle (s : State) (k : Nat) : State :=
  if (s.hdr.slot k).state = 3 && !s.hdr.inUse k && !([0, 1, 2].any fun p => match (s.updP p).run with
    | some r => r.slot == k
    | none => false)
  then (s.slotState k 2).fset F.UPD_STAT_STAGE 4 else s

/-- Pair `p` starts on its slot: migration runs where its MIGRATED bit is 0; P0 first takes the system and safety pods along
(R659). -/
def State.migStart (s : State) (p : Nat) : State :=
  let k := s.hdr.runs p
  let r := s.hdr.slot k
  let s1 := s.pairShow p
  if r.migrated.getLsbD p then (s1.setUpdP p { s1.updP p with mig := none }).fset (F.UPD_PAIR_STAT_MIG p) 0
  else
    let old := s1.bank (1 - r.bank)
    let take (b : Bank) (t : Byte) : Bank :=
      match old.current t with
      | some q => b.append { q with seq := b.nextSeq }
      | none => b
    let s2 := if p = 0 then s1.setBank r.bank (take (take (s1.bank r.bank) 1) 2) else s1
    (s2.setUpdP p { s2.updP p with mig := some s.time }).fset (F.UPD_PAIR_STAT_MIG p) 1

/-- The pairs below `n` that run slot `k`, or are being restarted onto it, are restarted onto their previous slots (R657, R662). -/
def State.revertPairs (s : State) (k why : Nat) : Nat → State
  | 0 => s
  | n + 1 =>
    let s1 := s.revertPairs k why n
    let onto := match (s1.updP n).run with
      | some r => r.slot == k
      | none => s1.hdr.runs n == k
    if onto then s1.restart n (1 - k) (.revert why) else s1

/-- Slot `k` is given up (R657, R662): UNBOOTABLE, its pairs reverted, UPD_REVERTED raised for pair `p`. -/
def State.giveUp (s : State) (k p why : Nat) : State :=
  let g := s.oldGen k
  let r := s.hdr.slot k
  let s1 := s.putHdr (s.hdr.setSlot k { r with state := 6, unbootGen := g })
  (s1.revertPairs k why 3).raise C.UPD_REVERTED p { w0 := bytes4 r.tag.toNat (r.tag.toNat / 256) why 0, w1 := g }

/-- Pair `p` starts on slot `k` (R654 steps 3 and 4). -/
def State.pairStarts (s : State) (p : Nat) (r : Restart) : State :=
  let old := s.hdr.runs p
  let x := s.hdr.slot r.slot
  let h1 := s.hdr.setSlot r.slot { x with state := if x.state = 2 then 3 else x.state }
  let s1 := (s.loadPair p r.slot).putHdr (h1.setRuns p r.slot)
  let s2 := s1.setUpdP p { s1.updP p with run := none, prev := old, ready := false, told := false, entry := s1.imgEntry r.slot p }
  let s3 := s2.migStart p
  let s4 := match r.why with
    | .activate => (s3.actShow p 1).fput (F.UPD_PAIR_STAT_REVERTED p) false
    | .revert _ => s3.fput (F.UPD_PAIR_STAT_REVERTED p) true
  let s5 := (s4.fset F.SEC_STAT_SLOT (putBits (w32 (s4.fget F.SEC_STAT_SLOT)) p p r.slot).toNat).trialIdle old
  s5.raise C.UPD_ACT_DONE p { w0 := halves x.tag.toNat 0, w1 := w32 ((s.time - r.start) / usTicks 1) }

/-- The copy of pair `p`'s segments has ended (R654, R657). -/
def State.actCopied (s : State) (p : Nat) : State :=
  match (s.updP p).run with
  | none => s
  | some r =>
    let good := ((s.segs r.slot).filter fun g => g.owner == p).all fun g => s.segOk r.slot g
    if good then s.pairStarts p r
    else
      s.giveUp r.slot p 2

/-- UPD_ACT_DONE (R654). -/
def execUpdActDone (p : Fin 3) (s : State) : Host.Outcome State Fault Refusal := .next (if s.lDead then s else s.actCopied p.val)

/-- UPDHO_MIG_DONE (R661). -/
def State.migDone (s : State) (p : Nat) : State :=
  if (s.updP p).mig.isNone || s.pairFrozen p || s.restarting p then s
  else
    let k := s.hdr.runs p
    let r := s.hdr.slot k
    let s1 := s.putHdr (s.hdr.setSlot k { r with migrated := r.migrated ||| BitVec.ofNat 3 (2 ^ p) })
    ((s1.setUpdP p { s1.updP p with mig := none }).fset (F.UPD_PAIR_STAT_MIG p) 0).raise C.UPD_MIG_DONE p { w0 := halves r.tag.toNat 0 }

/-- UPDHO_MIG_DONE (R661). -/
def execUpdhoMigDone (p : Fin 3) (s : State) : Host.Outcome State Fault Refusal := .next (s.migDone p.val)

/-- A migration has failed (R662). -/
def State.migFail (s : State) (p : Nat) : State :=
  if (s.updP p).mig.isNone || s.restarting p then s
  else ((s.setUpdP p { s.updP p with mig := none }).fset (F.UPD_PAIR_STAT_MIG p) 0).giveUp (s.hdr.runs p) p 0

/-- UPDHO_MIG_FAIL (R662). -/
def execUpdhoMigFail (p : Fin 3) (s : State) : Host.Outcome State Fault Refusal := .next (if s.pairFrozen p.val then s else s.migFail p.val)

/-- UPD_MIG_TIMEOUT (R661). -/
def execUpdMigTimeout (p : Fin 3) (s : State) : Host.Outcome State Fault Refusal :=
  .next (if s.lasted (s.updP p.val).mig (msTicks (100 * s.fget F.UPD_CFG_MIG_TMO)) then s.migFail p.val else s)

/-! ### Confirmation (R664) -/

/-- All three pairs run one TRIAL slot with every migration done. -/
def State.confReady (s : State) : Option Nat :=
  let h := s.hdr
  let k := h.runs 0
  if h.runs 1 = k && h.runs 2 = k && (h.slot k).migrated == 7 && (h.slot k).state == 3 && !([0, 1, 2].any s.restarting) then some k else none

/-- Confirm slot `k`: `time` where by time. -/
def State.confirm (s : State) (k : Nat) (time : Bool) : State :=
  let h := s.hdr
  let r := h.slot k
  let h1 := (h.setSlot k { r with state := 4 }).setSlot (1 - k) { h.slot (1 - k) with state := 5 }
  let s1 := (s.putHdr h1).setBank (1 - r.bank) { s.bank (1 - r.bank) with gen := none }
  let s2 := { s1 with upd := { s1.upd with confSince := none }, nvm := { s1.nvm with stage := none } }
  ((s2.stageShow.fset F.UPD_STAT_STAGE 0).fset F.UPD_STAT_CONF_RESULT 1).raise C.UPD_CONFIRMED 255 { w0 := bytes4 r.tag.toNat (r.tag.toNat / 256) (b2n time) 0 }

/-- CONFIRM is written with a tag (R664). -/
def State.confirmCmd (s : State) (tag : Nat) : State :=
  match s.confReady with
  | some k => if (s.hdr.slot k).tag.toNat = tag then s.confirm k false else s.fset F.UPD_STAT_CONF_RESULT 2
  | none => s.fset F.UPD_STAT_CONF_RESULT 2

/-- The conditions of a confirmation by time hold now. -/
def State.confSteady (s : State) : Bool :=
  s.confReady.isSome && !([0, 1, 2].any fun p => s.untrusted p || (s.wdog .smonA p).fail || (s.wdog .smonB p).fail)

/-- Keep the time since which they hold. -/
def State.confWatch (s : State) : State :=
  { s with upd := { s.upd with confSince := sinceIf s.upd.confSince s.confSteady s.time } }

/-- UPD_CONFIRM_TIMEOUT (R664). -/
def execUpdConfirmTimeout (s : State) : Host.Outcome State Fault Refusal :=
  .next (match s.confReady with
    | some k =>
      if s.confSteady && s.lasted s.upd.confSince (msTicks (1000 * s.fget F.UPD_CFG_CONF_T)) && !s.fbit F.THM_STAT_NO_NVM then s.confirm k true else s
    | none => s)

end Sys2Proof.Machine
end

