-- ==== Sys2Proof/Machine/Resets.lean ====
section
/-! DEFINITION. The resets of R116, what each keeps (R29, R30, R676, R714, R715), waking (R101 to R105), and DORMANT's end. -/

namespace Sys2Proof.Machine

/-- The resets of R116, in the order of SYS_RESET_CAUSE (R118). -/
inductive ResetKind where
  | powerOn | pin | software | debug | fatal | wake
deriving DecidableEq, Repr

/-- The code of a reset in SYS_RESET_CAUSE. -/
def ResetKind.num : ResetKind → Nat
  | .powerOn => 0
  | .pin => 1
  | .software => 2
  | .debug => 3
  | .fatal => 4
  | .wake => 5

/-- A register held in fuses: the seal slots, the key hashes and their revocation. -/
def fuseReg (a : Nat) : Bool :=
  (decide (R.SMA_SEAL_SLOT_LO 0 ≤ a) && decide (a ≤ R.SMA_SEAL_SLOT_HI 3)) || a == R.SEC_REVOKE ||
    (decide (R.SEC_KEYHASH 0 0 ≤ a) && decide (a ≤ R.SEC_KEYHASH 1 7))

/-- A register of the D-die (R20). -/
def dDieReg (a : Nat) : Bool :=
  match RegMap.find a with
  | some r => r.dDie
  | none => false

/-- A register of the always-on domain (R29). -/
def alwaysOn (a : Nat) : Bool :=
  a == R.SYS_WAKE_EN || a == R.SYS_WAKE_SRC || a == R.SYS_RESET_CAUSE || a == R.SYS_SLEEP_CFG || a == R.SYS_TEST_QUEUE ||
    a == R.CLV_ALARM_LO || a == R.CLV_ALARM_HI || a == R.CLV_ALARM_CTRL || a == R.JRN_NEXT_SEQ

/-- A register of the Gong snapshot (R676). -/
def gongReg (a : Nat) : Bool := decide (R.PMC_GNG_CAUSE_LO ≤ a) && decide (a ≤ R.PMC_GNG_STAT)

/-- What a reset other than power-on keeps of the registers; `cold`: the L-die was without its rails (R30, R676, R714). The D-die's run on
(R116) but are not kept through DORMANT (R30). DEDUCED: log entry 127. -/
def keptReg (cold wake : Bool) (a : Nat) : Bool :=
  fuseReg a || alwaysOn a || (!wake && (gongReg a || dDieReg a)) || (!cold && a == R.JRN_STATUS)

/-- What it keeps of memory: the retained SRAM, and with the rails up the pinned area and the 12 MiB SRAM (R29, R714, R715). -/
def keptMem (cold : Bool) (a : Nat) : Bool :=
  (decide (0x10C00000 ≤ a) && decide (a < 0x10C40000)) ||
    (!cold && (decide (a < 0x10C00000) || (decide (0x10D20000 ≤ a) && decide (a < 0x10D22000))))

/-- SMON-B through a reset of the L-die: it runs on, or resumes at a wake with code 1 until its first selection (R105, R116). -/
def smonBKept (s : State) (wake : Bool) : Smon :=
  let b := { s.safe.b with oo := .notDone, sealRes := 0, sealDet := 0, strapCnt := 0 }
  if wake then { b with started := false, startAt := s.time, code := 1 } else b

/-- The flash as a reset or a loss of power leaves it: an operation in flight ends where it is (R625, R629). -/
def State.flashCut (s : State) : State :=
  let s1 := match s.upd.blk, s.nvm.stage with
    | some g, some (_, k) => s.flSpoil (slotBase k + 4096 * g.blk.toNat) 4096
    | _, _ => s
  let s2 := ((s1.opCut 0).opCut 1).opCut 2
  { s2 with nvm := { s2.nvm with op0 := none, op1 := none, op2 := none } }

/-- The state after an L-die reset, before anything the reset itself reports. -/
def State.lCleared (s : State) (k : ResetKind) (hard : Bool) : State :=
  let wake := k == .wake
  let cold := wake || hard
  { tmu := { sysA := { cal := some 0 }, sysB := { cal := some 0 } }
    clave := s.clave
    time := s.time
    regs := s.regs.filter fun p => keptReg cold wake p.1
    mem := s.mem.filter fun p => keptMem cold p.1
    free := s.flashCut.free
    pending := s.pending
    clocks := { xtal32 := s.clocks.xtal32 }
    clv := {
      alarm := s.clv.alarm
      alarmArmed := s.clv.alarmArmed
      frac := s.clv.frac
      resume := wake || s.clv.resume
      sinceEdge := s.clv.sinceEdge }
    jrn := {
      waiting := if s.jrn.startDue || wake then s.jrn.waiting else s.jrn.waiting.filter fun r => r.receipt
      lastStamp := s.jrn.lastStamp
      pins := if cold then [] else s.jrn.pins
      wakeClave := if wake then s.clave else 0 }
    seq := {
      mode := s.seq.mode
      sub := s.seq.sub
      safeLatch := s.seq.safeLatch || k == .fatal
      since := s.time
      sleepStart := s.time }
    hif := { hostAt := s.time }
    pwm := { abc := s.pwm.abc, abcWant := s.pwm.abcWant }
    safe := {
      a := { startAt := s.time }
      b := smonBKept s wake
      sideB0 := s.safe.sideB0
      sideB1 := s.safe.sideB1
      cut := s.safe.cut
      cutReset := s.safe.cutReset
      bOff := s.safe.bOff }
    thm := { cut := s.thm.cut, out := s.thm.out }
    nvm := s.flashCut.nvm
    gong := { win := if wake then [] else s.gong.win }
    jtag := { out := s.jtag.out } }

/-- An L-die reset (R102, R116, R118, R469, R714): `hard`: its rails left their windows. -/
def State.lReset (s : State) (k : ResetKind) (hard : Bool) : State :=
  let s1 := s.lCleared k hard
  let s2 := (s1.wr R.JRN_OLDEST_SEQ (s1.rd R.JRN_NEXT_SEQ)).wr R.SYS_RESET_CAUSE (w32 k.num)
  let s3 := s2.fset F.JRN_STATUS_OVERRUN 0
  let s4 := if k = .wake then s3 else s3.fset F.SYS_WAKE_SRC_FIRST 0
  let s5 := (((s4.wr (R.SMB_WD_CHAL 0) 0).wr (R.SMB_WD_CHAL 1) 0).wr (R.SMB_WD_CHAL 2) 0)
  let s6 := ((s5.wr (R.SMB_WD_STAT 0) 0).wr (R.SMB_WD_STAT 1) 0).wr (R.SMB_WD_STAT 2) 0
  let s7 := (if s.clocks.xtal32 then s6.fput F.CLV_STATUS_XTAL32_FB true else s6).setMode .arming .full 0
  ((s7.supplyCut none).showA).reselect .smonB

/-- The L-die without its rails: nothing of it runs, and of its registers and memories the always-on domain is left (R30, R292). The outputs of
both codes float, which the board's bias makes code 1 (R697, R698). -/
def State.lUnpowered (s : State) : State :=
  let c := s.lCleared .wake true
  let c1 := if s.fbit F.CLV_STATUS_XTAL32_FB then c.fput F.CLV_STATUS_XTAL32_FB true else c
  { c1 with
    clv := s.clv
    seq := { s.seq with entry := .off }
    safe := { s.safe with a := { s.safe.a with code := 1 }, b := { s.safe.b with code := 1 } }
    gong := s.gong
    jrn := { s.jrn with waiting := [], overrun := [] } }

/-- The rails are removed once the LV converter has stopped, its ramp ended within 2 ms (R104). -/
def State.railsOff (s : State) : State :=
  if s.seq.entry = .lvcRamp && (s.lvcSt != 4 || s.past s.lvc.t0 (msTicks 2)) then
    let s1 := if s.lvcOn then s.lvcHalt 0 s.lvc.cause 0 else s
    (s1.allFollow 12).lUnpowered
  else s

/-- DORMANT_RAILS_OFF (R104). -/
def execDormantRailsOff (s : State) : Host.Outcome State Fault Refusal := .next s.railsOff

/-- What the boot ROM finds of the flash (R622). -/
def State.flashFound (s : State) (f : FlashBoot) : State :=
  let s1 := (s.fset F.NVC_STAT_SIZE f.size.toNat).wr R.NVC_LOG_HEAD (w32 (0x03400000 + s.nvm.logHead))
  match f.slow with
  | none => s1
  | some sw => (s1.fput F.NVC_STAT_SLOW true).raise C.NVC_SFDP_FALLBACK 255 { w0 := bytes4 (b2n sw) 0 0 0 }

/-- A reset that ends at once: the L-die starts again (R116, R469, R622). -/
def State.lPulse (s : State) (k : ResetKind) (hard : Bool) (f : FlashBoot) : State := ((s.lReset k hard).cutAfterReset).flashFound f

/-- The D-die holds the L-die in reset (R546, R550). -/
def State.lHold (s : State) (h : Hold) : State :=
  let s1 := s.lReset .pin true
  { s1 with seq := { s1.seq with held := h } }

/-- The D-die releases it as a pin reset (R547, R550). -/
def State.lRelease (s : State) (f : FlashBoot) : State := s.lPulse .pin true f

/-- POWER_ON_RESET (R37, R68, R116): only the flash and the fuses keep what they hold. -/
def execPowerOnReset (f : FlashBoot) (s : State) : Host.Outcome State Fault Refusal :=
  .next (({ State.reset with
    regs := s.regs.filter fun p => fuseReg p.1
    free := s.flashCut.free
    pending := s.pending
    nvm := s.flashCut.nvm }).flashFound f)

/-- PIN_RESET (R116); while the L-die has no rails it changes nothing. -/
def execPinReset (f : FlashBoot) (s : State) : Host.Outcome State Fault Refusal := .next (if s.lDead then s else s.lPulse .pin false f)

/-- FATAL_RESET (R679): 5 ms after the FATAL stamp. -/
def execFatalReset (f : FlashBoot) (s : State) : Host.Outcome State Fault Refusal :=
  .next (match s.gong.fatalAt with
    | some t => if s.past t (msTicks 5) && !s.lDead then s.lPulse .fatal false f else s
    | none => s)

/-! ### Waking (R101 to R103, R617) -/

/-- The bit of a wake source. -/
def wakeBit : WakeSrc → Nat
  | .can => 0
  | .olk => 1
  | .pilot => 2
  | .enable => 3
  | .alarm => 4

/-- The source is enabled (R45, R101). -/
def State.wakeEnabled (s : State) (w : WakeSrc) : Bool :=
  s.rbit R.SYS_WAKE_EN (wakeBit w) && (w != .alarm || s.fbit F.CLV_ALARM_CTRL_WAKE)

/-- Record a source: every one in SEEN, the first in FIRST too (R102). -/
def State.wakeSeen (s : State) (w : WakeSrc) (first : Bool) : State :=
  let s1 := s.rput R.SYS_WAKE_SRC (8 + wakeBit w) true
  if first then s1.fset F.SYS_WAKE_SRC_FIRST (wakeBit w + 1) else s1

/-- The wake begins (R44, R116); woken over OmterLink, the device sends the pattern on (R617). -/
def State.wakeUp (s : State) (f : FlashBoot) : State :=
  let s1 := s.lPulse .wake false f
  let s2 := { s1 with seq := { s1.seq with waking := true } }
  if s2.fget F.SYS_WAKE_SRC_FIRST = 2 && s2.fbit F.OLK_CFG_WAKE_FWD then { s2 with olk := { s2.olk with wakeUntil := s.time + usTicks 50 } } else s2

/-- A wake source fires (R101 to R103); one that SYS_WAKE_EN does not enable is not seen. DESIGN CHOICE: log entry 123. -/
def State.wakeBy (s : State) (w : WakeSrc) (f : FlashBoot) : State :=
  if !s.wakeEnabled w then s
  else if s.inMode .dormant then
    if s.seq.entry = .off then (s.wakeSeen w true).wakeUp f
    else
      let s1 := s.wakeSeen w (!s.seq.wakeDue)
      { s1 with seq := { s1.seq with wakeDue := true } }
  else if s.seq.waking then s.wakeSeen w false
  else s

/-- The count has reached the armed alarm: FIRED, and the wake it starts in DORMANT (R45). -/
def State.alarmFire (s : State) (f : FlashBoot) : State :=
  if s.fbit F.CLV_ALARM_CTRL_EN && s.clv.alarmArmed && decide (s.clv.alarm.toNat ≤ s.now) then
    (({ s with clv.alarmArmed := false }).fput F.CLV_ALARM_CTRL_FIRED true).wakeBy .alarm f
  else s

/-- What a boot ROM finds in the flash, left open: a free value (R622). -/
def State.freeBoot (s : State) : FlashBoot × State :=
  let f := s.fresh
  ({ size := f.1.setWidth 16, slow := if f.1.getLsbD 16 then some (f.1.getLsbD 17) else none }, f.2)

/-- CLV_ALARM_FIRE (R45). -/
def execClvAlarmFire (s : State) : Host.Outcome State Fault Refusal := .next (s.freeBoot.2.alarmFire s.freeBoot.1)

/-- WAKE_EVENT (R101 to R103); the alarm wakes as it fires (R45). -/
def State.wakeEvent (s : State) (w : WakeSrc) (f : FlashBoot) : State := if w = .alarm then s.alarmFire f else s.wakeBy w f

/-- WAKE_EVENT (R101). -/
def execWakeEvent (src : WakeSrc) (f : FlashBoot) (s : State) : Host.Outcome State Fault Refusal := .next (s.wakeEvent src f)

/-- WAKE_AFTER_ENTRY (R103): a source fired during the entry. -/
def execWakeAfterEntry (f : FlashBoot) (s : State) : Host.Outcome State Fault Refusal :=
  .next (if s.seq.entry = .off && s.inMode .dormant && s.seq.wakeDue then s.wakeUp f else s)

end Sys2Proof.Machine
end

