-- ==== Sys2Proof/Machine/Boot.lean ====
section
/-! DEFINITION. The boot steps (R106, R109, R635, R640 to R643, R680, R715): BIST, image load, pods, seal check, start of firmware. -/

namespace Sys2Proof.Machine

/-- The boot step the device waits in. -/
def State.setBoot (s : State) (b : Boot) : State := { s with seq := { s.seq with boot := b } }

/-- The L-die runs and waits for the given boot step. -/
def State.bootAt (s : State) (b : Boot) : Bool := s.seq.boot == b && !s.lDead

/-- Logic BIST has ended (R106, R109, R114). -/
def State.logicBist (s : State) (fail : Option (Fin 3 × Word)) : State :=
  let s1 := match fail with
    | none => s.rput R.SYS_ARM_STAT 0 true
    | some (p, chain) => (s.rput R.SYS_ARM_STAT 8 true).raise C.SELFTEST_FAIL 0 { w0 := bytes4 1 p.val 0 0, w1 := chain }
  let full := (s.fget F.SYS_TEST_QUEUE_Q).testBit 2 || s.nvm.memBist
  (s1.testDone 1 fail.isNone).setBoot (if full then .memoryBist else .imageLoad)

/-- LOGIC_BIST_DONE (R106). -/
def execLogicBistDone (fail : Option (Fin 3 × Word)) (s : State) : Host.Outcome State Fault Refusal :=
  .next (if s.bootAt .logicBist then s.logicBist fail else s)

/-- Full memory BIST has ended (R106, R109, R114, R715): every word of SRAM is 0. -/
def State.memoryBist (s : State) (fail : Option (BitVec 8 × Word)) : State :=
  let s0 := { s with mem := s.mem.filter fun p => decide (0x10C00000 ≤ p.1) }
  let s1 := match fail with
    | none => s0
    | some (r, a) => (s0.rput R.SYS_ARM_STAT 8 true).raise C.SELFTEST_FAIL 0 { w0 := bytes4 2 r.toNat 0 0, w1 := a }
  (s1.testDone 2 fail.isNone).setBoot .imageLoad

/-- MEMORY_BIST_DONE (R106). -/
def execMemoryBistDone (fail : Option (BitVec 8 × Word)) (s : State) : Host.Outcome State Fault Refusal :=
  .next (if s.bootAt .memoryBist then s.memoryBist fail else s)

/-! ### Image load (R640 to R642) -/

/-- Give up a TRIAL slot after its third FATAL reset (R641): its pairs below `n` return to the other slot. -/
def State.triesRevert (s : State) (k : Nat) : Nat → State
  | 0 => s
  | n + 1 =>
    let s1 := s.triesRevert k n
    if s1.hdr.runs n = k then (s1.putHdr (s1.hdr.setRuns n (1 - k))).fput (F.UPD_PAIR_STAT_REVERTED n) true else s1

/-- Count a FATAL reset of slot `k` (R641). -/
def State.triesCount (s : State) (k : Nat) : State :=
  let r := s.hdr.slot k
  if r.state ≠ 3 || !s.hdr.inUse k then s
  else if r.tries + 1 < 3 then s.putHdr (s.hdr.setSlot k { r with tries := r.tries + 1 })
  else
    let g := s.oldGen k
    let p := if s.hdr.runs 0 = k then 0 else if s.hdr.runs 1 = k then 1 else 2
    let s1 := s.putHdr (s.hdr.setSlot k { r with tries := r.tries + 1, state := 6, unbootGen := g })
    (s1.triesRevert k 3).raise C.UPD_REVERTED p { w0 := bytes4 r.tag.toNat (r.tag.toNat / 256) 1 0, w1 := g }

/-- A pair's slot fails: it is marked UNBOOTABLE and reported once (R642). -/
def State.slotBad (s : State) (k why : Nat) : State :=
  let r := s.hdr.slot k
  if s.nvm.header.isNone || r.state = 6 then s
  else
    (s.putHdr (s.hdr.setSlot k { r with state := 6, unbootGen := r.bankGen })).raise C.BOOT_SLOT_INVALID k
      { w0 := bytes4 why 0 0 0, w1 := halves r.tag.toNat 0 }

/-- Verify slot `k` for pair `p` (R638, R640); the security block notes an image it has verified. -/
def State.bootTry (s : State) (p k : Nat) : State × Option Nat :=
  let f := s.slotFail p k
  (if f = some 4 then s else s.secNote k f.isNone, f)

/-- The slot pair `p` loads (R640, R642): its own, else the other where that one may be loaded. -/
def State.bootPick (s : State) (p : Nat) : State × Option Nat :=
  let want := (s.hdr.next p).getD (s.hdr.runs p)
  let a := s.bootTry p want
  match a.2 with
  | none => (a.1, some want)
  | some why =>
    let b := (a.1.slotBad want why).bootTry p (1 - want)
    match b.2 with
    | none => (b.1, some (1 - want))
    | some 4 => (b.1, none)
    | some w2 => (b.1.slotBad (1 - want) w2, none)

/-- The header after pair `p` has been loaded from slot `k` (R640). -/
def BootHeader.booted (h : BootHeader) (p k : Nat) : BootHeader :=
  let r := h.slot k
  ((h.setSlot k { r with state := if r.state = 2 then 3 else r.state }).setRuns p k).setNext p none

/-- Load the pairs from their slots (R640); false where one has none. -/
def State.bootLoad (s : State) : State × Bool :=
  let a := s.bootPick 0
  let b := a.1.bootPick 1
  let c := b.1.bootPick 2
  match a.2, b.2, c.2 with
  | some k0, some k1, some k2 =>
    let s1 := ((c.1.loadPair 0 k0).loadPair 1 k1).loadPair 2 k2
    let s2 := s1.putHdr (((s1.hdr.booted 0 k0).booted 1 k1).booted 2 k2)
    (s2.fset F.SEC_STAT_SLOT (k0 + 2 * k1 + 4 * k2), true)
  | _, _, _ => (c.1, false)

/-- The images are loaded, or there is none (R640 to R642, R647). -/
def State.imageLoad (s : State) : State :=
  let s1 := if s.rd R.SYS_RESET_CAUSE = 4 then (s.triesCount 0).triesCount 1 else s
  let s2 := if s1.keysOpen then s1.raise C.SEC_KEY_OPEN 255 {} else s1
  let r := s2.bootLoad
  if r.2 then
    ((r.1.rput R.SYS_ARM_STAT 1 true).pairsShow.stageBoot).setBoot .podRead
  else ((r.1.rput R.SYS_ARM_STAT 9 true).raise C.BOOT_NO_IMAGE 255 {}).setBoot .noImage

/-- IMAGE_LOAD_DONE (R640). -/
def execImageLoadDone (s : State) : Host.Outcome State Fault Refusal := .next (if s.bootAt .imageLoad then s.imageLoad else s)

/-! ### Pods and seal (R483, R643) -/

/-- The pods have been read from the bank bound to P0's slot (R643): a pod that is not there is missing, and the seal's CRC is that of the
safety pod's payload (R631). -/
def State.podRead (s : State) (sys0 : Option SystemPod) (safety0 : Option SafetyPod) (fmt : Byte) : State :=
  let b := s.bank (s.bankOf 0 false)
  let sys := if (b.current 1).isSome then sys0 else none
  let safety := match b.current 2, safety0 with
    | some q, some z => some { z with crc := crc32c q.payload }
    | _, _ => none
  let type : Byte := if sys.isNone then 1 else 2
  let s1 := match sys with
    | some p => { s.loadRws p.loads with nvm := { (s.loadRws p.loads).nvm with memBist := p.memBist } }
    | none => s
  let s2 := { s1 with safe := { s1.safe with podA := safety } }
  let s3 := if sys.isSome && safety.isSome then s2.rput R.SYS_ARM_STAT 2 true
    else (s2.rput R.SYS_ARM_STAT 10 true).raise C.BOOT_POD_FAIL 255 { w0 := bytes4 type.toNat (((b.current type).map (·.fmt)).getD fmt).toNat 0 0 }
  s3.setBoot .sealCheck

/-- POD_READ_DONE (R643). -/
def execPodReadDone (sys : Option SystemPod) (safety : Option SafetyPod) (fmt : Byte) (s : State) : Host.Outcome State Fault Refusal :=
  .next (if s.bootAt .podRead then s.podRead sys safety fmt else s)

/-- The seal check of an ARMING that runs no boot steps (R483, R484). -/
def State.sealCheckAgain (s : State) : State :=
  let s1 := (s.reportUnsealed.sealNote .smonA).sealNote .smonB
  let ok := s1.safe.a.sealRes == 1 && s1.safe.b.sealRes == 1
  ((s1.rput R.SYS_ARM_STAT 3 ok).rput R.SYS_ARM_STAT 11 (!ok)).bothSelect

/-- SEAL_CHECK (R483). -/
def execSealCheck (s : State) : Host.Outcome State Fault Refusal :=
  .next (if s.bootAt .sealCheck then s.sealCheck.setBoot .firmware
    else if s.bootAt .running && s.inMode .arming && !s.seq.bootArming && !s.seq.stepsDone then s.sealCheckAgain
    else s)

/-! ### Start of firmware (R106, R547, R635, R680, R720) -/

/-- Base of the retained Gong record (R675). -/
def gongBase : Nat := 0x10C00000

/-- The magic of a Gong record (R678). -/
def gongMagic : Word := 0x60C690D5

/-- The retained record passes its magic and its CRC (R680). -/
def State.gongValid (s : State) : Bool :=
  let n := (s.mword (gongBase + 4)).toNat
  s.mword gongBase == gongMagic && decide (256 ≤ n) && decide (n ≤ 0x30000) &&
    crc32c (s.mgets gongBase 252 ++ s.mgets (gongBase + 256) (n - 256)) == s.mword (gongBase + 252)

/-- Words `i` up of the snapshot window. -/
def State.winBytes (s : State) (i : Nat) : Nat → List Byte
  | 0 => []
  | n + 1 => wordBytes (SMap.get (fun _ => 0) s.gong.win i) ++ s.winBytes (i + 1) n

/-- The tag that pair `p` runs. -/
def State.tagOf (s : State) (p : Nat) : BitVec 16 := (s.hdr.slot (s.hdr.runs p)).tag

/-- The record the boot ROM builds from the snapshots (R680): they end at 0x5600 of the layout of R678. -/
def State.gongBuilt (s : State) : List Byte :=
  let code := s.fget F.PMC_GNG_CODE_CODE
  let h := wordBytes gongMagic ++ wordBytes 0x5600 ++ wordBytes (s.rd R.PMC_GNG_CAUSE_LO) ++ wordBytes (s.rd R.PMC_GNG_CAUSE_HI) ++
    wordBytes (s.rd R.PMC_GNG_SEQ) ++ wordBytes (bytes4 code (code / 256) (s.fget F.PMC_GNG_CODE_INST) 0xFF) ++ wordBytes 1 ++
    wordBytes (halves (s.fget F.PMC_GNG_STAT_EXTRA) (s.tagOf 0).toNat) ++ wordBytes (halves (s.tagOf 1).toNat (s.tagOf 2).toNat) ++
    List.replicate 216 0
  let body := s.winBytes 0 0x1540
  h ++ wordBytes (crc32c (h ++ body)) ++ body

/-- The snapshot registers are cleared (R676). -/
def State.gongClear (s : State) : State :=
  let s1 := (((s.wr R.PMC_GNG_CAUSE_LO 0).wr R.PMC_GNG_CAUSE_HI 0).wr R.PMC_GNG_SEQ 0).wr R.PMC_GNG_CODE 0
  { s1.wr R.PMC_GNG_STAT 0 with gong := {} }

/-- After a FATAL reset the Gong record goes to the ring log (R635, R680). -/
def State.gongCopy (s : State) : State :=
  let ok := s.gongValid
  let data := if ok then s.mgets gongBase (s.mword (gongBase + 4)).toNat else s.gongBuilt
  let s1 := if ok then s else s.raise C.GNG_ROM_BUILT 255 { w0 := s.rd R.PMC_GNG_SEQ, w1 := halves (s.fget F.PMC_GNG_CODE_CODE) 0 }
  let at_ := 0x03400000 + s.nvm.logHead
  (((s1.logAppend 1 data).mputWord gongBase 0).raise C.NVC_LOG_COPIED 255 { w1 := w32 at_ }).gongClear

/-- Both cores of pair `p` start at its entry address (R637), migration running where it is due (R659). -/
def State.pairEnter (s : State) (p : Nat) : State :=
  (s.setUpdP p { s.updP p with entry := s.imgEntry (s.hdr.runs p) p }).migStart p

/-- The boot ROM starts firmware on the pairs, the firewall locked (R106, R547, R659, R720; spec/01); the in-mode steps of ARMING begin, with a
queued brake-chopper test (R107). -/
def State.firmwareStart (s : State) : State :=
  let s0 := s.fput F.SYS_FW_CTRL_LOCK true
  let s1 := if s0.rd R.SYS_RESET_CAUSE = 4 then s0.gongCopy else s0
  let s2 := match s1.thm.cut with
    | some (die, sensor) => ({ s1 with thm := { s1.thm with cut := none } }).raise C.THM_HARD_CUT 255 { w0 := bytes4 die sensor 0 0 }
    | none => s1
  (((((s2.watchStart).pairEnter 0).pairEnter 1).pairEnter 2).setBoot .running).queuedTest

/-- FIRMWARE_START (R106). -/
def execFirmwareStart (s : State) : Host.Outcome State Fault Refusal := .next (if s.bootAt .firmware then s.firmwareStart else s)

end Sys2Proof.Machine
end

