-- ==== Sys2Proof/Machine/Thm.lean ====
section
/-! DEFINITION. The thermal manager (R531 to R547) and the supply monitors (R548 to R551). -/

namespace Sys2Proof.Machine

/-! ### Sensors (R531 to R533, R541 to R543) -/

/-- A sensor's parts beyond its registers. -/
def State.sens (s : State) (i : Nat) : ThmSens := SMap.get (fun _ => {}) s.thm.sens i

/-- Store them. -/
def State.setSens (s : State) (i : Nat) (v : ThmSens) : State := { s with thm := { s.thm with sens := SMap.set (fun _ => {}) s.thm.sens i v } }

/-- The zone of an enabled sensor (R531). -/
def State.sensZone (s : State) (i : Nat) : Option Nat :=
  if i < 16 then (if s.fbit (F.THM_SENS_CFG_EN i) then some (s.fget (F.THM_SENS_CFG_ZONE i)) else none)
  else if i < 22 then some 14 else some 15

/-- Sensor `i` is broken. -/
def State.broken (s : State) (i : Nat) : Bool := s.rbit R.THM_SENS_BROKEN i

/-- The temperature of a ratio (R532): point k of the table is ratio k/31. -/
def State.lutTemp (s : State) (type ratio : Nat) : F32 :=
  let p := 31 * ratio
  let a := s.rd (R.THM_LUT type (p / 4096))
  let b := s.rd (R.THM_LUT type (p / 4096 + 1))
  fAdd a (fMul (fSub b a) (fOfRatio (p % 4096) 4096))

/-- A reading joins its 10 ms window; a window that ends gives its mean, and true where it differs from the one before by more
than 0.5 K (R541). -/
def ThmSens.window (x : ThmSens) (w : Nat) (t : F32) : ThmSens × Bool :=
  if x.cnt = 0 then ({ x with win := w, sum := t, cnt := 1, prev := none }, false)
  else if x.win = w then ({ x with sum := fAdd x.sum t, cnt := x.cnt + 1 }, false)
  else
    let mean := fDiv x.sum (fOfNat x.cnt)
    let fast := match x.prev with
      | some p => fLt fHalf (fAbs (fSub mean p))
      | none => false
    ({ x with win := w, sum := t, cnt := 1, prev := if w = x.win + 1 then some mean else none }, fast)

/-- One sensor of zone `z` is sampled (R532, R541, R542). -/
def State.sensSample (s : State) (z : Nat) (r : SensRead) : State :=
  let i := r.sensor.val
  let ratio := r.ratio.toNat
  let type := s.fget (F.THM_SENS_CFG_TYPE i)
  let t := if i < 16 then s.lutTemp type ratio else r.temp
  let off := decide (i < 16) && (decide (ratio < s.fget (F.THM_LUT_LIM_RMIN type)) || decide (s.fget (F.THM_LUT_LIM_RMAX type) < ratio))
  let w := (s.sens i).window (s.time / msTicks 10) t
  let out := if off then (if (s.sens i).out = 0 then 1 else 2) else 0
  let bad := out == 2 || w.2
  let x : ThmSens := { w.1 with raw := t, out := out, good := if bad then 0 else if w.1.good < 10 then w.1.good + 1 else 10 }
  let s1 := s.setSens i x
  let s2 := if bad && !s.broken i then
      ((s1.rput R.THM_SENS_BROKEN i true).raise C.THM_SENSOR_BROKEN i { w0 := bytes4 (if out = 2 then 0 else 1) 0 0 0, w1 := w32 ratio }).count 0x171 1
    else s1
  (s2.wr (R.THM_SENS_T i) (if s2.broken i then fAdd (s.rd (R.THM_ZONE_TRIP z)) fOne else t)).count 0x170 1

/-- The readings of a sample that belong to zone `z`. -/
def State.sensSamples (s : State) (z : Nat) : List SensRead → State
  | [] => s
  | r :: t => if s.sensZone r.sensor.val = some z then (s.sensSample z r).sensSamples z t else s.sensSamples z t

/-- THM_SENS_BROKEN is written (R543): a bit clears where the last 10 samples were good, unless hardware sets it in the same cycle (R10). -/
def State.brokenClear (s : State) (v hw : Word) : Nat → State
  | 0 => s
  | n + 1 =>
    let s1 := s.brokenClear v hw n
    if hw.getLsbD n then s1.rput R.THM_SENS_BROKEN n true
    else if v.getLsbD n && (s1.sens n).good == 10 then s1.rput R.THM_SENS_BROKEN n false else s1

/-! ### Zones (R533 to R539, R544, R545) -/

/-- A zone's parts beyond its registers. -/
def State.zone (s : State) (z : Nat) : ThmZone := SMap.get (fun _ => {}) s.thm.zones z

/-- Store them. -/
def State.setZone (s : State) (z : Nat) (v : ThmZone) : State := { s with thm := { s.thm with zones := SMap.set (fun _ => {}) s.thm.zones z v } }

/-- The enabled sensors of a zone. -/
def State.zoneSens (s : State) (z : Nat) : List Nat := (List.range 24).filter fun i => s.sensZone i == some z

/-- The hottest of a list of sensors and its reading. -/
def State.hottest (s : State) : List Nat → Nat × F32 → Nat × F32
  | [], x => x
  | i :: t, x => if fLt x.2 (s.rd (R.THM_SENS_T i)) then s.hottest t (i, s.rd (R.THM_SENS_T i)) else s.hottest t x

/-- The sampling period of a band (R534). -/
def bandTicks (b : Nat) : Nat := if b = 0 then msTicks 10 else if b = 1 then msTicks 1 else usTicks 100

/-- The band of a distance to the derate start (R534). -/
def State.bandOf (s : State) (d : F32) : Nat :=
  if fLt (fOfNat (s.fget F.THM_BAND_B1)) d then 0 else if fLt (fOfNat (s.fget F.THM_BAND_B2)) d then 1 else 2

/-- The samples kept: back to the latest one at least 10 ms old. -/
def keepHist (now : Nat) : List (Nat × F32) → List (Nat × F32)
  | [] => []
  | x :: t => if x.1 + msTicks 10 ≤ now then [x] else x :: keepHist now t

/-- The temperature 10 ms ago, where the zone has been sampled so long (R535). -/
def oldTemp (now : Nat) : List (Nat × F32) → Option F32
  | [] => none
  | x :: t => if x.1 + msTicks 10 ≤ now then some x.2 else oldTemp now t

/-- Next value of a threshold flag with hysteresis (R537). -/
def flagNext (old : Bool) (t thr hyst : F32) : Bool := fLe thr t || (old && !fLt t (fSub thr hyst))

/-- Movers end with RESULT 5 (R539). -/
def State.actHotEnd (s : State) : Nat → State
  | 0 => s
  | n + 1 =>
    let s1 := s.actHotEnd n
    if s1.actMoving n then s1.actEnd n 5 false else s1

/-- The orderly shutdown of a die zone (R544). -/
def State.dieShutdown (s : State) (z : Nat) (t : F32) : State :=
  let s1 := (s.raise C.THM_DIE_SHUTDOWN z { w0 := bytes4 z 0 0 0, w1 := t }).fput F.THM_STAT_NO_NVM true
  (s1.nvmStop.lvcStop 4).chgFaultStop 2 C.THM_DIE_SHUTDOWN.code

/-- The class and assignment of a trip by KIND (R539). -/
def tripClass (kind : Nat) : Nat × Nat :=
  match kind with
  | 1 => (3, 1)
  | 2 => (3, 2)
  | 6 => (3, 0)
  | 7 => (4, 0)
  | _ => (1, 0)

/-- A zone trips: its class and what the stages do (R390, R539). -/
def State.zoneTrip (s : State) (z hot : Nat) (t : F32) : State :=
  let kind := s.fget (F.THM_ZONE_CFG_KIND z)
  let code := C.THM_ZONE_TRIP.code
  let s1 := s.raiseAs code z (tripClass kind).1 (tripClass kind).2 { w0 := bytes4 kind hot 0 0, w1 := t } false
  let s1 := if s1.fget F.LVC_SEL_TZONE = z then s1.lvcFaultStop 4 code else s1
  let s2 := if kind = 4 then s1.chgFaultStop 2 code
    else if kind = 5 then s1.actHotEnd 3
    else s1
  if 14 ≤ z then s2.dieShutdown z t else s2

/-- The rise rate of a zone and its flag (R535). -/
def State.zoneRise (s : State) (z : Nat) (t : F32) : State × Bool :=
  let rate := match oldTemp s.time (s.zone z).hist with
    | some t0 => fMul (fSub t t0) (fOfNat 100)
    | none => 0
  let r := fLt (s.rd (R.THM_ZONE_RISE z)) rate
  let s1 := s.fput (F.THM_ZONE_STAT_RISE z) r
  (if r && !s.fbit (F.THM_ZONE_STAT_RISE z) then s1.raise C.THM_RISE z { w1 := rate } else s1, r)

/-- Publish the derate factor (R536); a quotient that is no number has no stated factor. -/
def State.zoneFactor (s : State) (z : Nat) (te : F32) : State :=
  let df := s.rd (R.THM_ZONE_DFULL z)
  let q := fDiv (fSub df te) (fSub df (s.rd (R.THM_ZONE_DSTART z)))
  if fIsNaN q then s.fresh.2.wr (R.THM_ZONE_F z) (s.fresh.1.setWidth 32) else s.wr (R.THM_ZONE_F z) (fClamp 0 fOne q)

/-- Set the flags of a zone and raise what has newly set (R537). -/
def State.zoneFlags (s : State) (z hot : Nat) (t : F32) : State :=
  let hy := s.rd (R.THM_ZONE_HYST z)
  let w := flagNext (s.fbit (F.THM_ZONE_STAT_WARN z)) t (s.rd (R.THM_ZONE_WARN z)) hy
  let d := flagNext (s.fbit (F.THM_ZONE_STAT_DERATE z)) t (s.rd (R.THM_ZONE_DSTART z)) hy
  let x := flagNext (s.fbit (F.THM_ZONE_STAT_TRIP z)) t (s.rd (R.THM_ZONE_TRIP z)) hy
  let s1 := ((s.fput (F.THM_ZONE_STAT_WARN z) w).fput (F.THM_ZONE_STAT_DERATE z) d).fput (F.THM_ZONE_STAT_TRIP z) x
  let s2 := if w && !s.fbit (F.THM_ZONE_STAT_WARN z) then s1.raise C.THM_ZONE_WARN z { w1 := t } else s1
  let s3 := if d && !s.fbit (F.THM_ZONE_STAT_DERATE z) then s2.raise C.THM_ZONE_DERATE z { w1 := t, w2 := s.rd (R.THM_ZONE_F z) } else s2
  if x && !s.fbit (F.THM_ZONE_STAT_TRIP z) then s3.zoneTrip z hot t else s3

/-- NO_NVM clears when both die zones are below 140 °C (R545). -/
def State.nvmCool (s : State) : State :=
  if fLt (s.rd (R.THM_ZONE_T 14)) 0x430C0000 && fLt (s.rd (R.THM_ZONE_T 15)) 0x430C0000 then s.fput F.THM_STAT_NO_NVM false else s

/-- A zone is evaluated on its sampled sensors (R533 to R539). -/
def State.zoneEval (s : State) (z : Nat) (i : Nat) (rest : List Nat) : State :=
  let h := s.hottest rest (i, s.rd (R.THM_SENS_T i))
  let t := h.2
  let s1 := s.wr (R.THM_ZONE_T z) t
  let r := s1.zoneRise z t
  let te := if r.2 && decide (z < 14) then fAdd t (s.rd (R.THM_ZONE_LEAD z)) else t
  let s2 := (r.1.zoneFactor z te).zoneFlags z h.1 t
  let b := s2.bandOf (fSub (s2.rd (R.THM_ZONE_DSTART z)) t)
  let s3 := (s2.fset (F.THM_ZONE_STAT_BAND z) b).setZone z { last := some s.time, hist := keepHist s.time ((s.time, t) :: (s.zone z).hist) }
  (if 14 ≤ z then s3.nvmCool else s3).countLevel (0x160 + z) (b == 2)

/-- The zone's period has passed since its last sample. -/
def State.zoneDue (s : State) (z : Nat) : Bool :=
  match (s.zone z).last with
  | some t => s.past t (bandTicks (s.fget (F.THM_ZONE_STAT_BAND z)))
  | none => true

/-- The sensors of zone `z` are sampled (R532 to R545). -/
def State.thmSample (s : State) (z : Nat) (reads : List SensRead) : State :=
  if !s.fbit F.THM_CTRL_EN || s.inMode .dormant || s.lDead || !s.zoneDue z then s
  else
    let s1 := s.sensSamples z reads
    match s1.zoneSens z with
    | [] => s1
    | i :: t => s1.zoneEval z i t

/-- THM_SAMPLE (R534). -/
def execThmSample (z : Fin 16) (reads : List SensRead) (s : State) : Host.Outcome State Fault Refusal := .next (s.thmSample z.val reads)

/-! ### The hard cut (R546, R547) -/

/-- The 158 °C comparator of on-die sensor 16 + `k` trips (R546); an L-die held for its rails is then held for the cut. Without rails only the
D-die's sensors are there. -/
def State.hardCut (s : State) (k : Nat) : State :=
  let die := if k < 6 then 0 else 1
  if s.lDead && die == 0 then s
  else
    let s1 := (s.fput F.SUP_LATCH_HCUT true).fset F.SUP_LATCH_DIE die
    let s2 := { s1 with thm := { s1.thm with cut := some (die, 16 + k) } }
    if s.railsDown then s2
    else if s.lDead then { s2 with seq := { s2.seq with held := .hardCut } }
    else s2.lHold .hardCut

/-- THM_HARD_CUT_TRIP (R546). -/
def execThmHardCutTrip (k : Fin 8) (s : State) : Host.Outcome State Fault Refusal := .next (s.hardCut k.val)

/-- THM_HARD_CUT_RESTORE (R547). -/
def execThmHardCutRestore (f : FlashBoot) (s : State) : Host.Outcome State Fault Refusal :=
  .next (if s.seq.held = .hardCut then s.lRelease f else s)

/-! ### Supply monitors (R548 to R551) -/

/-- A supply of row `k` of R548 has left its window: latched, and counted. -/
def State.supOut (s : State) (k : Nat) : State := (s.rput R.SUP_LATCH k true).count 0x172 1

/-- A record of the D-die's monitors; without its rails the L-die receives none. -/
def State.supRaise (s : State) (c : Code) (k : Nat) (p : Payload) : State := if s.lDead then s else s.raiseD c k p

/-- SUP_VBAT_UV (R548): at most the low threshold and its tolerance, 5.85 V. -/
def execSupVbatUv (v : F32) (s : State) : Host.Outcome State Fault Refusal :=
  .next (if fLe v 0x40BB3333 then (s.supOut 0).supRaise C.SUP_VBAT_UV 0 { w1 := v } else s)

/-- SUP_VBAT_OV (R548): at least the high threshold less its tolerance, 18.7 V. -/
def execSupVbatOv (v : F32) (s : State) : Host.Outcome State Fault Refusal :=
  .next (if fLe 0x4195999A v then (s.supOut 0).supRaise C.SUP_VBAT_OV 0 { w1 := v } else s)

/-- Latch the legs from LG leg `k` up whose bridge is enabled (R549). -/
def State.vgdLatch (s : State) (k : Nat) : Nat → State
  | 0 => s
  | n + 1 =>
    let t := lgLegGroup k
    let c := C.SUP_VGD_FAULT.code
    let s1 := if s.fbit (F.GDR_LGB_CFG_EN (bridgeOfLeg k)) then (s.latchQuiet t.1 t.2 0 .none c).stageLatched t.1 t.2 c (s.legLatched t.1 t.2) else s
    s1.vgdLatch (k + 1) n

/-- VGD has left its window (R549): every LG output off, and the enabled legs latched. -/
def State.vgdFault (s : State) (high : Bool) (v : F32) : State :=
  let s1 := ((List.range 38).foldl (fun s k => s.dTurnOff (31 + k)) (s.supOut 2))
  if s.lDead then s1 else (s1.raiseD C.SUP_VGD_FAULT 2 { w0 := bytes4 (b2n high) 0 0 0, w1 := v }).vgdLatch 0 19

/-- SUP_VGD_FAULT (R548, R549): at least 15.7 V, or at most 10.3 V, the thresholds and their tolerance. -/
def execSupVgdFault (high : Bool) (v : F32) (s : State) : Host.Outcome State Fault Refusal :=
  .next (if (if high then fLe 0x417B3333 v else fLe v 0x4124CCCD) then s.vgdFault high v else s)

/-- A supply row is out of its window, or in again. -/
def State.supMark (s : State) (k : Nat) (o : Bool) : State :=
  { s with thm := { s.thm with out := if o then s.thm.out ||| BitVec.ofNat 9 (2 ^ k) else s.thm.out &&& ~~~ (BitVec.ofNat 9 (2 ^ k)) } }

/-- An L-die rail has left its window (R548, R550); the L-die's second monitor watches VCORE and VIO and only reports. -/
def State.railFault (s : State) (rail : Nat) (high second : Bool) : State :=
  let p : Payload := { w0 := bytes4 (3 + rail) (b2n high) 0 0 }
  if second then
    if (rail = 0 || rail = 2) && !s.lDead then ((s.supMark 8 true).count 0x172 1).raise C.SUP_RAIL_FAULT 8 p else s
  else if s.seq.held = .rail then (s.supOut (3 + rail)).supMark (3 + rail) true
  else if s.lDead then s
  else
    let s1 := ((s.supOut (3 + rail)).supMark (3 + rail) true).decideB C.SUP_RAIL_FAULT (3 + rail) p
    (s1.supplyCut (some 2)).lHold .rail

/-- SUP_RAIL_FAULT (R550). -/
def execSupRailFault (rail : Fin 4) (high second : Bool) (s : State) : Host.Outcome State Fault Refusal := .next (s.railFault rail.val high second)

/-- Every rail has been within its window for 1 ms (R550). -/
def State.railRecover (s : State) (f : FlashBoot) : State :=
  let s1 := ((((s.supMark 3 false).supMark 4 false).supMark 5 false).supMark 6 false).supMark 8 false
  if s.seq.held = .rail then s1.lRelease f else s1

/-- SUP_RAIL_RECOVER (R550). -/
def execSupRailRecover (f : FlashBoot) (s : State) : Host.Outcome State Fault Refusal := .next (s.railRecover f)

/-- SMON-B's regulator fails (R551): SSB undriven, which the board reads as OFF. -/
def State.regFault (s : State) : State :=
  let s1 := s.supOut 7
  ({ s1 with safe := { s1.safe with bOff := true, b := { s1.safe.b with started := false, code := 1 } } }).showB

/-- SMONB_REG_FAULT (R551). -/
def execSmonbRegFault (s : State) : Host.Outcome State Fault Refusal := .next s.regFault

end Sys2Proof.Machine
end

