-- ==== Sys2Proof/Machine/Hif.lean ====
section
/-! DEFINITION. The host interface (R552 to R587, R620): frames from the host and to it, the host timer, STATUS, EVENT and journal replay. -/

namespace Sys2Proof.Machine

/-! ### The frame (R564, R565) -/

/-- Eight shifts of CRC-16/CCITT-FALSE. -/
def crc16Shift : Nat → BitVec 16 → BitVec 16
  | 0, c => c
  | n + 1, c => crc16Shift n (if c.getLsbD 15 then (c <<< 1) ^^^ 0x1021 else c <<< 1)

/-- CRC-16/CCITT-FALSE of bytes. -/
def crc16 : List Byte → BitVec 16 → BitVec 16
  | [], c => c
  | b :: t, c => crc16 t (crc16Shift 8 (c ^^^ (b.setWidth 16 <<< 8)))

/-- The two bytes of a half-word, low byte first. -/
def halfBytes (n : Nat) : List Byte := [BitVec.ofNat 8 n, BitVec.ofNat 8 (n / 256)]

/-- Header bytes 0 to 7. -/
def acpHead (t flags seq ack len : Nat) : List Byte := [BitVec.ofNat 8 t, BitVec.ofNat 8 flags] ++ halfBytes seq ++ halfBytes ack ++ halfBytes len

/-- The CRC of a frame: data ID, header, payload (R565). -/
def State.acpCrc (s : State) (t : Nat) (head payload : List Byte) : BitVec 16 :=
  crc16 ([BitVec.ofNat 8 t, BitVec.ofNat 8 (s.fget F.HIF_CFG_DID)] ++ head ++ payload) 0xFFFF

/-- The frame's payload without the padding of its data field. -/
def frameBody (f : AcpFrame) : List Byte := f.payload.take f.len.toNat

/-- Its header bytes 0 to 7. -/
def frameHead (f : AcpFrame) (t : Nat) : List Byte := acpHead t f.flags.toNat f.seq.toNat f.ack.toNat f.len.toNat

/-- Its bytes, header and payload. -/
def frameBytes (f : AcpFrame) (t : Nat) : List Byte := frameHead f t ++ halfBytes f.crc.toNat ++ frameBody f

/-- A journal payload of bytes. -/
def payloadOf (b : List Byte) : Payload :=
  let w (i : Nat) : Word := bytesWord (nth 0 b i) (nth 0 b (i + 1)) (nth 0 b (i + 2)) (nth 0 b (i + 3))
  { w0 := w 0, w1 := w 4, w2 := w 8, w3 := w 12 }

/-- The interface runs: enabled, and not in DORMANT (R619). -/
def State.hifOn (s : State) : Bool := s.fbit F.HIF_CTRL_EN && !s.inMode .dormant && !s.lDead

/-- ACP runs on this path (R559). -/
def State.acpPath (s : State) (p : Nat) : Bool :=
  match s.fget F.HIF_CFG_PATH with
  | 2 => decide (p < 2)
  | 3 => p == 2
  | c => p == c

/-- Controller `c` is in bus-off. -/
def State.busOff (s : State) (c : Nat) : Bool := if c = 0 then s.fbit F.HIF_STAT_BUSOFF0 else c = 1 && s.fbit F.HIF_STAT_BUSOFF1

/-! ### The receive queue (R620) -/

/-- Bytes of a slot. -/
def hifSlot : Nat := 1536

/-- Slots of the receive queue. -/
def State.rxqSlots (s : State) : Nat := 2 ^ s.fget F.HIF_RXQ_CFG_LOG2

/-- The receive queue is full: its next slot is the one firmware reads. -/
def State.rxqFull (s : State) : Bool := ((s.rd R.HIF_RXQ_WR).toNat + 1) % s.rxqSlots == (s.rd R.HIF_RXQ_RD).toNat % s.rxqSlots

/-- The stamp of a frame whose stamped instant lies `age` ticks back (R56). -/
def State.stampBytes (s : State) (age : Nat) : List Byte :=
  let t := s.clave - BitVec.ofNat 64 age
  wordBytes (loWord t) ++ wordBytes (hiWord t)

/-- Put an entry into the receive queue, stamped `age` ticks back. -/
def State.rxqPut (s : State) (path : Nat) (raw : Bool) (age : Nat) (b : List Byte) : State :=
  let w := (s.rd R.HIF_RXQ_WR).toNat % s.rxqSlots
  let a := (s.rd R.HIF_RXQ_BASE).toNat + hifSlot * w
  let s1 := s.dmaPuts a (halfBytes b.length ++ [BitVec.ofNat 8 path, BitVec.ofNat 8 (b2n raw)])
  let s2 := s1.dmaPuts (a + 8) (s.stampBytes age ++ b)
  s2.wr R.HIF_RXQ_WR (w32 ((w + 1) % s.rxqSlots))

/-- The receive queue is full for an entry (R573). -/
def State.rxqOverflow (s : State) (path : Nat) : State :=
  let s1 := s.finc F.HIF_CNT1_OVF 1
  s1.raise C.HIF_RX_OVERFLOW path { w0 := halves (s1.fget F.HIF_CNT1_OVF) 0 }

/-! ### Frames from the host (R557 to R580) -/

/-- The length a type has on a path (R567); none for no "to device" type. -/
def acpLenOk (t path len : Nat) : Option Bool :=
  match t with
  | 1 => some (len == 16)
  | 2 => some (len == 0)
  | 3 => some (len == 0)
  | 4 => some (len == 6)
  | 5 => some (decide (16 ≤ len) && decide (len ≤ if path = 2 then 1036 else 52))
  | 6 => some (len == 12)
  | 7 => some (len == 2)
  | n => if 0x40 ≤ n && n ≤ 0x7F then some true else none

/-- The type goes to firmware (R567). -/
def acpToFw (t : Nat) : Bool := t == 1 || t == 5 || t == 6 || t == 7 || (decide (0x40 ≤ t) && decide (t ≤ 0x7F))

/-- A frame of the host is journalled under HOST_RX. -/
def State.hostRxNote (s : State) (t : Nat) (f : AcpFrame) : State :=
  if s.fbit F.JRN_SRC_EN_HOST_RX then
    s.raiseFrom C.HIF_FRAME_RX.code f.path.val C.HIF_FRAME_RX.cls 0 (payloadOf ((frameBytes f t).take 16)) f.age false
  else s

/-- A frame accepted in the cycle in which the host timer expires: the host is not lost (R580). -/
def State.hostUnlost (s : State) : State :=
  if s.hif.lost.1 = s.cyc + 1 then
    let s1 := ((s.fput F.HIF_STAT_HOST_LOST false).wr R.TMU_TQ_REF s.hif.lost.2).countLevel 0x1A4 false
    { s1 with hif.lost := (0, 0)
              jrn.waiting := s1.jrn.waiting.filter fun r => !(r.code == C.HOST_LOST.code && r.raised == s.cyc) }
  else s

/-- The host is heard again (R579). -/
def State.hostResumed (s0 : State) (f : AcpFrame) : State :=
  let s := s0.hostUnlost
  if s.fbit F.HIF_STAT_HOST_LOST then
    ((s.fput F.HIF_STAT_HOST_LOST false).countLevel 0x1A4 false).raise C.HOST_RESUMED f.path.val { w0 := halves f.seq.toNat 0, w1 := s.tmu.tApp }
  else s

/-- A frame is accepted (R570, R575, R579, R717). -/
def State.hostAccept (s : State) (f : AcpFrame) : State :=
  let s1 := (s.fput F.HIF_STAT_RX_SYNC true).fset F.HIF_SEQ_LAST_RX f.seq.toNat
  let s2 := { s1 with hif := { s1.hif with hostAt := s.time - f.age, path := f.path.val, port := if f.path = 2 then f.udp.srcPort else s1.hif.port
                                           can1 := (if f.path = 1 then s.cyc + 1 else 0, (s.rd R.HIF_RXQ_WR).toNat % s.rxqSlots) } }
  let s3 := if f.flags.getLsbD 0 then (s2.fput F.HIF_STAT_RST_PEND false).fset F.HIF_HOST_ACK_ACK f.ack.toNat else s2
  ((s3.hostResumed f).sleepRestart).count 0x1A0 1

/-- Start a journal replay (R583, R585). -/
def State.replayStart (s : State) (first : Word) (count : Nat) : State :=
  let avail := (s.rd R.JRN_NEXT_SEQ - first).toNat
  let left := min (min count 4096) (if avail < 2 ^ 31 then avail else 0)
  let ends := match s.hif.replay with
    | some r => [wordBytes r.first ++ wordBytes (r.firstSent.getD r.first) ++ wordBytes (w32 r.sent) ++ wordBytes (s.rd R.JRN_OLDEST_SEQ) ++ wordBytes 2]
    | none => []
  let s1 := s.fput F.HIF_STAT_REPLAY true
  { s1 with hif := { s1.hif with ends := s1.hif.ends ++ ends, replay := some { first := first, next := first, left := left } } }

/-- Queue a NACK (R568). -/
def State.nack (s : State) (t reason : Nat) (f : AcpFrame) : State :=
  { s with hif := { s.hif with nacks := s.hif.nacks ++ [({ type := BitVec.ofNat 8 t, reason := BitVec.ofNat 8 reason, seq := f.seq } : Nack)] } }

/-- Serve an accepted frame (R567, R568). -/
def State.hostServe (s : State) (t : Nat) (f : AcpFrame) : State :=
  match acpLenOk t f.path.val f.len.toNat with
  | none => s.nack t 0 f
  | some false => s.nack t 1 f
  | some true =>
    if t = 4 then
      let b := frameBody f
      s.replayStart (bytesWord (nth 0 b 0) (nth 0 b 1) (nth 0 b 2) (nth 0 b 3)) (nth 0 b 5 ++ nth 0 b 4 : BitVec 16).toNat
    else if acpToFw t then s.rxqPut f.path.val false f.age (frameBytes f t)
    else s

/-- CAN0's copy of a frame that CAN1 has delivered in this cycle: the frame counts as CAN0's (R559). -/
def State.asCan0 (s : State) (f : AcpFrame) : State :=
  if f.path = 0 ∧ s.hif.can1.1 = s.cyc + 1 ∧ s.fget F.HIF_SEQ_LAST_RX = f.seq.toNat then
    let slot := s.hif.can1.2
    let a := (s.rd R.HIF_RXQ_BASE).toNat + hifSlot * slot
    let s1 := if (s.rd R.HIF_RXQ_WR).toNat % s.rxqSlots = slot then s else (s.dmaPuts (a + 2) [0]).dmaPuts (a + 8) (s.stampBytes f.age)
    { s1 with hif.hostAt := s.time - f.age
              hif.path := 0
              jrn.waiting := s1.jrn.waiting.map fun r =>
                if r.raised == s.cyc && (r.code == C.HIF_SEQ_GAP.code || r.code == C.HOST_RESUMED.code) then { r with inst := 0 } else r }
  else s

/-- The sequence window (R570). -/
def State.hostSeq (s : State) (t : Nat) (f : AcpFrame) : State :=
  if !s.fbit F.HIF_STAT_RX_SYNC then (s.hostAccept f).hostServe t f
  else
    let d := (f.seq - BitVec.ofNat 16 (s.fget F.HIF_SEQ_LAST_RX)).toNat
    if d = 0 || 32768 ≤ d then ((s.asCan0 f).finc F.HIF_CNT0_OLD 1).count 0x1A3 1
    else
      let s1 := if 1 < d then (s.finc F.HIF_CNT1_MISSED (d - 1)).raise C.HIF_SEQ_GAP f.path.val { w0 := halves f.seq.toNat (d - 1) } else s
      (s1.hostAccept f).hostServe t f

/-- A bad CRC (R566). -/
def State.hostCrcBad (s : State) (f : AcpFrame) : State :=
  let s1 := (s.finc F.HIF_CNT0_FMT 1).count 0x1A2 1
  if s.hif.crcRep = 0 || s.past (s.hif.crcRep - 1) (msTicks 100) then
    ({ s1 with hif := { s1.hif with crcRep := s.time + 1 } }).raise C.HIF_CRC_ERROR f.path.val { w0 := halves (s1.fget F.HIF_CNT0_FMT) 0 }
  else s1

/-- The frame has a good format for its path (R557, R561). -/
def frameFormOk (f : AcpFrame) : Bool :=
  if f.path = 2 then f.payload.length == f.len.toNat && decide (f.len.toNat ≤ 1400) else f.fd && decide (f.len.toNat ≤ f.payload.length)

/-- An enabled filter of controller `c` matches (R558). -/
def State.canFilter (s : State) (c : Nat) (ide : Bool) (id : Nat) : Bool :=
  (List.range 8).any fun k =>
    let m := BitVec.ofNat 32 (s.fget (F.HIF_CAN_FILT_MASK_MASK c k))
    s.fbit (F.HIF_CAN_FILT_ID_EN c k) && s.fbit (F.HIF_CAN_FILT_ID_IDE c k) == ide && (w32 (s.fget (F.HIF_CAN_FILT_ID_ID c k)) ^^^ w32 id) &&& m == 0

/-- The identifier carries ACP frames to this unit (R556). -/
def State.acpId (s : State) (c : Nat) (ide : Bool) (id : Nat) : Bool :=
  s.acpPath c && s.fbit F.HIF_CFG_IDE == ide && decide (id = s.fget F.HIF_CAN_ID_BASE + 2 * s.fget F.OLK_CFG_UNIT)

/-- A raw entry enters the receive queue. -/
def State.rawEntry (s : State) (path age : Nat) (data : List Byte) : State :=
  if s.rxqFull then s.rxqOverflow path else s.rxqPut path true age data

/-- A CAN frame that is no ACP frame; on the ACP identifier it is too short to be one (R557, R558). -/
def State.canRaw (s : State) (c : Nat) (ide : Bool) (id : Nat) (data : List Byte) (age : Nat) : State :=
  if !s.hifOn || s.busOff c then s
  else if s.acpId c ide id then (if data.length < 10 then s.finc F.HIF_CNT0_FMT 1 else s)
  else if s.canFilter c ide id then s.rawEntry c age data
  else s

/-- The frame is one that ACP takes from its link: on Ethernet by its addresses, port and length, and no fragment (R561). -/
def State.acpTakes (s : State) (f : AcpFrame) : Bool :=
  s.acpPath f.path.val &&
    (f.path != 2 || (f.udp.dst == s.rd R.HIF_IP && f.udp.src == s.rd R.HIF_HOST_IP && f.udp.dstPort == 40620 && !f.udp.fragment && frameFormOk f))

/-- A frame that ACP does not take: a fragment is discarded, another Ethernet frame is a raw entry (R561, R563), and a frame on a controller
that carries no ACP goes by its identifier (R558). -/
def State.acpLeft (s : State) (t : Nat) (f : AcpFrame) : State :=
  let data := frameHead f t ++ halfBytes f.crc.toNat ++ f.payload
  if f.path = 2 then (if f.udp.fragment then s else s.rawEntry 2 f.age (f.udp.head ++ data))
  else s.canRaw f.path.val (s.fbit F.HIF_CFG_IDE) (s.fget F.HIF_CAN_ID_BASE + 2 * s.fget F.OLK_CFG_UNIT) data f.age

/-- A frame of TYPE `t` arrives from the host (R557 to R573). A STATUS_REQ leaves the sequence state alone, also one of a wrong length
(R571, R572; DEDUCED: log entry 140). -/
def State.hostFrame (s : State) (t : Nat) (f : AcpFrame) : State :=
  if !s.hifOn || s.busOff f.path.val then s
  else if !s.acpTakes f then s.acpLeft t f
  else if !frameFormOk f then s.finc F.HIF_CNT0_FMT 1
  else if s.acpCrc t (frameHead f t) (frameBody f) != f.crc then s.hostCrcBad f
  else
    let s1 := s.hostRxNote t f
    let ok := acpLenOk t f.path.val f.len.toNat
    if t = 3 then (if ok = some true then { s1 with hif := { s1.hif with status := true } } else s1.nack t 1 f)
    else if ok = some true && acpToFw t && s1.rxqFull then s1.rxqOverflow f.path.val
    else s1.hostSeq t f

/-- ACP_COMMAND (R569). -/
def execAcpCommand (f : AcpFrame) (s : State) : Host.Outcome State Fault Refusal := .next (s.hostFrame 1 f)
/-- ACP_KEEPALIVE (R570). -/
def execAcpKeepalive (f : AcpFrame) (s : State) : Host.Outcome State Fault Refusal := .next (s.hostFrame 2 f)
/-- ACP_STATUS_REQ (R571). -/
def execAcpStatusReq (f : AcpFrame) (s : State) : Host.Outcome State Fault Refusal := .next (s.hostFrame 3 f)
/-- ACP_JOURNAL_REQ (R583). -/
def execAcpJournalReq (f : AcpFrame) (s : State) : Host.Outcome State Fault Refusal := .next (s.hostFrame 4 f)
/-- ACP_UPDATE_BLOCK (R648): firmware assembles the block. -/
def execAcpUpdateBlock (f : AcpFrame) (s : State) : Host.Outcome State Fault Refusal := .next (s.hostFrame 5 f)
/-- ACP_ACTIVATE (R650): firmware passes it on. -/
def execAcpActivate (f : AcpFrame) (s : State) : Host.Outcome State Fault Refusal := .next (s.hostFrame 6 f)
/-- ACP_CONFIRM (R664): firmware passes it on. -/
def execAcpConfirm (f : AcpFrame) (s : State) : Host.Outcome State Fault Refusal := .next (s.hostFrame 7 f)
/-- ACP_FW_DEFINED (R567). -/
def execAcpFwDefined (t : Fin 64) (f : AcpFrame) (s : State) : Host.Outcome State Fault Refusal := .next (s.hostFrame (0x40 + t.val) f)
/-- ACP_FRAME_INVALID (R568). -/
def execAcpFrameInvalid (t : Byte) (f : AcpFrame) (s : State) : Host.Outcome State Fault Refusal := .next (s.hostFrame t.toNat f)

/-! ### Raw frames, bus-off, link (R555, R558, R560, R563) -/

/-- CAN_RAW_FRAME (R558). -/
def execCanRawFrame (c : Fin 2) (ide : Bool) (id : BitVec 29) (data : List Byte) (age : Nat) (s : State) : Host.Outcome State Fault Refusal :=
  .next (s.canRaw c.val ide id.toNat data age)

/-- ETH_RAW_FRAME (R563). -/
def execEthRawFrame (data : List Byte) (age : Nat) (s : State) : Host.Outcome State Fault Refusal :=
  .next (if s.hifOn then s.rawEntry 2 age data else s)

/-- Show bus-off of a controller. -/
def State.setBusOff (s : State) (c : Nat) (b : Bool) : State := if c = 0 then s.fput F.HIF_STAT_BUSOFF0 b else s.fput F.HIF_STAT_BUSOFF1 b

/-- HIF_CAN_BUSOFF (R555). -/
def execHifCanBusoff (c : Fin 2) (tec : Byte) (s : State) : Host.Outcome State Fault Refusal :=
  .next (if s.hifOn && !s.busOff c.val then (s.setBusOff c.val true).raise C.HIF_CAN_BUSOFF c.val { w0 := bytes4 tec.toNat 0 0 0 } else s)

/-- CAN_BUSOFF_RECOVER (R555). -/
def execCanBusoffRecover (c : Fin 2) (s : State) : Host.Outcome State Fault Refusal := .next (if s.hifOn then s.setBusOff c.val false else s)

/-- The PHY link comes up or is lost. -/
def State.ethLink (s : State) (up : Bool) : State :=
  if s.lDead then s
  else
    let s1 := s.fput F.HIF_STAT_ETH_UP up
    if !up && s.fbit F.HIF_STAT_ETH_UP then s1.raise C.HIF_ETH_LINK 2 {} else s1

/-- HIF_ETH_LINK (R560). -/
def execHifEthLink (up : Bool) (s : State) : Host.Outcome State Fault Refusal := .next (s.ethLink up)

/-! ### The host timer and periodic STATUS (R577 to R581) -/

/-- The host timer expires (R577); 100 µs of its tolerance may already be used. A frame accepted in the same cycle undoes it (R580), so a
discharge into the grid stops at the cycle's end (R414, hostLostEnd). -/
def State.hostLost (s : State) : State :=
  if s.hifOn && !s.fbit F.HIF_STAT_HOST_LOST && s.past s.hif.hostAt (msTicks (s.fget F.HIF_HOST_TMO_MS) - usTicks 100) then
    let s1 := ((s.fput F.HIF_STAT_HOST_LOST true).raise C.HOST_LOST s.hif.path
      { w0 := halves (s.fget F.HIF_SEQ_LAST_RX) 0, w1 := s.tmu.tApp }).wr R.TMU_TQ_REF 0
    ({ s1 with hif := { s1.hif with lost := (s.cyc + 1, s.rd R.TMU_TQ_REF) } }).countLevel 0x1A4 true
  else s

/-- The cycle in which the host was lost has ended: a charger that discharges into the grid stops (R414). -/
def State.hostLostEnd (s : State) : State :=
  if s.hif.lost.1 = 0 || s.cyc < s.hif.lost.1 then s
  else
    let s1 := { s with hif := { s.hif with lost := (0, 0) } }
    if s1.fbit F.CHG_CTRL_DIR && !s1.fbit F.CHG_CFG_FE_MODE then s1.chgStop 5 else s1

/-- HOST_LOST (R577). -/
def execHostLost (s : State) : Host.Outcome State Fault Refusal := .next s.hostLost

/-- HIF_STAT_PER has passed (R581). -/
def State.statusDue (s : State) : State :=
  let per := s.fget F.HIF_STAT_PER_MS
  if s.hifOn && per != 0 && s.past s.hif.statAt (msTicks per) then { s with hif := { s.hif with status := true, statAt := s.time } } else s

/-- STATUS_SEND (R581). -/
def execStatusSend (s : State) : Host.Outcome State Fault Refusal := .next s.statusDue

/-! ### Transmission (R574, R575, R581 to R587, R620) -/

/-- The STATUS payload. -/
def State.statusPayload (s : State) : List Byte :=
  let mode := s.seq.mode.code + 16 * s.seq.sub.code + 128 * b2n s.seq.safeLatch
  let flags := b2n (s.fbit F.HIF_STAT_HOST_LOST) + 2 * b2n (s.fbit F.SYS_ARM_STAT_TORQUE_READY) + 4 * b2n (s.fbit F.SYS_EN_STAT_TORQUE_INH) +
    8 * b2n (s.fbit F.TMU_STAT_CONT_OPEN_REQ) + 16 * b2n (s.fbit F.TMU_STAT_POS_HOLD) + 32 * b2n (s.fbit F.CLV_STATUS_LOCKED) +
    64 * b2n s.seq.redPend + 128 * b2n (s.fbit F.HIF_STAT_RX_SYNC)
  let stat := s.fget F.SYS_MODE_STAT_RESULT + 16 * s.fget F.SYS_MODE_STAT_LAST_REQ
  let tail := bytes4 (s.fget F.CHG_STAT_STATE + 16 * s.fget F.ACT_PL_STAT_STATE) s.safe.a.code (s.fget F.JRN_STATUS_PIN_USED)
    (s.fget F.JRN_STATUS_PIN_USED / 256)
  wordBytes (bytes4 (s.fget F.OLK_CFG_UNIT) mode flags stat) ++
    wordBytes (halves (s.fget F.HIF_SEQ_LAST_RX) (s.fget F.HIF_CNT1_MISSED)) ++
    wordBytes (s.rd R.JRN_OLDEST_SEQ) ++ wordBytes (s.rd R.JRN_NEXT_SEQ) ++ wordBytes (loWord s.clave) ++ wordBytes (hiWord s.clave) ++
    wordBytes s.tmu.tApp ++ wordBytes s.rpmA ++ wordBytes s.tmu.vdc ++ wordBytes (s.sget 0x140) ++ wordBytes tail

/-- What to send next. -/
inductive Pick where
  | frame (t flags : Nat) (payload : List Byte)
  | raw (path : Nat) (b : List Byte)
  | none
deriving DecidableEq, Repr

/-- The firmware queue pauses: P2 recovers, splits, restarts or is frozen (R619, R675). -/
def State.p2Paused (s : State) : Bool := s.pairFrozen 2 || s.restarting 2 || s.fbit F.PMC_GNG_STAT_FROZEN

/-- Slots of the transmit queue. -/
def State.txqSlots (s : State) : Nat := 2 ^ s.fget F.HIF_TXQ_CFG_LOG2

/-- Address of its next slot. -/
def State.txSlot (s : State) : Nat := (s.rd R.HIF_TXQ_BASE).toNat + hifSlot * ((s.rd R.HIF_TXQ_RD).toNat % s.txqSlots)

/-- What the next slot of the firmware queue holds; none where its frame exceeds the limit of its path or its own length (R620). -/
def State.slotHolds (s : State) : Pick :=
  let a := s.txSlot
  let len := (s.mget (a + 1) ++ s.mget a : BitVec 16).toNat
  let path := (s.mget (a + 2)).toNat
  if (s.mget (a + 3)).getLsbD 0 then
    if path ≤ 2 && len ≤ (if path = 2 then 1518 else 64) then .raw path (s.mgets (a + 16) len) else .none
  else
    let pl := (s.mget (a + 23) ++ s.mget (a + 22) : BitVec 16).toNat
    if 10 + pl ≤ len && 10 + pl ≤ (if s.fget F.HIF_CFG_PATH = 3 then 1410 else 64) then
      .frame (s.mget (a + 16)).toNat ((s.mget (a + 17)).toNat / 4) (s.mgets (a + 26) pl)
    else .none

/-- The slot is done with. -/
def State.slotNext (s : State) : State := s.wr R.HIF_TXQ_RD (w32 (((s.rd R.HIF_TXQ_RD).toNat % s.txqSlots + 1) % s.txqSlots))

/-- The firmware queue holds an entry and does not pause. -/
def State.fwWaits (s : State) : Bool :=
  s.hifOn && (s.rd R.HIF_TXQ_RD).toNat % s.txqSlots != (s.rd R.HIF_TXQ_WR).toNat % s.txqSlots && !s.p2Paused

/-- Discard the slots at the head of the queue that hold no frame their path can carry, at most `n` (R620). -/
def State.dropBad (s : State) : Nat → State
  | 0 => s
  | n + 1 =>
    if s.fwWaits && s.slotHolds == .none then (s.slotNext.raise C.HIF_CFG_INVALID 255 { w0 := halves 0x218 0 }).dropBad n else s

/-- The link of a path can send. -/
def State.linkUp (s : State) (p : Nat) : Bool := if p = 2 then s.fbit F.HIF_STAT_ETH_UP else !s.busOff p

/-- A link of the ACP path can send. -/
def State.txLink (s : State) : Bool := [0, 1, 2].any fun p => s.acpPath p && s.linkUp p

/-- The next slot of the firmware queue, where the links of its frame can send. -/
def State.pickFw (s : State) : Pick :=
  if !s.fwWaits then .none
  else
    match s.slotHolds with
    | .frame t g p => if s.txLink then .frame t g p else .none
    | .raw p b => if s.linkUp p then .raw p b else .none
    | .none => .none

/-- Records `next` up from the ring. -/
def State.ringRecs (s : State) (next : Word) : Nat → List Byte
  | 0 => []
  | n + 1 => s.mgets (ringAddr next) 32 ++ s.ringRecs (next + 1) n

/-- Go on at the oldest record still held (R584). -/
def State.replaySkip (s : State) (r : Replay) : Replay :=
  let gap := (s.rd R.JRN_OLDEST_SEQ - r.next).toNat
  if r.left = 0 || gap = 0 || 2 ^ 31 ≤ gap then r else { r with next := r.next + w32 gap, left := r.left - gap, skip := true }

/-- The next frame of the replay (R583, R584): up to `n` records, or its JOURNAL_END. -/
def State.pickReplay (s : State) (n : Nat) (r0 : Replay) : State × Pick :=
  let r := s.replaySkip r0
  if r.left = 0 then
    let s1 := { s with hif := { s.hif with replay := none } }.fput F.HIF_STAT_REPLAY false
    let reason := if r.sent = 0 then 3 else if r.skip then 1 else 0
    (s1, .frame 0x83 0 (wordBytes r.first ++ wordBytes (r.firstSent.getD r.first) ++ wordBytes (w32 r.sent) ++ wordBytes (s.rd R.JRN_OLDEST_SEQ) ++
      wordBytes (w32 reason)))
  else
    let k := min r.left n
    let r1 : Replay := { r with next := r.next + w32 k, left := r.left - k, firstSent := some (r.firstSent.getD r.next), sent := r.sent + k }
    ({ s with hif := { s.hif with replay := some r1 } }, .frame 0x82 0 (s.ringRecs r.next k))

/-- What is sent behind the device's own frames: firmware's queue in its order, then the replay (R587). -/
def State.pickLast (s : State) (n : Nat) : State × Pick :=
  match s.pickFw, s.hif.ends, s.hif.replay with
  | .frame t g p, _, _ => (s.slotNext, .frame t g p)
  | .raw p b, _, _ => (s.slotNext, .raw p b)
  | .none, e :: t, _ => if s.txLink then ({ s with hif := { s.hif with ends := t } }, .frame 0x83 0 e) else (s, .none)
  | .none, [], some r => if s.txLink then s.pickReplay (if s.fget F.HIF_CFG_PATH = 3 then n else 1) r else (s, .none)
  | .none, [], none => (s, .none)

/-- What is sent next, in the order of R587. -/
def State.pick (s : State) (n : Nat) : State × Pick :=
  if !s.txLink then s.pickLast n
  else
    match s.hif.evHi, s.hif.nacks, s.hif.status, s.hif.evLo with
    | e :: t, _, _, _ => ({ s with hif := { s.hif with evHi := t } }, .frame 0x84 0 e)
    | [], x :: t, _, _ => ({ s with hif := { s.hif with nacks := t } }, .frame 0x85 0 ([x.type, x.reason] ++ halfBytes x.seq.toNat))
    | [], [], true, _ => ({ s with hif := { s.hif with status := false } }, .frame 0x81 0 s.statusPayload)
    | [], [], false, e :: t => ({ s with hif := { s.hif with evLo := t } }, .frame 0x84 0 e)
    | [], [], false, [] => s.pickLast n

/-- The sizes of an FD data field, and the data padded with 0x00 to the smallest that holds it (R556). -/
def padDlc (b : List Byte) : List Byte :=
  let n := ([8, 12, 16, 20, 24, 32, 48].find? fun n => decide (b.length ≤ n)).getD 64
  b ++ List.replicate (n - b.length) 0

/-- The copy of an ACP frame that path `p` carries (R556, R560, R562). -/
def State.acpOut (s : State) (p : Nat) (b : List Byte) : HifOut :=
  if p = 2 then
    { path := 2, dst := s.rd R.HIF_HOST_IP, port := s.hif.port, data := b
      tag := if s.fbit F.HIF_CFG_VLAN then some (w32 (s.fget F.HIF_ETH_CFG_VID + 2 ^ 13 * s.fget F.HIF_ETH_CFG_PCP)) else none }
  else { path := p, id := s.fget F.HIF_CAN_ID_BASE + 2 * s.fget F.OLK_CFG_UNIT + 1, ide := s.fbit F.HIF_CFG_IDE, data := padDlc b }

/-- Journal a transmitted frame on the controllers it leaves by (R559, R586). -/
def State.hostTxNote (s : State) (t : Nat) (b : List Byte) : State :=
  if !s.fbit F.JRN_SRC_EN_HOST_TX || t = 0x82 || t = 0x83 || t = 0x84 then s
  else [0, 1, 2].foldl (fun s p => if s.acpPath p && s.linkUp p then s.raise C.HIF_FRAME_TX p (payloadOf (b.take 16)) else s) s

/-- A frame starts (R559, R574, R575); `g`: FLAGS bits 7:2, which firmware gives its own frames (R620). -/
def State.hifSend (s : State) (t g : Nat) (payload : List Byte) : State :=
  let seq := s.fget F.HIF_SEQ_NEXT_TX
  let flags := b2n (s.fbit F.HIF_STAT_RX_SYNC) + 2 * b2n (s.fbit F.HIF_STAT_RST_PEND) + 4 * g
  let head := acpHead t flags seq (s.fget F.HIF_SEQ_LAST_RX) payload.length
  let b := head ++ halfBytes (s.acpCrc t head payload).toNat ++ payload
  let s1 := (s.hostTxNote t b).fset F.HIF_SEQ_NEXT_TX (seq + 1)
  let copies := ([0, 1, 2].filter fun p => s.acpPath p && s.linkUp p).map fun p => s.acpOut p b
  ({ s1 with hif := { s1.hif with out := b, outRaw := false, sent := copies } }).count 0x1A1 1

/-- The next transmission starts. -/
def State.txStart (s0 : State) (n : Nat) : State :=
  if !s0.hifOn then s0
  else
    let s := s0.dropBad s0.txqSlots
    let r := s.pick n
    match r.2 with
    | .frame t g p => r.1.hifSend t g p
    | .raw p b => ({ r.1 with hif := { r.1.hif with out := b, outRaw := true, sent := [{ path := p, raw := true, data := b }] } }).count 0x1A1 1
    | .none => r.1

/-- HIF_TX_START (R574). -/
def execHifTxStart (n : Fin 32) (s : State) : Host.Outcome State Fault Refusal := .next (s.txStart (n.val + 1))

/-! ### Enabling (R554, R577) -/

/-- A bit timing is out of its limits: product below `top`, TSEG1 below 2, or SJW above TSEG2 (R554); arguments as coded, less 1. -/
def timingBad (top brp t1 t2 sjw : Nat) : Bool :=
  decide ((brp + 1) * (3 + t1 + t2) < top) || decide (t1 < 1) || decide (t2 < sjw)

/-- Why EN is refused: INST and the register's offset. -/
def State.hifBad (s : State) : Option (Nat × Nat) :=
  let can (c : Nat) : Option (Nat × Nat) :=
    if timingBad 80 (s.fget (F.HIF_CAN_NBT_BRP c)) (s.fget (F.HIF_CAN_NBT_TSEG1 c)) (s.fget (F.HIF_CAN_NBT_TSEG2 c)) (s.fget (F.HIF_CAN_NBT_SJW c))
    then some (c, 0x40 + 16 * c)
    else if timingBad 10 (s.fget (F.HIF_CAN_DBT_BRP c)) (s.fget (F.HIF_CAN_DBT_TSEG1 c)) (s.fget (F.HIF_CAN_DBT_TSEG2 c)) (s.fget (F.HIF_CAN_DBT_SJW c))
    then some (c, 0x44 + 16 * c)
    else none
  let queue (base cfg off : Nat) : Option (Nat × Nat) :=
    if base % 64 = 0 && inRegion base (hifSlot * 2 ^ cfg) 3 then none else some (255, off)
  (((can 0).or (can 1)).or (queue (s.rd R.HIF_RXQ_BASE).toNat (s.fget F.HIF_RXQ_CFG_LOG2) 0x200)).or
    (queue (s.rd R.HIF_TXQ_BASE).toNat (s.fget F.HIF_TXQ_CFG_LOG2) 0x210)

/-- HIF_CTRL has been written; `was`: EN before. -/
def State.hifCtrl (s : State) (was : Bool) : State :=
  if was || !s.fbit F.HIF_CTRL_EN then s
  else
    match s.hifBad with
    | some (inst, off) => (s.fput F.HIF_CTRL_EN false).raise C.HIF_CFG_INVALID inst { w0 := halves off 0 }
    | none => { s with hif := { s.hif with hostAt := s.time, statAt := s.time } }

end Sys2Proof.Machine
end

