-- ==== Sys2Proof/Machine/Olk.lean ====
section
/-! DEFINITION. The OmterLink controller (R588 to R618): ports, acknowledge and link state, chain frames and forwarding, firmware blocks, and the time exchange (R46 to R49). -/

namespace Sys2Proof.Machine

/-! ### Ports -/

/-- Port `p`. -/
def State.olkPort (s : State) (p : Nat) : OlkPort := if p = 0 then s.olk.p0 else s.olk.p1

/-- Store it. -/
def State.setOlkPort (s : State) (p : Nat) (v : OlkPort) : State :=
  if p = 0 then { s with olk := { s.olk with p0 := v } } else { s with olk := { s.olk with p1 := v } }

/-- The controller runs: enabled, and not in DORMANT (R619). -/
def State.olkOn (s : State) : Bool := s.fbit F.OLK_CTRL_EN && !s.inMode .dormant && !s.lDead

/-- The port receives. -/
def State.portOn (s : State) (p : Nat) : Bool := s.olkOn && (s.fget F.OLK_CFG_PORT_EN).testBit p

/-- The port is up. -/
def State.portUp (s : State) (p : Nat) : Bool := if p = 0 then s.fbit F.OLK_STAT_UP0 else s.fbit F.OLK_STAT_UP1

/-- Show a port up or down. -/
def State.setPortUp (s : State) (p : Nat) (b : Bool) : State :=
  (if p = 0 then s.fput F.OLK_STAT_UP0 b else s.fput F.OLK_STAT_UP1 b).countLevel (0x1B8 + p) b

/-- Own unit ID, and the units on the chain. -/
def State.olkUnit (s : State) : Nat := s.fget F.OLK_CFG_UNIT
/-- N. -/
def State.olkUnits (s : State) : Nat := s.fget F.OLK_CFG_NM1 + 1

/-- The ring is intact (R603). -/
def State.ringOk (s : State) : Bool := s.fbit F.OLK_STAT_RING_OK

/-- Ticks of a frame of `n` payload bytes: 12 + n symbols of 20 ns (R588, R590). -/
def frameTicks (n : Nat) : Nat := 16 * (12 + n)

/-- The symbols still on the wire end at this time. -/
def OlkPort.busyUntil (o : OlkPort) (now : Nat) : Nat :=
  let e (w : Option OlkWait) : Nat := match w with
    | some x => x.endAt
    | none => now
  max now (max (e o.wait) (e o.faultWait))

/-- Priority of a type (R616), the lowest first. -/
def olkPrio (t : Nat) : Nat :=
  match t with
  | 0x02 => 0
  | 0x81 => 1
  | 0x82 => 1
  | 0x83 => 2
  | 0x05 => 2
  | 0x06 => 2
  | 0x01 => 3
  | 0x07 => 4
  | _ => 5

/-- The frame of lowest priority number in a queue, the oldest of them, and the rest. -/
def pickFrame : List OlkFrame → Option (OlkFrame × List OlkFrame)
  | [] => none
  | f :: t =>
    match pickFrame t with
    | some (g, r) => if olkPrio g.type < olkPrio f.type then some (g, f :: r) else some (f, t)
    | none => some (f, t)

/-- A link frame has its own counter (R598). -/
def linkType (t : Nat) : Bool := decide (0x80 ≤ t)

/-- Give a waiting copy of a frame its sequence. -/
def OlkPort.giveSeq (o : OlkPort) (key : Nat) (seq : BitVec 16) : OlkPort :=
  { o with queue := o.queue.map fun f => if f.key = key && f.seq.isNone && !linkType f.type then { f with seq := some seq } else f }

/-- The sequence of a frame whose first transmission starts on port `p` (R598). -/
def State.olkSeqFor (s : State) (p : Nat) (f : OlkFrame) : State × OlkFrame :=
  match f.seq with
  | some _ => (s, f)
  | none =>
    if linkType f.type then
      let o := s.olkPort p
      (s.setOlkPort p { o with linkSeq := o.linkSeq + 1 }, { f with seq := some o.linkSeq })
    else
      let q : BitVec 16 := BitVec.ofNat 16 (s.fget F.OLK_SEQ_SEQ)
      let s1 := s.fset F.OLK_SEQ_SEQ (q.toNat + 1)
      let s2 := if f.key = 0 then s1 else (s1.setOlkPort 0 ((s1.olkPort 0).giveSeq f.key q)).setOlkPort 1 ((s1.olkPort 1).giveSeq f.key q)
      (s2, { f with seq := some q })

/-- Header bytes of a frame. -/
def olkHead (t hop src seq len : Nat) : List Byte :=
  [BitVec.ofNat 8 t, BitVec.ofNat 8 hop, BitVec.ofNat 8 src] ++ halfBytes seq ++ [BitVec.ofNat 8 len]

/-- The journal payload of a frame (OLK_FRAME_RX, OLK_FRAME_TX). -/
def olkNote (t hop src seq port : Nat) (payload : List Byte) : Payload :=
  let pad := (payload ++ List.replicate 8 (0 : Byte)).take 8
  payloadOf (olkHead t hop src seq payload.length ++ [BitVec.ofNat 8 port, 0] ++ pad)

/-- A frame's transmission starts on port `p`, behind the symbols still on the wire; a TIME_RESP carries the stamp of its own start symbol
(R599), a TIME_REQ starts an exchange. -/
def State.olkStart (s : State) (p : Nat) (f0 : OlkFrame) (fault : Bool) : State :=
  let r := s.olkSeqFor p f0
  let start := s.clave + BitVec.ofNat 64 ((s.olkPort p).busyUntil s.time - s.time)
  let now := wordBytes (loWord start) ++ wordBytes (hiWord start)
  let f := if r.2.type = 0x82 then { r.2 with payload := r.2.payload.take 8 ++ now ++ r.2.payload.drop 16 } else r.2
  let o := r.1.olkPort p
  let w : OlkWait := { frame := f, endAt := o.busyUntil s.time + frameTicks f.payload.length }
  let s1 := r.1.setOlkPort p (if fault then { o with faultWait := some w, out := some f } else { o with wait := some w, out := some f })
  let s2 := if f.type = 0x81 then { s1 with clv := { s1.clv with exchange := some start.toNat } } else s1
  let first := f0.seq.isNone || f0.fwd
  let seq := (f.seq.getD 0).toNat
  let s3 := if first && s2.fbit F.JRN_SRC_EN_OLK_TX && !linkType f.type && f.type != 3 then
      s2.raise C.OLK_FRAME_TX p (olkNote f.type f.hop f.src seq p f.payload)
    else s2
  s3.count (0x1B0 + p) 1

/-- The FW_SEG or FW_BLOCK_END that a block's job sends next (R611). -/
def State.jobFrame (s : State) (j : OlkJob) : OlkFrame :=
  if j.next < 128 then
    { type := 3, src := s.olkUnit
      payload := j.tail.take 4 ++ [BitVec.ofNat 8 j.next, 0, 0, 0] ++ s.mgets (j.addr + 32 * j.next) 32 }
  else { type := 4, src := s.olkUnit, payload := j.tail }

/-- A FAULT frame goes ahead of everything and aborts a frame in progress, which is sent again afterwards (R594, R607). -/
def State.kickFault (s : State) (p : Nat) : State :=
  let o := s.olkPort p
  if o.faultWait.isSome then s
  else
    match pickFrame o.queue with
    | some (f, rest) =>
      if f.type ≠ 2 then s
      else
        let o1 : OlkPort := match o.wait with
          | some w => if s.time < w.endAt then { o with queue := w.frame :: rest, wait := none } else { o with queue := rest }
          | none => { o with queue := rest }
        (s.setOlkPort p o1).olkStart p f true
    | none => s

/-- Start what port `p` may send next (R594, R616). -/
def State.kick (s0 : State) (p : Nat) : State :=
  if !s0.olkOn || !s0.portUp p then s0
  else
    let s := s0.kickFault p
    let o := s.olkPort p
    if o.wait.isSome then s
    else
      match pickFrame o.queue with
      | some (f, rest) => if f.type = 2 then s else (s.setOlkPort p { o with queue := rest }).olkStart p f false
      | none =>
        match o.jobs with
        | j :: _ => s.olkStart p (s.jobFrame j) false
        | [] => s

/-- Start what both ports may send. -/
def State.kicks (s : State) : State := (s.kick 0).kick 1

/-- Queue a frame on port `p` while it is up. -/
def State.olkQueue (s : State) (p : Nat) (f : OlkFrame) : State :=
  if s.portUp p then s.setOlkPort p { s.olkPort p with queue := (s.olkPort p).queue ++ [f] } else s

/-- The ports that own chain frames leave by (R600, R601). -/
def State.ownPorts (s : State) : List Nat := if s.ringOk then [0] else [0, 1]

/-- Send an own chain frame on the given ports. -/
def State.olkSendOn (s : State) (ps : List Nat) (t : Nat) (payload : List Byte) : State :=
  let k := s.olk.key + 1
  let s1 := { s with olk := { s.olk with key := k } }
  (ps.foldl (fun s p => s.olkQueue p { type := t, src := s.olkUnit, key := k, payload := payload }) s1).kicks

/-- Send an own chain frame (R600, R601). -/
def State.olkSend (s : State) (t : Nat) (payload : List Byte) : State := s.olkSendOn s.ownPorts t payload

/-- Send a link frame on port `p`. -/
def State.olkLink (s : State) (p t : Nat) (payload : List Byte) : State :=
  (s.olkQueue p { type := t, src := s.olkUnit, payload := payload }).kick p

/-- Answer a frame with ACK or NAK (R592). -/
def State.olkAnswer (s : State) (p : Nat) (nak : Bool) (seq : BitVec 16) : State :=
  s.setOlkPort p { s.olkPort p with answer := some (nak, seq.setWidth 8) }

/-! ### Peers, ring, time role -/

/-- What is known of unit `u`. -/
def State.peer (s : State) (u : Nat) : OlkPeer := SMap.get (fun _ => {}) s.olk.peers u

/-- Store it. -/
def State.setPeer (s : State) (u : Nat) (v : OlkPeer) : State := { s with olk := { s.olk with peers := SMap.set (fun _ => {}) s.olk.peers u v } }

/-- Unit `u` is heard (OLK_STAT.PEERS). -/
def State.heard (s : State) (u : Nat) : Bool := (s.fget F.OLK_STAT_PEERS).testBit u

/-- The conditions of an intact ring hold (R603). -/
def State.ringCond (s : State) : Bool :=
  s.olkOn && s.fbit F.OLK_CFG_TOPO && s.portUp 0 && s.portUp 1 &&
    (List.range s.olkUnits).all fun u => u == s.olkUnit || (s.heard u && (s.peer u).up0 && (s.peer u).up1)

/-- Evaluate the ring; `who` reports a break (R603). -/
def State.ringCheck (s : State) (who : Nat) : State :=
  let c := s.ringCond
  if s.ringOk then
    if c then s
    else
      let s1 := s.fput F.OLK_STAT_RING_OK false
      ({ s1 with olk := { s1.olk with ringSince := none } }).raise C.OLK_RING_BROKEN 255 { w0 := bytes4 who 0 0 0 }
  else { s with olk := { s.olk with ringSince := sinceIf s.olk.ringSince c s.time } }

/-- The time master: the unit of MASTER_ID where it is present, else the lowest present. -/
def State.timeMaster (s : State) : Nat :=
  let here (u : Nat) : Bool := u == s.olkUnit || s.heard u
  let m := s.fget F.CLV_CTRL_MASTER_ID
  if here m then m else ((List.range 8).find? here).getD s.olkUnit

/-- Port and hops toward unit `u`: as its chain frames come, and round an intact ring the shorter way. -/
def State.wayTo (s : State) (u : Nat) : Nat × Nat :=
  let h := (s.peer u).hops + 1
  if s.ringOk && s.olkUnits - h < h then (0, s.olkUnits - h) else ((s.peer u).port, h)

/-- Show role, port and hops of the time synchronisation. -/
def State.timeRole (s : State) : State :=
  if s.fget F.CLV_CTRL_SRC = 1 || !s.olkOn then ((s.fset F.CLV_STATUS_ROLE 0).fset F.CLV_STATUS_HOPS 0).fset F.CLV_STATUS_PORT 0
  else
    let m := s.timeMaster
    if m = s.olkUnit then ((s.fset F.CLV_STATUS_ROLE 1).fset F.CLV_STATUS_HOPS 0).fset F.CLV_STATUS_PORT 0
    else ((s.fset F.CLV_STATUS_ROLE 2).fset F.CLV_STATUS_HOPS (s.wayTo m).2).fset F.CLV_STATUS_PORT (s.wayTo m).1

/-- After a change of the ports or peers. -/
def State.olkTopo (s : State) (who : Nat) : State := (s.ringCheck who).timeRole

/-! ### Acknowledge and link state (R592 to R597) -/

/-- A buffer's forwarding has ended (R615). -/
def State.fwdEnded (s : State) (b : Nat) : State :=
  let used := [0, 1].any fun p => (s.olkPort p).jobs.any fun j => j.buf == some b
  if used then s
  else
    let x := SMap.get (fun _ => ({} : OlkBuf)) s.olk.bufs b
    let s1 := s.rput R.OLK_FWB_STAT (4 + b) false
    let s2 := { s1 with olk := { s1.olk with bufs := SMap.set (fun _ => {}) s1.olk.bufs b { x with rel := false } } }
    if x.rel then s2.rput R.OLK_FWB_STAT b false else s2

/-- A frame of a block has been acknowledged or dropped: its job goes on. -/
def State.jobNext (s : State) (p : Nat) : State :=
  let o := s.olkPort p
  match o.jobs with
  | [] => s
  | j :: t =>
    if j.next < 128 then s.setOlkPort p { o with jobs := { j with next := j.next + 1 } :: t }
    else
      let s1 := s.setOlkPort p { o with jobs := t }
      match j.buf with
      | some b => (s1.fwdEnded b).count 0x1BB 1
      | none => s1

/-- The frame awaiting acknowledgement leaves port `p`. -/
def State.waitDone (s : State) (p : Nat) (fault : Bool) : State :=
  let o := s.olkPort p
  if fault then s.setOlkPort p { o with faultWait := none }
  else
    let s1 := s.setOlkPort p { o with wait := none }
    match o.wait with
    | some w => if w.frame.key = 0 && (w.frame.type = 3 || w.frame.type = 4) then s1.jobNext p else s1
    | none => s1

/-- The symbol names the frame. -/
def OlkWait.named (w : OlkWait) (sym : Byte) : Bool := (w.frame.seq.getD 0).setWidth 8 == sym

/-- Which of a port's waiting frames a symbol names: the FAULT frame (true) or the other (false). -/
def OlkPort.names (o : OlkPort) (sym : Byte) : Option Bool :=
  match o.wait, o.faultWait with
  | some w, f => if w.named sym then some false else match f with
    | some g => if g.named sym then some true else none
    | none => none
  | none, some g => if g.named sym then some true else none
  | none, none => none

/-- A port comes up (R597). -/
def State.portRise (s : State) (p : Nat) : State :=
  let s1 := s.setOlkPort p { s.olkPort p with probes := 0, fails := 0 }
  (((s1.setPortUp p true).raise C.OLK_LINK_UP p {}).olkTopo s.olkUnit).kick p

/-- An ACK arrives (R595, R597). -/
def State.ackRx (s : State) (p : Nat) (sym : Byte) : State :=
  let o := s.olkPort p
  match o.names sym with
  | none => s
  | some fault =>
    let probe := match o.wait with
      | some w => !fault && w.frame.type = 0x83 && !s.portUp p
      | none => false
    let s1 := s.waitDone p fault
    let s2 := s1.setOlkPort p { s1.olkPort p with fails := 0, probes := if probe then o.probes + 1 else o.probes }
    if probe then (if 8 ≤ o.probes + 1 then s2.portRise p else s2) else s2.kick p

/-- OLK_ACK_RX (R595). -/
def execOlkAckRx (p : Fin 2) (sym : Byte) (s : State) : Host.Outcome State Fault Refusal := .next (if s.portOn p.val then s.ackRx p.val sym else s)

/-- A NAK arrives (R596). -/
def State.nakRx (s : State) (p : Nat) (sym : Byte) : State :=
  let o := s.olkPort p
  let mark (w : OlkWait) : OlkWait := { w with nakFirst := some (w.nakFirst.getD s.time), nakAt := some s.time }
  match o.names sym with
  | none => s
  | some true => (s.setOlkPort p { o with faultWait := o.faultWait.map mark }).count (0x1B6 + p) 1
  | some false => (s.setOlkPort p { o with wait := o.wait.map mark }).count (0x1B6 + p) 1

/-- OLK_NAK_RX (R596). -/
def execOlkNakRx (p : Fin 2) (sym : Byte) (s : State) : Host.Outcome State Fault Refusal := .next (if s.portOn p.val then s.nakRx p.val sym else s)

/-- Send the waiting frame again, unchanged. -/
def State.resend (s : State) (p : Nat) (fault : Bool) (w : OlkWait) : State :=
  let o := s.olkPort p
  let x : OlkWait := { w with endAt := o.busyUntil s.time + frameTicks w.frame.payload.length, nakAt := none }
  let s1 := s.setOlkPort p (if fault then { o with faultWait := some x, out := some w.frame } else { o with wait := some x, out := some w.frame })
  ((s1.finc (F.OLK_PORT_CNT_RETX p) 1).count (0x1B4 + p) 1).count (0x1B0 + p) 1

/-- 2 µs after a NAK the frame is tried again; after 1 ms of NAKs it is dropped (R596). -/
def State.nakRetry (s : State) (p : Nat) (fault : Bool) (w : OlkWait) : State :=
  match w.nakAt, w.nakFirst with
  | some t, some t0 =>
    if !s.past t (usTicks 2) then s
    else if s.past t0 (msTicks 1) then ((s.waitDone p fault).finc (F.OLK_PORT_CNT_BAD p) 1).kick p
    else s.resend p fault w
  | _, _ => s

/-- OLK_NAK_RETRY (R596). -/
def execOlkNakRetry (p : Fin 2) (s : State) : Host.Outcome State Fault Refusal :=
  .next (if !s.portOn p.val then s
    else
      let o := s.olkPort p.val
      let s1 := match o.faultWait with
        | some w => s.nakRetry p.val true w
        | none => s
      match o.wait with
      | some w => s1.nakRetry p.val false w
      | none => s1)

/-- A port goes down (R595): what it still had to send is gone with it. -/
def State.portFall (s : State) (p : Nat) : State :=
  let ring := s.ringOk
  let o := s.olkPort p
  let bufs := o.jobs.filterMap fun j => j.buf
  let s1 := s.setOlkPort p { linkSeq := o.linkSeq, answer := o.answer, out := o.out, lastProbe := s.time }
  let s2 := bufs.foldl (fun s b => s.fwdEnded b) (s1.setPortUp p false)
  (s2.raise C.OLK_LINK_DOWN p { w0 := bytes4 (b2n ring) 0 0 0 }).olkTopo s.olkUnit

/-- No ACK or NAK came within 2 µs (R595); a probe that fails ends the run of acknowledged ones (R597). -/
def State.ackTimeout (s : State) (p : Nat) (fault : Bool) (w : OlkWait) : State :=
  if !s.past w.endAt (usTicks 2) || w.nakAt.isSome then s
  else if !s.portUp p then s.setOlkPort p { s.olkPort p with wait := none, probes := 0 }
  else
    let o := s.olkPort p
    let s1 := s.setOlkPort p { o with fails := o.fails + 1 }
    if o.fails = 0 then s1.resend p fault w
    else if o.fails = 1 then
      let s2 := s1.waitDone p fault
      let s3 := if p = 0 then s2.fput F.OLK_STAT_DEG0 true else s2.fput F.OLK_STAT_DEG1 true
      (s3.raise C.OLK_LINK_DEGRADED p { w0 := halves (w.frame.seq.getD 0).toNat w.frame.type }).kick p
    else s1.portFall p

/-- OLK_ACK_TIMEOUT (R595). -/
def execOlkAckTimeout (p : Fin 2) (fault : Bool) (s : State) : Host.Outcome State Fault Refusal :=
  .next (if !s.portOn p.val then s
    else
      match if fault then (s.olkPort p.val).faultWait else (s.olkPort p.val).wait with
      | some w => s.ackTimeout p.val fault w
      | none => s)

/-- A PROBE is due on a port that is down (R597). -/
def State.probeSend (s : State) (p : Nat) : State :=
  let o := s.olkPort p
  if s.portOn p && !s.portUp p && o.wait.isNone && s.past o.lastProbe (msTicks 1) then
    (s.setOlkPort p { o with lastProbe := s.time }).olkStart p { type := 0x83, src := s.olkUnit } false
  else s

/-- OLK_PROBE_SEND (R597). -/
def execOlkProbeSend (p : Fin 2) (s : State) : Host.Outcome State Fault Refusal := .next (s.probeSend p.val)

/-! ### The receive queue -/

/-- Bytes of a slot. -/
def olkSlot : Nat := 128

/-- Slots of the receive queue. -/
def State.olkSlots (s : State) : Nat := 2 ^ s.fget F.OLK_RXQ_CFG_LOG2

/-- It is full. -/
def State.olkRxqFull (s : State) : Bool := ((s.rd R.OLK_RXQ_WR).toNat + 1) % s.olkSlots == (s.rd R.OLK_RXQ_RD).toNat % s.olkSlots

/-- Put a frame's header and payload into it, if there is room, with the stamp of its start symbol (R56). -/
def State.olkRxqPut (s : State) (port : Nat) (b : List Byte) : State :=
  if s.olkRxqFull then s
  else
    let w := (s.rd R.OLK_RXQ_WR).toNat % s.olkSlots
    let a := (s.rd R.OLK_RXQ_BASE).toNat + olkSlot * w
    let s1 := s.dmaPuts a (halfBytes b.length ++ [BitVec.ofNat 8 port])
    let s2 := s1.dmaPuts (a + 8) (s.stampBytes (frameTicks (b.length - 6)) ++ b)
    s2.wr R.OLK_RXQ_WR (w32 ((w + 1) % s.olkSlots))

/-! ### Firmware blocks (R611 to R615) -/

/-- Buffer `b`. -/
def State.olkBuf (s : State) (b : Nat) : OlkBuf := SMap.get (fun _ => {}) s.olk.bufs b

/-- Store it. -/
def State.setOlkBuf (s : State) (b : Nat) (v : OlkBuf) : State := { s with olk := { s.olk with bufs := SMap.set (fun _ => {}) s.olk.bufs b v } }

/-- Its address. -/
def State.bufAddr (s : State) (b : Nat) : Nat := (s.rd R.OLK_FWB_BASE).toNat + 4096 * b

/-- The buffers lie in the shared region, 4 KiB aligned. -/
def State.bufsOk (s : State) : Bool := (s.rd R.OLK_FWB_BASE).toNat % 4096 == 0 && inRegion (s.rd R.OLK_FWB_BASE).toNat 16384 3

/-- Image tag and block number of a firmware frame. -/
def fwName (pl : List Byte) : BitVec 16 × BitVec 16 := (nth 0 pl 1 ++ nth 0 pl 0, nth 0 pl 3 ++ nth 0 pl 2)

/-- The buffer that assembles a block. -/
def State.bufFor (s : State) (p : Nat) (pl : List Byte) : Option Nat :=
  [0, 1, 2, 3].find? fun b => (s.olkBuf b).fill == some (p, (fwName pl).1, (fwName pl).2)

/-- The buffer a FW_SEG goes to: its block's, else the one this port was filling, else a free one (R612). -/
def State.bufTake (s : State) (p : Nat) (pl : List Byte) : Option Nat :=
  let mine (b : Nat) : Bool := match (s.olkBuf b).fill with
    | some x => x.1 == p
    | none => false
  let free (b : Nat) : Bool := (s.olkBuf b).fill.isNone && !s.rbit R.OLK_FWB_STAT b && !s.rbit R.OLK_FWB_STAT (4 + b)
  if !s.bufsOk then none
  else ((s.bufFor p pl).or ([0, 1, 2, 3].find? mine)).or ([0, 1, 2, 3].find? free)

/-- A FW_SEG is assembled (R612). -/
def State.fwSeg (s : State) (p : Nat) (pl : List Byte) : State :=
  match s.bufTake p pl with
  | none => s
  | some b =>
    let old := s.olkBuf b
    let name := some (p, (fwName pl).1, (fwName pl).2)
    let seg := (nth 0 pl 4).toNat % 128
    let segs := if old.fill == name then old.segs else 0
    (s.setOlkBuf b { old with fill := name, segs := segs ||| BitVec.ofNat 128 (2 ^ seg) }).dmaPuts (s.bufAddr b + 32 * seg) ((pl.drop 8).take 32)

/-- Forward a good block in buffer `b` on the port opposite its arrival (R613). -/
def State.fwForward (s : State) (p b : Nat) (pl : List Byte) : State :=
  let hops := (nth 0 pl 17).toNat + 1
  let q := 1 - p
  if s.fbit F.OLK_CFG_FWD_FW && s.portUp q && (!s.ringOk || decide (hops < s.olkUnits - 1)) then
    let j : OlkJob := { addr := s.bufAddr b, tail := pl.take 17 ++ [BitVec.ofNat 8 hops] ++ (pl.drop 18).take 2, buf := some b }
    let s1 := s.setOlkPort q { s.olkPort q with jobs := (s.olkPort q).jobs ++ [j] }
    (s1.rput R.OLK_FWB_STAT (4 + b) true).kick q
  else s

/-- A FW_BLOCK_END closes its block (R612 to R614). -/
def State.fwEnd (s : State) (p : Nat) (head pl : List Byte) : State :=
  match s.bufFor p pl with
  | none => s
  | some b =>
    let x := s.olkBuf b
    let crc := bytesWord (nth 0 pl 4) (nth 0 pl 5) (nth 0 pl 6) (nth 0 pl 7)
    let s1 := s.setOlkBuf b {}
    if x.segs == BitVec.allOnes 128 && crc32c (s.mgets (s.bufAddr b) 4096) == crc then
      let entry := head ++ pl.take 18 ++ [BitVec.ofNat 8 b] ++ pl.drop 19
      (((s1.rput R.OLK_FWB_STAT b true).olkRxqPut p entry).count 0x1BA 1).fwForward p b pl
    else s1

/-- Firmware releases buffers (R615). -/
def State.fwbRel (s : State) (v : Word) : Nat → State
  | 0 => s
  | n + 1 =>
    let s1 := s.fwbRel v n
    if !v.getLsbD n then s1
    else if s1.rbit R.OLK_FWB_STAT (4 + n) then s1.setOlkBuf n { s1.olkBuf n with rel := true }
    else s1.rput R.OLK_FWB_STAT n false

/-! ### Frames from the chain (R591, R592, R598 to R610) -/

/-- The type is carried along the chain. -/
def chainType (t : Nat) : Bool := t == 1 || t == 2 || t == 5 || t == 6 || t == 7

/-- No buffer is free for a frame (R592, R612, R614). -/
def State.olkNoRoom (s : State) (t p : Nat) (pl : List Byte) : Bool :=
  if t = 3 then (s.bufTake p pl).isNone
  else if t = 4 then s.olkRxqFull
  else (t = 5 || t = 6 || t = 7) && s.rbit R.OLK_RX_FILT t && s.olkRxqFull

/-- Note an accepted sequence of a source (R604, R606). -/
def State.olkSeqNote (s : State) (f : OlkRx) (d : Nat) : State :=
  let u := f.src.val
  let s1 := s.fset (F.OLK_PEER_SEQ_SEQ u) f.seq.toNat
  let s2 := if s.rbit R.OLK_STAT (16 + u) && 1 < d then s1.finc (F.OLK_PEER_SEQ_MISS u) (d - 1) else s1
  let s3 := (s2.rput R.OLK_STAT (16 + u) true).rput R.OLK_STAT (8 + u) true
  s3.setPeer u { s3.peer u with heard := s.time, port := f.port.val, hops := f.hop.toNat }

/-- Forward a chain frame (R600, R601, R608). -/
def State.olkForward (s : State) (t : Nat) (f : OlkRx) : State :=
  let q := 1 - f.port.val
  let ok := if s.ringOk then decide (f.hop.toNat < s.olkUnits - 2) else decide (f.hop.toNat < 6)
  if chainType t && ok then
    (s.olkQueue q { type := t, hop := f.hop.toNat + 1, src := f.src.val, seq := some f.seq, fwd := true, payload := f.payload }).kick q
  else s

/-- What a frame does here. -/
def State.olkEffect (s : State) (t : Nat) (f : OlkRx) (head : List Byte) : State :=
  let pl := f.payload
  let u := f.src.val
  match t with
  | 1 => (s.setPeer u { s.peer u with up0 := (nth 0 pl 1).getLsbD 0, up1 := (nth 0 pl 1).getLsbD 1 }).olkTopo u
  | 2 =>
    let w (i : Nat) : Word := bytesWord (nth 0 pl i) (nth 0 pl (i + 1)) (nth 0 pl (i + 2)) (nth 0 pl (i + 3))
    s.raise C.OLK_PEER_SAFE u { w0 := bytes4 (nth 0 pl 0).toNat (nth 0 pl 1).toNat (nth 0 pl 2).toNat 0, w2 := w 4, w3 := w 8 }
  | 3 => s.fwSeg f.port.val pl
  | 4 => s.fwEnd f.port.val head pl
  | _ => s

/-- A frame is accepted; only chain frames have a sequence window and are evidence of their unit (R604, R606). -/
def State.olkAccept (s : State) (t : Nat) (f : OlkRx) (d : Nat) : State :=
  let p := f.port.val
  let head := olkHead t f.hop.toNat f.src.val f.seq.toNat f.payload.length
  let s1 := ((if chainType t then s.olkSeqNote f d else s).olkAnswer p false f.seq).timeRole
  let s2 := if s1.fbit F.JRN_SRC_EN_OLK_RX && t != 3 then
      s1.raiseFrom C.OLK_FRAME_RX.code p C.OLK_FRAME_RX.cls 0 (olkNote t f.hop.toNat f.src.val f.seq.toNat p f.payload)
        (frameTicks f.payload.length) false
    else s1
  let s3 := (s2.olkEffect t f head).olkForward t f
  (if chainType t && s3.rbit R.OLK_RX_FILT t then s3.olkRxqPut p (head ++ f.payload) else s3).count (0x1B2 + p) 1

/-- A frame of chain or one-hop TYPE `t` is received whole (R591, R592, R601, R604, R605). The ID conflict, the sequence window and the one
port of an intact ring are rules of chain frames; a one-hop frame sent again finds its segment there, or its block closed. -/
def State.olkRx (s : State) (t : Nat) (f : OlkRx) : State :=
  let p := f.port.val
  let u := f.src.val
  if !s.portOn p then s
  else if 64 < f.payload.length then s.finc (F.OLK_PORT_CNT_BAD p) 1
  else if chainType t && u == s.olkUnit then
    (s.olkAnswer p false f.seq).raise C.OLK_ID_CONFLICT u { w0 := bytes4 t f.hop.toNat 0 0 }
  else
    let d := (f.seq - BitVec.ofNat 16 (s.fget (F.OLK_PEER_SEQ_SEQ u))).toNat
    let new := !s.rbit R.OLK_STAT (16 + u) || (decide (1 ≤ d) && decide (d ≤ 32767))
    if chainType t && ((s.ringOk && p = 0) || !new) then s.olkAnswer p false f.seq
    else if s.olkNoRoom t p f.payload then s.olkAnswer p true f.seq
    else s.olkAccept t f d

/-- OLK_BAD_FRAME (R591). -/
def execOlkBadFrame (p : Fin 2) (s : State) : Host.Outcome State Fault Refusal :=
  .next (if s.portOn p.val then s.finc (F.OLK_PORT_CNT_BAD p.val) 1 else s)
/-- OLK_STATUS (R606). -/
def execOlkStatus (f : OlkRx) (s : State) : Host.Outcome State Fault Refusal := .next (s.olkRx 1 f)
/-- OLK_FAULT (R608, R610). -/
def execOlkFault (f : OlkRx) (s : State) : Host.Outcome State Fault Refusal := .next (s.olkRx 2 f)
/-- OLK_FW_SEG (R612). -/
def execOlkFwSeg (f : OlkRx) (s : State) : Host.Outcome State Fault Refusal := .next (s.olkRx 3 f)
/-- OLK_FW_BLOCK_END (R612). -/
def execOlkFwBlockEnd (f : OlkRx) (s : State) : Host.Outcome State Fault Refusal := .next (s.olkRx 4 f)
/-- OLK_ACTIVATE (R650): firmware passes it to the update block. -/
def execOlkActivate (f : OlkRx) (s : State) : Host.Outcome State Fault Refusal := .next (s.olkRx 5 f)
/-- OLK_UPDATE_REVERTED (R663). -/
def execOlkUpdateReverted (f : OlkRx) (s : State) : Host.Outcome State Fault Refusal := .next (s.olkRx 6 f)
/-- OLK_APP (R598). -/
def execOlkApp (f : OlkRx) (s : State) : Host.Outcome State Fault Refusal := .next (s.olkRx 7 f)

/-! ### Own STATUS and FAULT, lost peers, ring (R603, R606, R607) -/

/-- The last chain sequence accepted from each unit, as STATUS carries it. -/
def State.seqSeen (s : State) (u : Nat) : List Byte :=
  halfBytes (if u = s.olkUnit || !s.rbit R.OLK_STAT (16 + u) then 0xFFFF else s.fget (F.OLK_PEER_SEQ_SEQ u))

/-- The payload of the unit's own STATUS. -/
def State.olkStatusPayload (s : State) : List Byte :=
  let mode := s.seq.mode.code + 16 * s.seq.sub.code + 128 * b2n s.seq.safeLatch
  let flags := b2n (s.portUp 0) + 2 * b2n (s.portUp 1) + 4 * b2n (s.fbit F.CLV_STATUS_LOCKED) + 8 * b2n (s.fbit F.HIF_STAT_HOST_LOST) +
    16 * b2n (s.fbit F.SYS_ARM_STAT_TORQUE_READY)
  wordBytes (bytes4 mode flags 0 0) ++ wordBytes s.tmu.tApp ++ wordBytes s.torqueLimit ++ wordBytes (s.sget 0x144) ++
    (List.range 8).flatMap s.seqSeen

/-- OLK_STATUS_SEND (R606). -/
def execOlkStatusSend (s : State) : Host.Outcome State Fault Refusal :=
  .next (if s.olkOn && s.past s.olk.statAt (usTicks (100 * s.fget F.OLK_STAT_PER_PER)) then
    ({ s with olk := { s.olk with statAt := s.time } }).olkSend 1 s.olkStatusPayload
  else s)

/-- No chain frame from unit `u` for OLK_PEER_TMO (R606). -/
def State.peerLost (s : State) (u : Nat) : State :=
  if s.olkOn && s.heard u && s.past (s.peer u).heard (msTicks (s.fget F.OLK_PEER_TMO_MS)) then
    let s1 := (s.rput R.OLK_STAT (8 + u) false).rput R.OLK_STAT (16 + u) false
    (s1.raise C.OLK_PEER_LOST u { w0 := halves (s.fget (F.OLK_PEER_SEQ_SEQ u)) 0 }).olkTopo s.olkUnit
  else s

/-- OLK_PEER_LOST (R606). -/
def execOlkPeerLost (u : Fin 8) (s : State) : Host.Outcome State Fault Refusal := .next (s.peerLost u.val)

/-- OLK_RING_RESTORED (R603). -/
def execOlkRingRestored (s : State) : Host.Outcome State Fault Refusal :=
  .next (if s.ringCond && !s.ringOk && s.lasted s.olk.ringSince (msTicks 100) then
    ((s.fput F.OLK_STAT_RING_OK true).raise C.OLK_RING_RESTORED 255 {}).timeRole
  else s)

/-- OLK_FAULT_SEND (R607): on every port that is up. -/
def execOlkFaultSend (s : State) : Host.Outcome State Fault Refusal :=
  .next (match s.olk.faultDue with
    | some b =>
      let s1 := { s with olk := { s.olk with faultDue := none } }
      if s1.olkOn then s1.olkSendOn [0, 1] 2 b else s1
    | none => s)

/-! ### Firmware's queue (R611) -/

/-- A TX slot is taken. -/
def State.olkTxSlot (s : State) (a : Nat) : State :=
  let t := (s.mget (a + 16)).toNat
  let pl := s.mgets (a + 22) (min 64 (s.mget (a + 21)).toNat)
  if t = 4 then
    let addr := bytesWord (nth 0 pl 16) (nth 0 pl 17) (nth 0 pl 18) (nth 0 pl 19)
    let j : OlkJob := { addr := addr.toNat, tail := pl.take 16 ++ [BitVec.ofNat 8 s.olkUnit, 0, 0, 0] }
    (s.ownPorts.foldl (fun s p => if s.portUp p then s.setOlkPort p { s.olkPort p with jobs := (s.olkPort p).jobs ++ [j] } else s) s).kicks
  else if 1 ≤ t && t ≤ 7 then s.olkSend t pl
  else s

/-- Take the slots that wait, at most `n`; the queue pauses with P2 (R619). -/
def State.olkTxq (s : State) : Nat → State
  | 0 => s
  | n + 1 =>
    let k := 2 ^ s.fget F.OLK_TXQ_CFG_LOG2
    let r := (s.rd R.OLK_TXQ_RD).toNat % k
    if !s.olkOn || s.p2Paused || r = (s.rd R.OLK_TXQ_WR).toNat % k then s
    else ((s.wr R.OLK_TXQ_RD (w32 ((r + 1) % k))).olkTxSlot ((s.rd R.OLK_TXQ_BASE).toNat + olkSlot * r)).olkTxq n

/-! ### The time exchange (R46 to R49, R599) -/

/-- What a unit says of itself in TIME_REQ. -/
def State.timeInfo (s : State) : List Byte :=
  let role := s.fget F.CLV_STATUS_ROLE
  [BitVec.ofNat 8 s.olkUnit, BitVec.ofNat 8 (if role = 0 then 7 else s.fget F.CLV_STATUS_HOPS), BitVec.ofNat 8 role,
    BitVec.ofNat 8 (b2n (s.fbit F.CLV_STATUS_LOCKED))]

/-- TIME_EXCHANGE: every 1 ms a follower asks its neighbour toward the master. -/
def State.timeExchange (s : State) : State :=
  let s0 := s.timeRole
  let p := s0.fget F.CLV_STATUS_PORT
  if s0.fget F.CLV_STATUS_ROLE = 2 && s0.portUp p && s0.past s0.clv.lastStart (msTicks 1) then
    ({ s0 with clv := { s0.clv with lastStart := s0.time, exchange := none } }).olkLink p 0x81 s0.timeInfo
  else s0

/-- TIME_EXCHANGE (R46). -/
def execTimeExchange (s : State) : Host.Outcome State Fault Refusal := .next (if s.olkOn then s.timeExchange else s)

/-- A TIME_REQ is answered (R599). -/
def State.timeReq (s : State) (p : Nat) (seq : Byte) : State :=
  let t2 : Tick := BitVec.ofNat 64 (s.now - frameTicks 4)
  let pl := wordBytes (loWord t2) ++ wordBytes (hiWord t2) ++ List.replicate 8 (0 : Byte) ++ s.timeInfo ++ wordBytes (w32 s.timeMaster)
  ((s.olkAnswer p false (seq.setWidth 16)).olkLink p 0x82 pl).count (0x1B2 + p) 1

/-- OLK_TIME_REQ (R599). -/
def execOlkTimeReq (p : Fin 2) (seq : Byte) (_ : TimeInfo) (s : State) : Host.Outcome State Fault Refusal :=
  .next (if s.portOn p.val then s.timeReq p.val seq else s)

/-- The exchange is evaluated (R46 to R49); `d` is 2 θ in ticks. The rate points to where θ is zero; how large it is within its limit is not
stated. -/
def State.timeServo (s : State) (d : Int) : State :=
  let x := 8 * d
  let s0 := { s with clv := { s.clv with lastDone := s.time, exchange := none } }
  let s1 : State := if -(2 ^ 31) ≤ x ∧ x < 2 ^ 31 then s0.wr R.CLV_OFFSET (BitVec.ofInt 32 x) else s0.fresh.2.wr R.CLV_OFFSET (s0.fresh.1.setWidth 32)
  let s2 : State := if d.natAbs ≤ 3200 then
      let r : Int := d.sign * Int.ofNat (s1.fresh.1.toNat % 500000 + 1)
      s1.fresh.2.wr R.CLV_RATE (BitVec.ofInt 32 r)
    else if 0 < d then s1.clvStep (d.natAbs / 2)
    else s1
  let s3 : State := s2.count 0x1BC 1
  if d.natAbs ≤ 16 then
    let n := if s3.clv.goodRun < 8 then s3.clv.goodRun + 1 else 8
    let s4 := { s3 with clv := { s3.clv with goodRun := n } }
    if n = 8 && !s4.fbit F.CLV_STATUS_LOCKED then
      (s4.fput F.CLV_STATUS_LOCKED true).raise C.CLV_SYNC_LOCKED 0 { w0 := s4.rd R.CLV_OFFSET, w1 := w32 (s4.fget F.CLV_STATUS_HOPS) }
    else s4
  else
    let s4 := { s3 with clv := { s3.clv with goodRun := 0 } }
    if 80 < d.natAbs then s4.syncLost else s4

/-- A TIME_RESP completes an exchange. -/
def State.timeResp (s : State) (p : Nat) (seq : Byte) (t2 t3 : Nat) : State :=
  let s1 := (s.olkAnswer p false (seq.setWidth 16)).count (0x1B2 + p) 1
  match s.clv.exchange with
  | some t1 =>
    let t4 : Int := Int.ofNat (s.now - frameTicks 24)
    if s.fget F.CLV_STATUS_PORT = p then s1.timeServo ((Int.ofNat t2 - Int.ofNat t1) - (t4 - Int.ofNat t3)) else s1
  | none => s1

/-- OLK_TIME_RESP (R46). -/
def execOlkTimeResp (p : Fin 2) (seq : Byte) (t2 t3 : BitVec 64) (_ : TimeInfo) (s : State) : Host.Outcome State Fault Refusal :=
  .next (if s.portOn p.val then s.timeResp p.val seq t2.toNat t3.toNat else s)

/-- OLK_PROBE (R592, R597). -/
def execOlkProbe (p : Fin 2) (seq : Byte) (s : State) : Host.Outcome State Fault Refusal :=
  .next (if s.portOn p.val then s.olkAnswer p.val false (seq.setWidth 16) else s)

/-! ### Enabling and waking (R597, R617) -/

/-- Why EN is refused: the offset of a queue base. -/
def State.olkBad (s : State) : Option Nat :=
  let queue (base cfg off : Nat) : Option Nat := if base % 64 = 0 && inRegion base (olkSlot * 2 ^ cfg) 3 then none else some off
  (queue (s.rd R.OLK_RXQ_BASE).toNat (s.fget F.OLK_RXQ_CFG_LOG2) 0x100).or (queue (s.rd R.OLK_TXQ_BASE).toNat (s.fget F.OLK_TXQ_CFG_LOG2) 0x110)

/-- Both ports down, the ring not intact. -/
def State.olkDown (s : State) : State :=
  let s1 := ((s.setPortUp 0 false).setPortUp 1 false).fput F.OLK_STAT_RING_OK false
  ({ s1 with olk := { s1.olk with p0 := {}, p1 := {}, ringSince := none, statAt := s.time } }).timeRole

/-- OLK_CTRL has been written; `was`: EN before. -/
def State.olkCtrl (s : State) (was : Bool) : State :=
  let en := s.fbit F.OLK_CTRL_EN
  if en == was then s
  else if !en then s.olkDown
  else
    match s.olkBad with
    | some off => (s.fput F.OLK_CTRL_EN false).raise C.HIF_CFG_INVALID 255 { w0 := halves off 0 }
    | none => s.olkDown.olkTxq 256

/-- OLK_WAKE is written (R617). -/
def State.olkWake (s : State) : State := { s with olk := { s.olk with wakeUntil := s.time + usTicks 50 } }

end Sys2Proof.Machine
end

