-- ==== Sys2Proof/Machine/Operands.lean ====
section
/-! DEFINITION. The operand forms of the commands that are bus accesses: who the master is and what it may write (R31 to R36, R71), where an address lies (R6, R34, R716), and the write of a register by its access codes (R9, R10). -/

namespace Sys2Proof.Machine

/-! ### Masters -/

/-- The unit a core belongs to: its pair, or in Triangle mode TX (0) for a leading and TY (2) for a trailing core (R524). -/
def State.unitOfCore (s : State) (p : Nat) (h : Half) : Nat :=
  if s.triangle then (match h with
    | .leading => 0
    | .trailing => 2)
  else p

/-- The core that acts, 2p or 2p + 1: a joined pair acts as core 2p, TX as core 0 and TY as core 5 (R71, R524). -/
def State.coreOf (s : State) (p : Nat) (h : Half) : Nat :=
  if s.triangle then (match h with
    | .leading => 0
    | .trailing => 5)
  else if s.lksSt p = 3 then (match h with
    | .leading => 2 * p
    | .trailing => 2 * p + 1)
  else 2 * p

/-- The number of a master: a core 0 to 5, a DMA engine 6 to 8, the boot ROM 9. -/
def State.masterNum (s : State) (m : Master) : Nat :=
  match m with
  | .core p h _ => s.coreOf p.val h
  | .dma .hif => 6
  | .dma .olk => 7
  | .dma .nvc => 8
  | .bootRom => 9

/-- The pair of a master as SYS_FW_VIOL names it: 3 for DMA. -/
def State.masterPair (s : State) (m : Master) : Nat :=
  match m with
  | .core p h _ => s.unitOfCore p.val h
  | _ => 3

/-- The pairs whose rights a unit has: its own, and those of a pair it has taken over (R513, R524). -/
def State.rolesOf (s : State) (u : Nat) : List Nat :=
  let own := if s.triangle then (if u = 2 then [2] else [0, 1]) else [u]
  let f := s.fget (F.LKS_PAIR_STAT_FOR_P u)
  if f ≤ 2 ∧ s.fbit (F.LKS_PAIR_STAT_TAKEN f) = true then f :: own else own

/-- The rights a master has as pairs; none for DMA. -/
def State.roles (s : State) (m : Master) : List Nat :=
  match m with
  | .core p h _ => s.rolesOf (s.unitOfCore p.val h)
  | _ => []

/-- An access of the master to the D-die is in flight: it stalls (R20). -/
def State.stalled (s : State) (m : Master) : Bool := s.idl.accesses.any fun x => s.masterNum x.master == s.masterNum m

/-- The cores that act together as a unit does: one core of a split pair, else all of them. -/
def State.actingCores (s : State) (p : Nat) (h : Half) : List Nat :=
  if s.lksSt p = 3 && !s.triangle then [s.coreOf p h] else [2 * p, 2 * p + 1]

/-- A core of the acting unit is halted by DBG and not stepped (R707). -/
def State.debugHalted (s : State) (p : Nat) (h : Half) : Bool :=
  (s.actingCores p h).any fun c => s.jtag.halted.getLsbD c && !s.jtag.stepped.getLsbD c

/-- An access of the master uses up a step of DBG (R707). -/
def State.spend (s : State) (m : Master) : State :=
  match m with
  | .core p h _ => if s.jtag.stepped = 0 then s else
      { s with jtag.stepped := (s.actingCores p h).foldl (fun w c => w &&& ~~~ (BitVec.ofNat 6 (2 ^ c))) s.jtag.stepped }
  | _ => s

/-- The master can issue an access now: the L-die runs; a core is not frozen, restarting, held by the Gong, halted or stalled
(R20, R501, R510, R519, R654, R675, R707); the boot ROM until it has started firmware (R106). -/
def State.issues (s : State) (m : Master) : Bool :=
  !s.lDead && (match m with
    | .core p h _ =>
      let u := s.unitOfCore p.val h
      !s.pairFrozen u && !s.restarting u && !(s.fbit F.PMC_GNG_STAT_FROZEN && u != 0) && !s.debugHalted p.val h && !s.stalled m
    | .dma _ => true
    | .bootRom => s.seq.boot != .running)

/-- Who writes: the pairs whose rights it has, its core, whether it is the boot ROM, and the bits hardware sets in the same
cycle (R10). -/
structure WriteBy where
  roles : List Nat
  core : Nat
  boot : Bool
  hw : Word
deriving DecidableEq, Repr

/-- The writer that a master is. -/
def State.writer (s : State) (m : Master) (hw : Word) : WriteBy :=
  { roles := s.roles m, core := s.masterNum m, boot := m == .bootRom, hw := hw }

/-! ### Places -/

/-- The index of an element of an array at `base` with a stride. -/
def slotOf (base stride n a : Nat) : Option Nat :=
  if base ≤ a ∧ offs a base % stride = 0 ∧ offs a base / stride < n then some (offs a base / stride) else none

/-- The regions of the address map (R31, R32, R34). -/
inductive Place where
  | rom
  /-- The SRAM region of a pair. -/
  | pair (p : Nat)
  | shared | retained | journal
  | peripheral
  | hole
deriving DecidableEq, Repr

/-- The region of an address. -/
def placeOf (a : Nat) : Place :=
  if a < 0x10000 then .rom
  else if a < 0x10000000 then .hole
  else if a < 0x10200000 then .pair 0
  else if a < 0x10500000 then .pair 1
  else if a < 0x10A00000 then .pair 2
  else if a < 0x10C00000 then .shared
  else if a < 0x10C40000 then .retained
  else if a < 0x10D00000 then .hole
  else if a < 0x10D22000 then .journal
  else if a < 0x20000000 then .hole
  else if a < 0x20200000 then .peripheral
  else .hole

/-- The bytes of an access. -/
def AccSize.bytes (z : AccSize) : Nat :=
  match z with
  | .byte => 1
  | .half => 2
  | .word => 4

/-- The index of a peripheral's block in the ownership table. -/
def blockOf (a : Nat) : Nat :=
  match offs a 0x20000000 / 65536 with
  | 0 => 0
  | 1 => 1
  | 2 => 2
  | 3 => 3
  | 4 => if a < 0x20048000 then 4 else 5
  | 5 => 6
  | 6 => if a < 0x20068000 then 7 else 8
  | 7 => 9
  | 8 => 10
  | 9 => 11
  | 10 => 12
  | 11 => 13
  | 12 => 14
  | 13 => 15
  | 14 => 16
  | 15 => if a < 0x200F8000 then 17 else 18
  | 16 => 19
  | 17 => 20
  | 18 => 21
  | 19 => 22
  | 20 => 23
  | 21 => 24
  | _ => 25

/-- The register at an address lies on the D-die (R20). -/
def RegMap.dDie (a : Nat) : Bool :=
  match RegMap.find a with
  | some r => r.dDie
  | none => false

/-! ### The firewall (R32, R33, R513) -/

/-- One of the pairs may write block `i`. -/
def State.blockOpen (s : State) (ps : List Nat) (i : Nat) : Bool := ps.any fun p => s.rbit (R.SYS_FW_BLK_WR p) i

/-- One of the pairs owns element `k` of an ownership register at `a`. -/
def State.owns (s : State) (ps : List Nat) (a k : Nat) : Bool := ps.contains (bits (s.rd a) (2 * k + 1) (2 * k))

/-- The ownership table covers the address: it lies in a block, and in an element where the block is owned by element (R32). -/
def guarded (a : Nat) : Bool :=
  match blockOf a with
  | 6 => decide (offs a 0x20050000 / 256 < 128)
  | 11 => decide (a < 0x20090100) || decide (offs a 0x20090100 / 128 < 12)
  | 25 => decide (0x201F0000 ≤ a)
  | _ => true

/-- The firewall passes a write of a register; none goes through the SMB window (R22). -/
def State.mayWrite (s : State) (m : Master) (a : Nat) : Bool :=
  match m with
  | .bootRom => blockOf a != 5
  | .dma _ => false
  | .core _ _ machine =>
    let ps := s.roles m
    match blockOf a with
    | 5 => false
    | 6 => let n := offs a 0x20050000 / 256; s.owns ps (R.SYS_FW_CLE_OWN (n / 16)) (n % 16)
    | 8 => s.owns ps R.SYS_FW_COEF_OWN (offs a 0x20068000 / 2048)
    | 11 => if a < 0x20090100 then ps.contains 0 else s.owns ps R.SYS_FW_TG_OWN (offs a 0x20090100 / 128)
    | 19 => machine
    | i => s.blockOpen ps i && (!RegMap.dDie a || ps.contains 0)

/-- The firewall passes a write to SRAM or the boot ROM. -/
def State.mayStore (s : State) (m : Master) (a : Nat) : Bool :=
  match placeOf a with
  | .pair p => m == .bootRom || (s.roles m).contains p
  | .shared => true
  | .retained => (match m with
      | .core _ _ machine => machine && (s.roles m).contains 0
      | .dma _ => false
      | .bootRom => true)
  | _ => false

/-! ### Answers -/

/-- The access ends well. -/
def State.busOk (s : State) (d : Word) : State := { s with bus := { err := false, data := d } }

/-- The access ends with a bus error (R6, R34). -/
def State.busErr (s : State) : State := { s with bus := { err := true, data := 0 } }

/-- A denied write: SYS_FW_VIOL, FW_WRITE_DENIED and a bus error (R32). -/
def State.denied (s : State) (m : Master) (a : Nat) : State :=
  (s.deniedBy (s.masterPair m) a).busErr

/-- What every access to a register does beside its own effect: it breaks the seal and Rattle keys (R486, R681). -/
def State.accessed (s : State) (a : Nat) (write : Bool) : State :=
  let s1 := if a = R.SMA_SEAL_KEY || a = R.SMA_SEAL_PROG then s else s.sealBreak
  if blockOf a = 25 && !(write && a = R.RTL_KEY) && s1.rtl.key then { s1 with rtl := { s1.rtl with key := false } } else s1

/-- A write in the peripheral range that the firewall denies (R32), mapped or not. -/
def State.barred (s : State) (m : Master) (a : Nat) : Bool := guarded a && !s.mayWrite m a

/-- A write of the register at `a`: the gate of R6, R32 and R34, then its effect. A master that cannot issue does nothing. -/
def State.writeAs (s0 : State) (m : Master) (a : Nat) (eff : State → State) : State :=
  if !s0.issues m then s0
  else
    let s := s0.spend m
    if s.barred m a then s.denied m a
    else if (RegMap.find a).isNone then s.busErr
    else (eff (s.accessed a true)).busOk 0

/-! ### The access codes (R9, R10) -/

/-- The bits of a register that a write takes as they are. -/
def RegSpec.takes (r : RegSpec) (sealedOpen service : Bool) : Word :=
  r.mask fun k => k == .rw || (k == .rws && sealedOpen) || (k == .rwm && service)

/-- The value a write leaves, by the access codes. -/
def RegSpec.written (r : RegSpec) (old v hw : Word) (sealedOpen service : Bool) : Word :=
  let t := r.takes sealedOpen service
  let c := r.mask fun k => k == .w1c
  let o := r.mask fun k => k == .w1s
  (old &&& ~~~ (t ||| c)) ||| (v &&& t) ||| (((old &&& ~~~ v) ||| hw) &&& c) ||| (v &&& o)

/-- Write a register by its access codes; the boot ROM loads sealed registers (R485). -/
def State.plainWrite (s : State) (w : WriteBy) (a : Nat) (v : Word) : State :=
  match RegMap.find a with
  | none => s
  | some r => s.wr a (r.written (s.rd a) v w.hw (s.unsealed || w.boot) (s.inMode .service))

/-- The value to write with a field kept as it is where `c` holds. -/
def State.keep (s : State) (c : Bool) (f : Fld) (v : Word) : Word := if c then putBits v f.hi f.lo (s.fget f) else v

/-- A field keeps its value where the one written lies out of its range, as the register's table says. -/
def State.ranged (s : State) (f : Fld) (lo hi : Nat) (v : Word) : Word := s.keep (!within (fldOf f v) lo hi) f v

/-- One of the signal indices written is reserved (R128). -/
def sigBad (v : Word) (los : List Nat) : Bool := los.any fun l => sigReserved (bits v (l + 8) l)

end Sys2Proof.Machine
end

