-- ==== Sys2Proof/Machine/Flags.lean ====
section
/-! DEFINITION. The flags and status fields that the device forms when they are read, and what a read does: read-clear fields (R11) and latched halves (R41, R671). -/

namespace Sys2Proof.Machine

/-- SYS_MODE (R78, R87, R89). -/
def State.modeWord (s : State) : Word :=
  w32 (s.seq.mode.code + 16 * s.seq.sub.code + 1024 * b2n s.seq.redPend + 2048 * b2n s.seq.safeLatch)

/-- SYS_EN_STAT.DISC_MS: the discrepancy that SMON-A sees, in ms. -/
def State.discMs (s : State) : Nat :=
  match s.safe.a.diffSince with
  | none => 0
  | some t => satAdd ((s.time - t) / msTicks 1) 0 255

/-- Numbers whose test holds, as bits. -/
def maskOf (n : Nat) (f : Nat → Bool) : Word :=
  (List.range n).foldl (fun w k => if f k then w ||| w32 (2 ^ k) else w) 0

/-- CLE_GLB_LANE_FLT: faults of each lane in the last 1 s (R171). -/
def State.laneFaults (s : State) : Word :=
  let n (l : Nat) : Nat := satAdd ((s.lane l).faults.filter fun t => decide (s.time < t + msTicks 1000)).length 0 255
  bytes4 (n 0) (n 1) (n 2) (n 3)

/-- A count of events in the retirement window as a 4-bit field (R506, R528). -/
def State.winCount (s : State) (l : List Nat) : Nat := satAdd (s.inWin l).length 0 15

/-- LKS_TRI_DCNT[t] (R528). -/
def State.dissents (s : State) (t : Nat) : Word :=
  let r := s.lksP (unitOfTriad t)
  w32 (s.winCount r.dis0 + 256 * s.winCount r.dis1 + 65536 * s.winCount r.dis2)

/-- SMA_WD_STAT[p] or SMB_WD_STAT[p] with the hold timer as it stands (R475). -/
def State.wdStat (s : State) (c : Chan) (p : Nat) (old : Word) : Word := putBits old 31 16 (s.wdHold c p)

/-- SUP_STAT: VBAT's hold level holds while the device runs; the rails as last reported; where no event reports a return, `free`
(R548). -/
def State.supStat (s : State) (free : Nat) : Word :=
  let ok (k : Nat) : Bool := if k = 1 then true else if 3 ≤ k ∧ k ≤ 6 then !s.thm.out.getLsbD k else free.testBit k
  maskOf 8 ok

/-- The value a register shows, where that is more than what is stored; a free value moves the counter on. -/
def State.view (s : State) (a : Nat) : Word × State :=
  let old := s.rd a
  if a = R.SYS_MODE then (s.modeWord, s)
  else if a = R.SYS_EN_STAT then (putBits old 9 2 s.discMs, s)
  else if a = R.CLV_NOW_LO then (loWord s.clave, s)
  else if a = R.CLV_NOW_HI then (hiWord s.clave, s)
  else if a = R.CLV_RATE then (BitVec.ofInt 32 s.rateNow, s)
  else if a = R.CLE_GLB_LANE_FLT then (s.laneFaults, s)
  else if a = R.TMU_BC_USED then (w32 (satAdd s.bcUsed 0 (2 ^ 20 - 1)), s)
  else if a = R.GDR_ABC_STAT then (putBits old 31 12 (satAdd s.abcUsed 0 (2 ^ 20 - 1)), s)
  else if a = R.SUP_STAT then
    let f := s.fresh
    (f.2.supStat f.1.toNat, f.2)
  else if a = R.SUP_VBAT || a = R.SUP_VGD then
    let f := s.fresh
    (f.1.setWidth 32, f.2)
  else
    match blockOf a with
    | 3 =>
      match slotOf (R.LKS_PAIR_STAT 0) 64 3 a, slotOf (R.LKS_TRI_DCNT 0) 16 2 a with
      | some p, _ => (putBits old 11 8 (s.winCount (s.lksP p).times), s)
      | _, some t => (s.dissents t, s)
      | _, _ => (old, s)
    | 4 =>
      match slotOf (R.SMA_WD_STAT 0) 16 3 a with
      | some p => (s.wdStat .smonA p old, s)
      | none => (old, s)
    | 5 =>
      match slotOf (R.SMB_WD_STAT 0) 16 3 a with
      | some p => (s.wdStat .smonB p old, s)
      | none => (old, s)
    | 6 =>
      match slotOf (R.CLE_CTX_STAT 0) 256 128 a with
      | some n => (putBits old 9 9 (b2n (s.swapPend n)), s)
      | none => (old, s)
    | 7 =>
      match slotOf (R.CLE_GLB_INUSE 0) 4 32 a, slotOf (R.CLE_GLB_LOAD 0) 4 4 a with
      | some j, _ => (maskOf 32 fun k => s.secInUse (32 * j + k) 128, s)
      | _, some l => ((s.laneSync l).rd a, s.laneSync l)
      | _, _ => (old, s)
    | 11 =>
      match slotOf (R.PWM_GRP_CNT 0) 128 12 a with
      | some g => (if (s.grp g).running then w32 (s.carrier g 0) else 0, s)
      | none => (old, s)
    | 19 =>
      if a < R.PMC_MODE 0 then
        let v := s.pmcValue (offs a (R.PMC_CNT_LO 0) / 8)
        (if a % 8 = 0 then v.setWidth 32 else (v >>> 32).setWidth 32, s)
      else if R.PMC_GNG_WIN 0 ≤ a then (SMap.get (fun _ => 0) s.gong.win (offs a (R.PMC_GNG_WIN 0) / 4), s)
      else (old, s)
    | _ => (old, s)

/-- The address is the LO register of a 64-bit pair whose HI register follows it (R41). -/
def isLo (a : Nat) : Bool :=
  a == R.CLV_NOW_LO || a == R.PMC_GNG_CAUSE_LO || (slotOf (R.CLE_CTX_STAMP_LO 0) 256 128 a).isSome ||
    (slotOf (R.PFB_HALL_STAMP_LO 0) 32 3 a).isSome || (slotOf (R.PFB_CMP_STAMP_LO 0) 32 8 a).isSome ||
    (slotOf (R.LKS_PAIR_STAMP_LO 0) 64 3 a).isSome || (slotOf (R.LKS_PAIR_VCNT_LO 0) 64 3 a).isSome ||
    (slotOf (R.ADC_SEQ_STAMP_LO 0) 64 32 a).isSome || (slotOf (R.PWM_GRP_EVSTAMP_LO 0) 128 12 a).isSome

/-- The key of a master's latch of a LO register. -/
def latchKey (m lo : Nat) : Nat := 2 ^ 32 * m + lo

/-- A read of a LO register latches the upper half for master `m`; the master's next read of HI takes it (R41). With nothing latched a read of HI
shows the live upper half. DESIGN CHOICE: log entry 120. -/
def State.readHalf (s : State) (m a : Nat) (v : Word) : Word × State :=
  if isLo a then
    (v, { s with clv.latchHi := SMap.set (fun _ => none) s.clv.latchHi (latchKey m a) (some (s.view (a + 4)).1) })
  else if 4 ≤ a ∧ isLo (a - 4) = true then
    match SMap.get (fun _ => none) s.clv.latchHi (latchKey m (a - 4)) with
    | some h => (h, { s with clv.latchHi := SMap.set (fun _ => none) s.clv.latchHi (latchKey m (a - 4)) none })
    | none => (v, s)
  else (v, s)

/-- A read of a counter's LO latches bits 47:32 for master `m`; its next read of that counter's HI takes them (R671). -/
def State.readCounter (s : State) (m n : Nat) (hi : Bool) : Word × State :=
  let v := s.pmcValue n
  let put (x : Nat × BitVec 16) : State := { s with pmc := { s.pmc with latch := SMap.set (fun _ => (0, 0)) s.pmc.latch m x } }
  if !hi then (v.setWidth 32, put (n + 1, (v >>> 32).setWidth 16))
  else
    let l := SMap.get (fun _ => (0, 0)) s.pmc.latch m
    if l.1 = n + 1 then (l.2.setWidth 32, put (0, 0)) else ((v >>> 32).setWidth 32, s)

/-- The read-clear bits of a register. -/
def RegMap.rcMask (a : Nat) : Word :=
  match RegMap.find a with
  | some r => r.mask fun k => k == .rc
  | none => 0

/-- Read-clear fields are left with what hardware adds in the same cycle (R11). -/
def State.clearRead (s : State) (a : Nat) (added : Word) : State :=
  let k := RegMap.rcMask a
  if k = 0 then s else s.wr a ((s.rd a &&& ~~~ k) ||| (added &&& k))

/-- Master number `m` reads the register at `a`: the value and what the read does. -/
def State.readReg (s : State) (m a : Nat) (added : Word) : Word × State :=
  if R.PMC_CNT_LO 0 ≤ a ∧ a < R.PMC_MODE 0 then s.readCounter m (offs a (R.PMC_CNT_LO 0) / 8) (a % 8 != 0)
  else
    let v := s.view a
    let r := v.2.readHalf m a v.1
    (r.1, r.2.clearRead a added)

end Sys2Proof.Machine
end

