-- ==== Sys2Proof/Machine/WriteSys.lean ====
section
/-! DEFINITION. What a write does in the blocks SYS, CLV, JRN, LKS and SMA, beyond its access codes (spec/01, 02, 03, 11, 12). -/

namespace Sys2Proof.Machine

/-! ### SYS -/

/-- SYS_RST (R117): the software reset, where the mode permits it. -/
def State.softReset (s : State) (v : Word) (f : FlashBoot) : State :=
  if !v.getLsbD 0 then s
  else if s.inMode .arming || s.inMode .service || s.inMode .safeHold then s.lPulse .software false f
  else s.modeRefused 0 6 1

/-- The firewall registers: the boot ROM's before LOCK (spec/01, Firewall registers); VIOL is cleared by its writer. -/
def State.writeFw (s : State) (w : WriteBy) (a : Nat) (v : Word) : State :=
  if a = R.SYS_FW_VIOL then s.plainWrite w a v
  else if !w.boot || s.fbit F.SYS_FW_CTRL_LOCK then s
  else if decide (R.SYS_FW_BLK_WR 0 ≤ a) && decide (a ≤ R.SYS_FW_BLK_WR 2) then s.wr a (fwFixed (offs a (R.SYS_FW_BLK_WR 0) / 4) v)
  else s.plainWrite w a v

/-- A write to SYS. -/
def State.writeSys (s : State) (w : WriteBy) (a : Nat) (v : Word) : State :=
  if a = R.SYS_MODE_REQ then s.modeReqWrite (bits v 3 0)
  else if a = R.SYS_RST then s.freeBoot.2.softReset v s.freeBoot.1
  else if a = R.SYS_TEST_REQ then s.testReq (bits v 1 0)
  else if a = R.SYS_SLEEP_CFG then s.wr a (w32 (min (bits v 9 0) 600))
  else if R.SYS_FW_CTRL ≤ a then s.writeFw w a v
  else s.plainWrite w a v

/-! ### CLV -/

/-- CLV_CTRL: a SRC of 3 is ignored; the role follows (R54). -/
def State.writeClvCtrl (s : State) (w : WriteBy) (v : Word) : State :=
  (s.plainWrite w R.CLV_CTRL (s.keep (fldOf F.CLV_CTRL_SRC v = 3) F.CLV_CTRL_SRC v)).timeRole

/-- CLV_ALARM_HI: the alarm takes both halves and is armed again (R45). -/
def State.writeAlarmHi (s : State) (v : Word) : State :=
  let s1 := s.wr R.CLV_ALARM_HI v
  { s1 with clv := { s1.clv with alarm := tickOf (s1.rd R.CLV_ALARM_LO) v, alarmArmed := true } }

/-- CLV_ALARM_CTRL: EN from 0 to 1 arms again (R45). -/
def State.writeAlarmCtrl (s : State) (w : WriteBy) (v : Word) : State :=
  let s1 := s.plainWrite w R.CLV_ALARM_CTRL v
  if !s.fbit F.CLV_ALARM_CTRL_EN && v.getLsbD 0 then { s1 with clv := { s1.clv with alarmArmed := true } } else s1

/-- CLV_PTP_RATE: the mapping with the BASE values written before it applies (R55). -/
def State.writePtpRate (s : State) (v : Word) : State :=
  let s1 := s.wr R.CLV_PTP_RATE v
  { s1 with
    clv := { s1.clv with
      ptpClv := tickOf (s1.rd R.CLV_PTP_BASE_CLV_LO) (s1.rd R.CLV_PTP_BASE_CLV_HI)
      ptpNs := tickOf (s1.rd R.CLV_PTP_BASE_NS_LO) (s1.rd R.CLV_PTP_BASE_NS_HI)
      ptpRate := v } }

/-- A period of a Clave periodic or rate generator that the device accepts (R713). -/
def perOk (v : Word) : Bool := within v.toNat 40000 80000000

/-- The periodic raises from the present Clave on. -/
def State.perFrom (s : State) (n : Nat) : State :=
  { s with clv := { s.clv with perLast := SMap.set (fun _ => 0) s.clv.perLast n (s.now + 1) } }

/-- CLV_PER_PERIOD[n]: out of range ignored while the periodic is enabled (R713). -/
def State.writePerPeriod (s : State) (n : Nat) (v : Word) : State :=
  if s.fbit (F.CLV_PER_CTRL_EN n) && !perOk v then s else (s.wr (R.CLV_PER_PERIOD n) v).perFrom n

/-- CLV_PER_CTRL[n]: EN = 1 is ignored while PERIOD is out of range. -/
def State.writePerCtrl (s : State) (w : WriteBy) (n : Nat) (v : Word) : State :=
  let s1 := s.plainWrite w (R.CLV_PER_CTRL n) (s.keep (!perOk (s.rd (R.CLV_PER_PERIOD n)) && v.getLsbD 0) (F.CLV_PER_CTRL_EN n) v)
  if !s.fbit (F.CLV_PER_CTRL_EN n) && s1.fbit (F.CLV_PER_CTRL_EN n) then s1.perFrom n else s1

/-- A write to CLV. -/
def State.writeClv (s : State) (w : WriteBy) (a : Nat) (v : Word) : State :=
  if a = R.CLV_CTRL then s.writeClvCtrl w v
  else if a = R.CLV_ALARM_HI then s.writeAlarmHi v
  else if a = R.CLV_ALARM_CTRL then s.writeAlarmCtrl w v
  else if a = R.CLV_PTP_RATE then s.writePtpRate v
  else
    match slotOf (R.CLV_PER_PERIOD 0) 8 16 a, slotOf (R.CLV_PER_CTRL 0) 8 16 a with
    | some n, _ => s.writePerPeriod n v
    | _, some n => s.writePerCtrl w n v
    | _, _ => s.plainWrite w a v

/-! ### JRN -/

/-- JRN_PIN_RELEASE, from a role of P0 alone; another's is ignored and journalled (R67). -/
def State.writePin (s : State) (w : WriteBy) (v : Word) : State :=
  if w.roles.contains 0 then s.pinRelease v
  else s.raise C.FW_WRITE_DENIED 0 { w0 := w32 R.JRN_PIN_RELEASE, w1 := bytes4 (w.core / 2) 0 0 0 }

/-- The staging set that a write of core `core` to set `c` reaches: a joined pair's go to its leading core's set (R71). -/
def State.stageSet (s : State) (core c : Nat) : Nat :=
  if !s.triangle && s.lksSt (core / 2) != 3 && core / 2 == c / 2 then core / 2 * 2 else c

/-- A staging register of set `c`, or its commit (`o` = 0x14): another core's are ignored (R70, R71). -/
def State.writeStage (s : State) (w : WriteBy) (c o : Nat) (v : Word) : State :=
  let k := s.stageSet w.core c
  if w.core ≠ k then s else if o = 0x14 then s.fwCommit k else s.plainWrite w (R.JRN_FW_HDR k + o) v

/-- A write to JRN. -/
def State.writeJrn (s : State) (w : WriteBy) (a : Nat) (v : Word) : State :=
  if a = R.JRN_PIN_RELEASE then s.writePin w v
  else if R.JRN_FW_HDR 0 ≤ a then s.writeStage w (offs a (R.JRN_FW_HDR 0) / 32) (offs a (R.JRN_FW_HDR 0) % 32) v
  else s.plainWrite w a v

/-- The write is a commit of a staged record whose class is above 5: it ends with a bus error (R72). -/
def State.commitBad (s : State) (core a : Nat) : Bool :=
  match slotOf (R.JRN_FW_COMMIT 0) 32 6 a with
  | some c => s.stageSet core c == core && decide (5 < s.fget (F.JRN_FW_HDR_CLASS (s.stageSet core c)))
  | none => false

/-! ### LKS -/

/-- LKS_PAIR_CTRL[p]: the hand-over timeout, and the requests (R515 to R520). -/
def State.writePairCtrl (s : State) (w : WriteBy) (p : Nat) (v : Word) : State :=
  let a := R.LKS_PAIR_CTRL p
  let s1 := s.plainWrite w a (s.openRange (F.LKS_PAIR_CTRL_HO_TMO p) 1 100 (s.ranged (F.LKS_PAIR_CTRL_HO_TMO p) 1 255 (v &&& 0xFFFFFFFC)))
  let s2 := if v.getLsbD 0 then s1.splitReq p else s1
  if v.getLsbD 1 then s2.rejoinReq p else s2

/-- A write to LKS. -/
def State.writeLks (s : State) (w : WriteBy) (a : Nat) (v : Word) : State :=
  if a = R.LKS_CFG then s.plainWrite w a (s.ranged F.LKS_CFG_RET_WIN 1 100 (s.ranged F.LKS_CFG_RET_N 1 15 v))
  else if a = R.LKS_TEST then s.plainWrite w a (s.ranged F.LKS_TEST_PER 1 100 v)
  else
    match slotOf (R.LKS_PAIR_CTRL 0) 64 3 a with
    | some p => s.writePairCtrl w p v
    | none => s.plainWrite w a v

/-! ### SMA -/

/-- SMA_WD_CFG[p]: ignored with any field out of its range. -/
def State.writeWdCfg (s : State) (w : WriteBy) (p : Nat) (v : Word) : State :=
  if within (fldOf (F.SMA_WD_CFG_PER p) v) 5 200 && within (fldOf (F.SMA_WD_CFG_OPEN p) v) 1 15 && within (fldOf (F.SMA_WD_CFG_HOLD_MAX p) v) 1 100 then
    s.plainWrite w (R.SMA_WD_CFG p) v
  else s

/-- SMA_SEAL_PROG with the conditions of R486 left open. -/
def State.writeSealProg (s : State) (v : Word) : State :=
  s.fresh.2.sealProg (v.getLsbD 0) (s.fresh.1.getLsbD 0) (s.fresh.1.getLsbD 1)

/-- A write to SMA. -/
def State.writeSma (s : State) (w : WriteBy) (a : Nat) (v : Word) : State :=
  if a = R.SMA_SEAL_KEY then s.sealKey v
  else if a = R.SMA_SEAL_PROG then s.writeSealProg v
  else
    match slotOf (R.SMA_WD_CFG 0) 16 3 a, slotOf (R.SMA_WD_PAUSE 0) 16 3 a, slotOf (R.SMA_REACT 0) 4 32 a with
    | some p, _, _ => s.writeWdCfg w p v
    | _, some p, _ => s.wdPauseSet p
    | _, _, some i => if s.unsealed || w.boot then s.reactWrite i v else s
    | _, _, _ => s.plainWrite w a v

end Sys2Proof.Machine
end

