-- ==== Sys2Proof/Machine/WriteCtl.lean ====
section
/-! DEFINITION. What a write does in the blocks CLE, ADC, TMU and PFB, beyond its access codes (spec/04, 05, 06). -/

namespace Sys2Proof.Machine

/-! ### Values -/

/-- A binary32 value in a closed range; a NaN is in none. -/
def fWithin (v lo hi : F32) : Bool := !fIsNaN v && fLe lo v && fLe v hi

/-- A number that is at least 0; +Inf included. -/
def fNonNeg (v : F32) : Bool := !fIsNaN v && (!fSign v || v == 0x80000000)

/-! ### CLE contexts -/

/-- CLE_CTX_CTRL[n]: with the context enabled SGRP, PRIO, RAMP_EN and ERR_MODE are locked (R162); a change of EN enables or disables it,
and BANK of a disabled context swaps at once (R136, R160, R161). -/
def State.writeCtxCtrl (s : State) (w : WriteBy) (n : Nat) (v : Word) : State :=
  let a := R.CLE_CTX_CTRL n
  let on := s.ctxOn n
  let v1 := s.keep (within (fldOf (F.CLE_CTX_CTRL_SGRP n) v) 12 14) (F.CLE_CTX_CTRL_SGRP n) v
  let lock : Word := 0x000F3300
  let hit := on && (v1 &&& lock) != (s.rd a &&& lock)
  let v2 := if on then (v1 &&& ~~~ lock) ||| (s.rd a &&& lock) else v1
  let s1 := s.plainWrite w a (putBits v2 0 0 (b2n on))
  let s2 := if on then s1 else s1.bankSwap n
  let s3 := if hit then s2.cleLocked n 0 else s2
  if v.getLsbD 0 && !on then (s3.ctxEnable n).1 else if !v.getLsbD 0 && on then s3.ctxDisable n else s3

/-- A configuration register of a context: ignored with a reserved signal or trigger, locked while the context is enabled (R128, R143,
R162); a write that is invalid and locked is reported as invalid alone. DESIGN CHOICE: log entry 133. -/
def State.writeCtxCfg (s : State) (w : WriteBy) (n o : Nat) (v : Word) : State :=
  let a := R.CLE_CTX_CTRL n + o
  let sigs : List Nat := if o = 0x08 || o = 0x0C || o = 0x10 then [0] else if o = 0x14 then [0, 16] else []
  if sigBad v sigs then s.cleInvalid n o 0
  else if o = 0x04 && decide (6 ≤ fldOf (F.CLE_CTX_TRIG_SRC n) v) then s.cleInvalid n o 2
  else if s.ctxOn n then (if (v &&& RegMap.impl a) = s.rd a then s else s.cleLocked n o)
  else s.plainWrite w a v

/-- Bank `b` of a CHAIN word may not change now: the active chain of an enabled context, both while a swap is pending (R138, R162). -/
def State.chainLocked (s : State) (n b : Nat) : Bool :=
  s.swapPend n || (s.ctxOn n && s.fget (F.CLE_CTX_CTRL_BANK_ACT n) == b)

/-- The bits of a bank in a CHAIN word. -/
def chainMask (b : Nat) : Word := if b = 0 then 0x0000F3FF else 0xF3FF0000

/-- A write of one bank of CLE_CTX_CHAIN[n] (R131, R138, R162); a chain that is invalid in a locked bank is reported as locked alone. DESIGN
CHOICE: log entry 133. -/
def State.writeChainBank (s : State) (n b : Nat) (v : Word) : State :=
  let a := R.CLE_CTX_CHAIN n
  let k := chainMask b
  if s.chainLocked n b then (if (v &&& k) = (s.rd a &&& k) then s else s.cleLocked n 0x1C)
  else if !chainValid (chainOf v b) then s.cleInvalid n 0x1C 1
  else s.wr a ((s.rd a &&& ~~~ k) ||| (v &&& k))

/-- CLE_CTX_CHAIN[n]. -/
def State.writeChain (s : State) (n : Nat) (v : Word) : State := (s.writeChainBank n 0 v).writeChainBank n 1 v

/-- A value register of a context: a NaN, or a negative RAMP_RATE or FE_LIMIT, is ignored and reported. -/
def State.writeCtxVal (s : State) (w : WriteBy) (n o : Nat) (v : Word) : State :=
  if fIsNaN v || (decide (0x54 ≤ o) && !fNonNeg v) then s.cleInvalid n o 4 else s.plainWrite w (R.CLE_CTX_CTRL n + o) v

/-- A state word of a context, offset `o`: only while it is disabled (R163). -/
def State.writeCtxState (s : State) (w : WriteBy) (n o : Nat) (v : Word) : State :=
  if s.ctxOn n then s.cleLocked n o
  else if fIsNaN v then s.cleInvalid n o 4
  else s.plainWrite w (R.CLE_CTX_CTRL n + o) v

/-- CLE_CTX_FE_CFG[n]: a CLASS above 4 and a REACT of 3 are ignored. -/
def State.writeFeCfg (s : State) (w : WriteBy) (n : Nat) (v : Word) : State :=
  s.plainWrite w (R.CLE_CTX_FE_CFG n) (s.ranged (F.CLE_CTX_FE_CFG_CLASS n) 0 4 (s.ranged (F.CLE_CTX_FE_CFG_REACT n) 0 2 v))

/-- A write to a context register. -/
def State.writeCtx (s : State) (w : WriteBy) (a : Nat) (v : Word) : State :=
  let n := offs a 0x20050000 / 256
  let o := a % 256
  if o = 0 then s.writeCtxCtrl w n v
  else if o = 0x1C then s.writeChain n v
  else if o < 0x1C then s.writeCtxCfg w n o v
  else if o = 0x24 then s.cleSoft n
  else if o = 0x28 then s.writeFeCfg w n v
  else if 0x40 ≤ o ∧ o ≤ 0x58 then s.writeCtxVal w n o v
  else if 0x80 ≤ o then s.writeCtxState w n o v
  else s.plainWrite w a v

/-! ### CLE global registers and coefficients -/

/-- CLE_GLB_CTRL: a reservation of every lane in service is ignored (R154). -/
def State.writeGlbCtrl (s : State) (w : WriteBy) (v : Word) : State :=
  let rsv := fldOf F.CLE_GLB_CTRL_RSV v
  let bad := ([0, 1, 2, 3].any fun l => s.laneIn l) && [0, 1, 2, 3].all fun l => !s.laneIn l || rsv.testBit l
  let s1 := s.plainWrite w R.CLE_GLB_CTRL (s.keep bad F.CLE_GLB_CTRL_RSV v)
  (if bad then s1.cleInvalid 255 0 5 else s1).releaseDue

/-- CLE_GLB_RATE[g]: 0, or 4,000 to 80,000,000 ticks; the generator fires from the next multiple on (R144), and the resolver notices the
change (R256). -/
def State.writeRate (s : State) (g : Nat) (v : Word) : State :=
  if v = 0 || within v.toNat 4000 80000000 then
    let s1 := s.wr (R.CLE_GLB_RATE g) v
    let s2 := { s1 with cle := { s1.cle with rateLast := SMap.set (fun _ => 0) s1.cle.rateLast g (s.now + 1) } }
    if v = s.rd (R.CLE_GLB_RATE g) then s else s2.resPeriodChanged g
  else s.cleInvalid 255 (0x10 + 4 * g) 4

/-- A write to the global registers. -/
def State.writeCle (s : State) (w : WriteBy) (a : Nat) (v : Word) : State :=
  if a = R.CLE_GLB_CTRL then s.writeGlbCtrl w v
  else
    match slotOf (R.CLE_GLB_RATE 0) 4 8 a with
    | some g => s.writeRate g v
    | none => s.plainWrite w a v

/-- A word of coefficient RAM: discarded where its section is in use (R133). -/
def State.writeCoef (s : State) (w : WriteBy) (a : Nat) (v : Word) : State :=
  let o := offs a 0x20068000
  if s.secInUse (o / 32) 128 then
    s.raise C.CLE_COEF_BUSY_WR 255 { w0 := bytes4 (o / 32) (o / 32 / 256) (o % 32) (w.core / 2) } |>.count 0x04A 1
  else s.plainWrite w a v

/-! ### ADC -/

/-- Report an invalid AIN number; INST is the sequence or the comparator (R180). -/
def State.adcInvalid (s : State) (inst a ain : Nat) : State :=
  s.raise C.ADC_CFG_INVALID inst { w0 := bytes4 (offs a 0x200B0000) (offs a 0x200B0000 / 256) ain 0 }

/-- ADC_CTRL: CAL_NOW asks for the next hand-over at once (R186). -/
def State.writeAdcCtrl (s : State) (w : WriteBy) (v : Word) : State :=
  let s1 := s.plainWrite w R.ADC_CTRL (v &&& 0x3)
  if v.getLsbD 2 then { s1 with adc := { s1.adc with calNow := true } } else s1

/-- ADC_SEQ_CTRL[q]: SRC, SEL and NSLOT are locked while EN = 1; a disable drops a waiting trigger. -/
def State.writeSeqCtrl (s : State) (w : WriteBy) (q : Nat) (v : Word) : State :=
  let a := R.ADC_SEQ_CTRL q
  let on := s.fbit (F.ADC_SEQ_CTRL_EN q)
  let v1 := s.openRange (F.ADC_SEQ_CTRL_NSLOT q) 1 15 (s.ranged (F.ADC_SEQ_CTRL_SRC q) 0 4 v)
  let s1 := s.plainWrite w a (if on then putBits (s.rd a) 0 0 (b2n (v.getLsbD 0)) else v1)
  if v.getLsbD 0 then s1 else (s1.setAseq q { s1.aseq q with waiting := none }).releaseDue

/-- A word of slots: ignored with an AIN above 95 (R180). -/
def State.writeSlots (s : State) (w : WriteBy) (a : Nat) (v : Word) : State :=
  match [bits v 6 0, bits v 14 8, bits v 22 16, bits v 30 24].find? fun x => decide (95 < x) with
  | some x => s.adcInvalid (offs a (R.ADC_SEQ_CTRL 0) / 64) a x
  | none => s.plainWrite w a v

/-- A register of sequence `q`. -/
def State.writeSeq (s : State) (w : WriteBy) (a : Nat) (v : Word) : State :=
  let q := offs a (R.ADC_SEQ_CTRL 0) / 64
  let o := offs a (R.ADC_SEQ_CTRL 0) % 64
  if o = 0 then s.writeSeqCtrl w q v
  else if o = 4 then s.plainWrite w a (s.openWord a (within v.toNat 400 400000) v)
  else if o < 0x18 then s.writeSlots w a v
  else if o = 0x20 then (if s.fget (F.ADC_SEQ_CTRL_SRC q) = 4 then s.adcTrigger q else s)
  else s.plainWrite w a v

/-- ADC_SD_CFG[n]: locked while EN = 1; a write with CLKDIV out of 16 to 80 or OSR out of 16 to 256 is ignored. -/
def State.writeSdCfg (s : State) (w : WriteBy) (n : Nat) (v : Word) : State :=
  let a := R.ADC_SD_CFG n
  if s.fbit (F.ADC_SD_CFG_EN n) then
    let s1 := s.plainWrite w a (putBits (s.rd a) 0 0 (b2n (v.getLsbD 0)))
    if v.getLsbD 0 then s1 else s1.sdOff n
  else if within (fldOf (F.ADC_SD_CFG_CLKDIV n) v) 16 80 && within (fldOf (F.ADC_SD_CFG_OSR n) v) 16 256 then s.plainWrite w a v else s

/-- ADC_WC_CTRL[k]: ignored with an AIN above 95 (R180); an ACTION of 3 is ignored. -/
def State.writeWcCtrl (s : State) (w : WriteBy) (k : Nat) (v : Word) : State :=
  let ain := fldOf (F.ADC_WC_CTRL_AIN k) v
  if 95 < ain then s.adcInvalid k (R.ADC_WC_CTRL k) ain
  else s.plainWrite w (R.ADC_WC_CTRL k) (s.ranged (F.ADC_WC_CTRL_ACTION k) 0 2 v)

/-- A write to ADC. -/
def State.writeAdc (s : State) (w : WriteBy) (a : Nat) (v : Word) : State :=
  if a = R.ADC_CTRL then s.writeAdcCtrl w v
  else if a < R.ADC_SEQ_CTRL 0 then s.plainWrite w a v
  else if a < R.ADC_AIN_SCALE 0 then s.writeSeq w a v
  else
    match slotOf (R.ADC_SD_CFG 0) 32 8 a, slotOf (R.ADC_SD_CMP_CTRL 0) 32 8 a, slotOf (R.ADC_WC_CTRL 0) 16 16 a with
    | some n, _, _ => s.writeSdCfg w n v
    | _, some n, _ => s.plainWrite w a (s.openRange (F.ADC_SD_CMP_CTRL_ACTION n) 0 1 v)
    | _, _, some k => s.writeWcCtrl w k v
    | _, _, _ => s.plainWrite w a v

/-! ### TMU -/

/-- Report a locked (0) or invalid (1) write to a TMU register (R174, R220, R249). -/
def State.tmuLocked (s : State) (a reason : Nat) : State :=
  s.raise C.TMU_CFG_LOCKED 255 { w0 := bytes4 (offs a 0x20070000) (offs a 0x20070000 / 256) reason 0 }

/-- The periods of TG0, and of TG1 unless MACH = 2, are 10 µs to 500 µs (R220); in units of 156.25 ps. -/
def State.tmuPeriodsOk (s : State) (mach : Nat) : Bool :=
  within (s.period 0) 64000 3200000 && (mach == 2 || within (s.period 1) 64000 3200000)

/-- TMU_CFG: MACH and DUAL are locked while EN = 1 (R174), EN = 1 needs the periods of R220, EN = 0 stops both systems (R231). -/
def State.writeTmuCfg (s : State) (w : WriteBy) (v : Word) : State :=
  let a := R.TMU_CFG
  let on := s.fbit F.TMU_CFG_EN
  let v1 := s.ranged F.TMU_CFG_MACH 0 2 (s.ranged F.TMU_CFG_MOD 0 1 v)
  let lock : Word := 0x00000013
  let hit := on && (v1 &&& lock) != (s.rd a &&& lock)
  let v2 := if on then (v1 &&& ~~~ lock) ||| (s.rd a &&& lock) else v1
  let s1 := s.plainWrite w a (putBits v2 16 16 (b2n on))
  let s2 := if hit then s1.tmuLocked a 0 else s1
  if v.getLsbD 16 && !on then (if s2.tmuPeriodsOk s2.mach then s2.fput F.TMU_CFG_EN true else s2.tmuLocked a 1)
  else if !v.getLsbD 16 && on then (s2.fput F.TMU_CFG_EN false).tmuStop
  else s2

/-- The range of a TMU value register, by its offset. -/
def State.tmuValueOk (s : State) (o : Nat) (v : Word) : Bool :=
  match o with
  | 0x24 => fNonNeg v
  | 0x28 => fNonNeg v
  | 0x2C => fWithin v 0x3F666666 fOne
  | 0x30 => fWithin v 0 0x3A83126F
  | 0x34 => fNonNeg v
  | 0x38 => fWithin v 0 fOne
  | 0x40 => fLt v (s.rd R.TMU_VDC_LOW)
  | 0x54 => v &&& 0x7FFFFFFF == 0 || v == 0x3F860A92
  | _ => !fIsNaN v

/-- A value register: a NaN or a value out of range is ignored and reported; TMU_TQ_REF takes only zero while the host is lost (R578). -/
def State.writeTmuVal (s : State) (w : WriteBy) (a : Nat) (v : Word) : State :=
  if !s.tmuValueOk (offs a 0x20070000) v then s.tmuLocked a 1
  else if a = R.TMU_TQ_REF && s.fbit F.HIF_STAT_HOST_LOST && !fIsZero v then s
  else s.plainWrite w a v

/-- A further value register: ignored and reported unless in its range. -/
def State.writeInRange (s : State) (w : WriteBy) (a : Nat) (ok : Bool) (v : Word) : State :=
  if ok then s.plainWrite w a v else s.tmuLocked a 1

/-- A signal selection outside the CLE: ignored with a reserved index (R128); INST 255. -/
def State.writeSignals (s : State) (w : WriteBy) (a : Nat) (v : Word) (los : List Nat) : State :=
  if sigBad v los then s.cleInvalid 255 (a % 65536) 0 else s.plainWrite w a v

/-- TMU_SYS_CAL: REQ starts an offset measurement of system `k` (R197). -/
def State.writeCal (s : State) (k : Nat) (v : Word) : State := if v.getLsbD 0 then s.calBegin k else s

/-- A write to TMU. -/
def State.writeTmu (s : State) (w : WriteBy) (a : Nat) (v : Word) : State :=
  if a = R.TMU_CFG then s.writeTmuCfg w v
  else if R.TMU_MAP 0 ≤ a then (if s.fbit F.TMU_CFG_EN then s.tmuLocked a 0 else s.plainWrite w a v)
  else if a = R.TMU_VDC_SEL then s.writeSignals w a v [0]
  else if a = R.TMU_POS_SEL then s.writeSignals w a v [0, 16]
  else if a = R.TMU_POLE then s.plainWrite w a (s.ranged F.TMU_POLE_P 1 16 v)
  else if R.TMU_TQ_REF ≤ a ∧ a ≤ R.TMU_DRAG_WMAX then s.writeTmuVal w a v
  else if a = R.TMU_BC_MAXON then s.writeInRange w a (within (fldOf F.TMU_BC_MAXON_MAXON v) 0 1000000) v
  else if a = R.TMU_BC_WIN then s.writeInRange w a (within (fldOf F.TMU_BC_WIN_WIN v) 1 1000) v
  else if a = R.TMU_BC_TEST_DV || (R.TMU_DRAG 0 ≤ a && a < R.TMU_BC_CTRL) then s.writeInRange w a (!fIsNaN v) v
  else if a = R.TMU_BC_CTRL then (s.plainWrite w a v).bcDrive
  else
    match slotOf (R.TMU_SYS_ISEL 0) 64 2 a, slotOf (R.TMU_SYS_CAL 0) 64 2 a with
    | some k, _ => (s.writeSignals w a v [0, 16]).sdSensor k
    | _, some k => s.writeCal k v
    | _, _ => if R.TMU_SYS_ISEL 0 ≤ a && a < R.TMU_DRAG 0 && [0x08, 0x0C, 0x18].contains (a % 64) then s.writeInRange w a (!fIsNaN v) v else s.plainWrite w a v

/-! ### PFB -/

/-- PFB_ENC_CFG: at a change of EN the next index is the first again (R276). -/
def State.writeEncCfg (s : State) (w : WriteBy) (v : Word) : State :=
  let s1 := s.plainWrite w R.PFB_ENC_CFG v
  if s.fbit F.PFB_ENC_CFG_EN = v.getLsbD 0 then s1
  else (({ s1 with pfb := { s1.pfb with encInval := false } }).fput F.PFB_STAT_ENC_REF false).validUpdate 7

/-- PFB_HALL_STEP[m]: ignored while the actuator is enabled (R422); else a change of the counter, with the steps of its peripheral clock
on top (R286, R441). -/
def State.writeHallStep (s : State) (m : Nat) (v : Word) : State :=
  if s.actEn m then s.actInvalid m (0x30C + 0x20 * m) 1
  else
    let h := s.hallAt m
    let new := if h.stepAt = s.perClock + 1 then v + BitVec.ofInt 32 h.stepBy else v
    let s1 := (s.wr (R.PFB_HALL_STEP m) new).counterChange (2 + m) (s.rd (R.PFB_HALL_STEP m)) new s.clave
    if m = 1 then s1.plUpdate else s1

/-- PFB_HALL_MAP[m]: sectors 1 to 6. -/
def State.writeHallMap (s : State) (w : WriteBy) (m : Nat) (v : Word) : State :=
  let v1 := s.openRange (F.PFB_HALL_MAP_S1 m) 1 6 (s.openRange (F.PFB_HALL_MAP_S2 m) 1 6 (s.openRange (F.PFB_HALL_MAP_S3 m) 1 6 v))
  s.plainWrite w (R.PFB_HALL_MAP m) (s.openRange (F.PFB_HALL_MAP_S4 m) 1 6 (s.openRange (F.PFB_HALL_MAP_S5 m) 1 6 (s.openRange (F.PFB_HALL_MAP_S6 m) 1 6 v1)))

/-- A register of Hall decoder `m`. -/
def State.writeHall (s : State) (w : WriteBy) (a : Nat) (v : Word) : State :=
  let m := offs a (R.PFB_HALL_CFG 0) / 32
  match offs a (R.PFB_HALL_CFG 0) % 32 with
  | 0x00 =>
    let s1 := s.plainWrite w a (s.openRange (F.PFB_HALL_CFG_N m) 1 1023 v)
    { s1 with pfb := { s1.pfb with halls := SMap.set (fun _ => {}) s1.pfb.halls m { s1.hallAt m with nAt := s.time } } }
  | 0x04 => s.writeHallMap w m v
  | 0x0C => s.writeHallStep m v
  | 0x1C => s.plainWrite w a (s.openWord a (within v.toNat 1 (2 ^ 24 - 1)) v)
  | _ => s.plainWrite w a v

/-- PFB_CMP_CTRL[c]: SRC is locked while armed; a reserved channel of an enabled actuator is kept (R422); EN = 0 disarms. -/
def State.writeCmpCtrl (s : State) (w : WriteBy) (c : Nat) (v : Word) : State :=
  if decide (5 ≤ c) && s.actEn (c - 5) then s.actInvalid (c - 5) (0x400 + 0x20 * c) 1
  else
    let v1 := s.ranged (F.PFB_CMP_CTRL_SRC c) 0 4 (s.ranged (F.PFB_CMP_CTRL_DIR c) 0 2 v)
    let s1 := s.plainWrite w (R.PFB_CMP_CTRL c) (s.keep (s.cmpArmed c) (F.PFB_CMP_CTRL_SRC c) v1)
    if v.getLsbD 0 then s1 else s1.cmpDisarm c

/-- A write to PFB. -/
def State.writePfb (s : State) (w : WriteBy) (a : Nat) (v : Word) : State :=
  if a = R.PFB_CFG then s.pfbCfgWrite v
  else if a = R.PFB_RES_CTRL then s.resCtrlWrite v
  else if a = R.PFB_THETA_OFS then (s.plainWrite w a (s.openWord a (fWithin v 0 fTwoPi) v)).encForm
  else if a = R.PFB_ENC_IDX_POS then (s.plainWrite w a v).encForm
  else if a = R.PFB_RES_EXC_AMP then s.plainWrite w a (s.openWord a (fWithin v fHalf fTwo) v)
  else if a = R.PFB_ENC_CFG then s.writeEncCfg w v
  else if a = R.PFB_ENC_CPR then (if s.fbit F.PFB_ENC_CFG_EN then s else (s.plainWrite w a (s.openWord a (within v.toNat 4 (2 ^ 24)) v)).encForm)
  else if a < R.PFB_HALL_CFG 0 then s.plainWrite w a v
  else if a < R.PFB_CMP_CTRL 0 then s.writeHall w a v
  else
    match slotOf (R.PFB_CMP_CTRL 0) 32 8 a, slotOf (R.PFB_CMP_VAL 0) 32 8 a with
    | some c, _ => s.writeCmpCtrl w c v
    | _, some c => s.cmpValWrite c v
    | _, _ => s.plainWrite w a v

end Sys2Proof.Machine
end

