-- ==== Sys2Proof/Machine/WritePwr.lean ====
section
/-! DEFINITION. What a write does in the blocks PWM, GDR, LVC, CHG, ACT and THM, beyond its access codes (spec/07, 08, 09, 10, 13). -/

namespace Sys2Proof.Machine

/-! ### PWM -/

/-- The converter holds group `g`: pair writes to RUN and to its legs are ignored (R369). -/
def State.lvcHolds (s : State) (g : Nat) : Bool := s.fbit F.LVC_CTRL_EN && decide (5 ≤ g) && decide (g ≤ 7)

/-- A write of group `g` at offset `o` is ignored and reported: 0 range, 1 locked, 2 sync. -/
def State.grpInvalid (s : State) (g o reason : Nat) : State := s.pwmInvalid (16 * g) (0x100 + 128 * g + o) reason

/-- Write `v1` for `v`, from which a value out of range was taken: an invalid write is reported (the table of R352). -/
def State.pwmRanged (s : State) (w : WriteBy) (a : Nat) (v v1 : Word) (inst : Nat) : State :=
  let s1 := s.plainWrite w a v1
  if v1 = v then s1 else s1.pwmInvalid inst (a % 65536) 0

/-- PWM_GRP_CFG[g] or PWM_GRP_PER[g]: locked while RUN = 1. -/
def State.writeGrpCfg (s : State) (w : WriteBy) (g o : Nat) (v : Word) : State :=
  let a := R.PWM_GRP_CFG g + o
  if s.fbit (F.PWM_GRP_CTRL_RUN g) then (if v &&& RegMap.impl a = s.rd a then s else s.grpInvalid g o 1)
  else if o = 0 then
    s.pwmRanged w a v (s.ranged (F.PWM_GRP_CFG_START_MODE g) 0 2 (s.ranged (F.PWM_GRP_CFG_UPD g) 0 2 (s.ranged (F.PWM_GRP_CFG_SYNC_G g) 0 11 v))) (16 * g)
  else s.plainWrite w a v

/-- PWM_GRP_CTRL[g]: HOLD, and RUN set or cleared (R296, R301, R306, R369). -/
def State.writeGrpCtrl (s : State) (w : WriteBy) (g : Nat) (v : Word) : State :=
  let run := s.fbit (F.PWM_GRP_CTRL_RUN g)
  let s1 := s.plainWrite w (R.PWM_GRP_CTRL g) (putBits v 0 0 (b2n run))
  if v.getLsbD 0 == run then s1
  else if s.lvcHolds g then s1.grpInvalid g 0x0C 1
  else if run then s1.runClear g else s1.runSet g

/-- The shadow modes of the legs below `k` of group `g`; a reserved mode is kept (R302). -/
def State.writeModes (s : State) (g : Nat) (v : Word) : Nat → State
  | 0 => s
  | l + 1 =>
    let s1 := s.writeModes g v l
    let m := bits v (4 * l + 3) (4 * l)
    if m ≤ 6 then s1.shadowMode g l m else s1

/-- PWM_GRP_LEGMODE[g] (R302). -/
def State.writeLegMode (s : State) (g : Nat) (v : Word) : State :=
  let s1 := s.writeModes g v 4
  if [0, 1, 2, 3].any fun l => decide (6 < bits v (4 * l + 3) (4 * l)) then s1.grpInvalid g 0x1C 0 else s1

/-- A write to the registers of group `g`, offset `o`. -/
def State.writeGrp (s : State) (w : WriteBy) (g o a : Nat) (v : Word) : State :=
  if o ≤ 0x04 then s.writeGrpCfg w g o v
  else if o = 0x08 then s.pwmRanged w a v (s.ranged (F.PWM_GRP_DT_CONF_TMO g) 40 4000 v) (16 * g)
  else if o = 0x0C then s.writeGrpCtrl w g v
  else if o = 0x10 then (if fLe 0 v && fLt v fOne then s.plainWrite w a v else s.grpInvalid g o 0)
  else if o = 0x18 then
    let s1 := s.plainWrite w a v
    s1.setGrp g { s1.grp g with startVal := tickOf (s1.rd (R.PWM_GRP_START_LO g)) v }
  else if 0x1C ≤ o ∧ o < 0x50 then
    if s.lvcHolds g then s.grpInvalid g o 1
    else if o = 0x1C then s.writeLegMode g v
    else s.shadowWrite g ((o - 0x20) / 4) v
  else s.plainWrite w a v

/-- A write to PWM. -/
def State.writePwm (s : State) (w : WriteBy) (a : Nat) (v : Word) : State :=
  if a < R.PWM_GRP_CFG 0 then s.plainWrite w a v
  else s.writeGrp w (offs a (R.PWM_GRP_CFG 0) / 128) (offs a (R.PWM_GRP_CFG 0) % 128) a v

/-! ### GDR -/

/-- A write to GDR is ignored and reported. -/
def State.gdrInvalid (s : State) (inst a reason : Nat) : State := s.pwmInvalid inst (a % 65536) reason

/-- GDR_GC_CFG[n]: a GS_ON_TMO of 0 is ignored (R323). -/
def State.writeGcCfg (s : State) (w : WriteBy) (n : Nat) (v : Word) : State :=
  (s.pwmRanged w (R.GDR_GC_CFG n) v (s.ranged (F.GDR_GC_CFG_GS_ON_TMO n) 1 255 v) n).allFollow 12

/-- GDR_LGB_CFG[b]: CC_THR, VDS_THR and TBLANK out of range are ignored and reported; HS_SUP and EN are locked while the bridge's group
runs. -/
def State.writeBridge (s : State) (w : WriteBy) (b : Nat) (v : Word) : State :=
  let a := R.GDR_LGB_CFG b
  let v1 := s.ranged (F.GDR_LGB_CFG_CC_THR b) 1 15 (s.ranged (F.GDR_LGB_CFG_VDS_THR b) 1 20 (s.ranged (F.GDR_LGB_CFG_TBLANK b) 1 32 v))
  let lock := s.fbit (F.PWM_GRP_CTRL_RUN (bridgeGroup b))
  let v2 := s.keep lock (F.GDR_LGB_CFG_HS_SUP b) (s.keep lock (F.GDR_LGB_CFG_EN b) v1)
  let s1 := (s.plainWrite w a v2).grpFollow (bridgeGroup b)
  let s2 := if v1 = v then s1 else s1.gdrInvalid (128 + b) a 0
  if v2 = v1 then s2 else s2.gdrInvalid (128 + b) a 1

/-- GDR_ABC_ON or GDR_ABC_OFF, 15 V to 30 V: neither the value written nor what it leaves makes OFF equal or exceed ON (R351). -/
def State.writeAbcV (s : State) (w : WriteBy) (a : Nat) (v : Word) : State :=
  let v1 := s.openRange (if a = R.GDR_ABC_ON then F.GDR_ABC_ON_V else F.GDR_ABC_OFF_V) 150 300 v
  let bad (x : Word) : Bool :=
    decide ((if a = R.GDR_ABC_ON then fldOf F.GDR_ABC_ON_V x else s.fget F.GDR_ABC_ON_V) ≤
      (if a = R.GDR_ABC_OFF then fldOf F.GDR_ABC_OFF_V x else s.fget F.GDR_ABC_OFF_V))
  if bad v || bad v1 then s.gdrInvalid 255 a 0 else s.pwmRanged w a v v1 255

/-- A latch register is written with the levels `x` at hand, hardware latching the channels of `hw` in the same cycle (R10, R333). -/
def State.latchWrite (s : State) (x : GateLevels) (which : Nat) (v hw : Word) : State :=
  let t := latchSpan which
  (s.gateLevels x).clearBits x (((List.range t.2).filter fun j => hw.getLsbD j).map fun j => t.1 + j) t.1 v t.2

/-- The gate levels at a write that names none, left open. -/
def State.freeLevels (s : State) : GateLevels × State :=
  let f := s.fresh
  let g := f.2.fresh
  let h := g.2.fresh
  ({ gs := f.1.setWidth 31, gf := (f.1 >>> 31).setWidth 31, off := g.1.setWidth 38, clear := h.1.setWidth 38 }, h.2)

/-- A write to GDR. -/
def State.writeGdr (s : State) (w : WriteBy) (a : Nat) (v : Word) : State :=
  if a = R.GDR_LATCH_GC then s.freeLevels.2.latchWrite s.freeLevels.1 0 v w.hw
  else if a = R.GDR_LATCH_LG_LO then s.freeLevels.2.latchWrite s.freeLevels.1 1 v w.hw
  else if a = R.GDR_LATCH_LG_HI then s.freeLevels.2.latchWrite s.freeLevels.1 2 v w.hw
  else if a = R.GDR_DETWIN then s.pwmRanged w a v (s.openRange F.GDR_DETWIN_US 1 50 v) 255
  else if a = R.GDR_ABC_CFG then (s.plainWrite w a v).abcDrive
  else if a = R.GDR_ABC_ON || a = R.GDR_ABC_OFF then s.writeAbcV w a v
  else
    match slotOf (R.GDR_GC_CFG 0) 4 31 a, slotOf (R.GDR_LGB_CFG 0) 16 12 a, slotOf (R.GDR_LGB_REFRESH 0) 16 12 a with
    | some n, _, _ => s.writeGcCfg w n v
    | _, some b, _ => s.writeBridge w b v
    | _, _, some b => s.pwmRanged w a v (s.openRange (F.GDR_LGB_REFRESH_REFRESH b) 40 800 v) (128 + b)
    | _, _, _ => s.plainWrite w a v

/-! ### LVC -/

/-- The range of an LVC value register, by its offset. -/
def State.lvcValueOk (s : State) (o : Nat) (v : Word) : Bool :=
  match o with
  | 0x60 => fWithin v s.lvcRange.1 s.lvcRange.2
  | 0x64 => fWithin v fHalf 0x3F7AE148
  | 0x68 => fNonNeg v
  | 0x6C => fWithin v 0 fOne
  | 0x84 => fWithin v fOne 0x42800000
  | 0x88 => fWithin v 0x3CA3D70A fHalf
  | 0x90 => fLt 0 v
  | 0x94 => fLe 0xBF000000 v && fLt v fHalf
  | _ => !fIsNaN v

/-- A write to LVC. CFG, SEL, RS_SEL and PH_ISEL are locked while EN = 1. -/
def State.writeLvc (s : State) (w : WriteBy) (a : Nat) (v : Word) : State :=
  let o := a % 65536
  if a = R.LVC_CTRL then s.lvcCtrlWrite v
  else if a = R.LVC_STAT then s.plainWrite w a v
  else if o < 0x40 && s.fbit F.LVC_CTRL_EN then s
  else if a = R.LVC_CFG then s.plainWrite w a v
  else if a = R.LVC_SEL then s.writeSignals w a v [0, 16]
  else if a = R.LVC_RS_SEL then
    if 95 < fldOf F.LVC_RS_SEL_P_AIN v ∨ 95 < fldOf F.LVC_RS_SEL_N_AIN v then s.lvcInvalid o 0 else s.plainWrite w a v
  else if o < 0x40 then s.writeSignals w a v [0]
  else if a = R.LVC_RLL then (if fldOf F.LVC_RLL_RLL v ≤ 1000 then s.plainWrite w a v else s.lvcInvalid o 0)
  else if a = R.LVC_SHED_HOLD then (if within (fldOf F.LVC_SHED_HOLD_MS v) 1 100 then s.plainWrite w a v else s.lvcInvalid o 0)
  else if a = R.LVC_DCX_SS then (if within (fldOf F.LVC_DCX_SS_US v) 500 20000 then s.plainWrite w a v else s.lvcInvalid o 0)
  else if a = R.LVC_STOP_T then (if within (fldOf F.LVC_STOP_T_US v) 100 1900 then s.plainWrite w a v else s.lvcInvalid o 0)
  else if s.lvcValueOk o v then s.plainWrite w a v
  else s.lvcInvalid o 0

/-! ### CHG -/

/-- The range of a CHG value register, by its offset (R408). -/
def State.chgValueOk (s : State) (o : Nat) (v : Word) : Bool :=
  match o with
  | 0x68 => fNonNeg v
  | 0x6C => fNonNeg v
  | 0x70 => fWithin v 0 0x46ABE000
  | 0x74 => fNonNeg v
  | 0x78 => fLt 0 v
  | 0x80 => fWithin v 0x42340000 0x42820000
  | 0x84 => fWithin v 0x3DCCCCCD 0x40A00000
  | 0x94 => fWithin v fHalf fOne
  | 0xA0 => fWithin v 0 0x3E800000 && fLe (fAdd v (s.rd R.CHG_DAB_D1)) 0x3E800000
  | 0xA4 => fWithin v 0 0x3E800000 && fLe (fAdd (s.rd R.CHG_DAB_DMAX) v) 0x3E800000
  | _ => !fIsNaN v

/-- A value register of CHG; a new HOST_ILIM or ILIM_RATE changes the grid limit, or its rise, from now on (R402). -/
def State.writeChgVal (s : State) (w : WriteBy) (a : Nat) (v : Word) : State :=
  let o := a % 65536
  if !s.chgValueOk o v then s.chgInvalid o 3
  else if a = R.CHG_HOST_ILIM ∨ a = R.CHG_ILIM_RATE then s.chgRelimit fun t => t.plainWrite w a v
  else s.plainWrite w a v

/-- A write to CHG. CFG, CTX and GSEL are locked while EN = 1. -/
def State.writeChg (s : State) (w : WriteBy) (a : Nat) (v : Word) : State :=
  let o := a % 65536
  if a = R.CHG_CTRL then s.chgCtrlWrite v
  else if a = R.CHG_CFG ∨ (0x20 ≤ o ∧ o < 0x40) then
    if s.fbit F.CHG_CTRL_EN then s else if 0x30 ≤ o then s.writeSignals w a v [0, 16] else s.plainWrite w a v
  else if a = R.CHG_STOP_T then (if within (fldOf F.CHG_STOP_T_US v) 1000 50000 then s.plainWrite w a v else s.chgInvalid o 3)
  else if 0x60 ≤ o then s.writeChgVal w a v
  else s.plainWrite w a v

/-! ### ACT -/

/-- A value register of actuator `m`, offset `o` of the block: a NaN or a negative value is ignored and reported. -/
def State.writeActVal (s : State) (w : WriteBy) (inst a : Nat) (v : Word) : State :=
  if fNonNeg v then s.plainWrite w a v else s.actInvalid inst (a % 65536) 2

/-- A register of actuator `m`. -/
def State.writeActm (s : State) (w : WriteBy) (m a : Nat) (v : Word) : State :=
  match offs a (R.ACT_CFG 0) % 64 with
  | 0x00 => s.actCfgWrite m v
  | 0x04 => if s.actEn m then s else s.writeSignals w a v [0]
  | 0x0C => s.actCmdWrite m v
  | 0x14 => s.writeActVal w m a v
  | 0x18 => s.writeActVal w m a v
  | 0x1C => s.writeActVal w m a v
  | 0x20 => (s.writeActVal w m a v).actWatch m
  | 0x2C => s.plainWrite w a (s.openRange (F.ACT_STALL_T_MS m) 1 4000 v)
  | 0x30 => s.plainWrite w a (s.openRange (F.ACT_MOVE_TMO_MS m) 1 10000 v)
  | _ => s.plainWrite w a v

/-- A write to ACT. -/
def State.writeAct (s : State) (w : WriteBy) (a : Nat) (v : Word) : State :=
  if a = R.ACT_SUP_SEL then (s.writeSignals w a v [0]).actSupWatch
  else if a = R.ACT_VMIN then (s.writeActVal w 255 a v).actSupWatch
  else if a < R.ACT_PL_CTRL then s.writeActm w (offs a (R.ACT_CFG 0) / 64) a v
  else if a = R.ACT_PL_CTRL then s.actPlRefWrite v
  else (s.plainWrite w a v).plUpdate

/-! ### THM -/

/-- Report an invalid THM write (R538). -/
def State.thmInvalid (s : State) (a : Nat) : State := s.raise C.THM_CFG_INVALID 255 { w0 := bytes4 (a % 65536) (a % 65536 / 256) 0 0 }

/-- THM_BAND: B1 2 K to 50 K, B2 1 K to B1 − 1. -/
def State.writeBand (s : State) (w : WriteBy) (v : Word) : State :=
  let b1 := fldOf F.THM_BAND_B1 v
  let b2 := fldOf F.THM_BAND_B2 v
  if within b1 2 50 && decide (1 ≤ b2) && decide (b2 < b1) then s.plainWrite w R.THM_BAND v else s

/-- The range of a zone register at offset `o`, and for a threshold its relation to its neighbours (R538). -/
def State.zoneValueOk (s : State) (z o : Nat) (v : Word) : Bool :=
  match o with
  | 0x04 => fLe v (s.rd (R.THM_ZONE_DSTART z))
  | 0x08 => fLe (s.rd (R.THM_ZONE_WARN z)) v && fLt v (s.rd (R.THM_ZONE_DFULL z))
  | 0x0C => fLt (s.rd (R.THM_ZONE_DSTART z)) v && fLe v (s.rd (R.THM_ZONE_TRIP z))
  | 0x10 => fLe (s.rd (R.THM_ZONE_DFULL z)) v
  | 0x14 => fWithin v 0x3DCCCCCD 0x42200000
  | 0x18 => fWithin v 0 0x41F00000
  | 0x1C => fWithin v fOne 0x41A00000
  | _ => true

/-- A write to THM. -/
def State.writeThm (s : State) (w : WriteBy) (a : Nat) (v : Word) : State :=
  if a = R.THM_BAND then s.writeBand w v
  else if a = R.THM_SENS_BROKEN then s.brokenClear v w.hw 24
  else if R.THM_ZONE_CFG 0 ≤ a ∧ a < R.THM_ZONE_CFG_DIE 0 then
    if s.zoneValueOk (offs a (R.THM_ZONE_CFG 0) / 32) (offs a (R.THM_ZONE_CFG 0) % 32) v then s.plainWrite w a v else s.thmInvalid a
  else
    match slotOf (R.THM_SENS_CFG 0) 4 16 a with
    | some i => s.plainWrite w a (s.ranged (F.THM_SENS_CFG_ZONE i) 0 13 v)
    | none => s.plainWrite w a v

end Sys2Proof.Machine
end

