-- ==== Sys2Proof/Machine/WriteCom.lean ====
section
/-! DEFINITION. What a write does in the blocks HIF, OLK, NVC, UPD, SEC and the counters of PMC, beyond its access codes (spec/14, 15, 16). -/

namespace Sys2Proof.Machine

/-! ### HIF -/

/-- A write to HIF. HIF_CFG and HIF_ETH_CFG are locked while EN = 1. -/
def State.writeHif (s : State) (w : WriteBy) (a : Nat) (v : Word) : State :=
  if a = R.HIF_CTRL then (s.plainWrite w a v).hifCtrl (s.fbit F.HIF_CTRL_EN)
  else if a = R.HIF_CFG || a = R.HIF_ETH_CFG then (if s.fbit F.HIF_CTRL_EN then s else s.plainWrite w a v)
  else if a = R.HIF_HOST_TMO then s.plainWrite w a (s.ranged F.HIF_HOST_TMO_MS 2 100 v)
  else if a = R.HIF_LOST_RATE then s.plainWrite w a (s.openWord a (!fIsNaN v && !fSign v && v != 0) v)
  else if a = R.HIF_STAT_PER then s.plainWrite w a (s.openRange F.HIF_STAT_PER_MS 0 1000 v)
  else if a = R.HIF_RXQ_CFG then s.plainWrite w a (s.openRange F.HIF_RXQ_CFG_LOG2 2 8 v)
  else if a = R.HIF_TXQ_WR then (s.plainWrite w a v).dropBad 256
  else if a = R.HIF_TXQ_CFG then s.plainWrite w a (s.openRange F.HIF_TXQ_CFG_LOG2 2 8 v)
  else s.plainWrite w a v

/-! ### OLK -/

/-- OLK_TXQ_WR: firmware has filled slots (R611). -/
def State.writeOlkTxq (s : State) (w : WriteBy) (v : Word) : State := (s.plainWrite w R.OLK_TXQ_WR v).olkTxq 256

/-- A write to OLK. OLK_CFG is locked while EN = 1. -/
def State.writeOlk (s : State) (w : WriteBy) (a : Nat) (v : Word) : State :=
  if a = R.OLK_CTRL then (s.plainWrite w a v).olkCtrl (s.fbit F.OLK_CTRL_EN)
  else if a = R.OLK_CFG then (if s.fbit F.OLK_CTRL_EN then s else s.plainWrite w a v)
  else if a = R.OLK_STAT_PER then s.plainWrite w a (s.openRange F.OLK_STAT_PER_PER 1 100 v)
  else if a = R.OLK_PEER_TMO then s.plainWrite w a (s.openRange F.OLK_PEER_TMO_MS 1 100 v)
  else if a = R.OLK_WAKE then s.olkWake
  else if a = R.OLK_RXQ_CFG then s.plainWrite w a (s.openRange F.OLK_RXQ_CFG_LOG2 2 8 v)
  else if a = R.OLK_TXQ_CFG then s.plainWrite w a (s.openRange F.OLK_TXQ_CFG_LOG2 2 8 v)
  else if a = R.OLK_TXQ_WR then s.writeOlkTxq w v
  else if a = R.OLK_FWB_REL then s.fwbRel v 4
  else s.plainWrite w a v

/-! ### NVC -/

/-- A register of port `p`: the pairs with the port's rights write it; another's write is ignored. A write of CMD starts a command. -/
def State.writeNvcPort (s : State) (w : WriteBy) (p o a : Nat) (v : Word) : State :=
  if !w.roles.contains p then s else if o = 0 then s.nvcCmd p v else s.plainWrite w a v

/-- A write to NVC. -/
def State.writeNvc (s : State) (w : WriteBy) (a : Nat) (v : Word) : State :=
  if a < R.NVC_CMD 0 then s else s.writeNvcPort w (offs a (R.NVC_CMD 0) / 64) (offs a (R.NVC_CMD 0) % 64) a v

/-! ### UPD -/

/-- UPD_ACT_CTRL: ARM, CANCEL (R651). -/
def State.writeActCtrl (s : State) (v : Word) : State :=
  let s1 := if v.getLsbD 0 then s.actArmUpd else s
  if v.getLsbD 1 then s1.actCancel else s1

/-- UPD_CFG: CONF_T 60 to 4,095, MIG_TMO 1 to 255, PRE_T 5 to 63. -/
def State.writeUpdCfg (s : State) (w : WriteBy) (v : Word) : State :=
  s.plainWrite w R.UPD_CFG (s.openRange F.UPD_CFG_CONF_T 60 4095 (s.openRange F.UPD_CFG_MIG_TMO 1 255 (s.openRange F.UPD_CFG_PRE_T 5 63 v)))

/-- A write to UPD. -/
def State.writeUpd (s : State) (w : WriteBy) (a : Nat) (v : Word) : State :=
  if a = R.UPD_BLK_GO then s.blkGo
  else if a = R.UPD_STG_CTRL then (if v.getLsbD 0 then s.stageAbandon else s)
  else if a = R.UPD_ACT_CTRL then s.writeActCtrl v
  else if a = R.UPD_CMD then (if v.getLsbD 0 then s.confirmCmd (bits v 31 16) else s)
  else if a = R.UPD_CFG then s.writeUpdCfg w v
  else if a = R.UPD_P1_WMAX then s.plainWrite w a (s.openWord a (fNonNeg v) v)
  else if a = R.UPD_REVERT_LEAD then s.plainWrite w a (s.openRange F.UPD_REVERT_LEAD_MS 100 60000 v)
  else s.plainWrite w a v

/-! ### SEC -/

/-- Some pair runs an image verified with key `k`. -/
def State.keyRuns (s : State) (k : Nat) : Bool := [0, 1, 2].any fun p => (s.fl (slotBase (s.hdr.runs p) + 16)).toNat == k

/-- A fuse once blown stays so; a write that revokes the key of a running image is ignored. -/
def State.writeRevoke (s : State) (w : WriteBy) (v : Word) : State :=
  if [0, 1].any fun k => v.getLsbD k && s.keyRuns k then s else s.plainWrite w R.SEC_REVOKE (s.rd R.SEC_REVOKE ||| v)

/-- A write to SEC. -/
def State.writeSec (s : State) (w : WriteBy) (a : Nat) (v : Word) : State :=
  if a = R.SEC_REVOKE then s.writeRevoke w v else s.plainWrite w a v

/-! ### The counters of PMC -/

/-- PMC_MODE[k]: the cycle of the write is counted in the old mode (R668). -/
def State.writePmcMode (s : State) (k : Nat) (v : Word) : State :=
  let s1 := s.pmcSync
  let old := SMap.get (fun i => s1.rd (R.PMC_MODE i)) s1.pmc.modes k
  let s2 := s1.wr (R.PMC_MODE k) v
  { s2 with pmc := { s2.pmc with modes := SMap.set (fun i => s2.rd (R.PMC_MODE i)) s2.pmc.modes k old } }

/-- Clear the counters 32k + b, b below `n`, whose bit is 1 (R672). -/
def State.pmcClear (s : State) (k : Nat) (v : Word) : Nat → State
  | 0 => s
  | n + 1 =>
    let s1 := s.pmcClear k v n
    if v.getLsbD n then (s1.pmcAdd (32 * k + n) { clear := true }).1 else s1

end Sys2Proof.Machine
end

