-- ==== Sys2Proof/Machine/Gong.lean ====
section
/-! DEFINITION. The Gong record (R675 to R679), the Rattle registers (R681 to R687) and the test port (R707, R708). -/

namespace Sys2Proof.Machine

/-! ### Snapshots (R675, R678) -/

/-- Words in a row from index `i` as a sparse map; words of 0 are not listed. -/
def numbered (i : Nat) : List Word → SMap Word
  | [] => []
  | w :: t => if w = 0 then numbered (i + 1) t else (i, w) :: numbered (i + 1) t

/-- A list cut or filled with zeros to `n` words. -/
def padded (n : Nat) (l : List Word) : List Word := l.take n ++ List.replicate (n - l.length) 0

/-- The snapshot of a pair, 1 KiB: the register file, then the program counter and the instruction count. -/
def verifiedSnap (v : Verified) : List Word := padded 256 (v.file.take 253 ++ [v.pc, loWord v.count, hiWord v.count])

/-- The registers at a list of addresses, as they read. -/
def State.views (s : State) (l : List Nat) : List Word := l.map fun a => (s.view a).1

/-- The PWM and GDR snapshot, 2 KiB: the register images of the groups, then the latches and flags. -/
def State.snapPwm (s : State) : List Word :=
  padded 512 (s.views (((List.range 384).map fun i => R.PWM_GRP_CFG 0 + 4 * i) ++
    [R.GDR_LATCH_GC, R.GDR_LATCH_LG_LO, R.GDR_LATCH_LG_HI, R.GDR_TS_SIDE 0, R.GDR_TS_SIDE 1, R.PWM_GLB_SAFE]))

/-- The fault-latch snapshot, 256 bytes. -/
def State.snapLatches (s : State) : List Word :=
  padded 64 (s.views [R.SYS_MODE, R.SMA_STAT, R.SMB_STAT, R.LKS_PAIR_STAT 0, R.LKS_PAIR_STAT 1, R.LKS_PAIR_STAT 2, R.TMU_STAT, R.PFB_STAT,
    R.LVC_STAT, R.CHG_STAT, R.SUP_LATCH])

/-- The snapshot of a context, 128 bytes. -/
def State.snapCtx (s : State) (n : Nat) : List Word :=
  padded 32 (s.views ([R.CLE_CTX_CTRL n, R.CLE_CTX_STAT n, R.CLE_CTX_MEAS n, R.CLE_CTX_SPR n, R.CLE_CTX_ERR n, R.CLE_CTX_UNSAT n, R.CLE_CTX_OUT n] ++
    (List.range 16).map fun i => R.CLE_CTX_CTRL n + 0x80 + 4 * i))

/-- The snapshot window (R678). -/
def State.snapshot (s : State) (v0 v1 v2 : Verified) : SMap Word :=
  numbered 0 (verifiedSnap v0 ++ verifiedSnap v1 ++ verifiedSnap v2 ++ s.snapPwm ++ s.snapLatches ++ ((List.range 128).map s.snapCtx).flatten)

/-! ### Freezing and finishing (R675 to R677, R679) -/

/-- Freeze the snapshot and latch its cause (R675). -/
def State.gongHold (s : State) (r : React) (v0 v1 v2 : Verified) : State :=
  let s1 := { s with gong := { s.gong with win := s.snapshot v0 v1 v2 } }
  let s2 := (s1.wr64 R.PMC_GNG_CAUSE_LO R.PMC_GNG_CAUSE_HI r.stamp).wr R.PMC_GNG_CODE (w32 (r.code.toNat + 2 ^ 16 * r.inst.toNat))
  s2.fput F.PMC_GNG_STAT_FROZEN true

/-- The first waiting FATAL record takes effect: the snapshot, or its count (R677); a SAFE decision, the reset 5 ms on, and the Gong
interrupt to a P0 that is joined and trusted (R675, R679). -/
def State.gongFreeze (s : State) (v0 v1 v2 : Verified) : State :=
  match takeReact 5 s.reacts with
  | none => s
  | some (r, rest) =>
    let s1 := { s with reacts := rest }
    let s2 := if s1.fbit F.PMC_GNG_STAT_FROZEN then s1.finc F.PMC_GNG_STAT_EXTRA 1 else s1.gongHold r v0 v1 v2
    let at_ := s.time - (s.now - r.stamp.toNat)
    let s3 := { s2 with gong := { s2.gong with fatalAt := some (s2.gong.fatalAt.getD at_) } }
    let s4 := s3.safeDecide r.code r.cyc
    if s4.lksSt 0 = 0 then s4.irq 0 .leading 0xFE04 r.inst r.stamp else s4

/-- GONG_FREEZE (R675). -/
def execGongFreeze (v0 v1 v2 : Verified) (s : State) : Host.Outcome State Fault Refusal := .next (s.gongFreeze v0 v1 v2)

/-- PMC_GNG_CTRL is written: DONE performs the FATAL reset; ignored while nothing is frozen (R679). -/
def State.gongDone (s : State) (v : Word) (f : FlashBoot) : State :=
  if v.getLsbD 0 && s.fbit F.PMC_GNG_STAT_FROZEN then s.lPulse .fatal false f else s

/-- A write to PMC. -/
def State.writePmc (s : State) (w : WriteBy) (a : Nat) (v : Word) : State :=
  if a = R.PMC_GNG_CTRL then s.freeBoot.2.gongDone v s.freeBoot.1
  else
    match slotOf (R.PMC_MODE 0) 4 16 a, slotOf (R.PMC_CLR 0) 4 16 a with
    | some k, _ => s.writePmcMode k v
    | _, some k => s.pmcClear k v 32
    | _, _ => s.plainWrite w a v

/-! ### Rattle (R681 to R687) -/

/-- A write to an RTL register is ignored (R682, R687): 0 locked, 1 mode, 2 value. -/
def State.rtlIgnored (s : State) (a why : Nat) : State :=
  s.raise C.RTL_WRITE_IGNORED 255 { w0 := bytes4 (a % 65536) (a % 65536 / 256) s.seq.mode.code why }

/-- RTL_KEY: the two key words in a row, in SERVICE (R681). -/
def State.rtlKey (s : State) (v : Word) : State :=
  if !s.inMode .service then ({ s with rtl := { s.rtl with key := false } }).rtlIgnored R.RTL_KEY 1
  else if s.rtl.key && v == 0x1E55 then
    (({ s with rtl := { s.rtl with key := false } }).fput F.RTL_STAT_UNLOCKED true).raise C.RTL_UNLOCKED 255 {}
  else { s with rtl := { s.rtl with key := v == 0x7A77 } }

/-- GO of RTL_MISM forces a difference into the pair it names (R685). -/
def State.rtlMism (s : State) (v : Verified) (err : Option VrfErr) : State :=
  let p := s.fget F.RTL_MISM_PAIR
  let tgt := s.fget F.RTL_MISM_TARGET
  let item := s.fget F.RTL_MISM_ITEM
  let nocnt := s.fbit F.RTL_MISM_NOCNT
  let it : LksItem := if item = 0 then .bus else if item = 1 then .regWrite else if item = 2 then .csrWrite else .branch
  if 2 < p || 2 < tgt || 3 < item || s.triangle || s.lksSt p != 0 then s
  else
    (s.raise C.RTL_INJECT p { w0 := bytes4 tgt item (b2n nocnt) 0 }).mismatch p it (tgt != 2) (tgt != 1) v err (!nocnt)

/-- RTL_MISM is written with `v` at hand for the pair's next instruction. -/
def State.rtlMismWrite (s : State) (w : WriteBy) (x : Word) (v : Verified) (err : Option VrfErr) : State :=
  let s1 := s.plainWrite w R.RTL_MISM (x &&& 0x7FFFFFFF)
  if x.getLsbD 31 then s1.rtlMism v err else s1

/-- RTL_STEP_GO: Clave steps forward (R40, R687). -/
def State.rtlStep (s : State) : State :=
  let d := (tickOf (s.rd R.RTL_STEP_LO) (s.rd R.RTL_STEP_HI)).toNat
  if d = 0 || 2 ^ 40 < d then s.rtlIgnored R.RTL_STEP_GO 2 else s.clvStep d

/-- The verified state of a pair where a write names none, left open; its file is the one held. -/
def State.freeVerified (s : State) (p : Nat) : Verified × State :=
  ({ pc := s.fresh.1.setWidth 32, count := s.fresh.2.fresh.1, file := (s.lksP p).vrf }, s.fresh.2.fresh.2)

/-- An effect on an RTL register other than the key: only unlocked and in SERVICE (R682). -/
def State.rtlGate (s : State) (a : Nat) (eff : State → State) : State :=
  if !s.inMode .service then s.rtlIgnored a 1 else if !s.fbit F.RTL_STAT_UNLOCKED then s.rtlIgnored a 0 else eff s

/-- A write to RTL. -/
def State.writeRtl (s : State) (w : WriteBy) (a : Nat) (v : Word) : State :=
  if a = R.RTL_KEY then s.rtlKey v
  else
    s.rtlGate a fun s =>
      if a = R.RTL_MISM then
        let f := s.freeVerified (bits v 1 0)
        f.2.rtlMismWrite w v f.1 none
      else if a = R.RTL_STEP_GO then s.rtlStep
      else if a = R.RTL_SEED then (if v = 0 then s else let s1 := s.plainWrite w a v; { s1 with rtl := { s1.rtl with lfsr := v } })
      else s.plainWrite w a v

/-! ### Test port (R707, R708) -/

/-- An instruction of the test port other than EXTEST ends EXTEST; without the rails of the L-die the port does nothing. -/
def State.jtagDo (s : State) (eff : State → State) : State :=
  if s.lDead then s else eff { s with jtag := { s.jtag with extest := false } }

/-- Shift out bytes. -/
def State.jtagOut (s : State) (b : List Byte) : State := { s with jtag := { s.jtag with out := b } }

/-- The bits of BYPASS, one cell late, the cell at first 0; bits go low first. -/
def bypassBytes (carry : Bool) : List Byte → List Byte
  | [] => []
  | b :: t => ((b <<< 1) ||| (if carry then 1 else 0)) :: bypassBytes (b.getLsbD 7) t

/-- JTAG_BYPASS. -/
def execJtagBypass (tdi : List Byte) (s : State) : Host.Outcome State Fault Refusal :=
  .next (s.jtagDo fun s => s.jtagOut (bypassBytes false tdi))

/-- JTAG_IDCODE. -/
def execJtagIdcode (s : State) : Host.Outcome State Fault Refusal := .next (s.jtagDo fun s => s.jtagOut (wordBytes 0x1682054D))

/-- JTAG_SAMPLE_PRELOAD: what the balls show is left open. -/
def State.jtagSample (s : State) (cells : List Bool) : State :=
  let n := (cells.length + 7) / 8
  ({ s with free := s.free + n, jtag := { s.jtag with cells := cells } }).jtagOut (freeBytes s.free n)

/-- JTAG_SAMPLE_PRELOAD. -/
def execJtagSamplePreload (cells : List Bool) (s : State) : Host.Outcome State Fault Refusal := .next (s.jtagDo fun s => s.jtagSample cells)

/-- A challenge of 16 random bytes, left open, with the device identity. -/
def State.jtagChal (s : State) : State :=
  let b := freeBytes s.free 16 ++ wordBytes (loWord Config.identity) ++ wordBytes (hiWord Config.identity)
  ({ s with free := s.free + 16, jtag := { s.jtag with chal := some b } }).jtagOut b

/-- JTAG_DBG_CHAL. -/
def execJtagDbgChal (s : State) : Host.Outcome State Fault Refusal := .next (s.jtagDo fun s => s.jtagChal)

/-- A response is checked against key slot 1, once per challenge (R708). -/
def State.jtagResp (s : State) (sig : List Byte) : State :=
  match s.jtag.chal with
  | none => s
  | some c =>
    let ok := sig.length == 64 && !s.rbit R.SEC_REVOKE 1 &&
      Config.debugVerify (Config.sha256 c) ((List.range 8).map fun i => s.rd (R.SEC_KEYHASH 1 i)) sig
    { s with jtag := { s.jtag with chal := none, unlocked := s.jtag.unlocked || ok } }

/-- JTAG_DBG_RESP. -/
def execJtagDbgResp (sig : List Byte) (s : State) : Host.Outcome State Fault Refusal := .next (s.jtagDo fun s => s.jtagResp sig)

/-- EXTEST: after unlock and in SERVICE only. -/
def State.jtagExtest (s : State) : State :=
  if s.jtag.unlocked && s.inMode .service then { s with jtag := { s.jtag with extest := true } } else s

/-- JTAG_EXTEST. -/
def execJtagExtest (s : State) : Host.Outcome State Fault Refusal := .next (s.jtagDo fun s => s.jtagExtest)

/-- DBG: a core halts, resumes or steps, or the debug reset (R116); after unlock only. -/
def State.jtagDbg (s : State) (op : DbgOp) : State :=
  let m (c : Fin 6) : BitVec 6 := BitVec.ofNat 6 (2 ^ c.val)
  if !s.jtag.unlocked then s
  else
    match op with
    | .halt c => { s with jtag := { s.jtag with halted := s.jtag.halted ||| m c, stepped := s.jtag.stepped &&& ~~~ m c } }
    | .resume c => { s with jtag := { s.jtag with halted := s.jtag.halted &&& ~~~ m c, stepped := s.jtag.stepped &&& ~~~ m c } }
    | .step c => if s.jtag.halted.getLsbD c.val then { s with jtag := { s.jtag with stepped := s.jtag.stepped ||| m c } } else s
    | .reset f => s.lPulse .debug false f

/-- JTAG_DBG. -/
def execJtagDbg (op : DbgOp) (s : State) : Host.Outcome State Fault Refusal := .next (s.jtagDo fun s => s.jtagDbg op)

end Sys2Proof.Machine
end

