-- ==== Sys2Proof/Machine/Bus.lean ====
section
/-! DEFINITION. A bus access: which block a write reaches, stores and loads of every region, accesses over the inter-die link (R6, R20 to R22, R31 to R36, R498 to R500, R716), and the reads of counters and latched halves. -/

namespace Sys2Proof.Machine

/-! ### Writes -/

/-- The effect of a write in the block it reaches. -/
def State.route (s : State) (w : WriteBy) (a : Nat) (v : Word) : State :=
  match blockOf a with
  | 0 => s.writeSys w a v
  | 1 => s.writeClv w a v
  | 2 => s.writeJrn w a v
  | 3 => s.writeLks w a v
  | 4 => s.writeSma w a v
  | 5 => s
  | 6 => s.writeCtx w a v
  | 7 => s.writeCle w a v
  | 8 => s.writeCoef w a v
  | 9 => s.writeTmu w a v
  | 10 => s.writePfb w a v
  | 11 => s.writePwm w a v
  | 12 => s.writeGdr w a v
  | 13 => s.writeAdc w a v
  | 14 => s.writeLvc w a v
  | 15 => s.writeChg w a v
  | 16 => s.writeAct w a v
  | 17 => s.writeThm w a v
  | 18 => s.plainWrite w a v
  | 19 => s.writePmc w a v
  | 20 => s.writeHif w a v
  | 21 => s.writeOlk w a v
  | 22 => s.writeNvc w a v
  | 23 => s.writeUpd w a v
  | 24 => s.writeSec w a v
  | _ => s.writeRtl w a v

/-- An access over the inter-die link begins (R20). -/
def State.dieQueue (s : State) (x : DAccess) : State := { s with idl.accesses := s.idl.accesses ++ [x] }

/-- A write of a peripheral register that a master may issue. -/
def State.storeReg (s : State) (m : Master) (a : Nat) (v hw : Word) : State :=
  if (RegMap.find a).isNone then s.busErr
  else if RegMap.dDie a then
    (s.accessed a true).dieQueue { master := m, addr := w32 a, write := true, value := v, start := s.time, hw := hw }
  else if s.commitBad (s.masterNum m) a then (s.accessed a true).busErr
  else ((s.accessed a true).route (s.writer m hw) a v).busOk 0

/-- The low bytes of a word that a store of a width writes. -/
def storeBytes (z : AccSize) (v : Word) : List Byte := (wordBytes v).take (AccSize.bytes z)

/-- A store that a master issues (R6, R32, R34, R716): what the firewall denies is recorded, whatever its width. -/
def State.storeOnce (s : State) (m : Master) (a : Nat) (z : AccSize) (v hw : Word) : State :=
  match placeOf a with
  | .hole => s.busErr
  | .rom => if m = .bootRom then s.busErr else s.denied m a
  | .peripheral => if s.barred m a then s.denied m a else if z ≠ .word ∨ a % 4 ≠ 0 then s.busErr else s.storeReg m a v hw
  | _ =>
    if !s.mayStore m a then s.denied m a
    else if a % AccSize.bytes z ≠ 0 then s.busErr
    else (s.mputs a (storeBytes z v)).busOk 0

/-! ### Two pairs in one interconnect cycle (R35) -/

/-- The interconnect cycle, of 300 MHz. -/
def State.busCyc (s : State) : Nat := s.time * 3 / 8

/-- Store those of the bytes from `a` up that lie from `lo` to below `hi`. -/
def State.mputsIn (s : State) (lo hi a : Nat) : List Byte → State
  | [] => s
  | b :: t => (if lo ≤ a ∧ a < hi then s.mput a b else s).mputsIn lo hi (a + 1) t

/-- The write `y` of the same cycle comes after the write `x`: it is applied again where the two meet. -/
def State.applyOver (s : State) (x y : BusWrite) : State :=
  if placeOf x.addr = .peripheral then
    if x.addr = y.addr then s.route (s.writer y.master 0) y.addr y.value else s
  else s.mputsIn x.addr (x.addr + AccSize.bytes x.size) y.addr (storeBytes y.size y.value)

/-- The writes recorded in the present interconnect cycle. -/
def State.writesNow (s : State) : List BusWrite := s.writes.filter fun y => y.cyc == s.busCyc

/-- The writes of the present interconnect cycle that come after one of master `m`: those of P1 and P2, where they are later pairs (R35). -/
def State.laterWrites (s : State) (m : Master) : List BusWrite :=
  let of (p : Nat) : List BusWrite := s.writesNow.filter fun y => s.masterPair y.master == p && decide (s.masterPair m < p)
  of 1 ++ of 2

/-- Put a pair's write, carried out in `t` from `s`, in its place among the writes of its interconnect cycle: P0, P1, P2 (R35). -/
def State.inPairOrder (s t : State) (x : BusWrite) : State :=
  let t1 := (s.laterWrites x.master).foldl (fun u y => u.applyOver x y) t
  { t1 with writes := s.writesNow ++ [x], bus := t.bus }

/-- A store by a master; one that cannot issue does nothing. -/
def State.store (s0 : State) (m : Master) (a : Nat) (z : AccSize) (v hw : Word) : State :=
  if !s0.issues m then s0
  else
    let s1 := (s0.spend m).storeOnce m a z v hw
    match m with
    | .core .. => if s1.bus.err || RegMap.dDie a then s1 else s0.inPairOrder s1 { cyc := s0.busCyc, master := m, addr := a, size := z, value := v }
    | _ => s1

/-- A write of a whole register. -/
def State.put (s : State) (m : Master) (a : Nat) (v : Word) : State := s.store m a .word v 0

/-- REGISTER_WRITE (R9). -/
def execRegisterWrite (m : Master) (addr : Word) (size : AccSize) (value hwSet : Word) (s : State) : Host.Outcome State Fault Refusal :=
  .next (s.store m addr.toNat size value hwSet)

/-! ### Reads -/

/-- The master runs in Machine mode. -/
def Master.machine (m : Master) : Bool :=
  match m with
  | .core _ _ x => x
  | .dma _ => false
  | .bootRom => true

/-- A peripheral register that a master may read now: mapped, and PMC in Machine mode only (R6, R34, R673). -/
def readable (m : Master) (a : Nat) : Bool :=
  a % 4 == 0 && (RegMap.find a).isSome && (blockOf a != 19 || Master.machine m)

/-- A load that carries an instruction count enters the input agreement unit of its pair, unless it is split (R498). -/
def State.delivered (s : State) (m : Master) (tag : Option (BitVec 64)) (v : Word) : State :=
  match m, tag with
  | .core p h _, some t => let u := s.unitOfCore p.val h; if s.lksSt u = 3 then s else s.iauTake u t v
  | _, _ => s

/-- The INST and address of a corrected error in a word of coefficient RAM or in a state word; none elsewhere (R167, R129). -/
def eccWord (a : Nat) : Option (Nat × Word) :=
  if 0x20068000 ≤ a ∧ a < 0x20070000 then some (255, w32 (a - 0x20068000))
  else if 0x20050000 ≤ a ∧ a < 0x20058000 ∧ 0x80 ≤ a % 256 ∧ a % 256 < 0xC0 then some ((a - 0x20050000) / 256, w32 (a - 0x20050000 + 2 ^ 31))
  else none

/-- A read that finds a single-bit error corrects it (R167). -/
def State.eccRead (s : State) (a : Nat) (ecc : Bool) : State :=
  match eccWord a with
  | some (i, x) => if ecc then s.eccCorr i x else s
  | none => s

/-- A read of pair `p`'s verified program counter or instruction count: while its cores run both have moved on, to where is theirs (R495). -/
def State.verifiedRead (s : State) (a : Nat) : State :=
  match [0, 1, 2].find? fun p => a == R.LKS_PAIR_VPC p || a == R.LKS_PAIR_VCNT_LO p || a == R.LKS_PAIR_VCNT_HI p with
  | some p =>
    if s.unitOf p = p && (s.lksSt p == 0 || s.lksSt p == 2) then
      let f := s.fresh
      let n := tickOf (s.rd (R.LKS_PAIR_VCNT_LO p)) (s.rd (R.LKS_PAIR_VCNT_HI p)) + (f.1 >>> 32)
      (f.2.wr (R.LKS_PAIR_VPC p) (f.1.setWidth 32)).wr64 (R.LKS_PAIR_VCNT_LO p) (R.LKS_PAIR_VCNT_HI p) n
    else s
  | none => s

/-- A load from the peripheral range that is carried out: `tag` is a pair's instruction count. -/
def State.readOut (s : State) (m : Master) (a : Nat) (added : Word) (ecc : Bool) (tag : Option (BitVec 64)) : State :=
  if !readable m a then s.busErr
  else if RegMap.dDie a then (s.accessed a false).dieQueue { master := m, addr := w32 a, write := false, value := 0, start := s.time, tag := tag }
  else
    let r := ((((s.accessed a false).eccRead a ecc).gateRead a).verifiedRead a).readReg (s.masterNum m) a added
    r.2.busOk r.1

/-- A load of unit `u` from the peripheral range: replayed where the input agreement unit still holds it, and not carried out while another
input is to be replayed; else carried out and delivered (R42, R498, R500). -/
def State.pairLoad (s : State) (u : Nat) (m : Master) (a : Nat) (added : Word) (ecc : Bool) (tag : BitVec 64) : State :=
  match (s.lksP u).replay with
  | x :: t => if x.tag = tag then ((s.setLksP u { s.lksP u with replay := t }).count (0x008 + 16 * u) 1).busOk x.value else s
  | [] =>
    let s1 := s.readOut m a added ecc (some tag)
    if s1.bus.err || RegMap.dDie a then s1 else s1.delivered m (some tag) s1.bus.data

/-- A load from the peripheral range (R6): of a word alone; a pair's goes through its input agreement unit. -/
def State.loadPeriph (s : State) (m : Master) (a : Nat) (z : AccSize) (added : Word) (ecc : Bool) (tag : BitVec 64) : State :=
  if z ≠ .word then s.busErr
  else match m with
    | .core p h _ => s.pairLoad (s.unitOfCore p.val h) m a added ecc tag
    | _ => s.readOut m a added ecc none

/-- The low bytes of a word that a load of a width takes. -/
def loadValue (z : AccSize) (v : Word) : Word := w32 (v.toNat % 2 ^ (8 * AccSize.bytes z))

/-- A read by a master (R6, R31, R34, R716): `added` is what hardware adds to read-clear fields in the same cycle (R11), `tag` the
instruction count of a core's load (R498). -/
def State.load (s0 : State) (m : Master) (a : Nat) (z : AccSize) (added : Word) (ecc : Bool) (tag : BitVec 64) : State :=
  if !s0.issues m then s0
  else
    let s := s0.spend m
    match placeOf a with
    | .hole => s.busErr
    | .rom => if a % AccSize.bytes z = 0 then s.fresh.2.busOk (loadValue z (s.fresh.1.setWidth 32)) else s.busErr
    | .peripheral => s.loadPeriph m a z added ecc tag
    | _ => if a % AccSize.bytes z = 0 then s.busOk (loadValue z (s.mword a)) else s.busErr

/-- RC_READ (R11). -/
def execRcRead (m : Master) (addr : Word) (size : AccSize) (added : Word) (ecc : Bool) (tag : BitVec 64) (s : State) : Host.Outcome State Fault Refusal :=
  .next (s.load m addr.toNat size added ecc tag)

/-- LO_HI_LATCH_READ (R41). -/
def execLoHiLatchRead (m : Master) (addr : Word) (tag : BitVec 64) (s : State) : Host.Outcome State Fault Refusal :=
  .next (s.load m addr.toNat .word 0 false tag)

/-- PMC_CNT_LO_READ (R671). -/
def execPmcCntLoRead (m : Master) (n : Fin 512) (tag : BitVec 64) (s : State) : Host.Outcome State Fault Refusal :=
  .next (s.load m (R.PMC_CNT_LO n.val) .word 0 false tag)

/-! ### Accesses over the inter-die link (R20, R21) -/

/-- D_DIE_ACCESS (R20). -/
def execDDieAccess (m : Master) (addr : Word) (size : AccSize) (write : Bool) (value hwSet : Word) (tag : BitVec 64) (s : State) :
    Host.Outcome State Fault Refusal :=
  .next (if write then s.store m addr.toNat size value hwSet else s.load m addr.toNat size 0 false tag)

/-- The D-die answers an access (R20). -/
def State.dieAnswer (s : State) (x : DAccess) : State :=
  let a := x.addr.toNat
  if x.write then (s.route (s.writer x.master x.hw) a x.value).busOk 0
  else
    let r := s.readReg (s.masterNum x.master) a 0
    (r.2.delivered x.master x.tag r.1).busOk r.1

/-- The oldest access is answered while a lane gives good frames. -/
def State.dieComplete (s : State) : State :=
  match s.idl.accesses with
  | [] => s
  | x :: t => if s.lDead || (s.idl.lane0.down && s.idl.lane1.down) then s else ({ s with idl.accesses := t }).dieAnswer x

/-- D_DIE_ACCESS_COMPLETE (R20). -/
def execDDieAccessComplete (s : State) : Host.Outcome State Fault Refusal := .next s.dieComplete

/-- The oldest access has waited 4 µs while neither lane gives good frames (R21). -/
def State.dieTimeout (s : State) : State :=
  match s.idl.accesses with
  | [] => s
  | x :: t =>
    if s.past x.start (usTicks 4) && s.idl.lane0.down && s.idl.lane1.down && !s.lDead then
      (({ s with idl.accesses := t }).raise C.SMB_ACCESS_TIMEOUT 0 {}).busErr
    else s

/-- SMB_ACCESS_TIMEOUT (R21). -/
def execSmbAccessTimeout (s : State) : Host.Outcome State Fault Refusal := .next s.dieTimeout

/-! ### Loads of a pair (R498 to R500) -/

/-- PERIPH_LOAD_ISSUE (R499): the load is the oldest instruction of the pair, and all before it has compared. -/
def execPeriphLoadIssue (p : Fin 3) (addr : Word) (size : AccSize) (tag : BitVec 64) (s : State) : Host.Outcome State Fault Refusal :=
  .next (if (s.triangle && p = 1) || placeOf addr.toNat != .peripheral then s else s.load (.core p .leading true) addr.toNat size 0 false tag)

end Sys2Proof.Machine
end

