-- ==== Sys2Proof/Machine/Requests.lean ====
section
/-! DEFINITION. The commands that are a write of one register: each names its register and, where its name says so, the bits it writes. -/

namespace Sys2Proof.Machine

/-- The outcome of a write of one register. -/
def State.wrote (s : State) (m : Master) (a : Nat) (v : Word) : Host.Outcome State Fault Refusal := .next (s.put m a v)

/-- A request of a mode (R80, R82, R84): stored, and acted on at once. -/
def State.modeReq (s : State) (m : Master) (v : Nat) : Host.Outcome State Fault Refusal :=
  .next (s.writeAs m R.SYS_MODE_REQ fun s => (s.modeReqWrite v).modeEval)

/-- A command register of port `p` with the operation `op`. -/
def State.nvcGo (s : State) (m : Master) (p op : Nat) (v : Word) : Host.Outcome State Fault Refusal :=
  s.wrote m (R.NVC_CMD p) (putBits v 3 0 op)

/-! ### CLV and JRN -/

/-- CLV_ALARM_REARM (R45). -/
def execClvAlarmRearm (m : Master) (hi : Bool) (value : Word) (s : State) : Host.Outcome State Fault Refusal := s.wrote m (if hi then R.CLV_ALARM_HI else R.CLV_ALARM_CTRL) value

/-- CLV_PTP_RATE_WRITE (R55). -/
def execClvPtpRateWrite (m : Master) (value : Word) (s : State) : Host.Outcome State Fault Refusal := s.wrote m R.CLV_PTP_RATE value

/-- CLV_PER_PERIOD_WRITE (R713). -/
def execClvPerPeriodWrite (m : Master) (n : Fin 16) (value : Word) (s : State) : Host.Outcome State Fault Refusal := s.wrote m (R.CLV_PER_PERIOD n.val) value

/-- JRN_PIN_RELEASE (R67). -/
def execJrnPinRelease (m : Master) (value : Word) (s : State) : Host.Outcome State Fault Refusal := s.wrote m R.JRN_PIN_RELEASE value

/-- JRN_FW_COMMIT (R70). -/
def execJrnFwCommit (m : Master) (c : Fin 6) (s : State) : Host.Outcome State Fault Refusal := s.wrote m (R.JRN_FW_COMMIT c.val) 1

/-! ### SYS -/

/-- MODE_REQ_ARMING (R80). -/
def execModeReqArming (m : Master) (s : State) : Host.Outcome State Fault Refusal := s.modeReq m 1

/-- MODE_REQ_DRIVE (R90). -/
def execModeReqDrive (m : Master) (s : State) : Host.Outcome State Fault Refusal := s.modeReq m 2

/-- MODE_REQ_CHARGE (R80). -/
def execModeReqCharge (m : Master) (s : State) : Host.Outcome State Fault Refusal := s.modeReq m 3

/-- MODE_REQ_SERVICE (R80). -/
def execModeReqService (m : Master) (s : State) : Host.Outcome State Fault Refusal := s.modeReq m 4

/-- MODE_REQ_SLEEP (R80). -/
def execModeReqSleep (m : Master) (s : State) : Host.Outcome State Fault Refusal := s.modeReq m 6

/-- MODE_REQ_CLEAR_SAFE (R80). -/
def execModeReqClearSafe (m : Master) (s : State) : Host.Outcome State Fault Refusal := s.modeReq m 8

/-- MODE_REQ_CLEAR_DEGRADE (R95). -/
def execModeReqClearDegrade (m : Master) (s : State) : Host.Outcome State Fault Refusal := s.modeReq m 9

/-- MODE_REQ_INVALID (R84). -/
def execModeReqInvalid (m : Master) (value : BitVec 4) (s : State) : Host.Outcome State Fault Refusal :=
  if listedRequest value.toNat then s.modeReq m value.toNat else .next (s.writeAs m R.SYS_MODE_REQ fun s => s.modeReqWrite value.toNat)

/-- TEST_REQ_LG_DIAG (R111). -/
def execTestReqLgDiag (m : Master) (s : State) : Host.Outcome State Fault Refusal := s.wrote m R.SYS_TEST_REQ 0

/-- TEST_REQ_LOGIC_BIST (R111). -/
def execTestReqLogicBist (m : Master) (s : State) : Host.Outcome State Fault Refusal := s.wrote m R.SYS_TEST_REQ 1

/-- TEST_REQ_MEMORY_BIST (R111). -/
def execTestReqMemoryBist (m : Master) (s : State) : Host.Outcome State Fault Refusal := s.wrote m R.SYS_TEST_REQ 2

/-- TEST_REQ_BRAKE_CHOPPER (R111). -/
def execTestReqBrakeChopper (m : Master) (s : State) : Host.Outcome State Fault Refusal := s.wrote m R.SYS_TEST_REQ 3

/-- SOFTWARE_RESET (R117). -/
def execSoftwareReset (m : Master) (value : Word) (f : FlashBoot) (s : State) : Host.Outcome State Fault Refusal :=
  .next (s.writeAs m R.SYS_RST fun s => s.softReset value f)

/-! ### CLE -/

/-- CLE_CTX_SWTRIG (R143). -/
def execCleCtxSwtrig (m : Master) (n : Fin 128) (s : State) : Host.Outcome State Fault Refusal := s.wrote m (R.CLE_CTX_SWTRIG n.val) 1

/-- CLE_CTX_ENABLE (R160). -/
def execCleCtxEnable (m : Master) (n : Fin 128) (value : Word) (s : State) : Host.Outcome State Fault Refusal := s.wrote m (R.CLE_CTX_CTRL n.val) (value ||| 1)

/-- CLE_CTX_DISABLE (R161). -/
def execCleCtxDisable (m : Master) (n : Fin 128) (value : Word) (s : State) : Host.Outcome State Fault Refusal := s.wrote m (R.CLE_CTX_CTRL n.val) (value &&& ~~~ 1)

/-- CLE_BANK_WRITE (R136). -/
def execCleBankWrite (m : Master) (n : Fin 128) (value : Word) (s : State) : Host.Outcome State Fault Refusal := s.wrote m (R.CLE_CTX_CTRL n.val) value

/-- CLE_CHAIN_WRITE (R138). -/
def execCleChainWrite (m : Master) (n : Fin 128) (value : Word) (s : State) : Host.Outcome State Fault Refusal := s.wrote m (R.CLE_CTX_CHAIN n.val) value

/-- CLE_STATE_WRITE (R163). -/
def execCleStateWrite (m : Master) (n : Fin 128) (i : Fin 8) (two : Bool) (value : Word) (s : State) : Host.Outcome State Fault Refusal :=
  s.wrote m (R.CLE_CTX_CTRL n.val + 0x80 + 8 * i.val + 4 * b2n two) value

/-- CLE_COEF_WRITE (R133). -/
def execCleCoefWrite (m : Master) (sec : Fin 1024) (w : Fin 8) (value : Word) (s : State) : Host.Outcome State Fault Refusal :=
  s.wrote m (0x20068000 + 32 * sec.val + 4 * w.val) value

/-- CLE_RSV_WRITE (R154). -/
def execCleRsvWrite (m : Master) (value : Word) (s : State) : Host.Outcome State Fault Refusal := s.wrote m R.CLE_GLB_CTRL value

/-! ### ADC, TMU and PFB -/

/-- ADC_SEQ_SWTRIG (R177). -/
def execAdcSeqSwtrig (m : Master) (q : Fin 32) (s : State) : Host.Outcome State Fault Refusal := s.wrote m (R.ADC_SEQ_SWTRIG q.val) 1

/-- ADC_CAL_NOW (R186). -/
def execAdcCalNow (m : Master) (value : Word) (s : State) : Host.Outcome State Fault Refusal := s.wrote m R.ADC_CTRL (value ||| 4)

/-- TMU_OFFSET_CAL_REQ (R197). -/
def execTmuOffsetCalReq (m : Master) (sys : Fin 2) (value : Word) (s : State) : Host.Outcome State Fault Refusal := s.wrote m (R.TMU_SYS_CAL sys.val) value

/-- TMU_ENABLE (R220). -/
def execTmuEnable (m : Master) (value : Word) (s : State) : Host.Outcome State Fault Refusal := s.wrote m R.TMU_CFG (value ||| 0x10000)

/-- TMU_DISABLE (R231). -/
def execTmuDisable (m : Master) (value : Word) (s : State) : Host.Outcome State Fault Refusal := s.wrote m R.TMU_CFG (value &&& ~~~ 0x10000)

/-- PFB_ENABLE (R253). -/
def execPfbEnable (m : Master) (value : Word) (s : State) : Host.Outcome State Fault Refusal := s.wrote m R.PFB_CFG value

/-- PFB_RES_ENABLE (R256). -/
def execPfbResEnable (m : Master) (value : Word) (s : State) : Host.Outcome State Fault Refusal := s.wrote m R.PFB_RES_CTRL value

/-- CMP_ARM (R287). -/
def execCmpArm (m : Master) (c : Fin 8) (value : Word) (s : State) : Host.Outcome State Fault Refusal := s.wrote m (R.PFB_CMP_VAL c.val) value

/-! ### PWM and GDR -/

/-- PWM_RUN_START (R299). -/
def execPwmRunStart (m : Master) (g : Fin 12) (value : Word) (s : State) : Host.Outcome State Fault Refusal := s.wrote m (R.PWM_GRP_CTRL g.val) (value ||| 1)

/-- PWM_RUN_STOP (R301). -/
def execPwmRunStop (m : Master) (g : Fin 12) (value : Word) (s : State) : Host.Outcome State Fault Refusal := s.wrote m (R.PWM_GRP_CTRL g.val) (value &&& ~~~ 1)

/-- GDR_LATCH_CLEAR (R333). -/
def execGdrLatchClear (m : Master) (which : Fin 3) (value : Word) (gs gf : BitVec 31) (lgOff lgClear : BitVec 38) (s : State) : Host.Outcome State Fault Refusal :=
  let a := if which.val = 0 then R.GDR_LATCH_GC else if which.val = 1 then R.GDR_LATCH_LG_LO else R.GDR_LATCH_LG_HI
  .next (s.writeAs m a fun s => s.latchWrite { gs := gs, gf := gf, off := lgOff, clear := lgClear } which.val value 0)

/-! ### LVC, CHG, ACT and THM -/

/-- LVC_ENABLE (R370). -/
def execLvcEnable (m : Master) (value : Word) (s : State) : Host.Outcome State Fault Refusal := s.wrote m R.LVC_CTRL (value ||| 1)

/-- LVC_ORDERLY_STOP (R372). -/
def execLvcOrderlyStop (m : Master) (value : Word) (s : State) : Host.Outcome State Fault Refusal := s.wrote m R.LVC_CTRL (value &&& ~~~ 1)

/-- LVC_RS_RETRY (R384). -/
def execLvcRsRetry (m : Master) (value : Word) (s : State) : Host.Outcome State Fault Refusal := s.wrote m R.LVC_CTRL (value ||| 8)

/-- CHG_ENABLE (R411). -/
def execChgEnable (m : Master) (value : Word) (s : State) : Host.Outcome State Fault Refusal := s.wrote m R.CHG_CTRL (value ||| 1)

/-- CHG_ORDERLY_STOP (R414). -/
def execChgOrderlyStop (m : Master) (value : Word) (s : State) : Host.Outcome State Fault Refusal := s.wrote m R.CHG_CTRL (value &&& ~~~ 1)

/-- ACT_ENABLE (R429). -/
def execActEnable (m : Master) (a : Fin 3) (value : Word) (s : State) : Host.Outcome State Fault Refusal := s.wrote m (R.ACT_CFG a.val) value

/-- ACT_GO (R431). -/
def execActGo (m : Master) (a : Fin 3) (value : Word) (s : State) : Host.Outcome State Fault Refusal := s.wrote m (R.ACT_CMD a.val) (value ||| 1)

/-- ACT_STOP (R435). -/
def execActStop (m : Master) (a : Fin 3) (value : Word) (s : State) : Host.Outcome State Fault Refusal := s.wrote m (R.ACT_CMD a.val) (value ||| 2)

/-- ACT_PL_REF (R442). -/
def execActPlRef (m : Master) (value : Word) (s : State) : Host.Outcome State Fault Refusal := s.wrote m R.ACT_PL_CTRL value

/-- THM_SENS_BROKEN_CLEAR (R543). -/
def execThmSensBrokenClear (m : Master) (value : Word) (s : State) : Host.Outcome State Fault Refusal := s.wrote m R.THM_SENS_BROKEN value

/-! ### SMON and LKS -/

/-- WD_PAUSE (R476). -/
def execWdPause (m : Master) (p : Fin 3) (value : Word) (s : State) : Host.Outcome State Fault Refusal := s.wrote m (R.SMA_WD_PAUSE p.val) value

/-- SEAL_KEY_WRITE (R486). -/
def execSealKeyWrite (m : Master) (value : Word) (s : State) : Host.Outcome State Fault Refusal := s.wrote m R.SMA_SEAL_KEY value

/-- SEAL_PROG_GO (R486). -/
def execSealProgGo (m : Master) (value : Word) (supply cool : Bool) (s : State) : Host.Outcome State Fault Refusal :=
  .next (s.writeAs m R.SMA_SEAL_PROG fun s => s.sealProg (value.getLsbD 0) supply cool)

/-- LKS_SPLIT_REQ (R517). -/
def execLksSplitReq (m : Master) (p : Fin 3) (value : Word) (s : State) : Host.Outcome State Fault Refusal := s.wrote m (R.LKS_PAIR_CTRL p.val) (value ||| 1)

/-- LKS_REJOIN_REQ (R519). -/
def execLksRejoinReq (m : Master) (p : Fin 3) (value : Word) (s : State) : Host.Outcome State Fault Refusal := s.wrote m (R.LKS_PAIR_CTRL p.val) (value ||| 2)

/-! ### HIF and OLK -/

/-- HIF_TXQ_WRITE (R620). -/
def execHifTxqWrite (m : Master) (value : Word) (s : State) : Host.Outcome State Fault Refusal := s.wrote m R.HIF_TXQ_WR value

/-- OLK_TXQ_WRITE (R611). -/
def execOlkTxqWrite (m : Master) (value : Word) (s : State) : Host.Outcome State Fault Refusal := s.wrote m R.OLK_TXQ_WR value

/-- OLK_FWB_REL (R615). -/
def execOlkFwbRel (m : Master) (value : Word) (s : State) : Host.Outcome State Fault Refusal := s.wrote m R.OLK_FWB_REL value

/-- OLK_WAKE (R617). -/
def execOlkWake (m : Master) (value : Word) (s : State) : Host.Outcome State Fault Refusal := s.wrote m R.OLK_WAKE value

/-! ### NVC and UPD -/

/-- NVC_FIND_POD (R629). -/
def execNvcFindPod (m : Master) (p : Fin 3) (value : Word) (s : State) : Host.Outcome State Fault Refusal := s.nvcGo m p.val 1 value

/-- NVC_APPEND_POD (R628). -/
def execNvcAppendPod (m : Master) (p : Fin 3) (value : Word) (s : State) : Host.Outcome State Fault Refusal := s.nvcGo m p.val 2 value

/-- NVC_APPEND_LOG (R634). -/
def execNvcAppendLog (m : Master) (p : Fin 3) (value : Word) (s : State) : Host.Outcome State Fault Refusal := s.nvcGo m p.val 3 value

/-- NVC_READ (R626). -/
def execNvcRead (m : Master) (p : Fin 3) (value : Word) (s : State) : Host.Outcome State Fault Refusal := s.nvcGo m p.val 4 value

/-- NVC_PROGRAM (R626). -/
def execNvcProgram (m : Master) (p : Fin 3) (value : Word) (s : State) : Host.Outcome State Fault Refusal := s.nvcGo m p.val 5 value

/-- NVC_ERASE (R626). -/
def execNvcErase (m : Master) (p : Fin 3) (value : Word) (s : State) : Host.Outcome State Fault Refusal := s.nvcGo m p.val 6 value

/-- NVC_COMPACT (R633). -/
def execNvcCompact (m : Master) (p : Fin 3) (value : Word) (s : State) : Host.Outcome State Fault Refusal := s.nvcGo m p.val 7 value

/-- UPD_BLK_GO (R646). -/
def execUpdBlkGo (m : Master) (s : State) : Host.Outcome State Fault Refusal := s.wrote m R.UPD_BLK_GO 1

/-- UPD_STG_ABANDON (R645). -/
def execUpdStgAbandon (m : Master) (value : Word) (s : State) : Host.Outcome State Fault Refusal := s.wrote m R.UPD_STG_CTRL (value ||| 1)

/-- UPD_ACT_ARM (R651). -/
def execUpdActArm (m : Master) (value : Word) (s : State) : Host.Outcome State Fault Refusal := s.wrote m R.UPD_ACT_CTRL (value ||| 1)

/-- UPD_ACT_CANCEL (R651). -/
def execUpdActCancel (m : Master) (value : Word) (s : State) : Host.Outcome State Fault Refusal := s.wrote m R.UPD_ACT_CTRL (value ||| 2)

/-- UPD_CMD_CONFIRM (R664). -/
def execUpdCmdConfirm (m : Master) (value : Word) (s : State) : Host.Outcome State Fault Refusal := s.wrote m R.UPD_CMD (value ||| 1)

/-! ### PMC and RTL -/

/-- PMC_MODE_WRITE (R668). -/
def execPmcModeWrite (m : Master) (w : Fin 16) (value : Word) (s : State) : Host.Outcome State Fault Refusal := s.wrote m (R.PMC_MODE w.val) value

/-- PMC_CLR (R672). -/
def execPmcClr (m : Master) (w : Fin 16) (value : Word) (s : State) : Host.Outcome State Fault Refusal := s.wrote m (R.PMC_CLR w.val) value

/-- PMC_GNG_DONE (R679). -/
def execPmcGngDone (m : Master) (value : Word) (f : FlashBoot) (s : State) : Host.Outcome State Fault Refusal :=
  .next (s.writeAs m R.PMC_GNG_CTRL fun s => s.gongDone value f)

/-- PMC_OVERFLOW (R669): an event that no other command delivers. -/
def execPmcOverflow (n : Fin 512) (c : Fin 4) (s : State) : Host.Outcome State Fault Refusal := .next (if s.lDead then s else s.count n.val c.val)

/-- RTL_KEY (R681). -/
def execRtlKey (m : Master) (value : Word) (s : State) : Host.Outcome State Fault Refusal := s.wrote m R.RTL_KEY value

/-- RTL_MISM_GO (R685). -/
def execRtlMismGo (m : Master) (value : Word) (v : Verified) (err : Option VrfErr) (s : State) : Host.Outcome State Fault Refusal :=
  .next (s.writeAs m R.RTL_MISM fun s => s.rtlGate R.RTL_MISM fun s => s.rtlMismWrite (s.writer m 0) (value ||| 0x80000000) v err)

/-- RTL_STEP_GO (R687). -/
def execRtlStepGo (m : Master) (s : State) : Host.Outcome State Fault Refusal := s.wrote m R.RTL_STEP_GO 1

end Sys2Proof.Machine
end

