-- ==== Sys2Proof/Machine/Dispatch.lean ====
section
/-! DEFINITION. One arm per command: each is one direct call of its meaning. -/

namespace Sys2Proof.Machine

/-- The effect of a command on everything but the queue. -/
def exec (i : Instr) (s : State) : Host.Outcome State Fault Refusal :=
  match i with
  | .registerWrite m addr size value hwSet => Sys2Proof.Machine.execRegisterWrite m addr size value hwSet s
  | .rcRead m addr size added ecc tag => Sys2Proof.Machine.execRcRead m addr size added ecc tag s
  | .loHiLatchRead m addr tag => Sys2Proof.Machine.execLoHiLatchRead m addr tag s
  | .idlFrameReceive die copy0 copy1 => Sys2Proof.Machine.execIdlFrameReceive die copy0 copy1 s
  | .idlLaneDown lane => Sys2Proof.Machine.execIdlLaneDown lane s
  | .idlLost => Sys2Proof.Machine.execIdlLost s
  | .idlLaneRetry lane => Sys2Proof.Machine.execIdlLaneRetry lane s
  | .idlLaneRestored lane => Sys2Proof.Machine.execIdlLaneRestored lane s
  | .dDieAccess m addr size write value hwSet tag => Sys2Proof.Machine.execDDieAccess m addr size write value hwSet tag s
  | .dDieAccessComplete => Sys2Proof.Machine.execDDieAccessComplete s
  | .smbAccessTimeout => Sys2Proof.Machine.execSmbAccessTimeout s
  | .clkMonCpu => Sys2Proof.Machine.execClkMonCpu s
  | .clkMonCtrl => Sys2Proof.Machine.execClkMonCtrl s
  | .smonbClockFault => Sys2Proof.Machine.execSmonbClockFault s
  | .xtal25Loss => Sys2Proof.Machine.execXtal25Loss s
  | .xtal32Loss => Sys2Proof.Machine.execXtal32Loss s
  | .clvAlarmFire => Sys2Proof.Machine.execClvAlarmFire s
  | .clvAlarmRearm m hi value => Sys2Proof.Machine.execClvAlarmRearm m hi value s
  | .timeExchange => Sys2Proof.Machine.execTimeExchange s
  | .clvSyncTimeout => Sys2Proof.Machine.execClvSyncTimeout s
  | .clvRateLimit demand => Sys2Proof.Machine.execClvRateLimit demand s
  | .clvPtpRateWrite m value => Sys2Proof.Machine.execClvPtpRateWrite m value s
  | .clvPeriodic n => Sys2Proof.Machine.execClvPeriodic n s
  | .clvPerPeriodWrite m n value => Sys2Proof.Machine.execClvPerPeriodWrite m n value s
  | .jrnInsert => Sys2Proof.Machine.execJrnInsert s
  | .jrnInsertTimeout => Sys2Proof.Machine.execJrnInsertTimeout s
  | .jrnOverrun => Sys2Proof.Machine.execJrnOverrun s
  | .jrnPinRelease m value => Sys2Proof.Machine.execJrnPinRelease m value s
  | .jrnStart => Sys2Proof.Machine.execJrnStart s
  | .jrnFwCommit m c => Sys2Proof.Machine.execJrnFwCommit m c s
  | .modeReqArming m => Sys2Proof.Machine.execModeReqArming m s
  | .modeReqDrive m => Sys2Proof.Machine.execModeReqDrive m s
  | .modeReqCharge m => Sys2Proof.Machine.execModeReqCharge m s
  | .modeReqService m => Sys2Proof.Machine.execModeReqService m s
  | .modeReqSleep m => Sys2Proof.Machine.execModeReqSleep m s
  | .modeReqClearSafe m => Sys2Proof.Machine.execModeReqClearSafe m s
  | .modeReqClearDegrade m => Sys2Proof.Machine.execModeReqClearDegrade m s
  | .modeReqInvalid m value => Sys2Proof.Machine.execModeReqInvalid m value s
  | .sleepTimeout => Sys2Proof.Machine.execSleepTimeout s
  | .sleepDeferred => Sys2Proof.Machine.execSleepDeferred s
  | .dormantNvmIdle => Sys2Proof.Machine.execDormantNvmIdle s
  | .dormantRailsOff => Sys2Proof.Machine.execDormantRailsOff s
  | .wakeAfterEntry f => Sys2Proof.Machine.execWakeAfterEntry f s
  | .safeDecision => Sys2Proof.Machine.execSafeDecision s
  | .degradeReaction => Sys2Proof.Machine.execDegradeReaction s
  | .enLevelChange c enA enB => Sys2Proof.Machine.execEnLevelChange c enA enB s
  | .openOnceLowOk c => Sys2Proof.Machine.execOpenOnceLowOk c s
  | .enDiscrepancy c => Sys2Proof.Machine.execEnDiscrepancy c s
  | .wakeEvent src f => Sys2Proof.Machine.execWakeEvent src f s
  | .smonFirstSelection c => Sys2Proof.Machine.execSmonFirstSelection c s
  | .logicBistDone fail => Sys2Proof.Machine.execLogicBistDone fail s
  | .memoryBistDone fail => Sys2Proof.Machine.execMemoryBistDone fail s
  | .cleCtxSwtrig m n => Sys2Proof.Machine.execCleCtxSwtrig m n s
  | .cleRateGen g pairs => Sys2Proof.Machine.execCleRateGen g pairs s
  | .cleRunStart lane => Sys2Proof.Machine.execCleRunStart lane s
  | .cleRunCommit lane errs => Sys2Proof.Machine.execCleRunCommit lane errs s
  | .cleDeliver => Sys2Proof.Machine.execCleDeliver s
  | .cleCtxEnable m n value => Sys2Proof.Machine.execCleCtxEnable m n value s
  | .cleCtxDisable m n value => Sys2Proof.Machine.execCleCtxDisable m n value s
  | .cleBankWrite m n value => Sys2Proof.Machine.execCleBankWrite m n value s
  | .cleChainWrite m n value => Sys2Proof.Machine.execCleChainWrite m n value s
  | .cleStateWrite m n k two value => Sys2Proof.Machine.execCleStateWrite m n k two value s
  | .cleCoefWrite m sec w value => Sys2Proof.Machine.execCleCoefWrite m sec w value s
  | .cleRsvWrite m value => Sys2Proof.Machine.execCleRsvWrite m value s
  | .cleScrub word err => Sys2Proof.Machine.execCleScrub word err s
  | .adcSeqSwtrig m q => Sys2Proof.Machine.execAdcSeqSwtrig m q s
  | .adcSeqHold => Sys2Proof.Machine.execAdcSeqHold s
  | .adcSeqComplete q codes => Sys2Proof.Machine.execAdcSeqComplete q codes s
  | .adcHandover => Sys2Proof.Machine.execAdcHandover s
  | .adcSpareCalDone dev => Sys2Proof.Machine.execAdcSpareCalDone dev s
  | .adcRefCheck core dev => Sys2Proof.Machine.execAdcRefCheck core dev s
  | .adcCalNow m value => Sys2Proof.Machine.execAdcCalNow m value s
  | .adcWcTrip k above below => Sys2Proof.Machine.execAdcWcTrip k above below s
  | .adcSdResult n y => Sys2Proof.Machine.execAdcSdResult n y s
  | .adcSdCmpTrip n value => Sys2Proof.Machine.execAdcSdCmpTrip n value s
  | .adcSdLoss n data => Sys2Proof.Machine.execAdcSdLoss n data s
  | .tmuOffsetCalReq m sys value => Sys2Proof.Machine.execTmuOffsetCalReq m sys value s
  | .tmuOffsetCalDone sys => Sys2Proof.Machine.execTmuOffsetCalDone sys s
  | .tmuEnable m value => Sys2Proof.Machine.execTmuEnable m value s
  | .tmuDisable m value => Sys2Proof.Machine.execTmuDisable m value s
  | .tmuStart => Sys2Proof.Machine.execTmuStart s
  | .tmuPosReentry => Sys2Proof.Machine.execTmuPosReentry s
  | .tmuPlaneChange => Sys2Proof.Machine.execTmuPlaneChange s
  | .tmuBcBudget => Sys2Proof.Machine.execTmuBcBudget s
  | .bcBudgetClear => Sys2Proof.Machine.execBcBudgetClear s
  | .bcTestDone gsFail v0 v1 => Sys2Proof.Machine.execBcTestDone gsFail v0 v1 s
  | .pfbEnable m value => Sys2Proof.Machine.execPfbEnable m value s
  | .pfbResEnable m value => Sys2Proof.Machine.execPfbResEnable m value s
  | .resAcquire => Sys2Proof.Machine.execResAcquire s
  | .resLock => Sys2Proof.Machine.execResLock s
  | .resLoss cond => Sys2Proof.Machine.execResLoss cond s
  | .resCalFit => Sys2Proof.Machine.execResCalFit s
  | .resCheckPass => Sys2Proof.Machine.execResCheckPass s
  | .pfbResCheckFail => Sys2Proof.Machine.execPfbResCheckFail s
  | .encEdge a b na nb => Sys2Proof.Machine.execEncEdge a b na nb s
  | .encIndex n => Sys2Proof.Machine.execEncIndex n s
  | .encSpeedTimeout => Sys2Proof.Machine.execEncSpeedTimeout s
  | .hallSectorChange m code stable jitter => Sys2Proof.Machine.execHallSectorChange m code stable jitter s
  | .hallTimeout m => Sys2Proof.Machine.execHallTimeout m s
  | .cmpArm m c value => Sys2Proof.Machine.execCmpArm m c value s
  | .pwmRunStart m g value => Sys2Proof.Machine.execPwmRunStart m g value s
  | .pwmCarrierStart g => Sys2Proof.Machine.execPwmCarrierStart g s
  | .pwmRunStop m g value => Sys2Proof.Machine.execPwmRunStop m g value s
  | .pwmCentreEvent g => Sys2Proof.Machine.execPwmCentreEvent g s
  | .pwmPeakEvent g => Sys2Proof.Machine.execPwmPeakEvent g s
  | .pwmUpdateEvent g => Sys2Proof.Machine.execPwmUpdateEvent g s
  | .safePatternApply g => Sys2Proof.Machine.execSafePatternApply g s
  | .gateTurnOn ch confirmed boot => Sys2Proof.Machine.execGateTurnOn ch confirmed boot s
  | .pwmConfirmTmo ch => Sys2Proof.Machine.execPwmConfirmTmo ch s
  | .pwmGateUncmd n low high => Sys2Proof.Machine.execPwmGateUncmd n low high s
  | .pwmGateNoOn ch => Sys2Proof.Machine.execPwmGateNoOn ch s
  | .gdrGcFault n low => Sys2Proof.Machine.execGdrGcFault n low s
  | .gdrLatchClear m which value gs gf lgOff lgClear => Sys2Proof.Machine.execGdrLatchClear m which value gs gf lgOff lgClear s
  | .gdrBootUv k => Sys2Proof.Machine.execGdrBootUv k s
  | .gdrCpFail k => Sys2Proof.Machine.execGdrCpFail k s
  | .gdrLgVds k => Sys2Proof.Machine.execGdrLgVds k s
  | .gdrLgCc b => Sys2Proof.Machine.execGdrLgCc b s
  | .lgDiagDone legs vbat vo => Sys2Proof.Machine.execLgDiagDone legs vbat vo s
  | .abcSwitch mv => Sys2Proof.Machine.execAbcSwitch mv s
  | .gdrAbcBudget => Sys2Proof.Machine.execGdrAbcBudget s
  | .lvcEnable m value => Sys2Proof.Machine.execLvcEnable m value s
  | .lvcDcxSsEnd => Sys2Proof.Machine.execLvcDcxSsEnd s
  | .lvcDcxSrOn => Sys2Proof.Machine.execLvcDcxSrOn s
  | .lvcDcxStartFail => Sys2Proof.Machine.execLvcDcxStartFail s
  | .lvcRunEntry => Sys2Proof.Machine.execLvcRunEntry s
  | .lvcShed => Sys2Proof.Machine.execLvcShed s
  | .lvcOrderlyStop m value => Sys2Proof.Machine.execLvcOrderlyStop m value s
  | .lvcStopDone => Sys2Proof.Machine.execLvcStopDone s
  | .lvcVinLow => Sys2Proof.Machine.execLvcVinLow s
  | .lvcOutUv => Sys2Proof.Machine.execLvcOutUv s
  | .lvcHeadroom => Sys2Proof.Machine.execLvcHeadroom s
  | .lvcIlim => Sys2Proof.Machine.execLvcIlim s
  | .lvcRsRetry m value => Sys2Proof.Machine.execLvcRsRetry m value s
  | .chgEnable m value => Sys2Proof.Machine.execChgEnable m value s
  | .chgFeStart => Sys2Proof.Machine.execChgFeStart s
  | .chgGridTimeout => Sys2Proof.Machine.execChgGridTimeout s
  | .chgPilotChange p => Sys2Proof.Machine.execChgPilotChange p s
  | .ppMeasure ohms => Sys2Proof.Machine.execPpMeasure ohms s
  | .chgOrderlyStop m value => Sys2Proof.Machine.execChgOrderlyStop m value s
  | .chgStopDone => Sys2Proof.Machine.execChgStopDone s
  | .chgGridFault freq => Sys2Proof.Machine.execChgGridFault freq s
  | .chgPllUnlock => Sys2Proof.Machine.execChgPllUnlock s
  | .actEnable m a value => Sys2Proof.Machine.execActEnable m a value s
  | .actGo m a value => Sys2Proof.Machine.execActGo m a value s
  | .actStop m a value => Sys2Proof.Machine.execActStop m a value s
  | .actStill a => Sys2Proof.Machine.execActStill a s
  | .actStall a => Sys2Proof.Machine.execActStall a s
  | .actMoveTmo a => Sys2Proof.Machine.execActMoveTmo a s
  | .actSupLow a => Sys2Proof.Machine.execActSupLow a s
  | .actPlRef m value => Sys2Proof.Machine.execActPlRef m value s
  | .plInhibitCut c => Sys2Proof.Machine.execPlInhibitCut c s
  | .plInhibitEnd c => Sys2Proof.Machine.execPlInhibitEnd c s
  | .smonEvaluate c inp => Sys2Proof.Machine.execSmonEvaluate c inp s
  | .smonbVdcOv => Sys2Proof.Machine.execSmonbVdcOv s
  | .smonbOverspeed => Sys2Proof.Machine.execSmonbOverspeed s
  | .smonbAscImplaus phase => Sys2Proof.Machine.execSmonbAscImplaus phase s
  | .smonOutFault c back => Sys2Proof.Machine.execSmonOutFault c back s
  | .smonbSupplyRestore => Sys2Proof.Machine.execSmonbSupplyRestore s
  | .smonbPodReceive => Sys2Proof.Machine.execSmonbPodReceive s
  | .wdPeriodStart c p => Sys2Proof.Machine.execWdPeriodStart c p s
  | .wdAnswer bClock => Sys2Proof.Machine.execWdAnswer bClock s
  | .wdHoldExpire c p => Sys2Proof.Machine.execWdHoldExpire c p s
  | .wdPause m p value => Sys2Proof.Machine.execWdPause m p value s
  | .xcmpExchange => Sys2Proof.Machine.execXcmpExchange s
  | .smonXcmpLost => Sys2Proof.Machine.execSmonXcmpLost s
  | .sealRead c a b => Sys2Proof.Machine.execSealRead c a b s
  | .sealKeyWrite m value => Sys2Proof.Machine.execSealKeyWrite m value s
  | .sealProgGo m value supply cool => Sys2Proof.Machine.execSealProgGo m value supply cool s
  | .sealProgDone ok => Sys2Proof.Machine.execSealProgDone ok s
  | .smonSadcFault k => Sys2Proof.Machine.execSmonSadcFault k s
  | .lksMismatch p item a b v err => Sys2Proof.Machine.execLksMismatch p item a b v err s
  | .lksResume p a b => Sys2Proof.Machine.execLksResume p a b s
  | .periphLoadIssue p addr size tag => Sys2Proof.Machine.execPeriphLoadIssue p addr size tag s
  | .lksTestInject missA missB => Sys2Proof.Machine.execLksTestInject missA missB s
  | .lksVrfScrub p err => Sys2Proof.Machine.execLksVrfScrub p err s
  | .lksTakeoverOffer p => Sys2Proof.Machine.execLksTakeoverOffer p s
  | .lksTakeover q => Sys2Proof.Machine.execLksTakeover q s
  | .lksSplitReq m p value => Sys2Proof.Machine.execLksSplitReq m p value s
  | .lkshoSplitReady p => Sys2Proof.Machine.execLkshoSplitReady p s
  | .lksSplit p => Sys2Proof.Machine.execLksSplit p s
  | .lksRejoinReq m p value => Sys2Proof.Machine.execLksRejoinReq m p value s
  | .lkshoRejoinReady p h v => Sys2Proof.Machine.execLkshoRejoinReady p h v s
  | .lksHoTmo p v => Sys2Proof.Machine.execLksHoTmo p v s
  | .lksTriDissent t k item => Sys2Proof.Machine.execLksTriDissent t k item s
  | .lksTriReload t => Sys2Proof.Machine.execLksTriReload t s
  | .lksTriRollback t item v err => Sys2Proof.Machine.execLksTriRollback t item v err s
  | .thmSample z reads => Sys2Proof.Machine.execThmSample z reads s
  | .thmSensBrokenClear m value => Sys2Proof.Machine.execThmSensBrokenClear m value s
  | .thmHardCutTrip k => Sys2Proof.Machine.execThmHardCutTrip k s
  | .thmHardCutRestore f => Sys2Proof.Machine.execThmHardCutRestore f s
  | .supVbatUv v => Sys2Proof.Machine.execSupVbatUv v s
  | .supVbatOv v => Sys2Proof.Machine.execSupVbatOv v s
  | .supVgdFault high v => Sys2Proof.Machine.execSupVgdFault high v s
  | .supRailFault rail high second => Sys2Proof.Machine.execSupRailFault rail high second s
  | .supRailRecover f => Sys2Proof.Machine.execSupRailRecover f s
  | .smonbRegFault => Sys2Proof.Machine.execSmonbRegFault s
  | .acpCommand f => Sys2Proof.Machine.execAcpCommand f s
  | .acpKeepalive f => Sys2Proof.Machine.execAcpKeepalive f s
  | .acpStatusReq f => Sys2Proof.Machine.execAcpStatusReq f s
  | .acpJournalReq f => Sys2Proof.Machine.execAcpJournalReq f s
  | .acpUpdateBlock f => Sys2Proof.Machine.execAcpUpdateBlock f s
  | .acpActivate f => Sys2Proof.Machine.execAcpActivate f s
  | .acpConfirm f => Sys2Proof.Machine.execAcpConfirm f s
  | .acpFwDefined t f => Sys2Proof.Machine.execAcpFwDefined t f s
  | .acpFrameInvalid t f => Sys2Proof.Machine.execAcpFrameInvalid t f s
  | .canRawFrame c ide id data age => Sys2Proof.Machine.execCanRawFrame c ide id data age s
  | .ethRawFrame data age => Sys2Proof.Machine.execEthRawFrame data age s
  | .hifCanBusoff c tec => Sys2Proof.Machine.execHifCanBusoff c tec s
  | .canBusoffRecover c => Sys2Proof.Machine.execCanBusoffRecover c s
  | .hostLost => Sys2Proof.Machine.execHostLost s
  | .statusSend => Sys2Proof.Machine.execStatusSend s
  | .hifTxStart n => Sys2Proof.Machine.execHifTxStart n s
  | .hifTxqWrite m value => Sys2Proof.Machine.execHifTxqWrite m value s
  | .olkBadFrame p => Sys2Proof.Machine.execOlkBadFrame p s
  | .olkStatus f => Sys2Proof.Machine.execOlkStatus f s
  | .olkFault f => Sys2Proof.Machine.execOlkFault f s
  | .olkFwSeg f => Sys2Proof.Machine.execOlkFwSeg f s
  | .olkFwBlockEnd f => Sys2Proof.Machine.execOlkFwBlockEnd f s
  | .olkActivate f => Sys2Proof.Machine.execOlkActivate f s
  | .olkUpdateReverted f => Sys2Proof.Machine.execOlkUpdateReverted f s
  | .olkApp f => Sys2Proof.Machine.execOlkApp f s
  | .olkTimeReq p seq k => Sys2Proof.Machine.execOlkTimeReq p seq k s
  | .olkTimeResp p seq t2 t3 k => Sys2Proof.Machine.execOlkTimeResp p seq t2 t3 k s
  | .olkProbe p seq => Sys2Proof.Machine.execOlkProbe p seq s
  | .olkAckRx p sym => Sys2Proof.Machine.execOlkAckRx p sym s
  | .olkNakRx p sym => Sys2Proof.Machine.execOlkNakRx p sym s
  | .olkNakRetry p => Sys2Proof.Machine.execOlkNakRetry p s
  | .olkAckTimeout p fault => Sys2Proof.Machine.execOlkAckTimeout p fault s
  | .olkProbeSend p => Sys2Proof.Machine.execOlkProbeSend p s
  | .olkStatusSend => Sys2Proof.Machine.execOlkStatusSend s
  | .olkPeerLost u => Sys2Proof.Machine.execOlkPeerLost u s
  | .olkRingRestored => Sys2Proof.Machine.execOlkRingRestored s
  | .olkFaultSend => Sys2Proof.Machine.execOlkFaultSend s
  | .olkTxqWrite m value => Sys2Proof.Machine.execOlkTxqWrite m value s
  | .olkFwbRel m value => Sys2Proof.Machine.execOlkFwbRel m value s
  | .olkWake m value => Sys2Proof.Machine.execOlkWake m value s
  | .hifEthLink up => Sys2Proof.Machine.execHifEthLink up s
  | .imageLoadDone => Sys2Proof.Machine.execImageLoadDone s
  | .podReadDone sys safety fmt => Sys2Proof.Machine.execPodReadDone sys safety fmt s
  | .sealCheck => Sys2Proof.Machine.execSealCheck s
  | .firmwareStart => Sys2Proof.Machine.execFirmwareStart s
  | .armingStepsDone => Sys2Proof.Machine.execArmingStepsDone s
  | .armingTimeout => Sys2Proof.Machine.execArmingTimeout s
  | .testReqLgDiag m => Sys2Proof.Machine.execTestReqLgDiag m s
  | .testReqLogicBist m => Sys2Proof.Machine.execTestReqLogicBist m s
  | .testReqMemoryBist m => Sys2Proof.Machine.execTestReqMemoryBist m s
  | .testReqBrakeChopper m => Sys2Proof.Machine.execTestReqBrakeChopper m s
  | .powerOnReset f => Sys2Proof.Machine.execPowerOnReset f s
  | .pinReset f => Sys2Proof.Machine.execPinReset f s
  | .softwareReset m value f => Sys2Proof.Machine.execSoftwareReset m value f s
  | .fatalReset f => Sys2Proof.Machine.execFatalReset f s
  | .nvcFindPod m p value => Sys2Proof.Machine.execNvcFindPod m p value s
  | .nvcAppendPod m p value => Sys2Proof.Machine.execNvcAppendPod m p value s
  | .nvcAppendLog m p value => Sys2Proof.Machine.execNvcAppendLog m p value s
  | .nvcRead m p value => Sys2Proof.Machine.execNvcRead m p value s
  | .nvcProgram m p value => Sys2Proof.Machine.execNvcProgram m p value s
  | .nvcErase m p value => Sys2Proof.Machine.execNvcErase m p value s
  | .nvcCompact m p value => Sys2Proof.Machine.execNvcCompact m p value s
  | .nvcOpComplete p ok => Sys2Proof.Machine.execNvcOpComplete p ok s
  | .updBlkGo m => Sys2Proof.Machine.execUpdBlkGo m s
  | .updBlockCommitted ok => Sys2Proof.Machine.execUpdBlockCommitted ok s
  | .updStgAbandon m value => Sys2Proof.Machine.execUpdStgAbandon m value s
  | .updStaged => Sys2Proof.Machine.execUpdStaged s
  | .updActArm m value => Sys2Proof.Machine.execUpdActArm m value s
  | .updActCancel m value => Sys2Proof.Machine.execUpdActCancel m value s
  | .updPreInterrupt => Sys2Proof.Machine.execUpdPreInterrupt s
  | .updhoReady p => Sys2Proof.Machine.execUpdhoReady p s
  | .updActivate => Sys2Proof.Machine.execUpdActivate s
  | .updActDone p => Sys2Proof.Machine.execUpdActDone p s
  | .updhoMigDone p => Sys2Proof.Machine.execUpdhoMigDone p s
  | .updhoMigFail p => Sys2Proof.Machine.execUpdhoMigFail p s
  | .updMigTimeout p => Sys2Proof.Machine.execUpdMigTimeout p s
  | .updCmdConfirm m value => Sys2Proof.Machine.execUpdCmdConfirm m value s
  | .updConfirmTimeout => Sys2Proof.Machine.execUpdConfirmTimeout s
  | .pmcCntLoRead m n tag => Sys2Proof.Machine.execPmcCntLoRead m n tag s
  | .pmcModeWrite m w value => Sys2Proof.Machine.execPmcModeWrite m w value s
  | .pmcClr m w value => Sys2Proof.Machine.execPmcClr m w value s
  | .pmcOverflow n c => Sys2Proof.Machine.execPmcOverflow n c s
  | .gongFreeze v0 v1 v2 => Sys2Proof.Machine.execGongFreeze v0 v1 v2 s
  | .pmcGngDone m value f => Sys2Proof.Machine.execPmcGngDone m value f s
  | .rtlKey m value => Sys2Proof.Machine.execRtlKey m value s
  | .rtlMismGo m value v err => Sys2Proof.Machine.execRtlMismGo m value v err s
  | .rtlStepGo m => Sys2Proof.Machine.execRtlStepGo m s
  | .jtagBypass tdi => Sys2Proof.Machine.execJtagBypass tdi s
  | .jtagIdcode => Sys2Proof.Machine.execJtagIdcode s
  | .jtagSamplePreload cells => Sys2Proof.Machine.execJtagSamplePreload cells s
  | .jtagDbgChal => Sys2Proof.Machine.execJtagDbgChal s
  | .jtagDbgResp sig => Sys2Proof.Machine.execJtagDbgResp sig s
  | .jtagExtest => Sys2Proof.Machine.execJtagExtest s
  | .jtagDbg op => Sys2Proof.Machine.execJtagDbg op s
  | .abcBudgetRelease => Sys2Proof.Machine.execAbcBudgetRelease s
  | .adcSeqContinuous q => Sys2Proof.Machine.execAdcSeqContinuous q s

end Sys2Proof.Machine
end

