-- ==== Sys2Proof/Machine/Tick.lean ====
section
/-! DEFINITION. What passes with time alone, when no command waits: the count of Clave (R37 to R39, R43, R44) and, once per control cycle, what runs without a command (R78, R259, R280, R294, R393, R666). -/

namespace Sys2Proof.Machine

/-! ### Clave -/

/-- Advance Clave. -/
def State.clvAdd (s : State) (n : Nat) : State := { s with clave := s.clave + BitVec.ofNat 64 n }

/-- Set the 4-bit accumulator of the coarse count. -/
def State.setFrac (s : State) (x : BitVec 4) : State := { s with clv := { s.clv with frac := x } }

/-- Set the cycles since the last rate correction. -/
def State.setSinceCorr (s : State) (n : Nat) : State := { s with clv := { s.clv with sinceCorr := n } }

/-- An edge of XTAL32 falls in this tick of 1.25 ns. -/
def xtalEdge (t : Nat) : Bool := decide (t * 32768 / 800000000 ≠ (t + 1) * 32768 / 800000000)

/-- An edge of the coarse count: 24,414 ticks, and one more at every 16th (R43). -/
def State.coarseEdge (s : State) : State :=
  (s.clvAdd (24414 + b2n (decide (s.clv.frac.toNat = 15)))).setFrac (s.clv.frac + 1)

/-- An edge falls, at which fine counting restarts after a wake once the Clave clock is stable: the PLLs are locked when JRN_START is
inserted (R44, R69). DEDUCED: log entry 30. -/
def State.edge (s : State) : State :=
  let s1 := s.coarseEdge
  if s.clv.resume && !s.railsDown && !s.jrn.startDue then { s1 with clv := { s1.clv with resume := false } } else s1

/-- Set the ticks since the last edge of the D-die oscillator. -/
def State.setSinceEdge (s : State) (n : Nat) : State := { s with clv := { s.clv with sinceEdge := n } }

/-- The D-die oscillator that stands in for XTAL32: each period lies within 3 % of nominal, its length there is left open (R28). -/
def State.oscTick (s : State) : State :=
  let n := s.clv.sinceEdge + 1
  if n < 23703 then s.setSinceEdge n
  else
    let f := s.fresh
    if f.1.getLsbD 0 || decide (25169 ≤ n) then (f.2.setSinceEdge 0).edge else f.2.setSinceEdge n

/-- The coarse count in DORMANT and after a wake (R28, R43, R44). -/
def State.coarseTick (s : State) : State :=
  if s.fbit F.CLV_STATUS_XTAL32_FB then s.oscTick else if xtalEdge s.time then s.edge else s

/-- Set what the rate has gathered, in ppb of a tick. -/
def State.setRateAcc (s : State) (r : Int) : State := { s with clv := { s.clv with rateAcc := r } }

/-- The fine count: one tick; a tick is added or withheld when the rate in force has gathered a whole one, and no two such corrections come
within 64 cycles (R37, R39, R46, R52, R54). -/
def State.fineTick (s : State) : State :=
  let acc := if s.rateNow = 0 then 0 else s.clv.rateAcc + s.rateNow
  if 64 ≤ s.clv.sinceCorr ∧ 1000000000 ≤ acc then (((s.clvAdd 2).setSinceCorr 1).setRateAcc (acc - 1000000000)).count 0x1F3 1
  else if 64 ≤ s.clv.sinceCorr ∧ acc ≤ -1000000000 then ((s.setSinceCorr 1).setRateAcc (acc + 1000000000)).count 0x1F3 1
  else ((s.clvAdd 1).setSinceCorr (min 64 (s.clv.sinceCorr + 1))).setRateAcc acc

/-! ### The levels that counters count (R666, R674) -/

/-- The level of each event of natural use L that the state shows. -/
def State.levels (s : State) : List (Nat × Bool) :=
  ([0, 1, 2].map fun p => (0x00A + 16 * p, s.lksSt (s.unitOf p) == 1)) ++ ([0, 1, 2].map fun p => (0x00D + 16 * p, s.lksSt (s.unitOf p) == 3)) ++
  ((List.range 12).map fun g => (0x0E5 + 8 * g, (s.grp g).pat != 0)) ++ ((List.range 12).map fun g => (0x0E6 + 8 * g, !s.permits g)) ++
  ((List.range 16).map fun z => (0x160 + z, s.fget (F.THM_ZONE_STAT_BAND z) == 2)) ++
  ([0, 1, 2, 3].map fun l => (0x040 + l, (s.lane l).run.isSome)) ++
  [(0x086, (s.chan 12).on), (0x0C1, s.fbit F.PFB_STAT_VALID), (0x144, s.fbit F.LVC_STAT_ILIM), (0x152, s.fbit F.CHG_STAT_DSAT),
    (0x184, s.safe.a.code != 0 || s.safe.b.code != 0), (0x186, s.idl.lane0.down || s.idl.lane1.down), (0x1A4, s.fbit F.HIF_STAT_HOST_LOST),
    (0x1B8, s.portUp 0), (0x1B9, s.portUp 1), (0x1E3, s.nvcAny fun _ => true), (0x1F5, s.fbit F.CLV_STATUS_LOCKED)]

/-- Deliver levels to their counters: those active, and those that have just ended. -/
def State.countLevels (s : State) : List (Nat × Bool) → State
  | [] => s
  | (n, l) :: t => (if l || s.pmc.levels.getLsbD n then s.countLevel n l else s).countLevels t

/-! ### A tick -/

/-- What happens in a control cycle without a command: the tracked angles and the encoder's bound, the carriers and gates, the chopper and
ABC, a waiting mode request, the conditions of a confirmation by time, and the levels of the counters. -/
def State.controlCycle (s : State) : State :=
  if s.lDead then s
  else
    let s0 := if s.tmu.bcTest.isSome || s.command 12 != s.fbit F.TMU_STAT_BC_ON then s.bcDrive else s
    let s1 := (((s0.idlFrames.phiAdvance).chgAdvance).chgRampEnd.encLimit).allFollow 12
    let s2 := (s1.hostLostEnd.modeEval).plUpdate.confWatch.cutWatch.evaluateA
    s2.countLevels s2.levels

/-- One tick of 1.25 ns. -/
def State.tick (s : State) : State :=
  let s1 := if s.coarse then s.coarseTick else s.fineTick
  let s2 := { s1 with time := s.time + 1 }
  if s2.time % 2 = 0 then s2.controlCycle else s2

end Sys2Proof.Machine
end

