-- ==== Sys2Proof/Machine/Step.lean ====
section
/-! DEFINITION. A step: the first waiting command, or one tick when none waits. -/

namespace Sys2Proof.Machine

/-- Take the command at the front of the queue and run it; on an empty queue time passes by one tick (DESIGN CHOICE, assumption 1). -/
def step (s : State) : Host.Outcome State Fault Refusal :=
  match s.pending with
  | [] => .next s.tick
  | c :: rest => exec c { s with pending := rest }

/-- The state with the command that a word spells put in front; no word spells one. -/
def State.withFetchWord (s : State) (nbits w : Nat) : State :=
  match decodeTableWord nbits w with
  | none => s
  | some c => { s with pending := c :: s.pending }

end Sys2Proof.Machine
end

