-- ==== Sys2Proof/Safety.lean ====
section
/-! DEFINITION. What claims call a sound state: registers and memory in canonical form, and no stored register bit that the register map does not have; and the words claims about single commands use: a write that is granted, a record journalled, what is left alone. -/

namespace Sys2Proof.Machine

/-- Every listed register holds only bits that its register has (R7). -/
def Regs.masked (m : SMap Word) : Bool := m.all fun p => (p.2 &&& RegMap.impl p.1) == p.2

/-- The state's maps are canonical and its registers hold only the bits they have. -/
def State.Inv (s : State) : Prop :=
  SMap.wf RegMap.reset s.regs = true ∧ Memory.wf s.mem = true ∧ Regs.masked s.regs = true

/-- `t` follows `s` soundly: it is sound where `s` is, and has the same commands waiting. -/
def State.Keeps (s t : State) : Prop := (s.Inv → t.Inv) ∧ t.pending = s.pending

/-- A write of the L-die register at `a` by master `m` is carried out now: the master issues (R20, R501, R519), the map has the
register (R6), the firewall passes it (R32, R33), it is no commit of a class above 5 (R72), and no write of a later pair in the same
interconnect cycle comes after it (R35). -/
def State.grants (s : State) (m : Master) (a : Nat) : Prop :=
  s.issues m = true ∧ placeOf a = .peripheral ∧ a % 4 = 0 ∧ (RegMap.find a).isSome = true ∧ RegMap.dDie a = false ∧
    s.mayWrite m a = true ∧ s.commitBad (s.masterNum m) a = false ∧ s.laterWrites m = []

/-- The journal has a place for `n` more hardware records (R63): the one a claim is about and those that counting may add. -/
def State.room (s : State) (n : Nat) : Prop := hwWaiting s.jrn.waiting + n ≤ 64

/-- How many hardware records with this code, instance and payload wait for insertion. -/
def State.noted (s : State) (code : BitVec 16) (inst : BitVec 8) (p : Payload) : Nat :=
  (s.jrn.waiting.filter fun r => !r.fw && r.code == code && r.inst == inst && r.payload == p).length

/-- From `s` to `t` no waiting hardware record is lost, and one with this code, instance and payload is added (R56, R57, R60). -/
def Journaled (s t : State) (c : Code) (inst : Nat) (p : Payload) : Prop :=
  s.noted c.code (BitVec.ofNat 8 inst) p < t.noted c.code (BitVec.ofNat 8 inst) p ∧ ∀ code i q, s.noted code i q ≤ t.noted code i q

/-- The input agreement unit of the master's pair holds no input that is to be replayed (R500). -/
def State.replayed (s : State) (m : Master) : Bool :=
  match m with
  | .core p h _ => (s.lksP (s.unitOfCore p.val h)).replay.isEmpty
  | _ => true

/-- A read of the L-die register at `a` by master `m` is carried out now (R6, R20, R500, R673). -/
def State.reads (s : State) (m : Master) (a : Nat) : Prop :=
  s.issues m = true ∧ placeOf a = .peripheral ∧ readable m a = true ∧ RegMap.dDie a = false ∧ s.replayed m = true

/-- The access ended well with this data. -/
def State.answered (t : State) (d : Word) : Prop := t.bus = { err := false, data := d }

/-- The registers that journalling and counting may touch: JRN_STATUS (R63) and PMC_OVF (R669). -/
def journalRegs : List Nat := R.JRN_STATUS :: (List.range 16).map fun k => R.PMC_OVF k

/-- Every register outside a list and `journalRegs` holds in `t` what it holds in `s`. -/
def SameRegs (s t : State) (l : List Nat) : Prop := ∀ a, a ∉ l → a ∉ journalRegs → t.rd a = s.rd a

/-- Every byte of SRAM and of the journal memory reads in `t` as in `s`. -/
def SameMem (s t : State) : Prop := ∀ a, t.mget a = s.mget a

/-- A frame of TYPE `ty` reaches the host interface with a good format and a good CRC (R557, R559, R561, R565, R619). -/
def State.hears (s : State) (ty : Nat) (f : AcpFrame) : Prop :=
  s.hifOn = true ∧ s.acpTakes f = true ∧ s.busOff f.path.val = false ∧ frameFormOk f = true ∧
    s.acpCrc ty (frameHead f ty) (frameBody f) = f.crc

/-- How far a host frame's sequence is ahead of the last one accepted (R570). -/
def State.ahead (s : State) (f : AcpFrame) : Nat := (f.seq - BitVec.ofNat 16 (s.fget F.HIF_SEQ_LAST_RX)).toNat

/-- The sequence of a host frame is one the device accepts (R570). -/
def State.inOrder (s : State) (f : AcpFrame) : Prop := s.fbit F.HIF_STAT_RX_SYNC = false ∨ (1 ≤ s.ahead f ∧ s.ahead f ≤ 32767)

/-- What a host frame leaves on being accepted: its sequence as LAST_RX, the host timer started anew at the frame, HOST_LOST cleared (R570, R577, R579). -/
def HostHeard (s t : State) (f : AcpFrame) : Prop :=
  t.fget F.HIF_SEQ_LAST_RX = f.seq.toNat ∧ t.fbit F.HIF_STAT_RX_SYNC = true ∧ t.hif.hostAt = s.time - f.age ∧ t.fbit F.HIF_STAT_HOST_LOST = false

/-- No test runs, requested, queued or of ARMING (R111, R115). -/
def State.noTest (s : State) : Prop := ∀ r : Fin 4, s.testOn r.val = false

/-- A command is the request of a test (R111). -/
abbrev IsTestRequest (c : Instr) (m : Master) (k : Nat) : Prop :=
  (c = .testReqLgDiag m ∧ k = 0) ∨ (c = .testReqLogicBist m ∧ k = 1) ∨ (c = .testReqMemoryBist m ∧ k = 2) ∨ (c = .testReqBrakeChopper m ∧ k = 3)

/-- A chain frame of another unit is new: its source is not in step yet, or its sequence is ahead of the last accepted (R604). -/
def State.fresher (s : State) (f : OlkRx) : Bool :=
  let d := (f.seq - BitVec.ofNat 16 (s.fget (F.OLK_PEER_SEQ_SEQ f.src.val))).toNat
  !s.rbit R.OLK_STAT (16 + f.src.val) || (decide (1 ≤ d) && decide (d ≤ 32767))

/-- What such a command takes from the port's registers. -/
def State.nvcArgs (s : State) (p op : Nat) (v : Word) : NvcOp :=
  { op := op
    old := v.getLsbD 4
    type := BitVec.ofNat 8 (bits v 15 8)
    addr := (s.rd (R.NVC_ADDR p)).toNat
    len := (s.rd (R.NVC_LEN p)).toNat
    nor := (s.rd (R.NVC_NOR p)).toNat }

/-- A register of each instance. -/
def fam (n : Nat) (r : Nat → Nat) : List Nat := (List.range n).map r

/-- A register of each instance of two dimensions. -/
def fam2 (n m : Nat) (r : Nat → Nat → Nat) : List Nat := (List.range n).flatMap fun i => (List.range m).map (r i)

/-- The registers of a context that its enable, disable, bank swap and preload touch. -/
def ctxRegs : List Nat :=
  fam 128 R.CLE_CTX_CTRL ++ fam 128 R.CLE_CTX_STAT ++ fam 128 R.CLE_CTX_FE_TMR ++ fam2 128 8 R.CLE_CTX_S1 ++ fam2 128 8 R.CLE_CTX_S2

/-- What a trigger notes of a context or a sequence. -/
def triggerRegs : List Nat :=
  fam 128 R.CLE_CTX_OVR ++ fam 128 R.CLE_CTX_STAMP_LO ++ fam 128 R.CLE_CTX_STAMP_HI ++ fam 32 R.ADC_SEQ_LATE ++
    fam 32 R.ADC_SEQ_STAMP_LO ++ fam 32 R.ADC_SEQ_STAMP_HI

/-- What a run of the closed-loop engine notes. -/
def runRegs : List Nat :=
  fam 128 R.CLE_CTX_ERR ++ fam 128 R.CLE_CTX_MEAS ++ fam 128 R.CLE_CTX_OUT ++ fam 128 R.CLE_CTX_SPR ++ fam 128 R.CLE_CTX_UNSAT ++
    fam 4 R.CLE_GLB_LOAD ++ [R.CLE_GLB_CTRL, R.CLE_GLB_ECC_ADDR, R.CLE_GLB_ECC_CNT]

/-- The state of the timer groups. -/
def groupRegs : List Nat :=
  fam 12 R.PWM_GRP_CTRL ++ fam 12 R.PWM_GRP_STAT ++ fam 12 R.PWM_GRP_SWALLOW ++ fam 12 R.PWM_GRP_LEGMODE

/-- The shadows of the legs and the duty in force. -/
def shadowRegs : List Nat :=
  fam2 12 4 R.PWM_GRP_DUTY ++ fam2 12 4 R.PWM_GRP_DUTYL ++ fam2 12 4 R.PWM_GRP_PHASE ++ fam2 12 4 R.PWM_GRP_DUTY_ACT

/-- What torque control shows. -/
def torqueRegs : List Nat :=
  fam 2 R.TMU_SYS_VSAT_CNT ++ fam 2 R.TMU_SYS_NARROW_CNT ++ [R.TMU_STAT, R.TMU_TQ_APPLIED, R.TMU_TQ_EST]

/-- What the actuators show, and the compare channels they use. -/
def actRegs : List Nat :=
  fam 3 R.ACT_STAT ++ fam 8 R.PFB_CMP_CTRL ++ fam 8 R.PFB_CMP_STAT ++ fam 8 R.PFB_CMP_STAMP_LO ++ fam 8 R.PFB_CMP_STAMP_HI ++
    fam 8 R.PFB_CMP_VAL ++ [R.ACT_PL_STAT]

/-- What the safety channels show. -/
def channelRegs : List Nat :=
  [R.SMA_STAT, R.SMA_SPEED, R.SMA_VDC, R.SMA_SEL_SYS, R.PWM_GLB_SAFE, R.PWM_GLB_STAT, R.SMB_STAT, R.SMB_SPEED, R.SMB_VDC, R.SMB_AMP]

/-- What the mode sequencer shows, and the calibration requests it makes. -/
def modeRegs : List Nat :=
  fam 2 R.TMU_SYS_CAL ++ [R.SYS_MODE_STAT, R.SYS_ARM_STAT, R.SYS_EN_STAT]

/-- The leg latches and what the gate drivers sense. -/
def latchRegs : List Nat :=
  fam 2 R.GDR_TS_SIDE ++ fam 12 R.GDR_LGB_STAT ++ [R.GDR_LATCH_GC, R.GDR_LATCH_LG_LO, R.GDR_LATCH_LG_HI, R.GDR_GC_GS, R.GDR_GC_GF]

/-- What lockstep shows. -/
def lksRegs : List Nat :=
  fam 3 R.LKS_PAIR_STAT ++ fam 3 R.LKS_PAIR_LAST ++ fam 3 R.LKS_PAIR_MCNT ++ fam 3 R.LKS_PAIR_RTIME ++ fam 3 R.LKS_PAIR_STAMP_LO ++
    fam 3 R.LKS_PAIR_STAMP_HI ++ fam 3 R.LKS_PAIR_VPC ++ fam 3 R.LKS_PAIR_VCNT_LO ++ fam 3 R.LKS_PAIR_VCNT_HI ++ fam 2 R.LKS_TRI_STAT

/-- What the watchdogs show. -/
def watchRegs : List Nat :=
  fam 3 R.SMA_WD_STAT ++ fam 3 R.SMA_WD_CHAL ++ fam 3 R.SMB_WD_STAT ++ fam 3 R.SMB_WD_CHAL

/-- What staging shows. -/
def stagingRegs : List Nat :=
  [R.UPD_MISS, R.UPD_STAT, R.UPD_STG_TAG]

/-- What the host interface shows. -/
def hostRegs : List Nat :=
  [R.HIF_CNT0, R.HIF_CNT1, R.HIF_HOST_ACK, R.HIF_RXQ_WR, R.HIF_SEQ, R.HIF_STAT]

/-- What OmterLink shows. -/
def olkRegs : List Nat :=
  fam 2 R.OLK_PORT_CNT ++ fam 8 R.OLK_PEER_SEQ ++ [R.CLV_STATUS, R.OLK_FWB_STAT, R.OLK_SEQ, R.OLK_STAT, R.OLK_RXQ_WR]

/-- What the NVM controller shows. -/
def nvcRegs : List Nat :=
  fam 3 R.NVC_LEN ++ fam 3 R.NVC_RES ++ fam 3 R.NVC_SEQ ++ [R.NVC_LOG_HEAD, R.NVC_STAT]

/-- The addresses of the perturbation block, whose registers go back to reset with SERVICE (R683). -/
def rtlRegs : List Nat := fam 65536 fun k => 0x201F0000 + k

/-- The registers a command of the closed-loop engine, the converters, torque control and position feedback may change. -/
def controlFrame : Instr → Option (List Nat)
  | .cleCtxSwtrig .. =>
      some (ctxRegs ++ fam 128 R.CLE_CTX_OVR ++ fam 128 R.CLE_CTX_STAMP_HI ++ fam 128 R.CLE_CTX_STAMP_LO ++ [R.SYS_FW_VIOL])
  | .cleRateGen .. =>
      some (ctxRegs ++ triggerRegs ++ actRegs ++ fam 12 R.PWM_GRP_STAT ++ fam 12 R.PWM_GRP_SWALLOW ++
        [R.PFB_RES_ANGLE, R.PFB_RES_CAL_C0, R.PFB_RES_CAL_DELTA, R.PFB_RES_CAL_G, R.PFB_RES_CAL_S0, R.PFB_RES_FINE, R.PFB_STAT, R.TMU_STAT, R.TMU_TQ_APPLIED])
  | .cleRunCommit .. =>
      some (ctxRegs ++ runRegs ++ fam 128 R.CLE_CTX_OVR ++ fam 128 R.CLE_CTX_STAMP_HI ++ fam 128 R.CLE_CTX_STAMP_LO ++ fam 12 R.PWM_GRP_CTRL ++
        fam2 12 4 R.PWM_GRP_DUTY ++ fam2 12 4 R.PWM_GRP_DUTYL ++ fam 12 R.PWM_GRP_LEGMODE ++ fam2 12 4 R.PWM_GRP_PHASE ++
        fam 12 R.PWM_GRP_STAT ++ fam 2 R.TMU_SYS_VSAT_CNT ++ [R.CHG_STAT, R.LVC_STAT, R.TMU_STAT])
  | .cleDeliver .. =>
      some (fam 128 R.CLE_CTX_LAT ++ fam2 12 4 R.PWM_GRP_DUTY ++ fam2 12 4 R.PWM_GRP_DUTYL ++ fam 12 R.PWM_GRP_LEGMODE ++
        fam2 12 4 R.PWM_GRP_PHASE ++ fam 12 R.PWM_GRP_STAT ++ fam 2 R.TMU_SYS_VSAT_CNT ++ [R.CHG_STAT, R.TMU_STAT])
  | .cleCtxEnable .. | .cleCtxDisable .. | .cleBankWrite .. =>
      some (ctxRegs ++ [R.SYS_FW_VIOL])
  | .adcSeqHold .. | .adcSeqContinuous .. =>
      some (fam 32 R.ADC_SEQ_LATE ++ fam 32 R.ADC_SEQ_STAMP_HI ++ fam 32 R.ADC_SEQ_STAMP_LO)
  | .adcSeqComplete .. =>
      some (ctxRegs ++ groupRegs ++ torqueRegs ++ fam 96 R.ADC_AIN_RAW ++ fam 128 R.CLE_CTX_OVR ++ fam 128 R.CLE_CTX_STAMP_HI ++
        fam 128 R.CLE_CTX_STAMP_LO ++ fam2 12 4 R.PWM_GRP_DUTY ++ fam2 12 4 R.PWM_GRP_DUTYL ++ fam2 12 4 R.PWM_GRP_PHASE ++
        [R.CHG_STAT, R.LVC_STAT])
  | .adcSdResult .. =>
      some (ctxRegs ++ torqueRegs ++ fam 128 R.CLE_CTX_STAMP_HI ++ fam 128 R.CLE_CTX_STAMP_LO)
  | .adcSdLoss .. =>
      some (ctxRegs ++ fam 128 R.CLE_CTX_STAMP_HI ++ fam 128 R.CLE_CTX_STAMP_LO)
  | .tmuDisable .. =>
      some (ctxRegs ++ fam 12 R.PWM_GRP_LEGMODE ++ fam 12 R.PWM_GRP_STAT ++ fam 12 R.PWM_GRP_SWALLOW ++
        [R.SYS_FW_VIOL, R.TMU_CFG, R.TMU_STAT, R.TMU_TQ_APPLIED])
  | .tmuStart .. | .tmuPosReentry .. | .tmuPlaneChange .. =>
      some (ctxRegs ++ shadowRegs ++ fam 12 R.PWM_GRP_LEGMODE ++ fam 12 R.PWM_GRP_STAT ++ fam 12 R.PWM_GRP_SWALLOW ++ fam 2 R.TMU_SYS_VSAT_CNT ++
        [R.TMU_STAT, R.TMU_TQ_APPLIED])
  | .bcTestDone .. =>
      some ([R.SYS_TEST_QUEUE, R.SYS_TEST_STAT, R.TMU_BC_CTRL])
  | .resAcquire .. =>
      some (ctxRegs ++ actRegs ++ [R.PFB_RES_ANGLE, R.PFB_RES_FINE, R.PFB_STAT])
  | .resLock .. | .resLoss .. =>
      some (fam 128 R.CLE_CTX_STAT ++ fam 12 R.PWM_GRP_STAT ++ fam 12 R.PWM_GRP_SWALLOW ++ [R.PFB_STAT, R.TMU_STAT, R.TMU_TQ_APPLIED])
  | .encEdge .. | .encIndex .. =>
      some (ctxRegs ++ actRegs ++ fam 12 R.PWM_GRP_STAT ++ fam 12 R.PWM_GRP_SWALLOW ++
        [R.PFB_ENC_COUNT, R.PFB_ENC_IDX_DEV, R.PFB_STAT, R.TMU_STAT, R.TMU_TQ_APPLIED])
  | .hallSectorChange .. =>
      some (ctxRegs ++ groupRegs ++ actRegs ++ fam 3 R.PFB_HALL_INV_CNT ++ fam 3 R.PFB_HALL_STAMP_HI ++ fam 3 R.PFB_HALL_STAMP_LO ++
        fam 3 R.PFB_HALL_STAT ++ fam 3 R.PFB_HALL_STEP ++ fam2 12 4 R.PWM_GRP_DUTY ++ fam2 12 4 R.PWM_GRP_DUTYL ++
        fam2 12 4 R.PWM_GRP_PHASE ++ [R.CHG_STAT])
  | _ => none

/-- The registers a command of the bridges, the gate drivers, the LV converter, the charger, the actuators, thermal and supplies may change. -/
def powerFrame : Instr → Option (List Nat)
  | .pwmRunStop .. =>
      some (fam 12 R.PWM_GRP_CTRL ++ fam 12 R.PWM_GRP_STAT ++ fam 12 R.PWM_GRP_SWALLOW ++ [R.SYS_FW_VIOL])
  | .pwmCentreEvent .. =>
      some (ctxRegs ++ triggerRegs ++ fam 12 R.PWM_GRP_EVSTAMP_HI ++ fam 12 R.PWM_GRP_EVSTAMP_LO ++ fam 12 R.PWM_GRP_STAT ++
        fam 12 R.PWM_GRP_SWALLOW)
  | .pwmPeakEvent .. =>
      some (ctxRegs ++ triggerRegs ++ fam 12 R.PWM_GRP_STAT ++ fam 12 R.PWM_GRP_SWALLOW)
  | .pwmUpdateEvent .. =>
      some (ctxRegs ++ triggerRegs ++ groupRegs ++ shadowRegs ++ [R.CHG_STAT, R.LVC_STAT, R.TMU_STAT])
  | .safePatternApply .. =>
      some (fam 128 R.CLE_CTX_STAT ++ fam 12 R.PWM_GRP_STAT ++ fam 12 R.PWM_GRP_SWALLOW)
  | .gateTurnOn .. =>
      some (fam 12 R.PWM_GRP_DTEXT ++ [R.GDR_GC_GS])
  | .pwmConfirmTmo .. | .pwmGateUncmd .. | .pwmGateNoOn .. | .gdrBootUv .. | .gdrCpFail .. | .gdrLgVds .. | .gdrLgCc .. =>
      some (ctxRegs ++ groupRegs ++ latchRegs ++ fam 3 R.ACT_STAT ++ fam 8 R.PFB_CMP_STAT ++ fam2 12 4 R.PWM_GRP_DUTY ++
        fam2 12 4 R.PWM_GRP_DUTYL ++ fam2 12 4 R.PWM_GRP_PHASE ++ [R.ACT_PL_STAT, R.CHG_STAT, R.LVC_STAT, R.TMU_STAT])
  | .gdrLatchClear .. =>
      some (latchRegs ++ fam 12 R.PWM_GRP_STAT ++ fam 12 R.PWM_GRP_SWALLOW ++ [R.SYS_FW_VIOL])
  | .lgDiagDone .. =>
      some (ctxRegs ++ groupRegs ++ latchRegs ++ fam 3 R.ACT_STAT ++ fam 19 R.GDR_DIAG_RES ++ fam 8 R.PFB_CMP_STAT ++ fam2 12 4 R.PWM_GRP_DUTY ++
        fam2 12 4 R.PWM_GRP_DUTYL ++ fam2 12 4 R.PWM_GRP_PHASE ++
        [R.ACT_PL_STAT, R.CHG_STAT, R.LVC_STAT, R.SYS_ARM_STAT, R.SYS_TEST_QUEUE, R.SYS_TEST_STAT, R.TMU_STAT])
  | .lvcEnable .. | .lvcOrderlyStop .. =>
      some (ctxRegs ++ groupRegs ++ fam2 12 4 R.PWM_GRP_DUTY ++ fam2 12 4 R.PWM_GRP_DUTYL ++ fam2 12 4 R.PWM_GRP_PHASE ++
        [R.LVC_CTRL, R.LVC_STAT, R.SYS_FW_VIOL])
  | .lvcDcxSrOn .. =>
      some (ctxRegs ++ groupRegs ++ fam2 12 4 R.PWM_GRP_DUTY ++ fam2 12 4 R.PWM_GRP_DUTYL ++ fam2 12 4 R.PWM_GRP_PHASE ++ [R.LVC_CFG, R.LVC_STAT])
  | .lvcDcxStartFail .. | .lvcStopDone .. | .lvcVinLow .. =>
      some (ctxRegs ++ fam 12 R.PWM_GRP_CTRL ++ fam 12 R.PWM_GRP_STAT ++ fam 12 R.PWM_GRP_SWALLOW ++ [R.LVC_STAT])
  | .lvcRunEntry .. | .lvcShed .. =>
      some (fam2 12 4 R.PWM_GRP_DUTY ++ fam2 12 4 R.PWM_GRP_DUTYL ++ fam 12 R.PWM_GRP_LEGMODE ++ fam2 12 4 R.PWM_GRP_PHASE ++
        fam 12 R.PWM_GRP_STAT ++ [R.LVC_STAT])
  | .chgEnable .. | .chgOrderlyStop .. =>
      some (ctxRegs ++ groupRegs ++ fam2 12 4 R.PWM_GRP_DUTY ++ fam2 12 4 R.PWM_GRP_DUTYL ++ fam2 12 4 R.PWM_GRP_PHASE ++
        [R.CHG_CTRL, R.CHG_STAT, R.SYS_FW_VIOL])
  | .chgFeStart .. =>
      some (ctxRegs ++ fam 12 R.PWM_GRP_CTRL ++ fam2 12 4 R.PWM_GRP_DUTY ++ fam2 12 4 R.PWM_GRP_DUTYL ++ fam 12 R.PWM_GRP_LEGMODE ++
        fam2 12 4 R.PWM_GRP_PHASE ++ fam 12 R.PWM_GRP_STAT ++ [R.CHG_STAT])
  | .chgGridTimeout .. | .chgStopDone .. | .chgGridFault .. | .chgPllUnlock .. =>
      some (ctxRegs ++ fam 12 R.PWM_GRP_CTRL ++ fam 12 R.PWM_GRP_STAT ++ fam 12 R.PWM_GRP_SWALLOW ++ [R.CHG_STAT])
  | .chgPilotChange .. =>
      some (ctxRegs ++ fam 12 R.PWM_GRP_CTRL ++ fam 12 R.PWM_GRP_STAT ++ fam 12 R.PWM_GRP_SWALLOW ++ [R.CHG_PILOT, R.CHG_STAT])
  | .ppMeasure .. =>
      some (ctxRegs ++ fam 12 R.PWM_GRP_CTRL ++ fam 12 R.PWM_GRP_STAT ++ fam 12 R.PWM_GRP_SWALLOW ++ [R.CHG_PP, R.CHG_STAT])
  | .actGo .. =>
      some (ctxRegs ++ groupRegs ++ actRegs ++ [R.CHG_STAT, R.SYS_FW_VIOL])
  | .actStop .. =>
      some (ctxRegs ++ fam 3 R.ACT_STAT ++ fam 8 R.PFB_CMP_STAT ++ fam 12 R.PWM_GRP_CTRL ++ fam 12 R.PWM_GRP_STAT ++ fam 12 R.PWM_GRP_SWALLOW ++
        [R.ACT_PL_STAT, R.CHG_STAT, R.SYS_FW_VIOL])
  | .actPlRef .. =>
      some (ctxRegs ++ fam 12 R.PWM_GRP_CTRL ++ fam 12 R.PWM_GRP_STAT ++ fam 12 R.PWM_GRP_SWALLOW ++ [R.ACT_PL_STAT, R.CHG_STAT, R.SYS_FW_VIOL])
  | .actStill .. =>
      some (ctxRegs ++ groupRegs ++ actRegs ++ [R.CHG_STAT])
  | .actStall .. | .actMoveTmo .. | .actSupLow .. =>
      some (ctxRegs ++ groupRegs ++ fam 3 R.ACT_STAT ++ fam 8 R.PFB_CMP_STAT ++ [R.ACT_PL_STAT, R.CHG_STAT])
  | .thmSample .. =>
      some (ctxRegs ++ groupRegs ++ fam 3 R.ACT_STAT ++ fam 3 R.NVC_RES ++ fam 3 R.NVC_SEQ ++ fam 8 R.PFB_CMP_STAT ++ fam 24 R.THM_SENS_T ++
        fam 16 R.THM_ZONE_F ++ fam 16 R.THM_ZONE_STAT ++ fam 16 R.THM_ZONE_T ++
        [R.ACT_PL_STAT, R.CHG_STAT, R.LVC_STAT, R.NVC_STAT, R.THM_SENS_BROKEN, R.THM_STAT])
  | .supVgdFault .. =>
      some (ctxRegs ++ groupRegs ++ latchRegs ++ fam 3 R.ACT_STAT ++ fam 8 R.PFB_CMP_STAT ++ fam2 12 4 R.PWM_GRP_DUTY ++
        fam2 12 4 R.PWM_GRP_DUTYL ++ fam2 12 4 R.PWM_GRP_PHASE ++ [R.ACT_PL_STAT, R.CHG_STAT, R.LVC_STAT, R.SUP_LATCH, R.TMU_STAT])
  | .smonbRegFault .. =>
      some ([R.SMB_AMP, R.SMB_SPEED, R.SMB_STAT, R.SMB_VDC, R.SUP_LATCH])
  | _ => none

/-- The registers a command of modes, boot, links, safety channels, lockstep, the host interface, OmterLink, NVM, update, the journal and Rattle may change. -/
def systemFrame : Instr → Option (List Nat)
  | .jrnInsert .. =>
      some ([R.JRN_NEXT_SEQ, R.JRN_OLDEST_SEQ, R.PMC_GNG_SEQ])
  | .modeReqArming .. | .modeReqDrive .. | .modeReqCharge .. | .modeReqService .. | .modeReqSleep .. | .modeReqClearSafe ..
  | .modeReqClearDegrade .. =>
      some (ctxRegs ++ groupRegs ++ channelRegs ++ modeRegs ++ rtlRegs ++ fam 3 R.ACT_STAT ++ fam 8 R.PFB_CMP_STAT ++
        [R.ACT_PL_STAT, R.CHG_STAT, R.GDR_ABC_STAT, R.LVC_STAT, R.SYS_FW_VIOL, R.SYS_TEST_QUEUE, R.SYS_TEST_STAT, R.TMU_STAT, R.TMU_TQ_APPLIED])
  | .sleepDeferred .. =>
      some (ctxRegs ++ groupRegs ++ channelRegs ++ rtlRegs ++ fam 3 R.ACT_STAT ++ fam 8 R.PFB_CMP_STAT ++ fam 2 R.TMU_SYS_CAL ++
        [R.ACT_PL_STAT, R.CHG_STAT, R.GDR_ABC_STAT, R.LVC_STAT, R.SYS_ARM_STAT, R.SYS_EN_STAT, R.SYS_TEST_QUEUE, R.SYS_TEST_STAT, R.TMU_STAT, R.TMU_TQ_APPLIED])
  | .dormantNvmIdle .. =>
      some (ctxRegs ++ groupRegs ++ [R.LVC_STAT])
  | .safeDecision .. | .degradeReaction .. | .armingStepsDone .. =>
      some (ctxRegs ++ groupRegs ++ channelRegs ++ modeRegs ++ rtlRegs ++ fam 3 R.ACT_STAT ++ fam 8 R.PFB_CMP_STAT ++
        [R.ACT_PL_STAT, R.CHG_STAT, R.GDR_ABC_STAT, R.LVC_STAT, R.SYS_TEST_QUEUE, R.SYS_TEST_STAT, R.TMU_STAT, R.TMU_TQ_APPLIED])
  | .enLevelChange .. =>
      some (channelRegs ++ fam 128 R.CLE_CTX_STAT ++ fam 12 R.PWM_GRP_STAT ++ fam 12 R.PWM_GRP_SWALLOW ++
        [R.SYS_ARM_STAT, R.SYS_EN_STAT, R.TMU_STAT, R.TMU_TQ_APPLIED])
  | .enDiscrepancy .. | .smonbAscImplaus .. | .smonbPodReceive .. =>
      some (channelRegs ++ fam 12 R.PWM_GRP_STAT ++ fam 12 R.PWM_GRP_SWALLOW)
  | .smonFirstSelection .. | .smonEvaluate .. =>
      some (channelRegs ++ fam 128 R.CLE_CTX_STAT ++ fam 12 R.PWM_GRP_STAT ++ fam 12 R.PWM_GRP_SWALLOW ++ [R.TMU_STAT])
  | .imageLoadDone .. =>
      some (stagingRegs ++ fam 3 R.UPD_PAIR_STAT ++ [R.SEC_STAT, R.SYS_ARM_STAT])
  | .firmwareStart .. =>
      some (watchRegs ++ fam 3 R.UPD_PAIR_STAT ++
        [R.NVC_LOG_HEAD, R.PMC_GNG_CAUSE_HI, R.PMC_GNG_CAUSE_LO, R.PMC_GNG_CODE, R.PMC_GNG_SEQ, R.PMC_GNG_STAT, R.SYS_FW_CTRL])
  | .plInhibitCut .. =>
      some (ctxRegs ++ groupRegs ++ fam 3 R.ACT_STAT ++ fam 8 R.PFB_CMP_STAT ++
        [R.ACT_PL_STAT, R.CHG_STAT, R.PWM_GLB_SAFE, R.PWM_GLB_STAT, R.SMA_SPEED, R.SMA_STAT, R.SMA_VDC, R.SMB_STAT])
  | .plInhibitEnd .. =>
      some (fam 12 R.PWM_GRP_STAT ++ fam 12 R.PWM_GRP_SWALLOW ++
        [R.ACT_PL_STAT, R.PWM_GLB_SAFE, R.PWM_GLB_STAT, R.SMA_SPEED, R.SMA_STAT, R.SMA_VDC, R.SMB_STAT])
  | .smonbSupplyRestore .. =>
      some (fam 12 R.PWM_GRP_STAT ++ fam 12 R.PWM_GRP_SWALLOW ++ [R.SMB_STAT])
  | .wdPeriodStart .. =>
      some (watchRegs ++ fam 3 R.LKS_PAIR_STAT ++ fam 2 R.LKS_TRI_STAT)
  | .wdAnswer .. | .wdHoldExpire .. =>
      some (fam 3 R.LKS_PAIR_STAT ++ fam 2 R.LKS_TRI_STAT ++ fam 3 R.SMA_WD_STAT ++ fam 3 R.SMB_WD_STAT)
  | .smonXcmpLost .. =>
      some (channelRegs ++ fam 12 R.PWM_GRP_STAT ++ fam 12 R.PWM_GRP_SWALLOW ++ [R.SMA_XCMP_STAT])
  | .sealRead .. =>
      some (channelRegs ++ fam 12 R.PWM_GRP_STAT ++ fam 12 R.PWM_GRP_SWALLOW ++ [R.SMA_SEAL_STAT])
  | .lksMismatch .. | .lksTriRollback .. =>
      some (lksRegs)
  | .lksResume .. =>
      some (fam 3 R.LKS_PAIR_RTIME ++ fam 3 R.LKS_PAIR_STAT ++ fam 2 R.LKS_TRI_STAT)
  | .lksTestInject .. =>
      some (fam 3 R.LKS_PAIR_STAT ++ fam 2 R.LKS_TRI_STAT)
  | .lkshoRejoinReady .. | .lksHoTmo .. =>
      some (fam 3 R.LKS_PAIR_STAT ++ fam 3 R.LKS_PAIR_VCNT_HI ++ fam 3 R.LKS_PAIR_VCNT_LO ++ fam 3 R.LKS_PAIR_VPC ++ fam 2 R.LKS_TRI_STAT)
  | .hostLost .. =>
      some ([R.HIF_STAT, R.TMU_TQ_REF])
  | .olkAckRx .. =>
      some ([R.CLV_STATUS, R.OLK_FWB_STAT, R.OLK_SEQ, R.OLK_STAT])
  | .olkAckTimeout .. =>
      some (olkRegs)
  | .timeExchange .. =>
      some ([R.CLV_STATUS, R.OLK_SEQ])
  | .olkTimeReq .. | .olkStatusSend .. | .olkFaultSend .. =>
      some ([R.OLK_SEQ])
  | .olkTimeResp .. =>
      some (fam 16 R.CLV_PER_CTRL ++ [R.CLV_OFFSET, R.CLV_RATE, R.CLV_STATUS])
  | .olkPeerLost .. =>
      some ([R.CLV_STATUS, R.OLK_STAT])
  | .olkTxqWrite .. =>
      some ([R.OLK_SEQ, R.OLK_TXQ_RD, R.OLK_TXQ_WR, R.SYS_FW_VIOL])
  | .nvcOpComplete .. =>
      some (nvcRegs ++ fam 3 R.UPD_PAIR_STAT ++ [R.SYS_FW_VIOL])
  | .updBlockCommitted .. =>
      some (stagingRegs ++ [R.NVC_STAT])
  | .updStgAbandon .. | .updCmdConfirm .. =>
      some (stagingRegs ++ [R.SYS_FW_VIOL])
  | .updStaged .. =>
      some (stagingRegs ++ [R.SEC_STAT])
  | .updActivate .. =>
      some (fam 3 R.SMA_WD_STAT ++ fam 3 R.SMB_WD_STAT ++ [R.UPD_ACT_STAT])
  | .updActDone .. =>
      some (fam 3 R.SMA_WD_STAT ++ fam 3 R.SMB_WD_STAT ++ fam 3 R.UPD_PAIR_STAT ++ [R.SEC_STAT, R.UPD_ACT_STAT, R.UPD_STAT])
  | .updhoMigDone .. =>
      some (fam 3 R.UPD_PAIR_STAT)
  | .updConfirmTimeout .. =>
      some (stagingRegs)
  | .gongFreeze .. =>
      some (ctxRegs ++ groupRegs ++ channelRegs ++ modeRegs ++ rtlRegs ++ fam 3 R.ACT_STAT ++ fam 4 R.CLE_GLB_LOAD ++ fam 8 R.PFB_CMP_STAT ++
        [R.ACT_PL_STAT, R.CHG_STAT, R.GDR_ABC_STAT, R.LVC_STAT, R.PMC_GNG_CAUSE_HI, R.PMC_GNG_CAUSE_LO, R.PMC_GNG_CODE, R.PMC_GNG_STAT, R.SYS_TEST_QUEUE, R.SYS_TEST_STAT, R.TMU_STAT, R.TMU_TQ_APPLIED])
  | .rtlMismGo .. =>
      some (lksRegs ++ [R.RTL_MISM, R.SYS_FW_VIOL])
  | .rtlStepGo .. =>
      some (fam 16 R.CLV_PER_CTRL ++ [R.SYS_FW_VIOL])
  | .acpCommand .. | .acpUpdateBlock .. | .acpActivate .. | .acpConfirm .. | .acpFwDefined .. =>
      some (hostRegs ++ [R.SYS_FW_VIOL, R.TMU_TQ_REF])
  | .olkStatus .. | .olkFault .. | .olkFwSeg .. | .olkFwBlockEnd .. | .olkActivate .. | .olkUpdateReverted .. | .olkApp .. =>
      some (olkRegs ++ [R.SYS_FW_VIOL])
  | .updhoMigFail .. | .updMigTimeout .. =>
      some (fam 3 R.SMA_WD_STAT ++ fam 3 R.SMB_WD_STAT ++ fam 3 R.UPD_PAIR_STAT)
  | _ => none

/-- The address `a` is one of the `n` from `b` up. -/
def inBytes (a b n : Nat) : Bool := decide (b ≤ a) && decide (a < b + n)

/-- A frame for firmware or a raw frame may store into the slot of the host queue that is written next (R620); CAN0's copy of a frame that
CAN1 delivered in the same cycle into that frame's slot (R559). -/
def State.storesRxq (s : State) (a : Nat) : Bool :=
  inBytes a ((s.rd R.HIF_RXQ_BASE).toNat + hifSlot * ((s.rd R.HIF_RXQ_WR).toNat % s.rxqSlots)) hifSlot ||
    inBytes a ((s.rd R.HIF_RXQ_BASE).toNat + hifSlot * s.hif.can1.2) hifSlot

/-- A chain or one-hop frame may store into the slot of the OmterLink queue that is written next, or into a firmware block buffer
(R610, R612). -/
def State.storesOlk (s : State) (a : Nat) : Bool :=
  inBytes a ((s.rd R.OLK_RXQ_BASE).toNat + olkSlot * ((s.rd R.OLK_RXQ_WR).toNat % s.olkSlots)) olkSlot ||
    inBytes a (s.rd R.OLK_FWB_BASE).toNat 16384

/-- The bytes a completing operation of port `p` stores: a found pod or what is read from NOR (R625, R629). -/
def State.storesNvc (s : State) (p a : Nat) : Bool :=
  match s.nvcOp p with
  | none => false
  | some o =>
    if o.op = 1 then
      match (s.bank (s.bankOf p o.old)).current o.type with
      | none => false
      | some q => inBytes a o.addr q.payload.length
    else o.op == 4 && inBytes a o.addr o.len

/-- The segments that pair `p` is restarted with (R654). -/
def State.storesPair (s : State) (p a : Nat) : Bool :=
  match (s.updP p).run with
  | none => false
  | some r => (s.segs r.slot).any fun g => g.owner == p && inBytes a g.addr g.len

/-- An insertion stores the ring slot of the next sequence, and may store a slot of the pinned area (R61, R65). -/
def State.storesJrn (s : State) (a : Nat) : Bool :=
  inBytes a (ringAddr (s.rd R.JRN_NEXT_SEQ)) 32 || inBytes a (pinAddr 0) 8192 || s.jrn.pins.any fun p => inBytes a (pinAddr p.slot) 32

/-- The bytes of memory that a command may change, `a` among them: a reset loses all but the retained SRAM (R29, R715). -/
def State.stores (s : State) (a : Nat) : Instr → Bool
  | .registerWrite _ b z _ _ => inBytes a b.toNat (AccSize.bytes z) || !keptMem true a
  | .dDieAccess _ b z _ _ _ _ => inBytes a b.toNat (AccSize.bytes z) || !keptMem true a
  | .dDieAccessComplete | .softwareReset .. | .fatalReset .. | .pinReset .. | .wakeAfterEntry .. | .wakeEvent .. | .jtagDbg .. | .pmcGngDone ..
  | .clvAlarmFire | .dormantRailsOff | .supRailFault .. | .supRailRecover .. | .thmHardCutTrip .. | .thmHardCutRestore .. => !keptMem true a
  | .powerOnReset .. => true
  | .memoryBistDone .. | .imageLoadDone => decide (a < 0x10C00000)
  | .firmwareStart => inBytes a gongBase 4
  | .jrnInsert | .jrnStart .. => s.storesJrn a
  | .acpCommand .. | .acpKeepalive .. | .acpStatusReq .. | .acpJournalReq .. | .acpUpdateBlock .. | .acpActivate .. | .acpConfirm ..
  | .acpFwDefined .. | .acpFrameInvalid .. | .canRawFrame .. | .ethRawFrame .. => s.storesRxq a
  | .olkStatus .. | .olkFault .. | .olkFwSeg .. | .olkFwBlockEnd .. | .olkActivate .. | .olkUpdateReverted .. | .olkApp .. => s.storesOlk a
  | .nvcOpComplete p _ => s.storesNvc p.val a
  | .updActDone p => s.storesPair p.val a
  | _ => false

end Sys2Proof.Machine
end

