-- ==== Sys2Proof/WellFormed.lean ====
section
/-! DEFINITION. Which commands a sender can form: a write row carries the value that makes it that row, a list has the length its step measures, a frame the size its link carries. -/

namespace Sys2Proof

/-- A value SYS_MODE_REQ lists (R84). -/
def listedReq (v : BitVec 4) : Bool := [1, 2, 3, 4, 6, 8, 9].contains v.toNat

/-- At most eight pairs fall between two firings (R255, R257). -/
def ResCond.wf : ResCond → Bool
  | .samples pairs => decide (pairs.length ≤ 8)
  | _ => true

/-- The value of an NVC_CMD write has operation `n`. -/
def opIs (v : Word) (n : Nat) : Bool := decide (v.toNat % 16 = n)

/-- The parameter sets of a safety pod give SMON-B its seven scales and offsets (R456, R485). -/
def safetyPodWf (p : SafetyPod) : Bool := p.sets.all fun q => decide (q.2.scaleB.length = 7) && decide (q.2.ofsB.length = 7)

/-- An ACP frame fits its path: on CAN FD 54 bytes after the header, on Ethernet a datagram that one frame carries. -/
def acpWf (f : AcpFrame) : Bool :=
  if f.path = 2 then decide (f.udp.head.length + f.payload.length ≤ 1508) else decide (f.payload.length ≤ 54)

/-- The command is well formed. -/
def Instr.wf (i : Instr) : Bool :=
  match i with
  | .registerWrite _ _ _ _ _ => true
  | .rcRead _ _ _ _ _ _ => true
  | .loHiLatchRead _ addr _ => decide (addr.toNat % 4 = 0)
  | .idlFrameReceive _ _ _ => true
  | .idlLaneDown _ => true
  | .idlLost => true
  | .idlLaneRetry _ => true
  | .idlLaneRestored _ => true
  | .dDieAccess _ _ _ _ _ _ _ => true
  | .dDieAccessComplete => true
  | .smbAccessTimeout => true
  | .clkMonCpu => true
  | .clkMonCtrl => true
  | .smonbClockFault => true
  | .xtal25Loss => true
  | .xtal32Loss => true
  | .clvAlarmFire => true
  | .clvAlarmRearm _ _ _ => true
  | .timeExchange => true
  | .clvSyncTimeout => true
  | .clvRateLimit _ => true
  | .clvPtpRateWrite _ _ => true
  | .clvPeriodic _ => true
  | .clvPerPeriodWrite _ _ _ => true
  | .jrnInsert => true
  | .jrnInsertTimeout => true
  | .jrnOverrun => true
  | .jrnPinRelease _ _ => true
  | .jrnStart => true
  | .jrnFwCommit _ _ => true
  | .modeReqArming _ => true
  | .modeReqDrive _ => true
  | .modeReqCharge _ => true
  | .modeReqService _ => true
  | .modeReqSleep _ => true
  | .modeReqClearSafe _ => true
  | .modeReqClearDegrade _ => true
  | .modeReqInvalid _ value => !listedReq value
  | .sleepTimeout => true
  | .sleepDeferred => true
  | .dormantNvmIdle => true
  | .dormantRailsOff => true
  | .wakeAfterEntry _ => true
  | .safeDecision => true
  | .degradeReaction => true
  | .enLevelChange _ _ _ => true
  | .openOnceLowOk _ => true
  | .enDiscrepancy _ => true
  | .wakeEvent _ _ => true
  | .smonFirstSelection _ => true
  | .logicBistDone _ => true
  | .memoryBistDone _ => true
  | .cleCtxSwtrig _ _ => true
  | .cleRateGen _ pairs => decide (pairs.length ≤ 8)
  | .cleRunStart _ => true
  | .cleRunCommit _ _ => true
  | .cleDeliver => true
  | .cleCtxEnable _ _ value => value.getLsbD 0
  | .cleCtxDisable _ _ value => !value.getLsbD 0
  | .cleBankWrite _ _ _ => true
  | .cleChainWrite _ _ _ => true
  | .cleStateWrite _ _ _ _ _ => true
  | .cleCoefWrite _ _ _ _ => true
  | .cleRsvWrite _ _ => true
  | .cleScrub _ _ => true
  | .adcSeqSwtrig _ _ => true
  | .adcSeqHold => true
  | .adcSeqComplete _ codes => decide (codes.length ≤ 32)
  | .adcHandover => true
  | .adcSpareCalDone _ => true
  | .adcRefCheck _ _ => true
  | .adcCalNow _ _ => true
  | .adcWcTrip _ _ _ => true
  | .adcSdResult _ _ => true
  | .adcSdCmpTrip _ _ => true
  | .adcSdLoss _ _ => true
  | .tmuOffsetCalReq _ _ _ => true
  | .tmuOffsetCalDone _ => true
  | .tmuEnable _ value => value.getLsbD 0
  | .tmuDisable _ value => !value.getLsbD 0
  | .tmuStart => true
  | .tmuPosReentry => true
  | .tmuPlaneChange => true
  | .tmuBcBudget => true
  | .bcBudgetClear => true
  | .bcTestDone _ _ _ => true
  | .pfbEnable _ _ => true
  | .pfbResEnable _ _ => true
  | .resAcquire => true
  | .resLock => true
  | .resLoss cond => cond.wf
  | .resCalFit => true
  | .resCheckPass => true
  | .pfbResCheckFail => true
  | .encEdge _ _ _ _ => true
  | .encIndex _ => true
  | .encSpeedTimeout => true
  | .hallSectorChange _ _ _ _ => true
  | .hallTimeout _ => true
  | .cmpArm _ _ _ => true
  | .pwmRunStart _ _ value => value.getLsbD 0
  | .pwmCarrierStart _ => true
  | .pwmRunStop _ _ value => !value.getLsbD 0
  | .pwmCentreEvent _ => true
  | .pwmPeakEvent _ => true
  | .pwmUpdateEvent _ => true
  | .safePatternApply _ => true
  | .gateTurnOn _ _ _ => true
  | .pwmConfirmTmo _ => true
  | .pwmGateUncmd _ _ _ => true
  | .pwmGateNoOn _ => true
  | .gdrGcFault _ _ => true
  | .gdrLatchClear _ _ _ _ _ _ _ => true
  | .gdrBootUv _ => true
  | .gdrCpFail _ => true
  | .gdrLgVds _ => true
  | .gdrLgCc _ => true
  | .lgDiagDone legs _ _ => decide (legs.length = 19)
  | .abcSwitch _ => true
  | .gdrAbcBudget => true
  | .lvcEnable _ value => value.getLsbD 0
  | .lvcDcxSsEnd => true
  | .lvcDcxSrOn => true
  | .lvcDcxStartFail => true
  | .lvcRunEntry => true
  | .lvcShed => true
  | .lvcOrderlyStop _ value => !value.getLsbD 0
  | .lvcStopDone => true
  | .lvcVinLow => true
  | .lvcOutUv => true
  | .lvcHeadroom => true
  | .lvcIlim => true
  | .lvcRsRetry _ value => value.getLsbD 1
  | .chgEnable _ value => value.getLsbD 0
  | .chgFeStart => true
  | .chgGridTimeout => true
  | .chgPilotChange _ => true
  | .ppMeasure _ => true
  | .chgOrderlyStop _ value => !value.getLsbD 0
  | .chgStopDone => true
  | .chgGridFault _ => true
  | .chgPllUnlock => true
  | .actEnable _ _ _ => true
  | .actGo _ _ value => value.getLsbD 0
  | .actStop _ _ value => value.getLsbD 1
  | .actStill _ => true
  | .actStall _ => true
  | .actMoveTmo _ => true
  | .actSupLow _ => true
  | .actPlRef _ _ => true
  | .plInhibitCut _ => true
  | .plInhibitEnd _ => true
  | .smonEvaluate _ _ => true
  | .smonbVdcOv => true
  | .smonbOverspeed => true
  | .smonbAscImplaus _ => true
  | .smonOutFault _ _ => true
  | .smonbSupplyRestore => true
  | .smonbPodReceive => true
  | .wdPeriodStart _ _ => true
  | .wdAnswer _ => true
  | .wdHoldExpire _ _ => true
  | .wdPause _ _ _ => true
  | .xcmpExchange => true
  | .smonXcmpLost => true
  | .sealRead _ _ _ => true
  | .sealKeyWrite _ _ => true
  | .sealProgGo _ _ _ _ => true
  | .sealProgDone _ => true
  | .smonSadcFault _ => true
  | .lksMismatch _ _ _ _ _ _ => true
  | .lksResume _ _ _ => true
  | .periphLoadIssue _ _ _ _ => true
  | .lksTestInject _ _ => true
  | .lksVrfScrub _ _ => true
  | .lksTakeoverOffer _ => true
  | .lksTakeover _ => true
  | .lksSplitReq _ _ value => value.getLsbD 0
  | .lkshoSplitReady _ => true
  | .lksSplit _ => true
  | .lksRejoinReq _ _ value => value.getLsbD 1
  | .lkshoRejoinReady _ _ _ => true
  | .lksHoTmo _ _ => true
  | .lksTriDissent _ _ _ => true
  | .lksTriReload _ => true
  | .lksTriRollback _ _ _ _ => true
  | .thmSample _ reads => decide (reads.length ≤ 24)
  | .thmSensBrokenClear _ _ => true
  | .thmHardCutTrip _ => true
  | .thmHardCutRestore _ => true
  | .supVbatUv _ => true
  | .supVbatOv _ => true
  | .supVgdFault _ _ => true
  | .supRailFault _ _ _ => true
  | .supRailRecover _ => true
  | .smonbRegFault => true
  | .acpCommand f => acpWf f
  | .acpKeepalive f => acpWf f
  | .acpStatusReq f => acpWf f
  | .acpJournalReq f => acpWf f
  | .acpUpdateBlock f => acpWf f
  | .acpActivate f => acpWf f
  | .acpConfirm f => acpWf f
  | .acpFwDefined _ f => acpWf f
  | .acpFrameInvalid _ f => acpWf f
  | .canRawFrame _ ide id data _ => decide (data.length ≤ 64) && (ide || decide (id.toNat < 2048))
  | .ethRawFrame data _ => decide (data.length ≤ 1518)
  | .hifCanBusoff _ _ => true
  | .canBusoffRecover _ => true
  | .hostLost => true
  | .statusSend => true
  | .hifTxStart _ => true
  | .hifTxqWrite _ _ => true
  | .olkBadFrame _ => true
  | .olkStatus f => decide (f.payload.length ≤ 255)
  | .olkFault f => decide (f.payload.length ≤ 255)
  | .olkFwSeg f => decide (f.payload.length ≤ 255)
  | .olkFwBlockEnd f => decide (f.payload.length ≤ 255)
  | .olkActivate f => decide (f.payload.length ≤ 255)
  | .olkUpdateReverted f => decide (f.payload.length ≤ 255)
  | .olkApp f => decide (f.payload.length ≤ 255)
  | .olkTimeReq _ _ _ => true
  | .olkTimeResp _ _ _ _ _ => true
  | .olkProbe _ _ => true
  | .olkAckRx _ _ => true
  | .olkNakRx _ _ => true
  | .olkNakRetry _ => true
  | .olkAckTimeout _ _ => true
  | .olkProbeSend _ => true
  | .olkStatusSend => true
  | .olkPeerLost _ => true
  | .olkRingRestored => true
  | .olkFaultSend => true
  | .olkTxqWrite _ _ => true
  | .olkFwbRel _ _ => true
  | .olkWake _ _ => true
  | .hifEthLink _ => true
  | .imageLoadDone => true
  | .podReadDone _ safety _ => (safety.map safetyPodWf).getD true
  | .sealCheck => true
  | .firmwareStart => true
  | .armingStepsDone => true
  | .armingTimeout => true
  | .testReqLgDiag _ => true
  | .testReqLogicBist _ => true
  | .testReqMemoryBist _ => true
  | .testReqBrakeChopper _ => true
  | .powerOnReset _ => true
  | .pinReset _ => true
  | .softwareReset _ _ _ => true
  | .fatalReset _ => true
  | .nvcFindPod _ _ value => opIs value 1
  | .nvcAppendPod _ _ value => opIs value 2
  | .nvcAppendLog _ _ value => opIs value 3
  | .nvcRead _ _ value => opIs value 4
  | .nvcProgram _ _ value => opIs value 5
  | .nvcErase _ _ value => opIs value 6
  | .nvcCompact _ _ value => opIs value 7
  | .nvcOpComplete _ _ => true
  | .updBlkGo _ => true
  | .updBlockCommitted _ => true
  | .updStgAbandon _ value => value.getLsbD 0
  | .updStaged => true
  | .updActArm _ value => value.getLsbD 0
  | .updActCancel _ value => value.getLsbD 1
  | .updPreInterrupt => true
  | .updhoReady _ => true
  | .updActivate => true
  | .updActDone _ => true
  | .updhoMigDone _ => true
  | .updhoMigFail _ => true
  | .updMigTimeout _ => true
  | .updCmdConfirm _ value => value.getLsbD 0
  | .updConfirmTimeout => true
  | .pmcCntLoRead _ _ _ => true
  | .pmcModeWrite _ _ _ => true
  | .pmcClr _ _ _ => true
  | .pmcOverflow _ _ => true
  | .gongFreeze _ _ _ => true
  | .pmcGngDone _ _ _ => true
  | .rtlKey _ _ => true
  | .rtlMismGo _ value _ _ => value.getLsbD 31
  | .rtlStepGo _ => true
  | .jtagBypass _ => true
  | .jtagIdcode => true
  | .jtagSamplePreload _ => true
  | .jtagDbgChal => true
  | .jtagDbgResp sig => decide (sig.length = 64)
  | .jtagExtest => true
  | .jtagDbg _ => true
  | .abcBudgetRelease => true
  | .adcSeqContinuous _ => true

end Sys2Proof
end

