-- ==== Sys2Proof/Certificates/Slice0/Obligations.lean ====
section
/-! DEFINITION. The statements of this model, over one command or one step at a time. A clause of the form 'there is a next state with …' says that the command completes there and what it leaves. -/

open Sys2Proof Sys2Proof.Machine

/-! ### The queue and the step -/

/-- A step takes the command at the front of the queue and runs it with the rest waiting. -/
def Obligations.StepRunsTheFrontCommand : Prop :=
  ∀ (c : Instr) (rest : List Instr) (s : State), s.pending = c :: rest → step s = exec c { s with pending := rest }

/-- With no command waiting a step is one tick of 1.25 ns (the model's choice, assumption 1): outside a control cycle, in the fine count and
with no rate correction in force, Clave and the elapsed time go on by one and nothing else of registers and memory changes (R37). Where the
spec leaves a point of it open, the model's choice is log entry 1. -/
def Obligations.IdleStepIsATick : Prop :=
  ∀ s : State, s.pending = [] → s.coarse = false → s.rateNow = 0 → s.time % 2 = 0 →
    ∃ t, step s = .next t ∧ t.clave = s.clave + 1 ∧ t.time = s.time + 1 ∧ t.pending = [] ∧ (∀ a, t.rd a = s.rd a) ∧ SameMem s t

/-- What reset leaves: Clave 0, ARMING, every register at its reset value, memory and signals clear, no command and no record waiting. Where the
spec leaves a point of it open, the model's choice is log entries 4, 5, 118. -/
def Obligations.ResetState : Prop :=
  State.reset.clave = 0 ∧ State.reset.seq.mode = .arming ∧ State.reset.pending = [] ∧ State.reset.jrn.waiting = [] ∧
    (∀ a, State.reset.rd a = RegMap.reset a) ∧ (∀ a, State.reset.mget a = 0) ∧ ∀ i, State.reset.sget i = 0

/-- The state after reset is sound. -/
def Obligations.ResetIsSound : Prop := State.reset.Inv

/-- Every step from a sound state that answers a next state leaves a sound state: registers and memory in canonical form, no stored bit that a
register does not have. -/
def Obligations.StepKeepsSoundness : Prop :=
  ∀ s t : State, s.Inv → step s = .next t → t.Inv

/-- Every command answers a next state, in every state: none faults and none is refused; and none touches the queue of the commands that wait.
Where the spec leaves a point of it open, the model's choice is log entry 14. -/
def Obligations.EveryCommandAnswers : Prop :=
  ∀ (c : Instr) (s : State), ∃ t, exec c s = .next t ∧ t.pending = s.pending

/-! ### Registers, memory and the firewall (spec/01) -/

/-- The access codes of R9, bit by bit, for a bit that one field alone covers; hardware's setting wins over a write-1-to-clear of the same cycle
(R10); no other register changes. -/
def Obligations.AccessCodes : Prop :=
  ∀ (s : State) (w : WriteBy) (a : Nat) (v : Word) (r : RegSpec), RegMap.find a = some r →
    (∀ b, b ≠ a → (s.plainWrite w a v).rd b = s.rd b) ∧
    ∀ f ∈ r.fields, ∀ i, f.lo ≤ i → i ≤ f.hi → i < 32 → (∀ g ∈ r.fields, g ≠ f → i < g.lo ∨ g.hi < i) →
      ((s.plainWrite w a v).rd a).getLsbD i = match f.acc with
        | .rw => v.getLsbD i
        | .w1c => ((s.rd a).getLsbD i && !v.getLsbD i) || w.hw.getLsbD i
        | .w1s => (s.rd a).getLsbD i || v.getLsbD i
        | .rws => if s.unsealed || w.boot then v.getLsbD i else (s.rd a).getLsbD i
        | .rwm => if s.inMode .service then v.getLsbD i else (s.rd a).getLsbD i
        | .ro | .wo | .rc => (s.rd a).getLsbD i

/-- A store to SRAM that the firewall passes writes the bytes of its width, low byte first, and changes no other byte and no register, where no
write of a later pair comes after it in the same interconnect cycle; where one of the same word does, that one's value stands (R35). A
granted write of one of four registers that no further rule concerns stores what its fields take, and changes no other register. A write
that the firewall denies, of whatever width and wherever it goes, changes no register but SYS_FW_VIOL and no byte, is journalled with the
address and the pair, and ends with a bus error (R22, R32); another write of the peripheral range that is not a whole aligned word, or of an
address with no register, ends with a bus error and changes nothing (R6, R34). Where the spec leaves a point of it open, the model's choice
is log entries 14, 24. -/
def Obligations.RegisterWrites : Prop :=
  (∀ (s : State) (m : Master) (addr : Word) (z : AccSize) (v hw : Word), s.issues m = true →
    placeOf addr.toNat ≠ .hole → placeOf addr.toNat ≠ .rom → placeOf addr.toNat ≠ .peripheral →
    addr.toNat % AccSize.bytes z = 0 → s.mayStore m addr.toNat = true → s.laterWrites m = [] →
    ∃ t, exec (.registerWrite m addr z v hw) s = .next t ∧ t.answered 0 ∧ (∀ a, t.rd a = s.rd a) ∧
      (∀ i, i < AccSize.bytes z → t.mget (addr.toNat + i) = (v >>> (8 * i)).setWidth 8) ∧
      (∀ b, b < addr.toNat ∨ addr.toNat + AccSize.bytes z ≤ b → t.mget b = s.mget b)) ∧
  (∀ (s : State) (p q : Fin 3) (h k : Half) (x y : Bool) (addr v hw w : Word), s.issues (.core p h x) = true →
    placeOf addr.toNat = .shared → addr.toNat % 4 = 0 →
    s.masterPair (.core p h x) < s.masterPair (.core q k y) →
    s.writesNow = [{ cyc := s.busCyc, master := .core q k y, addr := addr.toNat, size := .word, value := w }] →
    ∃ t, exec (.registerWrite (.core p h x) addr .word v hw) s = .next t ∧ t.answered 0 ∧ (∀ a, t.rd a = s.rd a) ∧
      (∀ i, i < 4 → t.mget (addr.toNat + i) = (w >>> (8 * i)).setWidth 8) ∧
      (∀ b, b < addr.toNat ∨ addr.toNat + 4 ≤ b → t.mget b = s.mget b)) ∧
  (∀ (s : State) (m : Master) (v hw : Word) (a : Word), a.toNat ∈ [R.UPD_BLK_ADDR, R.CLV_PTP_BASE_CLV_LO, R.CLV_PTP_BASE_NS_LO, R.SYS_WAKE_EN] →
    s.grants m a.toNat →
    ∃ t, exec (.registerWrite m a .word v hw) s = .next t ∧ t.answered 0 ∧ t.rd a.toNat = v &&& RegMap.impl a.toNat ∧
      (∀ b, b ≠ a.toNat → t.rd b = s.rd b) ∧ SameMem s t) ∧
  (∀ (s : State) (m : Master) (addr v hw : Word) (z : AccSize), s.issues m = true →
    (placeOf addr.toNat = .peripheral ∧ s.barred m addr.toNat = true) ∨ (placeOf addr.toNat = .rom ∧ m ≠ .bootRom) ∨
      (placeOf addr.toNat ∈ [.pair 0, .pair 1, .pair 2, .shared, .retained, .journal] ∧ s.mayStore m addr.toNat = false) → s.room 4 →
    ∃ t, exec (.registerWrite m addr z v hw) s = .next t ∧ t.bus.err = true ∧ t.fbit F.SYS_FW_VIOL_VALID = true ∧
      t.fget F.SYS_FW_VIOL_PAIR = s.masterPair m ∧ Journaled s t C.FW_WRITE_DENIED 0 { w0 := addr, w1 := bytes4 (s.masterPair m) 0 0 0 } ∧
      SameRegs s t [R.SYS_FW_VIOL] ∧ SameMem s t) ∧
  (∀ (s : State) (m : Master) (addr v hw : Word) (z : AccSize), s.issues m = true →
    placeOf addr.toNat = .hole ∨ (placeOf addr.toNat = .peripheral ∧ s.barred m addr.toNat = false ∧ (z ≠ .word ∨ addr.toNat % 4 ≠ 0 ∨ RegMap.find addr.toNat = none)) →
    ∃ t, exec (.registerWrite m addr z v hw) s = .next t ∧ t.bus.err = true ∧ (∀ a, t.rd a = s.rd a) ∧ SameMem s t)

/-- A read of CLV_PER_CTRL, whose MISSED is read-clear, gives its value and leaves in MISSED what hardware adds in the same cycle (R11); its EN
and every other register stay. A read of CLV_NOW_LO gives the low word and latches the upper half for its master, whose next read of
CLV_NOW_HI gives it however Clave has gone on (R41). A read of PMC_CNT_LO gives the low word of the counter and latches its upper 16 bits
(R671). Where the spec leaves a point of it open, the model's choice is log entries 26, 120. -/
def Obligations.ReadSideEffects : Prop :=
  (∀ (s : State) (m : Master) (n : Fin 16) (a added : Word) (ecc : Bool) (tag : BitVec 64), a.toNat = R.CLV_PER_CTRL n.val →
    s.reads m (R.CLV_PER_CTRL n.val) →
    ∃ t, exec (.rcRead m a .word added ecc tag) s = .next t ∧ t.answered (s.rd (R.CLV_PER_CTRL n.val)) ∧
      t.fget (F.CLV_PER_CTRL_MISSED n.val) = fldOf (F.CLV_PER_CTRL_MISSED n.val) added ∧
      t.fbit (F.CLV_PER_CTRL_EN n.val) = s.fbit (F.CLV_PER_CTRL_EN n.val) ∧ SameRegs s t [R.CLV_PER_CTRL n.val] ∧ SameMem s t) ∧
  (∀ (s : State) (m : Master) (tag : BitVec 64), s.reads m R.CLV_NOW_LO →
    ∃ t, exec (.loHiLatchRead m (w32 R.CLV_NOW_LO) tag) s = .next t ∧ t.answered (loWord s.clave) ∧ SameRegs s t [] ∧ SameMem s t ∧
      ∀ (u : State) (tag' : BitVec 64), u.clv.latchHi = t.clv.latchHi → u.masterNum m = s.masterNum m → u.reads m R.CLV_NOW_HI →
        ∃ x, exec (.loHiLatchRead m (w32 R.CLV_NOW_HI) tag') u = .next x ∧ x.answered (hiWord s.clave)) ∧
  (∀ (s : State) (m : Master) (n : Fin 512) (tag : BitVec 64), s.reads m (R.PMC_CNT_LO n.val) →
    ∃ t, exec (.pmcCntLoRead m n tag) s = .next t ∧ t.answered ((s.pmcValue n.val).setWidth 32) ∧
      SMap.get (fun _ => (0, 0)) t.pmc.latch (s.masterNum m) = (n.val + 1, (s.pmcValue n.val >>> 32).setWidth 16) ∧ SameRegs s t [] ∧ SameMem s t)

/-! ### The inter-die link and the clocks (spec/01) -/

/-- An access to a D-die register joins the accesses over the link and stalls its master (R20); the D-die's answer to a read of SMB_STAT
delivers that register and ends the access; with both lanes down for 4 µs it ends with a bus error and SMB_ACCESS_TIMEOUT (R21). Where the
spec leaves a point of it open, the model's choice is log entry 20. -/
def Obligations.DDieAccesses : Prop :=
  (∀ (s : State) (m : Master) (addr v hw : Word) (tag : BitVec 64), s.issues m = true → placeOf addr.toNat = .peripheral →
    readable m addr.toNat = true → RegMap.dDie addr.toNat = true → s.replayed m = true →
    ∃ t, exec (.dDieAccess m addr .word false v hw tag) s = .next t ∧
      t.idl.accesses = s.idl.accesses ++ [{ master := m, addr := addr, write := false, value := 0, start := s.time
                                            tag := match m with
                                              | .core .. => some tag
                                              | _ => none }] ∧
      t.stalled m = true ∧ (∀ a, t.rd a = s.rd a) ∧ SameMem s t) ∧
  (∀ (s : State) (m : Master) (addr v hw : Word) (tag : BitVec 64), s.issues m = true → placeOf addr.toNat = .peripheral →
    addr.toNat % 4 = 0 → RegMap.dDie addr.toNat = true → s.mayWrite m addr.toNat = true →
    ∃ t, exec (.dDieAccess m addr .word true v hw tag) s = .next t ∧
      t.idl.accesses = s.idl.accesses ++ [{ master := m, addr := addr, write := true, value := v, start := s.time, hw := hw }] ∧
      t.stalled m = true ∧ (∀ a, t.rd a = s.rd a) ∧ SameMem s t) ∧
  (∀ (s : State) (x : DAccess) (rest : List DAccess), s.idl.accesses = x :: rest → s.lDead = false →
    (s.idl.lane0.down && s.idl.lane1.down) = false → x.write = false → x.tag = none → x.addr = w32 R.SMB_STAT →
    ∃ t, exec .dDieAccessComplete s = .next t ∧ t.idl.accesses = rest ∧ t.answered (s.rd R.SMB_STAT) ∧ (∀ a, t.rd a = s.rd a) ∧ SameMem s t) ∧
  (∀ (s : State) (x : DAccess) (rest : List DAccess), s.idl.accesses = x :: rest → x.start + 3200 ≤ s.time → s.idl.lane0.down = true →
    s.idl.lane1.down = true → s.lDead = false → s.room 4 →
    ∃ t, exec .smbAccessTimeout s = .next t ∧ t.idl.accesses = rest ∧ t.bus.err = true ∧ Journaled s t C.SMB_ACCESS_TIMEOUT 0 {} ∧
      SameRegs s t [] ∧ SameMem s t)

/-- Every 160 ns each die sends a frame, the same on both lanes (R13); two good equal copies are taken (R14); of two copies one of them bad, the
good one is taken and the lane's error journalled (R15); a lane that goes down is journalled (R16), trained after 10 ms, and back in service
after 1,000 good frames in a row, with which the D-die's record of a lost link arrives (R18, R19). Both lanes silent: the link counts as
lost, SMON-B has a SAFE cause and cuts its supplies (R18, R469). Where the spec leaves a point of it open, the model's choice is log entries
22, 23, 122. -/
def Obligations.InterDieLink : Prop :=
  (∀ s : State, s.pending = [] → s.lDead = false → (s.time + 1) % 128 = 0 →
    ∃ t, step s = .next t ∧ t.idl.lane0.sentL = t.idl.lane1.sentL ∧ t.idl.lane0.sentD = t.idl.lane1.sentD) ∧
  (∀ (s : State) (f : BitVec 48), s.lDead = false → s.idl.lane0.down = false → s.idl.lane1.down = false →
    ∃ t, exec (.idlFrameReceive .lDie (some ⟨true, f⟩) (some ⟨true, f⟩)) s = .next t ∧ t.idl.toL = f ∧ t.idl.lost = false ∧
      (∀ a, t.rd a = s.rd a) ∧ SameMem s t) ∧
  (∀ (s : State) (f g : BitVec 48), s.lDead = false → s.idl.lane0.down = false → s.idl.lane1.down = false → s.room 4 →
    ∃ t, exec (.idlFrameReceive .dDie (some ⟨true, f⟩) (some ⟨false, g⟩)) s = .next t ∧ t.idl.toD = f ∧ t.idl.lost = false ∧
      Journaled s t C.IDL_LANE_ERROR 1 {} ∧ SameRegs s t [] ∧ SameMem s t) ∧
  (∀ (s : State) (l : Fin 2), (s.idlLane l.val).down = false → s.lDead = false → s.room 4 →
    ∃ t, exec (.idlLaneDown l) s = .next t ∧ (t.idlLane l.val).down = true ∧ (t.idlLane l.val).since = s.time ∧
      Journaled s t C.IDL_LANE_DOWN l.val {} ∧ SameRegs s t [] ∧ SameMem s t) ∧
  (∀ (s : State) (l : Fin 2), (s.idlLane l.val).down = true → s.lDead = false → (s.idlLane l.val).since + 8000000 ≤ s.time →
    ∃ t, exec (.idlLaneRetry l) s = .next t ∧ (t.idlLane l.val).training = true ∧ (t.idlLane l.val).good = 0 ∧
      (∀ a, t.rd a = s.rd a) ∧ SameMem s t) ∧
  (∀ (s : State) (l : Fin 2), (s.idlLane l.val).down = true → (s.idlLane l.val).training = true → (s.idlLane l.val).good = 1000 →
    ∃ t, exec (.idlLaneRestored l) s = .next t ∧ (t.idlLane l.val).down = false ∧ t.idl.lost = false ∧ t.idl.lostD = false ∧
      (s.idl.lostD = true → s.room 1 → Journaled s t C.IDL_LOST 1 {}) ∧ SameRegs s t [] ∧ SameMem s t) ∧
  (∀ s : State, s.lDead = false → s.idl.lost = false →
    ∃ t, exec .idlLost s = .next t ∧ t.idl.lost = true ∧ t.idl.lostD = true ∧ t.safe.cut = true ∧ t.safe.b.cause = true ∧ SameMem s t)

/-- The clock monitors: a PLL off frequency is journalled and latched (R25); SMON-B's check clock failing is a SAFE cause of SMON-B (R26);
XTAL25 lost is latched, a SAFE cause, and cuts SMON-B's supplies (R27); XTAL32 lost is journalled and shown in XTAL32_FB (R28). Where the
spec leaves a point of it open, the model's choice is log entries 15, 23, 121. -/
def Obligations.ClockMonitors : Prop :=
  (∀ s : State, s.clocks.pllA = false → s.lDead = false → s.room 4 →
    ∃ t, exec .clkMonCpu s = .next t ∧ t.clocks.pllA = true ∧ Journaled s t C.CLK_MON_CPU 0 {} ∧ SameRegs s t [] ∧ SameMem s t) ∧
  (∀ s : State, s.clocks.pllB = false → s.lDead = false → s.room 4 →
    ∃ t, exec .clkMonCtrl s = .next t ∧ t.clocks.pllB = true ∧ Journaled s t C.CLK_MON_CTRL 0 {} ∧ SameRegs s t [] ∧ SameMem s t) ∧
  (∀ s : State, s.lDead = false → ∃ t, exec .smonbClockFault s = .next t ∧ t.safe.b.cause = true) ∧
  (∀ s : State, s.clocks.xtal25 = false → s.lDead = false →
    ∃ t, exec .xtal25Loss s = .next t ∧ t.clocks.xtal25 = true ∧ t.safe.cut = true ∧ t.safe.b.cause = true ∧ SameMem s t) ∧
  (∀ s : State, s.clocks.xtal32 = false → s.room 4 →
    ∃ t, exec .xtal32Loss s = .next t ∧ t.clocks.xtal32 = true ∧ t.fbit F.CLV_STATUS_XTAL32_FB = true ∧
      Journaled s t C.XTAL32_LOSS 0 {} ∧ SameRegs s t [R.CLV_STATUS] ∧ SameMem s t)

/-! ### Clave (spec/02) -/

/-- The alarm (R45): reached while armed and enabled it fires once and shows FIRED, and in DORMANT it wakes where its wake is enabled; a write
of CLV_ALARM_HI takes both halves and arms it again, and so does EN going from 0 to 1. A periodic raises its interrupt for a multiple of its
period reached and not raised yet, and not for it again (R75); its period is stored, but for one out of range while the periodic is enabled,
which is ignored (R713). The lock and the rate: five milliseconds without an exchange clear LOCKED and are journalled (R49); a demand beyond
500 ppm is held at 500 ppm and journalled (R52); CLV_PTP_RATE puts the mapping with the base values written before it in force (R55). Where
the spec leaves a point of it open, the model's choice is log entries 2, 15, 18. -/
def Obligations.ClaveEvents : Prop :=
  (∀ s : State, s.fbit F.CLV_ALARM_CTRL_EN = true → s.clv.alarmArmed = true → s.clv.alarm.toNat ≤ s.now → s.seq.mode = .dormant →
    s.seq.entry = .off → s.wakeEnabled .alarm = true →
    ∃ t, exec .clvAlarmFire s = .next t ∧ t.seq.mode = .arming ∧ t.seq.waking = true ∧ t.fbit F.CLV_ALARM_CTRL_FIRED = true ∧
      t.fget F.SYS_WAKE_SRC_FIRST = 5 ∧ t.clave = s.clave ∧
      (∀ a, alwaysOn a = true → a ∉ [R.SYS_RESET_CAUSE, R.SYS_WAKE_SRC, R.CLV_ALARM_CTRL] → t.rd a = s.rd a) ∧
      ∀ a, 0x10C00000 ≤ a → a < 0x10C40000 → t.mget a = s.mget a) ∧
  (∀ s : State, s.fbit F.CLV_ALARM_CTRL_EN = true → s.clv.alarmArmed = true → s.clv.alarm.toNat ≤ s.now →
    (s.seq.mode ≠ .dormant ∧ s.seq.waking = false) ∨ s.wakeEnabled .alarm = false →
    ∃ t, exec .clvAlarmFire s = .next t ∧ t.fbit F.CLV_ALARM_CTRL_FIRED = true ∧ t.clv.alarmArmed = false ∧
      SameRegs s t [R.CLV_ALARM_CTRL] ∧ SameMem s t) ∧
  (∀ (s : State) (m : Master) (v : Word), s.grants m R.CLV_ALARM_HI →
    ∃ t, exec (.clvAlarmRearm m true v) s = .next t ∧ t.answered 0 ∧ t.clv.alarm = tickOf (s.rd R.CLV_ALARM_LO) v ∧
      t.clv.alarmArmed = true ∧ t.rd R.CLV_ALARM_HI = v ∧ SameRegs s t [R.CLV_ALARM_HI] ∧ SameMem s t) ∧
  (∀ (s : State) (m : Master) (v : Word), s.grants m R.CLV_ALARM_CTRL → s.fbit F.CLV_ALARM_CTRL_EN = false → v.getLsbD 0 = true →
    ∃ t, exec (.clvAlarmRearm m false v) s = .next t ∧ t.answered 0 ∧ t.clv.alarmArmed = true ∧
      t.fbit F.CLV_ALARM_CTRL_EN = true ∧ SameRegs s t [R.CLV_ALARM_CTRL] ∧ SameMem s t) ∧
  (∀ (s : State) (n : Fin 16) (p : Fin 3), s.fbit (F.CLV_PER_CTRL_EN n.val) = true → s.fget (F.CLV_PER_CTRL_TARGET n.val) = p.val →
    0 < (s.rd (R.CLV_PER_PERIOD n.val)).toNat → s.lDead = false →
    SMap.get (fun _ => 0) s.clv.perLast n.val ≤ dueAt s.now (s.rd (R.CLV_PER_PERIOD n.val)).toNat →
    ∃ t, exec (.clvPeriodic n) s = .next t ∧
      t.irqs = { pair := s.irqTarget p, half := if s.lksSt p.val = 3 && s.fbit (F.CLV_PER_CTRL_HALF n.val) then .trailing else .leading,
                 code := BitVec.ofNat 16 (0xFF00 + n.val), inst := 0,
                 value := BitVec.ofNat 64 (dueAt s.now (s.rd (R.CLV_PER_PERIOD n.val)).toNat) } :: s.irqs ∧
      SMap.get (fun _ => 0) t.clv.perLast n.val = dueAt s.now (s.rd (R.CLV_PER_PERIOD n.val)).toNat + 1 ∧
      (∀ a, t.rd a = s.rd a) ∧ SameMem s t) ∧
  (∀ (s : State) (m : Master) (n : Fin 16) (v : Word), s.grants m (R.CLV_PER_PERIOD n.val) →
    ∃ t, exec (.clvPerPeriodWrite m n v) s = .next t ∧ t.answered 0 ∧
      t.rd (R.CLV_PER_PERIOD n.val) = (if s.fbit (F.CLV_PER_CTRL_EN n.val) = true ∧ ¬ (40000 ≤ v.toNat ∧ v.toNat ≤ 80000000)
        then s.rd (R.CLV_PER_PERIOD n.val) else v) ∧
      SameRegs s t [R.CLV_PER_PERIOD n.val] ∧ SameMem s t) ∧
  (∀ s : State, s.fbit F.CLV_STATUS_LOCKED = true → s.clv.lastDone + 4000000 ≤ s.time → s.room 4 →
    ∃ t, exec .clvSyncTimeout s = .next t ∧ t.fbit F.CLV_STATUS_LOCKED = false ∧ t.clv.goodRun = 0 ∧
      Journaled s t C.CLV_SYNC_LOST 0 { w0 := s.rd R.CLV_OFFSET, w1 := w32 (s.fget F.CLV_STATUS_HOPS) } ∧
      SameRegs s t [R.CLV_STATUS] ∧ SameMem s t) ∧
  (∀ (s : State) (d : Word), s.fget F.CLV_STATUS_ROLE = 2 → 500000 < d.toInt ∨ d.toInt < -500000 → s.room 4 →
    ∃ t, exec (.clvRateLimit d) s = .next t ∧ t.rd R.CLV_RATE = (if d.toInt < 0 then BitVec.ofInt 32 (-500000) else 500000) ∧
      Journaled s t C.CLV_RATE_LIMIT 0 { w0 := d } ∧ SameRegs s t [R.CLV_RATE] ∧ SameMem s t) ∧
  (∀ (s : State) (m : Master) (v : Word), s.grants m R.CLV_PTP_RATE →
    ∃ t, exec (.clvPtpRateWrite m v) s = .next t ∧ t.answered 0 ∧ t.rd R.CLV_PTP_RATE = v ∧ t.clv.ptpRate = v ∧
      t.clv.ptpClv = tickOf (s.rd R.CLV_PTP_BASE_CLV_LO) (s.rd R.CLV_PTP_BASE_CLV_HI) ∧
      t.clv.ptpNs = tickOf (s.rd R.CLV_PTP_BASE_NS_LO) (s.rd R.CLV_PTP_BASE_NS_HI) ∧
      SameRegs s t [R.CLV_PTP_RATE] ∧ SameMem s t)

/-! ### The journal (spec/02) -/

/-- The writer inserts the record served next: its 32 bytes stand in the ring at its sequence, which is one more afterwards, and no byte
elsewhere changes for a record below class SAFE (R60, R61, R64); one below SAFE that is older than 2 µs is discarded and counted (R63). A
record of class SAFE or FATAL is served before every lower one, and is copied to the lowest free pinned slot as well (R64, R65). P0 releases
the pinned records up to a sequence (R67). What waits too long below class SAFE is discarded (R63); with the backlog clear the first source
that lost records is journalled with its count (R63). The journal writer's start: JRN_START is its record, with the reset cause in its
payload (R69). A core's commit of its staged record queues a firmware record of its code, class and data under its number (R70); the code
0x04FF is a watchdog answer and is no record (R472). Where the spec leaves a point of it open, the model's choice is log entries 15, 35. -/
def Obligations.JournalWriter : Prop :=
  (∀ (s : State) (r : JRec), s.jrn.startDue = false → s.lDead = false → s.jrn.waiting[nextServed s.jrn.waiting]? = some r → r.cls < 4 →
    r.stamp.toNat + 1600 < s.now → s.room 4 →
    ∃ t, exec .jrnInsert s = .next t ∧ t.fget F.JRN_STATUS_OVERRUN = min (s.fget F.JRN_STATUS_OVERRUN + 1) 65535 ∧
      t.rd R.JRN_NEXT_SEQ = s.rd R.JRN_NEXT_SEQ ∧
      (∀ code i q, ({ s with jrn.waiting := s.jrn.waiting.eraseIdx (nextServed s.jrn.waiting) }).noted code i q ≤ t.noted code i q) ∧
      SameRegs s t [] ∧ SameMem s t) ∧
  (∀ (s : State) (r : JRec), s.jrn.startDue = false → s.lDead = false → s.jrn.waiting[nextServed s.jrn.waiting]? = some r → r.cls < 4 →
    s.now ≤ r.stamp.toNat + 1600 → s.room 4 →
    ∃ t, exec .jrnInsert s = .next t ∧ t.rd R.JRN_NEXT_SEQ = s.rd R.JRN_NEXT_SEQ + 1 ∧
      SameRegs s t [R.JRN_NEXT_SEQ, R.JRN_OLDEST_SEQ] ∧
      (∀ i, i < 32 → t.mget (ringAddr (s.rd R.JRN_NEXT_SEQ) + i) = (r.bytes (s.rd R.JRN_NEXT_SEQ) false).getD i 0) ∧
      (∀ b, b < ringAddr (s.rd R.JRN_NEXT_SEQ) ∨ ringAddr (s.rd R.JRN_NEXT_SEQ) + 32 ≤ b → t.mget b = s.mget b) ∧
      (∀ code i q, ({ s with jrn.waiting := s.jrn.waiting.eraseIdx (nextServed s.jrn.waiting) }).noted code i q ≤ t.noted code i q)) ∧
  (∀ (s : State) (r : JRec) (k : Nat), s.jrn.startDue = false → s.lDead = false → s.jrn.waiting[nextServed s.jrn.waiting]? = some r →
    freePin s.jrn.pins = some k →
    ((∃ x ∈ s.jrn.waiting, 4 ≤ x.cls) → 4 ≤ r.cls) ∧
    (4 ≤ r.cls → ∃ t, exec .jrnInsert s = .next t ∧ t.rd R.JRN_NEXT_SEQ = s.rd R.JRN_NEXT_SEQ + 1 ∧
      t.jrn.pins = s.jrn.pins ++ [⟨k, s.rd R.JRN_NEXT_SEQ⟩] ∧
      (∀ i, i < 32 → t.mget (pinAddr k + i) = (r.bytes (s.rd R.JRN_NEXT_SEQ) true).getD i 0) ∧
      ∀ i, i < 32 → t.mget (ringAddr (s.rd R.JRN_NEXT_SEQ) + i) = (r.bytes (s.rd R.JRN_NEXT_SEQ) true).getD i 0)) ∧
  (∀ (s : State) (m : Master) (v : Word), s.grants m R.JRN_PIN_RELEASE → 0 ∈ s.roles m →
    ∃ t, exec (.jrnPinRelease m v) s = .next t ∧ t.answered 0 ∧ t.jrn.pins = s.jrn.pins.filter (fun p => !seqLe p.seq v) ∧
      SameRegs s t [] ∧ SameMem s t) ∧
  (∀ s : State, s.jrn.startDue = false → s.lDead = false → s.room 4 →
    ∃ t, exec .jrnInsertTimeout s = .next t ∧
      (∀ code i q, ({ s with jrn.waiting := s.jrn.waiting.filter fun r => !(decide (r.cls < 4) && decide (r.stamp.toNat + 1600 < s.now)) }).noted
        code i q ≤ t.noted code i q) ∧
      (∀ r ∈ t.jrn.waiting, r.code ≠ C.PMC_OVERFLOW.code → 4 ≤ r.cls ∨ s.now ≤ r.stamp.toNat + 1600) ∧ SameRegs s t [] ∧ SameMem s t) ∧
  (∀ (s : State) (k : Nat) (o : Overrun) (rest : SMap Overrun), s.jrn.waiting = [] → s.jrn.overrun = (k, o) :: rest →
    s.jrn.startDue = false → s.lDead = false →
    ∃ t, exec .jrnOverrun s = .next t ∧ t.jrn.overrun = rest ∧
      Journaled s t C.JRN_OVERRUN 0 { w0 := w32 (o.code.toNat + 2 ^ 16 * o.inst.toNat), w1 := w32 o.count, w2 := loWord o.first, w3 := hiWord o.first } ∧
      SameRegs s t [] ∧ SameMem s t) ∧
  (∀ s : State, s.jrn.startDue = true → s.lDead = false → s.room 4 →
    ∃ t, exec .jrnStart s = .next t ∧ t.jrn.startDue = false ∧ t.seq.waking = false ∧ t.rd R.JRN_NEXT_SEQ = s.rd R.JRN_NEXT_SEQ + 1 ∧
      (∀ b, b < ringAddr (s.rd R.JRN_NEXT_SEQ) ∨ ringAddr (s.rd R.JRN_NEXT_SEQ) + 32 ≤ b → t.mget b = s.mget b) ∧
      (∀ i, i < 4 → t.mget (ringAddr (s.rd R.JRN_NEXT_SEQ) + 16 + i) = (wordBytes (w32 (s.fget F.SYS_RESET_CAUSE_CAUSE))).getD i 0) ∧
      SameRegs s t [R.JRN_NEXT_SEQ, R.JRN_OLDEST_SEQ]) ∧
  (∀ (s : State) (m : Master) (c : Fin 6), s.grants m (R.JRN_FW_COMMIT c.val) → s.masterNum m = c.val →
    ∃ t, exec (.jrnFwCommit m c) s = .next t ∧ t.answered 0 ∧ (∀ a, t.rd a = s.rd a) ∧ SameMem s t ∧
      (s.fget (F.JRN_FW_HDR_CODE c.val) ≠ 0x04FF →
        (∃ r : JRec, t.jrn.waiting = JRec.join r s.jrn.waiting ∧ r.code.toNat = s.fget (F.JRN_FW_HDR_CODE c.val) ∧
          r.cls = s.fget (F.JRN_FW_HDR_CLASS c.val) ∧ r.inst.toNat = c.val ∧ r.fw = true ∧ r.payload.w0 = s.rd (R.JRN_FW_DATA c.val 0) ∧
          r.payload.w1 = s.rd (R.JRN_FW_DATA c.val 1) ∧ r.payload.w2 = s.rd (R.JRN_FW_DATA c.val 2) ∧ r.payload.w3 = s.rd (R.JRN_FW_DATA c.val 3)) ∧
        t.safe.answers = s.safe.answers) ∧
      (s.fget (F.JRN_FW_HDR_CODE c.val) = 0x04FF → t.jrn.waiting = s.jrn.waiting ∧
        ∃ a, t.safe.answers = s.safe.answers ++ [a] ∧ a.ansA = s.rd (R.JRN_FW_DATA c.val 0) ∧ a.ansB = s.rd (R.JRN_FW_DATA c.val 1) ∧ a.stamp = s.now))

/-! ### Modes (spec/03) -/

/-- Requests of a mode, where their conditions hold (R80) and no SAFE reaction is due (R85): the sequencer enters the mode and answers RESULT 2.
A request for ARMING in DRIVE, and a value SYS_MODE_REQ does not list, change no mode, answer RESULT 6 and are journalled with the request,
the result and the mode (R83, R84); so is a request for DRIVE in ARMING while P1 is split (R516). Where the spec leaves a point of it open,
the model's choice is log entries 17, 36, 37, 124. -/
def Obligations.ModeRequests : Prop :=
  (∀ (s : State) (m : Master), s.grants m R.SYS_MODE_REQ → s.safeDue = false → s.seq.mode = .service →
    ∃ t, exec (.modeReqArming m) s = .next t ∧ t.answered 0 ∧ t.seq.mode = .arming ∧ t.seq.stepsDone = false ∧ t.fget F.SYS_MODE_STAT_RESULT = 2) ∧
  (∀ (s : State) (m : Master), s.grants m R.SYS_MODE_REQ → s.safeDue = false → s.seq.mode = .arming → s.seq.stepsDone = true → s.sealOk = true →
    s.openOnceDone = true → s.lksSt 1 ≠ 3 → (∀ c ∈ s.seq.causes, c.cls ≠ 3) →
    ∃ t, exec (.modeReqDrive m) s = .next t ∧ t.answered 0 ∧ t.seq.mode = .drive ∧ t.seq.sub = .full ∧ t.fget F.SYS_MODE_STAT_RESULT = 2) ∧
  (∀ (s : State) (m : Master), s.grants m R.SYS_MODE_REQ → s.safeDue = false → s.seq.mode = .arming → s.seq.stepsDone = true → s.parkEngaged = true →
    ∃ t, exec (.modeReqCharge m) s = .next t ∧ t.answered 0 ∧ t.seq.mode = .charge ∧ t.fget F.SYS_MODE_STAT_RESULT = 2) ∧
  (∀ (s : State) (m : Master), s.grants m R.SYS_MODE_REQ → s.safeDue = false → s.seq.mode = .arming → s.seq.stepsDone = true →
    ∃ t, exec (.modeReqService m) s = .next t ∧ t.answered 0 ∧ t.seq.mode = .service ∧ t.fget F.SYS_MODE_STAT_RESULT = 2) ∧
  (∀ (s : State) (m : Master), s.grants m R.SYS_MODE_REQ → s.safeDue = false → s.seq.mode = .arming → s.sleepFail = none →
    ∃ t, exec (.modeReqSleep m) s = .next t ∧ t.answered 0 ∧ t.seq.mode = .dormant) ∧
  (∀ (s : State) (m : Master), s.grants m R.SYS_MODE_REQ → s.safeDue = false → s.seq.mode = .safeHold → s.openOnceDone = true → (∀ c ∈ s.seq.causes, c.cls ≠ 4) →
    ∃ t, exec (.modeReqClearSafe m) s = .next t ∧ t.answered 0 ∧ t.seq.mode = .arming ∧ t.seq.safeLatch = false ∧
      t.fget F.SYS_MODE_STAT_RESULT = 2) ∧
  (∀ (s : State) (m : Master), s.grants m R.SYS_MODE_REQ → s.safeDue = false → s.seq.mode = .drive → (∀ c ∈ s.seq.causes, c.cls ≠ 3) →
    ∃ t, exec (.modeReqClearDegrade m) s = .next t ∧ t.answered 0 ∧ t.seq.mode = .drive ∧ t.seq.sub = .full ∧ t.seq.redPend = false ∧
      t.fget F.SYS_MODE_STAT_RESULT = 2) ∧
  (∀ (s : State) (m : Master), s.grants m R.SYS_MODE_REQ → s.safeDue = false → s.seq.mode = .arming → s.lksSt 1 = 3 → s.room 4 →
    ∃ t, exec (.modeReqDrive m) s = .next t ∧ t.answered 0 ∧ t.seq.mode = .arming ∧ t.seq.request = none ∧ t.fget F.SYS_MODE_STAT_RESULT = 6 ∧
      Journaled s t C.MODE_REFUSED 0 { w0 := bytes4 2 6 1 0 } ∧ SameRegs s t [R.SYS_MODE_STAT] ∧ SameMem s t) ∧
  (∀ (s : State) (m : Master), s.grants m R.SYS_MODE_REQ → s.safeDue = false → s.seq.mode = .drive → s.room 4 →
    ∃ t, exec (.modeReqArming m) s = .next t ∧ t.answered 0 ∧ t.seq.mode = .drive ∧ t.seq.request = none ∧ t.fget F.SYS_MODE_STAT_RESULT = 6 ∧
      Journaled s t C.MODE_REFUSED 0 { w0 := bytes4 1 6 2 0 } ∧ SameRegs s t [R.SYS_MODE_STAT] ∧ SameMem s t) ∧
  (∀ (s : State) (m : Master) (v : BitVec 4), s.grants m R.SYS_MODE_REQ → listedRequest v.toNat = false → s.seq.request = none → s.room 4 →
    ∃ t, exec (.modeReqInvalid m v) s = .next t ∧ t.answered 0 ∧ t.seq.mode = s.seq.mode ∧ t.seq.request = none ∧
      t.fget F.SYS_MODE_STAT_RESULT = 6 ∧ Journaled s t C.MODE_REFUSED 0 { w0 := bytes4 v.toNat 6 s.seq.mode.code 0 } ∧
      SameRegs s t [R.SYS_MODE_STAT] ∧ SameMem s t)

/-- The way into DORMANT (R104, R717) and out of it (R101 to R103). Where the spec leaves a point of it open, the model's choice is log entries
30, 37, 38, 123. -/
def Obligations.SleepAndWake : Prop :=
  (∀ s : State, s.seq.mode = .arming → 0 < s.fget F.SYS_SLEEP_CFG_TMO → s.seq.sleepDue = false → s.lDead = false →
    s.seq.sleepStart + 800000000 * s.fget F.SYS_SLEEP_CFG_TMO ≤ s.time →
    ∃ t, exec .sleepTimeout s = .next t ∧ (s.sleepFail = none → t.seq.mode = .dormant) ∧
      (s.sleepFail ≠ none → t.seq.mode = .arming ∧ t.seq.sleepDue = true ∧ (∀ a, t.rd a = s.rd a) ∧ SameMem s t)) ∧
  (∀ s : State, s.seq.mode = .arming → s.seq.sleepDue = true → s.sleepFail = none → s.lDead = false →
    ∃ t, exec .sleepDeferred s = .next t ∧ t.seq.mode = .dormant) ∧
  (∀ s : State, s.seq.entry = .nvmWait → s.nvmBusy = false → ∃ t, exec .dormantNvmIdle s = .next t ∧ t.seq.entry = .lvcRamp) ∧
  (∀ s : State, s.seq.entry = .lvcRamp → s.lvcSt ≠ 4 →
    ∃ t, exec .dormantRailsOff s = .next t ∧ t.seq.entry = .off ∧ t.jrn.waiting = [] ∧ t.reacts = [] ∧ t.irqs = [] ∧
      (∀ a, alwaysOn a = true → t.rd a = s.rd a) ∧ ∀ a, 0x10C00000 ≤ a → a < 0x10C40000 → t.mget a = s.mget a) ∧
  (∀ (s : State) (f : FlashBoot), s.seq.entry = .off → s.seq.mode = .dormant → s.seq.wakeDue = true →
    ∃ t, exec (.wakeAfterEntry f) s = .next t ∧ t.seq.mode = .arming ∧ t.seq.waking = true ∧ t.clave = s.clave ∧ t.rd R.SYS_RESET_CAUSE = 5 ∧
      (∀ a, alwaysOn a = true → a ∉ [R.SYS_RESET_CAUSE, R.SYS_WAKE_SRC, R.CLV_ALARM_CTRL] → t.rd a = s.rd a) ∧
      ∀ a, 0x10C00000 ≤ a → a < 0x10C40000 → t.mget a = s.mget a) ∧
  (∀ (s : State) (w : WakeSrc) (f : FlashBoot), s.wakeEnabled w = true → s.seq.mode = .dormant → s.seq.entry = .off →
    (w = .alarm → s.fbit F.CLV_ALARM_CTRL_EN = true ∧ s.clv.alarmArmed = true ∧ s.clv.alarm.toNat ≤ s.now) →
    ∃ t, exec (.wakeEvent w f) s = .next t ∧ t.seq.mode = .arming ∧ t.seq.waking = true ∧ t.clave = s.clave ∧
      t.fget F.SYS_WAKE_SRC_FIRST = wakeBit w + 1 ∧
      (∀ a, alwaysOn a = true → a ∉ [R.SYS_RESET_CAUSE, R.SYS_WAKE_SRC, R.CLV_ALARM_CTRL] → t.rd a = s.rd a) ∧
      ∀ a, 0x10C00000 ≤ a → a < 0x10C40000 → t.mget a = s.mget a) ∧
  (∀ (s : State) (w : WakeSrc) (f : FlashBoot), s.wakeEnabled w = true → s.seq.mode = .dormant → s.seq.entry ≠ .off →
    (w = .alarm → s.fbit F.CLV_ALARM_CTRL_EN = true ∧ s.clv.alarmArmed = true ∧ s.clv.alarm.toNat ≤ s.now) →
    ∃ t, exec (.wakeEvent w f) s = .next t ∧ t.seq.mode = .dormant ∧ t.seq.wakeDue = true ∧ t.rbit R.SYS_WAKE_SRC (8 + wakeBit w) = true ∧
      SameRegs s t [R.SYS_WAKE_SRC, R.CLV_ALARM_CTRL] ∧ SameMem s t)

/-- A SAFE record enters SAFE-HOLD and sets SAFE_LATCH (R87, R463), and ends a request that waits with RESULT 6 (R85); a DEGRADE record in DRIVE
leads to the sub-state of R89, R91 to R93. The end of ARMING (R88, R107, R108). Where the spec leaves a point of it open, the model's choice
is log entries 17, 39, 125. -/
def Obligations.ReactionsAndArmingEnds : Prop :=
  (∀ (s : State) (r : React) (rest : List React), takeReact 4 s.reacts = some (r, rest) → s.seq.mode ≠ .dormant → s.seq.mode ≠ .safeHold →
    ∃ t, exec .safeDecision s = .next t ∧ t.seq.mode = .safeHold ∧ t.seq.safeLatch = true ∧
      (s.seq.request.isSome = true → t.seq.request = none ∧ t.fget F.SYS_MODE_STAT_RESULT = 6)) ∧
  (∀ (s : State) (r : React) (rest : List React) (x : Sub × Bool), takeReact 3 s.reacts = some (r, rest) → s.seq.mode = .drive →
    degNext s.seq.sub s.seq.redPend r.assign = some x →
    ∃ t, exec .degradeReaction s = .next t ∧ t.seq.mode = .drive ∧ t.seq.sub = x.1 ∧ t.seq.redPend = x.2) ∧
  (∀ s : State, s.seq.mode = .arming → s.seq.stepsDone = false → s.armingPassed = true → s.seq.held = .no →
    ∃ t, exec .armingStepsDone s = .next t ∧ t.seq.stepsDone = true ∧ t.seq.mode = (if s.seq.safeLatch then .safeHold else .arming)) ∧
  (∀ s : State, s.seq.mode = .arming → s.seq.stepsDone = false → s.seq.timedOut = false → s.seq.since + 800000000 ≤ s.time → s.lDead = false →
    s.room 4 →
    ∃ t, exec .armingTimeout s = .next t ∧ t.seq.timedOut = true ∧
      Journaled s t C.ARMING_TIMEOUT 0 { w0 := bytes4 (s.fget F.SYS_ARM_STAT_DONE) (s.fget F.SYS_ARM_STAT_FAILED) 0 0 } ∧
      SameRegs s t [] ∧ SameMem s t)

/-- The enable chain (R96 to R98, R105): a channel takes the levels of its lines; both low for 10 ms and then both high completes its test, a
line low afterwards undoes it, lines that differ for 20 ms are reported; a channel's first selection starts it. Where the spec leaves a
point of it open, the model's choice is log entries 2, 130. -/
def Obligations.EnableChain : Prop :=
  (∀ (s : State) (c : Chan), (s.smon c).oo = .lowOk → (s.smon c).en = some (false, false) →
    ∃ t, exec (.enLevelChange c true true) s = .next t ∧ (t.smon c).en = some (true, true) ∧ (t.smon c).oo = .done) ∧
  (∀ (s : State) (c : Chan) (a b : Bool), (s.smon c).oo = .done → (a && b) = false →
    ∃ t, exec (.enLevelChange c a b) s = .next t ∧ (t.smon c).en = some (a, b) ∧ (t.smon c).oo = .notDone) ∧
  (∀ (s : State) (c : Chan) (t0 : Nat), (s.smon c).oo = .notDone → (s.smon c).lowSince = some t0 → t0 + 7760000 ≤ s.time →
    ∃ t, exec (.openOnceLowOk c) s = .next t ∧ (t.smon c).oo = .lowOk ∧ SameRegs s t [R.SYS_EN_STAT] ∧ SameMem s t) ∧
  (∀ (s : State) (t0 : Nat) (a b : Bool), s.safe.a.diffRep = false → s.safe.a.diffSince = some t0 → t0 + 15760000 ≤ s.time →
    s.safe.a.en = some (a, b) → s.room 4 →
    ∃ t, exec (.enDiscrepancy .smonA) s = .next t ∧ t.safe.a.diffRep = true ∧
      Journaled s t C.EN_DISCREPANCY 0 { w0 := bytes4 0 (b2n a + 2 * b2n b) 0 0 } ∧ SameRegs s t [] ∧ SameMem s t) ∧
  (∀ (s : State) (t0 : Nat), s.safe.b.diffRep = false → s.safe.b.diffSince = some t0 → t0 + 15760000 ≤ s.time →
    ∃ t, exec (.enDiscrepancy .smonB) s = .next t ∧ t.safe.b.diffRep = true ∧ t.safe.b.cause = true) ∧
  (∀ (s : State) (c : Chan), (s.smon c).started = false → (c = .smonB → s.safe.bOff = false) →
    ∃ t, exec (.smonFirstSelection c) s = .next t ∧ (t.smon c).started = true)

/-! ### Boot and resets (spec/03, spec/15) -/

/-- The boot steps in their order (R106, R109, R640, R643, R483): each leaves its bit of SYS_ARM_STAT and the next step. Where the spec leaves a
point of it open, the model's choice is log entries 7, 42, 45. -/
def Obligations.BootSteps : Prop :=
  (∀ s : State, s.bootAt .logicBist = true →
    ∃ t, exec (.logicBistDone none) s = .next t ∧ t.rbit R.SYS_ARM_STAT 0 = true ∧
      t.seq.boot = (if (s.fget F.SYS_TEST_QUEUE_Q).testBit 2 || s.nvm.memBist then .memoryBist else .imageLoad) ∧
      SameRegs s t [R.SYS_ARM_STAT, R.SYS_TEST_QUEUE, R.SYS_TEST_STAT] ∧ SameMem s t) ∧
  (∀ (s : State) (p : Fin 3) (chain : Word), s.bootAt .logicBist = true → s.room 4 →
    ∃ t, exec (.logicBistDone (some (p, chain))) s = .next t ∧ t.rbit R.SYS_ARM_STAT 8 = true ∧
      Journaled s t C.SELFTEST_FAIL 0 { w0 := bytes4 1 p.val 0 0, w1 := chain } ∧
      SameRegs s t [R.SYS_ARM_STAT, R.SYS_TEST_QUEUE, R.SYS_TEST_STAT] ∧ SameMem s t) ∧
  (∀ s : State, s.bootAt .memoryBist = true →
    ∃ t, exec (.memoryBistDone none) s = .next t ∧ t.seq.boot = .imageLoad ∧ (∀ a, a < 0x10C00000 → t.mget a = 0) ∧
      (∀ a, 0x10C00000 ≤ a → t.mget a = s.mget a) ∧ SameRegs s t [R.SYS_TEST_QUEUE, R.SYS_TEST_STAT]) ∧
  (∀ s : State, s.bootAt .imageLoad = true → s.rd R.SYS_RESET_CAUSE ≠ 4 →
    ∃ t, exec .imageLoadDone s = .next t ∧
      (s.bootLoad.2 = true → t.rbit R.SYS_ARM_STAT 1 = true ∧ t.seq.boot = .podRead) ∧
      (s.bootLoad.2 = false → t.rbit R.SYS_ARM_STAT 9 = true ∧ t.seq.boot = .noImage)) ∧
  (∀ (s : State) (y : SystemPod) (z : SafetyPod) (fm : Byte) (q : Pod), s.bootAt .podRead = true →
    ((s.bank (s.bankOf 0 false)).current 1).isSome = true → (s.bank (s.bankOf 0 false)).current 2 = some q →
    ∃ t, exec (.podReadDone (some y) (some z) fm) s = .next t ∧ t.safe.podA = some { z with crc := crc32c q.payload } ∧ t.rbit R.SYS_ARM_STAT 2 = true ∧
      t.seq.boot = .sealCheck ∧ (∀ a, a ∉ journalRegs → a ≠ R.SYS_ARM_STAT → (∀ x ∈ y.loads, x.1 ≠ a) → t.rd a = s.rd a) ∧ SameMem s t) ∧
  (∀ s : State, s.bootAt .sealCheck = true → s.unsealed = true → s.safe.podA = none → s.safe.a.params = none →
    ∃ t, exec .sealCheck s = .next t ∧ t.safe.a.sealRes = 1 ∧ t.safe.b.sealRes = 1 ∧ t.rbit R.SYS_ARM_STAT 3 = true ∧
      t.fbit F.SMA_SEAL_STAT_UNSEALED = true ∧ t.seq.boot = .firmware ∧
      SameRegs s t (channelRegs ++ fam 128 R.CLE_CTX_STAT ++ fam 12 R.PWM_GRP_STAT ++ fam 12 R.PWM_GRP_SWALLOW ++
        [R.ACT_PL_SEAL, R.SMA_PAR_XOVER, R.SMA_PAR_POLICY, R.SMA_SEAL_STAT, R.SYS_ARM_STAT, R.TMU_STAT])) ∧
  (∀ s : State, s.bootAt .firmware = true → s.rd R.SYS_RESET_CAUSE ≠ 4 → s.thm.cut = none →
    ∃ t, exec .firmwareStart s = .next t ∧ t.seq.boot = .running ∧ t.fbit F.SYS_FW_CTRL_LOCK = true)

/-- Test requests (R111 to R115): tests 0 and 3 run at once in ARMING and SERVICE, tests 1 and 2 wait for the next boot; in DRIVE a test is
queued and refused. A test requested while another runs is answered BUSY and not queued, and one whose bit of SYS_TEST_QUEUE is set already
is refused and stays queued once. Where the spec leaves a point of it open, the model's choice is log entries 40, 126. -/
def Obligations.TestRequests : Prop :=
  (∀ (s : State) (m : Master), s.grants m R.SYS_TEST_REQ → s.noTest → (s.fget F.SYS_TEST_QUEUE_Q).testBit 0 = false →
    s.seq.mode = .arming ∨ s.seq.mode = .service →
    ∃ t, exec (.testReqLgDiag m) s = .next t ∧ t.answered 0 ∧ t.seq.test = some 0 ∧ t.fget F.SYS_TEST_STAT_STATUS = 1 ∧
      t.fget F.SYS_TEST_STAT_TEST = 0 ∧ SameRegs s t [R.SYS_TEST_STAT] ∧ SameMem s t) ∧
  (∀ (s : State) (m : Master), s.grants m R.SYS_TEST_REQ → s.noTest → (s.fget F.SYS_TEST_QUEUE_Q).testBit 1 = false →
    s.seq.mode = .arming ∨ s.seq.mode = .service →
    ∃ t, exec (.testReqLogicBist m) s = .next t ∧ t.answered 0 ∧ t.rbit R.SYS_TEST_QUEUE 1 = true ∧ t.fget F.SYS_TEST_STAT_STATUS = 6 ∧
      t.fget F.SYS_TEST_STAT_TEST = 1 ∧ SameRegs s t [R.SYS_TEST_STAT, R.SYS_TEST_QUEUE] ∧ SameMem s t) ∧
  (∀ (s : State) (m : Master), s.grants m R.SYS_TEST_REQ → s.noTest → (s.fget F.SYS_TEST_QUEUE_Q).testBit 2 = false →
    s.seq.mode = .arming ∨ s.seq.mode = .service →
    ∃ t, exec (.testReqMemoryBist m) s = .next t ∧ t.answered 0 ∧ t.rbit R.SYS_TEST_QUEUE 2 = true ∧ t.fget F.SYS_TEST_STAT_STATUS = 6 ∧
      t.fget F.SYS_TEST_STAT_TEST = 2 ∧ SameRegs s t [R.SYS_TEST_STAT, R.SYS_TEST_QUEUE] ∧ SameMem s t) ∧
  (∀ (s : State) (m : Master), s.grants m R.SYS_TEST_REQ → s.noTest → (s.fget F.SYS_TEST_QUEUE_Q).testBit 3 = false →
    s.seq.mode = .arming ∨ s.seq.mode = .service →
    ∃ t, exec (.testReqBrakeChopper m) s = .next t ∧ t.answered 0 ∧ t.seq.test = some 3 ∧ t.tmu.bcTest = some s.time ∧
      t.fget F.SYS_TEST_STAT_STATUS = 1 ∧ t.fget F.SYS_TEST_STAT_TEST = 3 ∧ SameRegs s t [R.SYS_TEST_STAT] ∧ SameMem s t) ∧
  (∀ (s : State) (m : Master), s.grants m R.SYS_TEST_REQ → s.noTest → (s.fget F.SYS_TEST_QUEUE_Q).testBit 0 = false →
    s.seq.mode = .drive → s.room 4 →
    ∃ t, exec (.testReqLgDiag m) s = .next t ∧ t.answered 0 ∧ t.seq.test = s.seq.test ∧ t.rbit R.SYS_TEST_QUEUE 0 = true ∧
      t.fget F.SYS_TEST_STAT_STATUS = 4 ∧ Journaled s t C.TEST_REFUSED 0 { w0 := bytes4 0 2 0 0 } ∧
      SameRegs s t [R.SYS_TEST_STAT, R.SYS_TEST_QUEUE] ∧ SameMem s t) ∧
  (∀ (s : State) (m : Master) (c : Instr) (k : Nat) (r : Fin 4), IsTestRequest c m k → s.grants m R.SYS_TEST_REQ → s.testOn r.val = true → k ≠ r.val →
    ∃ t, exec c s = .next t ∧
      t.answered 0 ∧ t.fget F.SYS_TEST_STAT_STATUS = 5 ∧ t.fget F.SYS_TEST_STAT_TEST = k ∧ t.seq.test = s.seq.test ∧
      SameRegs s t [R.SYS_TEST_STAT] ∧ SameMem s t) ∧
  (∀ (s : State) (m : Master) (c : Instr) (k : Nat), IsTestRequest c m k → s.grants m R.SYS_TEST_REQ → (∀ r : Fin 4, r.val ≠ k → s.testOn r.val = false) →
    (s.fget F.SYS_TEST_QUEUE_Q).testBit k = true →
    ∃ t, exec c s = .next t ∧
      t.answered 0 ∧ t.fget F.SYS_TEST_STAT_STATUS = 4 ∧ t.fget F.SYS_TEST_STAT_TEST = k ∧ t.seq.test = s.seq.test ∧
      SameRegs s t [R.SYS_TEST_STAT] ∧ SameMem s t)

/-- A power-on reset (R37, R68, R116): Clave restarts at 0 in ARMING with SAFE_LATCH clear, memory and every register are at their reset values
but for the fuses and what the boot ROM finds of the flash, and nothing waits for the journal unless the boot ROM fell back. Where the spec
leaves a point of it open, the model's choice is log entries 4, 5. -/
def Obligations.PowerOnReset : Prop :=
  ∀ (s : State) (f : FlashBoot),
    ∃ t, exec (.powerOnReset f) s = .next t ∧ t.clave = 0 ∧ t.seq.mode = .arming ∧ t.seq.safeLatch = false ∧ t.pending = s.pending ∧
      (f.slow = none → t.jrn.waiting = []) ∧ (∀ a, t.mget a = 0) ∧ (∀ a, fuseReg a = true → t.rd a = s.rd a) ∧
      ∀ a, fuseReg a = false → a ≠ R.NVC_STAT → a ≠ R.NVC_LOG_HEAD → a ∉ journalRegs → t.rd a = RegMap.reset a

/-- The resets of the L-die (R29, R116, R118, R676, R679, R714): the device comes up in ARMING with the cause of SYS_RESET_CAUSE; Clave, the
sequence, SRAM and the journal's pinned area are kept; a FATAL reset sets SAFE_LATCH, another keeps it. A pin reset finds nothing to do
while the L-die has no rails. SYS_RST.SW in another mode than R117 names is ignored and journalled. Where the spec leaves a point of it
open, the model's choice is log entries 34, 44, 127. -/
def Obligations.LogicResets : Prop :=
  (∀ (s : State) (f : FlashBoot), s.lDead = false →
    ∃ t, exec (.pinReset f) s = .next t ∧ t.clave = s.clave ∧ t.seq.mode = .arming ∧ t.seq.safeLatch = s.seq.safeLatch ∧
      t.rd R.SYS_RESET_CAUSE = 1 ∧ t.rd R.JRN_NEXT_SEQ = s.rd R.JRN_NEXT_SEQ ∧ t.jrn.pins = s.jrn.pins ∧
      ∀ a, a < 0x10C40000 ∨ (0x10D20000 ≤ a ∧ a < 0x10D22000) → t.mget a = s.mget a) ∧
  (∀ (s : State) (f : FlashBoot), s.lDead = true → exec (.pinReset f) s = .next s) ∧
  (∀ (s : State) (m : Master) (v : Word) (f : FlashBoot), s.grants m R.SYS_RST → v.getLsbD 0 = true →
    s.seq.mode = .arming ∨ s.seq.mode = .service ∨ s.seq.mode = .safeHold →
    ∃ t, exec (.softwareReset m v f) s = .next t ∧ t.clave = s.clave ∧ t.seq.mode = .arming ∧ t.seq.safeLatch = s.seq.safeLatch ∧
      t.rd R.SYS_RESET_CAUSE = 2 ∧ t.rd R.JRN_NEXT_SEQ = s.rd R.JRN_NEXT_SEQ ∧ t.jrn.pins = s.jrn.pins ∧
      ∀ a, a < 0x10C40000 ∨ (0x10D20000 ≤ a ∧ a < 0x10D22000) → t.mget a = s.mget a) ∧
  (∀ (s : State) (m : Master) (v : Word) (f : FlashBoot), s.grants m R.SYS_RST → v.getLsbD 0 = true →
    s.seq.mode ≠ .arming → s.seq.mode ≠ .service → s.seq.mode ≠ .safeHold → s.room 4 →
    ∃ t, exec (.softwareReset m v f) s = .next t ∧ t.answered 0 ∧ t.seq.mode = s.seq.mode ∧
      Journaled s t C.MODE_REFUSED 0 { w0 := bytes4 0 6 s.seq.mode.code 1 } ∧ SameRegs s t [] ∧ SameMem s t) ∧
  (∀ (s : State) (f : FlashBoot) (t0 : Nat), s.gong.fatalAt = some t0 → t0 + 4000000 ≤ s.time → s.lDead = false →
    ∃ t, exec (.fatalReset f) s = .next t ∧ t.clave = s.clave ∧ t.seq.mode = .arming ∧ t.seq.safeLatch = true ∧ t.rd R.SYS_RESET_CAUSE = 4 ∧
      t.rd R.JRN_NEXT_SEQ = s.rd R.JRN_NEXT_SEQ ∧ t.jrn.pins = s.jrn.pins ∧
      ∀ a, a < 0x10C40000 ∨ (0x10D20000 ≤ a ∧ a < 0x10D22000) → t.mget a = s.mget a) ∧
  (∀ (s : State) (f : FlashBoot) (t0 : Nat), s.gong.fatalAt = some t0 → s.time < t0 + 4000000 → exec (.fatalReset f) s = .next s)

/-! ### The closed-loop engine (spec/04) -/

/-- A software trigger of an enabled context (R143, R145, R146, R150): with DIVCNT at 0 and no run unfinished it releases it, with BUSY, the
release stamp and its place among the waiting; with DIVCNT above 0 it only counts DIVCNT down; while a run is unfinished it is lost and
counted. A due rate generator fires once for a multiple of its period (R144), and releases a free context that it triggers and that reads
only converter inputs and sigma-delta signals. Where the spec leaves a point of it open, the model's choice is log entry 131. -/
def Obligations.CleReleases : Prop :=
  (∀ (s : State) (m : Master) (n : Fin 128), s.grants m (R.CLE_CTX_SWTRIG n.val) → s.fget (F.CLE_CTX_TRIG_SRC n.val) = 4 →
    s.fbit F.CLE_GLB_CTRL_EN = true → s.ctxOn n.val = true → s.fbit (F.CLE_CTX_STAT_SUSP n.val) = false → (s.ctx n.val).suspPend = none →
    s.overridden (s.fget (F.CLE_CTX_CTRL_SGRP n.val)) = false → s.fget (F.CLE_CTX_STAT_DIVCNT n.val) = 0 →
    s.fbit (F.CLE_CTX_STAT_BUSY n.val) = false → (s.ctx n.val).due = none →
    (∀ i ∈ s.ctxSignals n.val, 0x180 ≤ i → i - 0x180 < n.val → s.fbit (F.CLE_CTX_STAT_BUSY (i - 0x180)) = false ∧ (s.ctx (i - 0x180)).due = none) →
    ∃ t, exec (.cleCtxSwtrig m n) s = .next t ∧ t.answered 0 ∧ t.fbit (F.CLE_CTX_STAT_BUSY n.val) = true ∧
      t.fget (F.CLE_CTX_STAT_DIVCNT n.val) = s.fget (F.CLE_CTX_TRIG_DIVM1 n.val) ∧ (t.ctx n.val).waiting = true ∧ (t.ctx n.val).rel = s.cyc ∧
      t.rd (R.CLE_CTX_STAMP_LO n.val) = loWord s.clave ∧ t.rd (R.CLE_CTX_STAMP_HI n.val) = hiWord s.clave ∧ SameMem s t) ∧
  (∀ (s : State) (m : Master) (n : Fin 128), s.grants m (R.CLE_CTX_SWTRIG n.val) → s.fget (F.CLE_CTX_TRIG_SRC n.val) = 4 →
    s.fbit F.CLE_GLB_CTRL_EN = true → s.ctxOn n.val = true → s.fbit (F.CLE_CTX_STAT_SUSP n.val) = false → (s.ctx n.val).suspPend = none →
    s.overridden (s.fget (F.CLE_CTX_CTRL_SGRP n.val)) = false → s.fget (F.CLE_CTX_STAT_DIVCNT n.val) ≠ 0 →
    ∃ t, exec (.cleCtxSwtrig m n) s = .next t ∧ t.answered 0 ∧
      t.fget (F.CLE_CTX_STAT_DIVCNT n.val) = s.fget (F.CLE_CTX_STAT_DIVCNT n.val) - 1 ∧ t.ctx n.val = s.ctx n.val ∧
      SameRegs s t [R.CLE_CTX_STAT n.val] ∧ SameMem s t) ∧
  (∀ (s : State) (m : Master) (n : Fin 128), s.grants m (R.CLE_CTX_SWTRIG n.val) → s.fget (F.CLE_CTX_TRIG_SRC n.val) = 4 →
    s.fbit F.CLE_GLB_CTRL_EN = true → s.ctxOn n.val = true → s.fbit (F.CLE_CTX_STAT_SUSP n.val) = false → (s.ctx n.val).suspPend = none →
    s.overridden (s.fget (F.CLE_CTX_CTRL_SGRP n.val)) = false → s.fget (F.CLE_CTX_STAT_DIVCNT n.val) = 0 →
    s.fbit (F.CLE_CTX_STAT_BUSY n.val) = true → s.fget (F.CLE_CTX_OVR_COUNT n.val) + 1 < 2 ^ 16 →
    ∃ t, exec (.cleCtxSwtrig m n) s = .next t ∧ t.answered 0 ∧
      t.fget (F.CLE_CTX_OVR_COUNT n.val) = s.fget (F.CLE_CTX_OVR_COUNT n.val) + 1 ∧ t.fbit (F.CLE_CTX_STAT_BUSY n.val) = true ∧
      (t.ctx n.val).rel = (s.ctx n.val).rel ∧ SameRegs s t [R.CLE_CTX_STAT n.val, R.CLE_CTX_OVR n.val] ∧ SameMem s t) ∧
  (∀ (s : State) (g : Fin 8) (l : List ResPair), 0 < (s.rd (R.CLE_GLB_RATE g.val)).toNat →
    SMap.get (fun _ => 0) s.cle.rateLast g.val ≤ dueAt s.now (s.rd (R.CLE_GLB_RATE g.val)).toNat →
    ∃ t, exec (.cleRateGen g l) s = .next t ∧
      SMap.get (fun _ => 0) t.cle.rateLast g.val = dueAt s.now (s.rd (R.CLE_GLB_RATE g.val)).toNat + 1 ∧ SameMem s t) ∧
  (∀ (s : State) (g : Fin 8) (l : List ResPair) (n : Fin 128), 0 < (s.rd (R.CLE_GLB_RATE g.val)).toNat →
    SMap.get (fun _ => 0) s.cle.rateLast g.val ≤ dueAt s.now (s.rd (R.CLE_GLB_RATE g.val)).toNat → s.fbit F.PFB_RES_CTRL_EN = false →
    s.fget (F.CLE_CTX_TRIG_SRC n.val) = 3 → s.fget (F.CLE_CTX_TRIG_SEL n.val) = g.val → s.fbit F.CLE_GLB_CTRL_EN = true →
    s.ctxOn n.val = true → s.fbit (F.CLE_CTX_STAT_SUSP n.val) = false → (s.ctx n.val).suspPend = none →
    s.overridden (s.fget (F.CLE_CTX_CTRL_SGRP n.val)) = false → s.fget (F.CLE_CTX_STAT_DIVCNT n.val) = 0 →
    s.fbit (F.CLE_CTX_STAT_BUSY n.val) = false → (s.ctx n.val).due = none → (∀ i ∈ s.ctxSignals n.val, i < 0x80) →
    ∃ t, exec (.cleRateGen g l) s = .next t ∧ t.fbit (F.CLE_CTX_STAT_BUSY n.val) = true ∧ (t.ctx n.val).waiting = true ∧
      (t.ctx n.val).rel = s.cyc ∧ t.rd (R.CLE_CTX_STAMP_LO n.val) = loWord s.clave ∧ t.rd (R.CLE_CTX_STAMP_HI n.val) = hiWord s.clave ∧
      SameMem s t) ∧
  (∀ (s : State) (g : Fin 8) (l : List ResPair), s.rd (R.CLE_GLB_RATE g.val) = 0 → exec (.cleRateGen g l) s = .next s)

/-- A lane in service and free starts the context that comes next, and samples its inputs (R119, R124, R152). The end of an ordinary run that is
in error mode or within its following-error limit (R119, R127): the lane is free, the run's values are in its context's registers, and the
output stands on the context's signal and waits for its destination; an uncorrectable error ends the run with NUM set and no output (R168),
a run whose cycles have not passed goes on (R151). Where the spec leaves a point of it open, the model's choice is log entries 51, 53, 132. -/
def Obligations.CleRuns : Prop :=
  (∀ (s : State) (l : Fin 4) (n : Nat), s.laneIn l.val = true → (s.lane l.val).run = none → s.nextCtx l.val 128 = some n →
    ∃ t, exec (.cleRunStart l) s = .next t ∧ (t.lane l.val).run = some (Fin.ofNat 128 n, s.cyc) ∧ (t.ctx n).waiting = false ∧
      (t.ctx n).snap = some (s.cleSnap n) ∧ (∀ k, k ≠ n → t.ctx k = s.ctx k) ∧ (∀ a, t.rd a = s.rd a) ∧ SameMem s t) ∧
  (∀ (s : State) (l : Fin 4) (n : Fin 128) (c0 : Nat) (c : CleSnap) (r e u out : F32) (sat : Nat) (frz : Bool) (os : List SecOut),
    (s.lane l.val).run = some (n, c0) → (s.ctx n.val).snap = some c → c0 + 8 + 2 * c.secs.length ≤ s.cyc →
    s.fbit (F.CLE_CTX_STAT_HELD n.val) = false → c.errMode = true ∨ fLt c.feLimit (fAbs (fSub r c.meas)) = false →
    runCompute c (!(s.ctx n.val).ran) (s.ctx n.val).r (if (s.ctx n.val).ran then fMul (fOfNat ((s.ctx n.val).rel - (s.ctx n.val).ref)) fCycle else 0)
      c.states = .ok r e u out sat frz os →
    ∃ t, exec (.cleRunCommit l []) s = .next t ∧ (t.lane l.val).run = none ∧ t.sget (0x180 + n.val) = out ∧
      (∃ o, t.cle.outs = s.cle.outs ++ [o] ∧ o.ctx = n ∧ o.value = out) ∧
      t.rd (R.CLE_CTX_OUT n.val) = out ∧ t.rd (R.CLE_CTX_MEAS n.val) = c.meas ∧ t.rd (R.CLE_CTX_SPR n.val) = r ∧
      t.rd (R.CLE_CTX_ERR n.val) = e ∧ t.rd (R.CLE_CTX_UNSAT n.val) = u ∧ (t.ctx n.val).ran = true ∧ SameMem s t) ∧
  (∀ (s : State) (l : Fin 4) (n : Fin 128) (c0 : Nat) (c : CleSnap) (a : Word) (pos : Fin 8),
    (s.lane l.val).run = some (n, c0) → (s.ctx n.val).snap = some c → c0 + 8 + 2 * c.secs.length ≤ s.cyc → (s.ctx n.val).suspPend = none →
    (s.ctx n.val).due = none →
    ∃ t, exec (.cleRunCommit l [.uncorrectable a pos]) s = .next t ∧ (t.lane l.val).run = none ∧ t.fbit (F.CLE_CTX_STAT_NUM n.val) = true ∧
      t.fbit (F.CLE_CTX_STAT_BUSY n.val) = false ∧ t.cle.outs = s.cle.outs ∧ SameMem s t) ∧
  (∀ (s : State) (l : Fin 4) (n : Fin 128) (c0 : Nat) (c : CleSnap) (errs : List CleError),
    (s.lane l.val).run = some (n, c0) → (s.ctx n.val).snap = some c → s.cyc < c0 + 8 + 2 * c.secs.length →
    ∃ t, exec (.cleRunCommit l errs) s = .next t ∧ (t.lane l.val).run = some (n, c0) ∧ t.ctx n.val = s.ctx n.val ∧ t.cle.outs = s.cle.outs ∧ SameMem s t)

/-- The oldest committed output is delivered to its latch and its latency noted (R155, R159): without a destination nothing else happens, and an
ordinary duty of a timer group stands in the shadow of its leg, limited to 0 and 1 (R304, R305). Where the spec leaves a point of it open,
the model's choice is log entry 119. -/
def Obligations.CleDelivery : Prop :=
  (∀ (s : State) (o : CleOut) (rest : List CleOut), s.cle.outs = o :: rest →
    ∃ t, exec .cleDeliver s = .next t ∧ t.cle.outs = rest ∧ t.fget (F.CLE_CTX_LAT_LAST o.ctx.val) = min (s.cyc - o.rel) 65535 ∧
      t.fget (F.CLE_CTX_LAT_MAX o.ctx.val) = max (min (s.cyc - o.rel) 65535) (s.fget (F.CLE_CTX_LAT_MAX o.ctx.val)) ∧ SameMem s t) ∧
  (∀ (s : State) (o : CleOut) (rest : List CleOut), s.cle.outs = o :: rest → o.kind = 0 →
    ∃ t, exec .cleDeliver s = .next t ∧ t.cle.outs = rest ∧ SameRegs s t [R.CLE_CTX_LAT o.ctx.val] ∧ SameMem s t) ∧
  (∀ (s : State) (o : CleOut) (rest : List CleOut), s.cle.outs = o :: rest → o.kind = 1 → dstValid 1 o.index = true → o.index % 16 < 4 →
    fIsNaN o.value = false →
    ∃ t, exec .cleDeliver s = .next t ∧ t.cle.outs = rest ∧
      t.rd (R.PWM_GRP_DUTY (o.index / 16) (o.index % 16)) = fClamp 0 fOne o.value ∧
      SameRegs s t [R.CLE_CTX_LAT o.ctx.val, R.PWM_GRP_DUTY (o.index / 16) (o.index % 16)] ∧ SameMem s t) ∧
  (∀ s : State, s.cle.outs = [] → exec .cleDeliver s = .next s)

/-- A write that enables a context does so where its configuration is valid, and is else reported with what is wrong (R160); a write with EN 0
disables it (R161). BANK of a disabled context takes effect at once, that of an enabled one waits for a release (R134, R136); a chain is
stored where both its banks are valid and nothing locks them (R131, R138). Where the spec leaves a point of it open, the model's choice is
log entries 46, 47, 133. -/
def Obligations.CleEnableBanksAndChains : Prop :=
  (∀ (s : State) (m : Master) (n : Fin 128) (v : Word), s.grants m (R.CLE_CTX_CTRL n.val) → s.ctxOn n.val = false → s.ctxInvalid n.val = none →
    ∃ t, exec (.cleCtxEnable m n v) s = .next t ∧ t.answered 0 ∧ t.ctxOn n.val = true ∧ (t.ctx n.val).ran = false ∧
      t.fget (F.CLE_CTX_STAT_DIVCNT n.val) = 0 ∧ SameMem s t) ∧
  (∀ (s : State) (m : Master) (n : Fin 128) (v : Word) (off why : Nat), s.grants m (R.CLE_CTX_CTRL n.val) → s.ctxOn n.val = false →
    s.ctxInvalid n.val = some (off, why) → s.room 4 →
    ∃ t, exec (.cleCtxEnable m n v) s = .next t ∧ t.answered 0 ∧ t.ctxOn n.val = false ∧
      Journaled s t C.CLE_CFG_INVALID n.val { w0 := bytes4 off (off / 256) why 0 } ∧ SameMem s t) ∧
  (∀ (s : State) (m : Master) (n : Fin 128) (v : Word), s.grants m (R.CLE_CTX_CTRL n.val) → s.ctxOn n.val = true →
    ∃ t, exec (.cleCtxDisable m n v) s = .next t ∧ t.answered 0 ∧ t.ctxOn n.val = false ∧
      (s.ctxRunning n.val = false → (t.ctx n.val).waiting = false ∧ t.fbit (F.CLE_CTX_STAT_BUSY n.val) = false) ∧ SameMem s t) ∧
  (∀ (s : State) (m : Master) (n : Fin 128) (v : Word), s.grants m (R.CLE_CTX_CTRL n.val) → s.ctxOn n.val = false → v.getLsbD 0 = false →
    ∃ t, exec (.cleBankWrite m n v) s = .next t ∧ t.answered 0 ∧ t.fget (F.CLE_CTX_CTRL_BANK n.val) = fldOf (F.CLE_CTX_CTRL_BANK n.val) v ∧
      t.fget (F.CLE_CTX_CTRL_BANK_ACT n.val) = fldOf (F.CLE_CTX_CTRL_BANK n.val) v ∧ SameMem s t) ∧
  (∀ (s : State) (m : Master) (n : Fin 128) (v : Word), s.grants m (R.CLE_CTX_CTRL n.val) → s.ctxOn n.val = true → v.getLsbD 0 = true →
    ∃ t, exec (.cleBankWrite m n v) s = .next t ∧ t.answered 0 ∧ t.fget (F.CLE_CTX_CTRL_BANK n.val) = fldOf (F.CLE_CTX_CTRL_BANK n.val) v ∧
      t.fget (F.CLE_CTX_CTRL_BANK_ACT n.val) = s.fget (F.CLE_CTX_CTRL_BANK_ACT n.val) ∧ t.ctxOn n.val = true ∧
      SameRegs s t [R.CLE_CTX_CTRL n.val] ∧ SameMem s t) ∧
  (∀ (s : State) (m : Master) (n : Fin 128) (v : Word), s.grants m (R.CLE_CTX_CHAIN n.val) → s.ctxOn n.val = false → s.swapPend n.val = false →
    chainValid (chainOf v 0) = true → chainValid (chainOf v 1) = true →
    ∃ t, exec (.cleChainWrite m n v) s = .next t ∧ t.answered 0 ∧ t.rd (R.CLE_CTX_CHAIN n.val) = v &&& 0xF3FFF3FF ∧
      SameRegs s t [R.CLE_CTX_CHAIN n.val] ∧ SameMem s t)

/-- A state word is stored while its context is disabled, and kept and reported while it is enabled (R163); a coefficient word is stored where
no enabled context uses its section, and else discarded and reported (R133). The reservation of lanes is stored unless it takes every lane
in service, which is kept and reported (R154); the scrub counts and reports a corrected error (R167, R169). Where the spec leaves a point of
it open, the model's choice is log entries 46, 49, 133. -/
def Obligations.CleStatesCoefficientsAndReservations : Prop :=
  (∀ (s : State) (m : Master) (n : Fin 128) (i : Fin 8) (two : Bool) (v : Word),
    s.grants m (R.CLE_CTX_CTRL n.val + 0x80 + 8 * i.val + 4 * b2n two) → s.ctxOn n.val = false → fIsNaN v = false →
    ∃ t, exec (.cleStateWrite m n i two v) s = .next t ∧ t.answered 0 ∧ t.rd (if two then R.CLE_CTX_S2 n.val i.val else R.CLE_CTX_S1 n.val i.val) = v ∧
      SameRegs s t [if two then R.CLE_CTX_S2 n.val i.val else R.CLE_CTX_S1 n.val i.val] ∧ SameMem s t) ∧
  (∀ (s : State) (m : Master) (n : Fin 128) (i : Fin 8) (two : Bool) (v : Word),
    s.grants m (R.CLE_CTX_CTRL n.val + 0x80 + 8 * i.val + 4 * b2n two) → s.ctxOn n.val = true → s.room 4 →
    ∃ t, exec (.cleStateWrite m n i two v) s = .next t ∧ t.answered 0 ∧
      Journaled s t C.CLE_CFG_LOCKED n.val { w0 := halves (0x80 + 8 * i.val + 4 * b2n two) 0 } ∧ SameRegs s t [] ∧ SameMem s t) ∧
  (∀ (s : State) (m : Master) (c : Fin 1024) (w : Fin 7) (v : Word), s.grants m (R.CLE_COEF c.val w.val) → s.secInUse c.val 128 = false →
    ∃ t, exec (.cleCoefWrite m c (w.castLE (by decide)) v) s = .next t ∧ t.answered 0 ∧
      t.rd (R.CLE_COEF c.val w.val) = v &&& RegMap.impl (R.CLE_COEF c.val w.val) ∧
      SameRegs s t [R.CLE_COEF c.val w.val] ∧ SameMem s t) ∧
  (∀ (s : State) (m : Master) (c : Fin 1024) (w : Fin 7) (v : Word), s.grants m (R.CLE_COEF c.val w.val) → s.secInUse c.val 128 = true → s.room 4 →
    ∃ t, exec (.cleCoefWrite m c (w.castLE (by decide)) v) s = .next t ∧ t.answered 0 ∧
      Journaled s t C.CLE_COEF_BUSY_WR 255 { w0 := bytes4 c.val (c.val / 256) (4 * w.val) (s.masterNum m / 2) } ∧ SameRegs s t [] ∧ SameMem s t) ∧
  (∀ (s : State) (m : Master) (v : Word) (l : Fin 4), s.grants m R.CLE_GLB_CTRL → s.laneIn l.val = true →
    (fldOf F.CLE_GLB_CTRL_RSV v).testBit l.val = false →
    ∃ t, exec (.cleRsvWrite m v) s = .next t ∧ t.answered 0 ∧ t.fget F.CLE_GLB_CTRL_RSV = fldOf F.CLE_GLB_CTRL_RSV v ∧
      SameRegs s t [R.CLE_GLB_CTRL] ∧ SameMem s t) ∧
  (∀ (s : State) (m : Master) (v : Word), s.grants m R.CLE_GLB_CTRL → (∃ l : Fin 4, s.laneIn l.val = true) →
    (∀ l : Fin 4, s.laneIn l.val = true → (fldOf F.CLE_GLB_CTRL_RSV v).testBit l.val = true) → s.room 4 →
    ∃ t, exec (.cleRsvWrite m v) s = .next t ∧ t.answered 0 ∧ t.fget F.CLE_GLB_CTRL_RSV = s.fget F.CLE_GLB_CTRL_RSV ∧
      Journaled s t C.CLE_CFG_INVALID 255 { w0 := bytes4 0 0 5 0 } ∧ SameRegs s t [R.CLE_GLB_CTRL] ∧ SameMem s t) ∧
  (∀ (s : State) (w : Fin 8192), s.rd R.CLE_GLB_ECC_CNT ≠ 0xFFFFFFFF → s.room 4 →
    ∃ t, exec (.cleScrub w true) s = .next t ∧ t.rd R.CLE_GLB_ECC_CNT = s.rd R.CLE_GLB_ECC_CNT + 1 ∧
      Journaled s t C.CLE_ECC_CORR 255 { w0 := w32 (4 * w.val) } ∧ SameRegs s t [R.CLE_GLB_ECC_CNT, R.CLE_GLB_ECC_ADDR] ∧ SameMem s t)

/-! ### The ADC and the sigma-delta inputs (spec/04) -/

/-- Sequences (R175 to R179): a trigger gives the hold edge, jittered where R684 asks, where enough converters are free and waits where not; a
waiting sequence takes its hold edge later, counted as late; a continuous one is triggered again after its interval; at completion of a
sequence of one slot the code is in its input's register. The spare converter core (R181 to R186): a hand-over on request goes to the next
core; a calibration within its limit makes the spare ready, one beyond it retires the core and is reported; a reference check that fails
retires its core, after a calibrated spare has taken its place; CAL_NOW asks for a hand-over. Where the spec leaves a point of it open, the
model's choice is log entries 54, 57. -/
def Obligations.AdcSequencesAndCores : Prop :=
  (∀ (s : State) (m : Master) (q : Fin 32), s.grants m (R.ADC_SEQ_SWTRIG q.val) → s.fget (F.ADC_SEQ_CTRL_SRC q.val) = 4 →
    s.fbit F.ADC_CTRL_EN = true → s.fbit (F.ADC_SEQ_CTRL_EN q.val) = true → s.nslot q.val ≠ 0 → (s.aseq q.val).waiting = none →
    (s.aseq q.val).hold = none →
    ∃ t, exec (.adcSeqSwtrig m q) s = .next t ∧ t.answered 0 ∧
      (s.adcFree q.val s.time = true → (t.aseq q.val).hold = some (s.time + s.jitter q.val) ∧
        t.rd (R.ADC_SEQ_STAMP_LO q.val) = loWord (s.clave + BitVec.ofNat 64 (s.jitter q.val)) ∧
        t.rd (R.ADC_SEQ_STAMP_HI q.val) = hiWord (s.clave + BitVec.ofNat 64 (s.jitter q.val))) ∧
      (s.adcFree q.val s.time = false → (t.aseq q.val).waiting = some s.time) ∧
      SameRegs s t [R.ADC_SEQ_STAMP_LO q.val, R.ADC_SEQ_STAMP_HI q.val] ∧ SameMem s t) ∧
  (∀ (s : State) (q t0 : Nat), q < 32 → s.firstWaiting 32 = some (q, t0) → (s.rd (R.ADC_SEQ_LATE q)).toNat + 1 < 2 ^ 32 →
    ∃ t, exec .adcSeqHold s = .next t ∧ (t.aseq q).hold = some (s.time + s.jitter q) ∧ (t.aseq q).waiting = none ∧
      t.rd (R.ADC_SEQ_LATE q) = s.rd (R.ADC_SEQ_LATE q) + 1 ∧ SameMem s t) ∧
  (∀ (s : State) (q : Fin 32) (t0 : Nat) (code : BitVec 16), (s.aseq q.val).hold = some t0 → t0 + s.convTicks q.val ≤ s.time →
    s.nslot q.val = 1 → s.slotAin q.val 0 < 96 →
    ∃ t, exec (.adcSeqComplete q [code]) s = .next t ∧ (t.aseq q.val).hold = none ∧
      t.rd (R.ADC_AIN_RAW (s.slotAin q.val 0)) = code.setWidth 32 ∧ SameMem s t) ∧
  (∀ (s : State) (q : Fin 32), s.fget (F.ADC_SEQ_CTRL_SRC q.val) = 3 → (s.aseq q.val).lastTrig + 2 * (s.rd (R.ADC_SEQ_INTV q.val)).toNat ≤ s.time →
    s.fbit F.ADC_CTRL_EN = true → s.fbit (F.ADC_SEQ_CTRL_EN q.val) = true → s.nslot q.val ≠ 0 → (s.aseq q.val).waiting = none →
    (s.aseq q.val).hold = none → s.adcFree q.val s.time = true →
    ∃ t, exec (.adcSeqContinuous q) s = .next t ∧ (t.aseq q.val).hold = some (s.time + s.jitter q.val) ∧ (t.aseq q.val).lastTrig = s.time ∧ SameMem s t) ∧
  (∀ s : State, s.adc.hasSpare = true → s.adc.spareCal = true → s.adc.calNow = true →
    ∃ t, exec .adcHandover s = .next t ∧ t.fget F.ADC_STAT_SPARE = s.nextCore (s.fget F.ADC_STAT_SPARE) 16 % 16 ∧ t.adc.spareCal = false ∧
      t.adc.calNow = false ∧ t.adc.lastHand = s.time ∧ SameRegs s t [R.ADC_STAT] ∧ SameMem s t) ∧
  (∀ (s : State) (dev : BitVec 16), s.adc.hasSpare = true → s.adc.spareCal = false → dev.toNat ≤ 4 →
    ∃ t, exec (.adcSpareCalDone dev) s = .next t ∧ t.adc.spareCal = true ∧ t.adc.hasSpare = true ∧ SameRegs s t [R.SYS_ARM_STAT] ∧ SameMem s t) ∧
  (∀ (s : State) (dev : BitVec 16), s.adc.hasSpare = true → s.adc.spareCal = false → 4 < dev.toNat → s.room 4 →
    ∃ t, exec (.adcSpareCalDone dev) s = .next t ∧ t.adc.hasSpare = false ∧ t.rbit R.ADC_STAT (16 + s.fget F.ADC_STAT_SPARE) = true ∧
      t.fbit F.ADC_STAT_NO_SPARE = true ∧
      Journaled s t C.ADC_CAL_FAIL (s.fget F.ADC_STAT_SPARE) { w0 := bytes4 (s.fget F.ADC_STAT_SPARE) 50 0 0, w1 := halves dev.toNat 0 } ∧
      SameRegs s t [R.SYS_ARM_STAT, R.ADC_STAT] ∧ SameMem s t) ∧
  (∀ (s : State) (k : Fin 16) (dev : BitVec 16), 16 < dev.toNat → (s.fget F.ADC_STAT_RETIRED).testBit k.val = false → s.adc.hasSpare = false →
    s.room 4 →
    ∃ t, exec (.adcRefCheck k dev) s = .next t ∧ t.rbit R.ADC_STAT (16 + k.val) = true ∧
      Journaled s t C.ADC_CAL_FAIL k.val { w0 := bytes4 k.val 50 0 0, w1 := halves dev.toNat 0 } ∧ SameRegs s t [R.ADC_STAT] ∧ SameMem s t) ∧
  (∀ (s : State) (k : Fin 16) (dev : BitVec 16), 16 < dev.toNat → (s.fget F.ADC_STAT_RETIRED).testBit k.val = false → s.adc.hasSpare = true →
    s.fget F.ADC_STAT_SPARE ≠ k.val → s.room 5 →
    ∃ t, exec (.adcRefCheck k dev) s = .next t ∧ t.rbit R.ADC_STAT (16 + k.val) = true ∧ t.adc.hasSpare = false ∧
      t.fbit F.ADC_STAT_NO_SPARE = true ∧ (s.adc.spareCal = true → t.fget F.ADC_STAT_SPARE = k.val) ∧
      Journaled s t C.ADC_CAL_FAIL k.val { w0 := bytes4 k.val 50 0 0, w1 := halves dev.toNat 0 } ∧
      SameRegs s t [R.SYS_ARM_STAT, R.ADC_STAT] ∧ SameMem s t) ∧
  (∀ (s : State) (m : Master) (v : Word), s.grants m R.ADC_CTRL →
    ∃ t, exec (.adcCalNow m v) s = .next t ∧ t.answered 0 ∧ t.adc.calNow = true ∧ SameRegs s t [R.ADC_CTRL] ∧ SameMem s t)

/-- Window comparators and sigma-delta inputs (R187 to R192): a trip sets TRIP and is journalled; a result is scaled onto its signal and ends a
loss; a loss is journalled once, until a result has ended it. Where the spec leaves a point of it open, the model's choice is log entries
55, 56, 136. -/
def Obligations.AdcComparatorsAndSigmaDelta : Prop :=
  (∀ (s : State) (k : Fin 16) (above below : Bool), s.fbit (F.ADC_WC_CTRL_EN k.val) = true → s.seq.mode ≠ .dormant →
    s.fget (F.ADC_WC_CTRL_ACTION k.val) = 0 → s.fbit (F.ADC_WC_CTRL_TRIP k.val) = false → (above || below) = true → s.room 4 →
    ∃ t, exec (.adcWcTrip k above below) s = .next t ∧ t.fbit (F.ADC_WC_CTRL_TRIP k.val) = true ∧
      Journaled s t C.ADC_WC_TRIP k.val { w0 := bytes4 0 (s.fget (F.ADC_WC_CTRL_AIN k.val)) 0 0 } ∧
      SameRegs s t [R.ADC_WC_CTRL k.val] ∧ SameMem s t) ∧
  (∀ (s : State) (n : Fin 8) (y : F32), s.fbit (F.ADC_SD_CFG_EN n.val) = true →
    ∃ t, exec (.adcSdResult n y) s = .next t ∧ t.sget (0x60 + n.val) = fAdd (fMul (s.rd (R.ADC_SD_SCALE n.val)) y) (s.rd (R.ADC_SD_OFS n.val)) ∧
      t.adc.sdLost.getLsbD n.val = false ∧ SameMem s t) ∧
  (∀ (s : State) (n : Fin 8) (v : F32), s.fbit (F.ADC_SD_CFG_EN n.val) = true → s.fbit (F.ADC_SD_CMP_CTRL_EN n.val) = true →
    s.fbit (F.ADC_SD_CMP_CTRL_TRIP n.val) = false → fLt (s.rd (R.ADC_SD_CMP_HI n.val)) v = true → s.fget (F.ADC_SD_CMP_CTRL_ACTION n.val) = 0 →
    s.room 4 →
    ∃ t, exec (.adcSdCmpTrip n v) s = .next t ∧ t.fbit (F.ADC_SD_CMP_CTRL_TRIP n.val) = true ∧
      Journaled s t C.ADC_SD_CMP_TRIP n.val { w0 := bytes4 0 0 0 0, w1 := v } ∧ SameRegs s t [R.ADC_SD_CMP_CTRL n.val] ∧ SameMem s t) ∧
  (∀ (s : State) (n : Fin 8) (data : Bool), s.fbit (F.ADC_SD_CFG_EN n.val) = true → s.adc.sdLost.getLsbD n.val = false →
    s.room 4 →
    ∃ t, exec (.adcSdLoss n data) s = .next t ∧ t.adc.sdLost.getLsbD n.val = true ∧
      Journaled s t C.ADC_SD_LOSS n.val { w0 := bytes4 (b2n data) 0 0 0 } ∧ ((∀ k, (s.ctx k).due = none) → SameRegs s t []) ∧ SameMem s t) ∧
  (∀ (s : State) (n : Fin 8) (data : Bool), s.fbit (F.ADC_SD_CFG_EN n.val) = true → s.adc.sdLost.getLsbD n.val = true →
    exec (.adcSdLoss n data) s = .next s)


/-! ### Traction control (spec/05) -/

/-- A system's torque control: the offset measurement of a system in use begins with REQ (R197) and its end stores the offsets, or reports a
sensor fault where one is beyond its limit (R197); EN needs the periods of R220, and a write of EN 0 stops the systems (R231). Where the
spec leaves a point of it open, the model's choice is log entry 9. -/
def Obligations.TorqueCalibrationAndEnable : Prop :=
  (∀ (s : State) (m : Master) (k : Fin 2) (v : Word), s.grants m (R.TMU_SYS_CAL k.val) → v.getLsbD 0 = true → (s.mach = 2 → k = 0) →
    ∃ t, exec (.tmuOffsetCalReq m k v) s = .next t ∧ t.answered 0 ∧ (t.tsys k.val).cal = some 0 ∧
      t.fbit (F.TMU_SYS_CAL_REQ k.val) = true ∧ t.fbit (F.TMU_SYS_CAL_DONE k.val) = false ∧ t.fbit (F.TMU_SYS_CAL_FAIL k.val) = false ∧
      SameRegs s t [R.TMU_SYS_CAL k.val] ∧ SameMem s t) ∧
  (∀ (s : State) (k : Fin 2), (s.tsys k.val).cal = some 1024 →
    fLt (s.rd (R.TMU_SYS_IOFS_MAX k.val)) (fAbs (fMul (s.tsys k.val).sumU fPer1024)) = false →
    fLt (s.rd (R.TMU_SYS_IOFS_MAX k.val)) (fAbs (fMul (s.tsys k.val).sumV fPer1024)) = false →
    ∃ t, exec (.tmuOffsetCalDone k) s = .next t ∧ (t.tsys k.val).cal = none ∧
      t.fbit (F.TMU_SYS_CAL_REQ k.val) = false ∧ t.fbit (F.TMU_SYS_CAL_DONE k.val) = true ∧
      t.rd (R.TMU_SYS_IOFS_U k.val) = fMul (s.tsys k.val).sumU fPer1024 ∧ t.rd (R.TMU_SYS_IOFS_V k.val) = fMul (s.tsys k.val).sumV fPer1024 ∧
      SameRegs s t [R.TMU_SYS_CAL k.val, R.TMU_SYS_IOFS_U k.val, R.TMU_SYS_IOFS_V k.val] ∧ SameMem s t) ∧
  (∀ (s : State) (k : Fin 2), (s.tsys k.val).cal = some 1024 →
    fLt (s.rd (R.TMU_SYS_IOFS_MAX k.val)) (fAbs (fMul (s.tsys k.val).sumU fPer1024)) = true → s.room 4 →
    ∃ t, exec (.tmuOffsetCalDone k) s = .next t ∧ t.fbit (F.TMU_SYS_CAL_DONE k.val) = true ∧ t.fbit (F.TMU_SYS_CAL_FAIL k.val) = true ∧
      Journaled s t C.TMU_SENSOR_FAULT k.val { w0 := bytes4 0 1 0 0, w1 := fMul (s.tsys k.val).sumU fPer1024 } ∧
      SameRegs s t [R.TMU_SYS_CAL k.val] ∧ SameMem s t) ∧
  (∀ (s : State) (m : Master) (v : Word), s.grants m R.TMU_CFG → s.fbit F.TMU_CFG_EN = false → fldOf F.TMU_CFG_MACH v ≤ 2 →
    fldOf F.TMU_CFG_MOD v ≤ 1 → s.room 4 →
    ∃ t, exec (.tmuEnable m v) s = .next t ∧ t.answered 0 ∧ t.mach = fldOf F.TMU_CFG_MACH v ∧
      t.fbit F.TMU_CFG_EN = s.tmuPeriodsOk (fldOf F.TMU_CFG_MACH v) ∧
      (s.tmuPeriodsOk (fldOf F.TMU_CFG_MACH v) = false → Journaled s t C.TMU_CFG_LOCKED 255 { w0 := bytes4 0 0 1 0 }) ∧
      SameRegs s t [R.TMU_CFG] ∧ SameMem s t) ∧
  (∀ (s : State) (m : Master) (v : Word), s.grants m R.TMU_CFG → s.fbit F.TMU_CFG_EN = true →
    ∃ t, exec (.tmuDisable m v) s = .next t ∧ t.answered 0 ∧ t.fbit F.TMU_CFG_EN = false ∧ t.tmu.tApp = 0 ∧ t.rd R.TMU_TQ_APPLIED = 0 ∧
      ((s.grp 0).running = true → (s.grp 1).running = true → t.tmu.stopA = true ∧ t.tmu.stopB = true) ∧ SameMem s t)

/-- The starts of the systems: where R225 holds and every managed context can be preloaded and none of them runs, the systems of the arrangement
asked for run after the start (R229), the restart after position loss (R236) and the change of arrangement (R238); where one cannot, the
start does nothing but report it (R227). The brake chopper: with its budget used up it is off and reported (R242), below half the budget it
may work again (R242); its test, once its 10 ms have passed, passes where the voltage falls and no gate sense fails, and bars recuperation
where not (R244, R245). Where the spec leaves a point of it open, the model's choice is log entries 9, 60, 64. -/
def Obligations.TorqueStartsAndBrakeChopper : Prop :=
  (∀ s : State, s.mayStart s.planeAsked = true → s.fbit F.TMU_STAT_POS_HOLD = false → s.preloadFail s.planeAsked = none →
    (planeSystems s.mach s.planeAsked).all (fun k => s.sysState k == 1) = false → s.managedRun s.planeAsked = false →
    ∃ t, exec .tmuStart s = .next t ∧ t.plane = s.planeAsked ∧ (∀ k ∈ planeSystems s.mach s.planeAsked, t.sysState k = 1) ∧
      t.tmu.stopA = false ∧ t.tmu.stopB = false ∧ t.rd R.TMU_TQ_APPLIED = t.tmu.tApp) ∧
  (∀ (s : State) (n why : Nat), s.mayStart s.planeAsked = true → s.fbit F.TMU_STAT_POS_HOLD = false → s.preloadFail s.planeAsked = some (n, why) →
    (planeSystems s.mach s.planeAsked).all (fun k => s.sysState k == 1) = false → s.room 4 →
    ∃ t, exec .tmuStart s = .next t ∧ Journaled s t C.TMU_PRELOAD_FAIL 255 { w0 := bytes4 n why 0 0 } ∧ SameRegs s t [] ∧ SameMem s t) ∧
  (∀ s : State, s.mayStart s.planeAsked = true → s.fbit F.TMU_STAT_POS_HOLD = true → s.preloadFail s.planeAsked = none →
    s.managedRun s.planeAsked = false →
    ∃ t, exec .tmuPosReentry s = .next t ∧ t.fbit F.TMU_STAT_POS_HOLD = false ∧ t.plane = s.planeAsked ∧
      ∀ k ∈ planeSystems s.mach s.planeAsked, t.sysState k = 1) ∧
  (∀ s : State, s.planeAsked ≠ s.plane → s.mach ≠ 2 → s.mayStart s.planeAsked = true → s.preloadFail s.planeAsked = none →
    s.managedRun s.planeAsked = false →
    ∃ t, exec .tmuPlaneChange s = .next t ∧ t.plane = s.planeAsked ∧ ∀ k ∈ planeSystems s.mach s.planeAsked, t.sysState k = 1) ∧
  (∀ s : State, s.fget F.TMU_BC_MAXON_MAXON ≠ 0 → s.fget F.TMU_BC_MAXON_MAXON ≤ s.bcUsed → s.fbit F.TMU_STAT_BC_BUDGET = false → s.room 4 →
    ∃ t, exec .tmuBcBudget s = .next t ∧ t.fbit F.TMU_STAT_BC_BUDGET = true ∧ t.fbit F.TMU_STAT_BC_ON = false ∧ t.tmu.bc.since = none ∧
      Journaled s t C.TMU_BC_BUDGET 255 { w1 := w32 s.bcUsed } ∧ SameRegs s t [R.TMU_STAT] ∧ SameMem s t) ∧
  (∀ s : State, s.fbit F.TMU_STAT_BC_BUDGET = true → 2 * s.bcUsed < s.fget F.TMU_BC_MAXON_MAXON →
    ∃ t, exec .bcBudgetClear s = .next t ∧ t.fbit F.TMU_STAT_BC_BUDGET = false ∧
      t.fbit F.TMU_STAT_BC_ON = t.command 12 ∧
      (s.seq.mode ≠ .dormant → s.fbit (F.GDR_GC_CFG_USED 12) = true → (s.grp 2).gd = false → (s.grp 2).pat = 0 → s.latched 12 = false →
        s.tmu.bcTest = none → t.fbit F.TMU_STAT_BC_ON = (s.fbit F.TMU_BC_CTRL_EN && s.tmu.bcWant)) ∧ SameRegs s t [R.TMU_STAT] ∧ SameMem s t) ∧
  (∀ (s : State) (v0 v1 : F32) (t0 : Nat), s.tmu.bcTest = some t0 → t0 + 8000000 ≤ s.time → (fLe 0x42480000 v0 && fLt (fSub v0 v1) (s.rd R.TMU_BC_TEST_DV)) = false →
    ∃ t, exec (.bcTestDone none v0 v1) s = .next t ∧ t.tmu.bcTest = none ∧ t.fbit F.TMU_BC_CTRL_TEST_PASS = true ∧
      t.fbit F.TMU_BC_CTRL_TEST_FAIL = false ∧ t.tmu.noRegen = false) ∧
  (∀ (s : State) (k : Fin 100) (v0 v1 : F32) (t0 : Nat), s.tmu.bcTest = some t0 → t0 + 8000000 ≤ s.time →
    ∃ t, exec (.bcTestDone (some k) v0 v1) s = .next t ∧ t.tmu.bcTest = none ∧ t.fbit F.TMU_BC_CTRL_TEST_PASS = false ∧
      t.fbit F.TMU_BC_CTRL_TEST_FAIL = true ∧ t.tmu.noRegen = true)

/-! ### Position feedback (spec/06) -/

/-- The resolver: the enables with their configuration checks (R253, R256), the acquisition (R262), the lock (R264), a loss with its cause
(R266), a calibration fit, which the next result moves to (R269) and the check during ARMING (R272). Where the spec leaves a point of it
open, the model's choice is log entries 66, 67, 139, 143, 144. -/
def Obligations.Resolver : Prop :=
  (∀ (s : State) (m : Master) (v : Word), s.grants m R.PFB_CFG → s.fbit F.PFB_CFG_EN = false → v.getLsbD 31 = true →
    1 ≤ fldOf F.PFB_CFG_POLE v → fldOf F.PFB_CFG_POLE v ≤ 16 → 1 ≤ fldOf F.PFB_CFG_RPOLE v → fldOf F.PFB_CFG_RPOLE v ≤ 8 →
    fldOf F.PFB_CFG_SRC v ≤ 1 →
    ∃ t, exec (.pfbEnable m v) s = .next t ∧ t.answered 0 ∧
      t.fbit F.PFB_CFG_EN = decide (fldOf F.PFB_CFG_POLE v % fldOf F.PFB_CFG_RPOLE v = 0) ∧ t.fget F.PFB_CFG_POLE = fldOf F.PFB_CFG_POLE v ∧
      t.fget F.PFB_CFG_RPOLE = fldOf F.PFB_CFG_RPOLE v ∧ t.fget F.PFB_CFG_SRC = fldOf F.PFB_CFG_SRC v ∧
      (fldOf F.PFB_CFG_POLE v % fldOf F.PFB_CFG_RPOLE v ≠ 0 → s.room 4 → Journaled s t C.PFB_CFG_INVALID 255 {} ∧ SameRegs s t [R.PFB_CFG]) ∧ SameMem s t) ∧
  (∀ (s : State) (m : Master) (v : Word), s.grants m R.PFB_RES_CTRL → s.fbit F.PFB_RES_CTRL_EN = false → v.getLsbD 0 = true →
    s.resPerOk (fldOf F.PFB_RES_CTRL_GEN v) = true →
    ∃ t, exec (.pfbResEnable m v) s = .next t ∧ t.answered 0 ∧ t.fbit F.PFB_RES_CTRL_EN = true ∧ t.pfb.exc = true ∧
      t.pfb.stage = .clean ∧ t.pfb.pairs = [] ∧ t.pfb.lossOn = false ∧ t.pfb.excStart = s.time ∧ t.fbit F.PFB_STAT_ACQ = true ∧
      SameRegs s t [R.PFB_RES_CTRL, R.PFB_STAT] ∧ SameMem s t) ∧
  (∀ s : State, s.pfb.stage = .second →
    ∃ t, exec .resAcquire s = .next t ∧ t.pfb.stage = .track ∧ t.pfb.locks = 0 ∧ t.fbit F.PFB_STAT_ACQ = false ∧
      t.rd R.PFB_RES_FINE = radFraction s.pfb.angLast) ∧
  (∀ s : State, s.fbit F.PFB_RES_CTRL_EN = true → s.pfb.stage = .track → 32 ≤ s.pfb.locks → s.fbit F.PFB_STAT_LOCK = false → s.trkOk = true →
    ∃ t, exec .resLock s = .next t ∧ t.fbit F.PFB_STAT_LOCK = true ∧
      (s.fbit F.PFB_CFG_EN = true → s.fget F.PFB_CFG_SRC = 0 → t.fbit F.PFB_STAT_VALID = true)) ∧
  (∀ (s : State) (c : ResCond) (k : Nat), s.fbit F.PFB_RES_CTRL_EN = true → s.pfb.exc = true → s.pfb.lossOn = false →
    (∃ x, c = .samples [x] ∧ k = 1 ∧ (s.pairIn x).pfb.ampBad = 3) ∨
      (∃ x, c = .samples [x] ∧ k = 2 ∧ (s.pairIn x).pfb.ampBad ≠ 3 ∧ (s.pairIn x).pfb.excBad = 3) ∨
      (s.pfb.ampBad ≠ 3 ∧ s.pfb.excBad ≠ 3 ∧ ((∃ n, c = .current n ∧ k = 2 ∧ 800 ≤ n) ∨
        (s.pfb.curLim = false ∧ ((c = .tracking ∧ k = 3 ∧ s.pfb.trkBad = true) ∨
          (s.pfb.trkBad = false ∧ ∃ cosine dev, c = .converter cosine dev ∧ k = 4 ∧ 16 < dev.toInt.natAbs))))) →
    ∃ t, exec (.resLoss c) s = .next t ∧ t.fbit F.PFB_STAT_LOCK = false ∧ t.fget F.PFB_STAT_CAUSE = k ∧ t.fbit F.PFB_STAT_ACQ = true ∧
      t.pfb.stage = .clean ∧ t.pfb.lossOn = true ∧ (s.fget F.PFB_CFG_SRC = 0 → t.fbit F.PFB_STAT_VALID = false)) ∧
  (∀ (s : State) (l : List (F32 × F32)), s.pfb.revDone = some l → s.fbit F.PFB_RES_CTRL_CAL_EN = true → s.fbit F.PFB_STAT_VALID = true →
    fLe (s.rd R.PFB_RES_CAL_WMIN) (fAbs s.wHat) = true → fLe (fAbs s.wHat) (s.rd R.PFB_RES_CAL_WMAX) = true → s.room 4 →
    ∃ t, exec .resCalFit s = .next t ∧ t.pfb.revDone = none ∧ (s.fitBad (Config.ellipseFit l) = none → t.pfb.fitDue = some l) ∧
      (∀ i v, s.fitBad (Config.ellipseFit l) = some (i, v) → Journaled s t C.PFB_RES_CAL_LIMIT 0 { w0 := bytes4 i 0 0 0, w1 := v }) ∧
      SameRegs s t [] ∧ SameMem s t) ∧
  (∀ (s : State) (g : Fin 8) (p : List ResPair) (l : List (F32 × F32)), 0 < (s.rd (R.CLE_GLB_RATE g.val)).toNat →
    SMap.get (fun _ => 0) s.cle.rateLast g.val ≤ dueAt s.now (s.rd (R.CLE_GLB_RATE g.val)).toNat → s.fbit F.PFB_RES_CTRL_EN = true →
    s.pfb.exc = true → s.fget F.PFB_RES_CTRL_GEN = g.val → s.pfb.taken = 8 → s.pfb.lossHolds = false → s.pfb.fitDue = some l →
    ∃ t, exec (.cleRateGen g p) s = .next t ∧ t.pfb.fitDue = none ∧
      t.rd R.PFB_RES_CAL_S0 = sixteenth (s.rd R.PFB_RES_CAL_S0) (Config.ellipseFit l 0) ∧
      t.rd R.PFB_RES_CAL_C0 = sixteenth (s.rd R.PFB_RES_CAL_C0) (Config.ellipseFit l 1) ∧
      t.rd R.PFB_RES_CAL_G = sixteenth (s.rd R.PFB_RES_CAL_G) (Config.ellipseFit l 2) ∧
      t.rd R.PFB_RES_CAL_DELTA = sixteenth (s.rd R.PFB_RES_CAL_DELTA) (Config.ellipseFit l 3) ∧ SameMem s t) ∧
  (∀ s : State, s.inMode .arming = true → s.lasted s.pfb.validSince 8000000 = true → s.seq.resOk = false →
    ∃ t, exec .resCheckPass s = .next t ∧ t.seq.resOk = true ∧ (s.seq.diagOk = true → (t.rd R.SYS_ARM_STAT).getLsbD 5 = true) ∧
      SameRegs s t [R.SYS_ARM_STAT] ∧ SameMem s t) ∧
  (∀ s : State, s.inMode .arming = true → s.fbit F.PFB_RES_CTRL_EN = true → s.pfb.excStart + 80000000 ≤ s.time → s.seq.resOk = false →
    s.pfb.chkFail = false → s.heldInTime = false → s.room 4 →
    ∃ t, exec .pfbResCheckFail s = .next t ∧ t.pfb.chkFail = true ∧
      Journaled s t C.PFB_RES_CHECK_FAIL 0 { w0 := bytes4 (s.fget F.PFB_STAT_CAUSE) 0 0 0 } ∧ t.rbit R.SYS_ARM_STAT 13 = true ∧
      SameRegs s t [R.SYS_ARM_STAT] ∧ SameMem s t)

/-- The encoder: an edge of one line that has stood through the filter counts, up when A leads B (R273); a change of both, and a second edge in
one control cycle, is an error that counts nothing of that cycle (R275) and takes back its index (R278); the first index sets the count and
a later one corrects it within the tolerance (R276 to R279); without edges the speed is 0 (R280). The Hall decoders: a changed code that has
stood long enough, and its sector (R281 to R283), the step count of a known step (R284, R286), the speed 0 without changes (R285); the
compare channels: a value written to an enabled one arms it, and fires it where the counter stands there (R287, R289). Where the spec leaves
a point of it open, the model's choice is log entries 68, 69, 70, 141, 145, 146, 147, 148. -/
def Obligations.EncoderHallAndCompare : Prop :=
  (∀ (s : State) (a b : Bool) (na nb : Nat), s.fbit F.PFB_ENC_CFG_EN = true → s.encStable na = true → s.encStable nb = true →
    (a != s.pfb.encA) = (b == s.pfb.encB) → s.pfb.encCyc ≠ s.cyc + 1 → s.pfb.encQerr ≠ s.cyc + 1 →
    ∃ t, exec (.encEdge a b na nb) s = .next t ∧ t.pfb.encA = a ∧ t.pfb.encB = b ∧
      t.rd R.PFB_ENC_COUNT = (if encUp s.pfb.encA a b != s.fbit F.PFB_ENC_CFG_DIR_INV then s.rd R.PFB_ENC_COUNT + 1 else s.rd R.PFB_ENC_COUNT - 1)) ∧
  (∀ (s : State) (a b : Bool) (na nb : Nat), s.fbit F.PFB_ENC_CFG_EN = true → s.encStable na = false → s.encStable nb = false →
    exec (.encEdge a b na nb) s = .next s) ∧
  (∀ (s : State) (a b : Bool) (na nb : Nat), s.fbit F.PFB_ENC_CFG_EN = true → s.encStable na = true → s.encStable nb = true →
    a ≠ s.pfb.encA → b ≠ s.pfb.encB → s.pfb.encCyc ≠ s.cyc + 1 → s.pfb.encIdx = none →
    ∃ t, exec (.encEdge a b na nb) s = .next t ∧ t.pfb.encA = a ∧ t.pfb.encB = b ∧ t.rd R.PFB_ENC_COUNT = s.rd R.PFB_ENC_COUNT ∧
      (s.fget F.PFB_CFG_SRC = 1 → t.pfb.encInval = true)) ∧
  (∀ (s : State) (a b : Bool) (na nb : Nat), s.fbit F.PFB_ENC_CFG_EN = true → s.encStable na = true → s.encStable nb = true →
    (a != s.pfb.encA) = (b == s.pfb.encB) → s.pfb.encCyc = s.cyc + 1 → s.pfb.encIdx = none →
    ∃ t, exec (.encEdge a b na nb) s = .next t ∧ t.pfb.encA = a ∧ t.pfb.encB = b ∧ t.rd R.PFB_ENC_COUNT = s.pfb.encWas ∧
      (s.fget F.PFB_CFG_SRC = 1 → t.pfb.encInval = true)) ∧
  (∀ (s : State) (a b : Bool) (na nb : Nat) (x : EncTaken), s.fbit F.PFB_ENC_CFG_EN = true → s.encStable na = true → s.encStable nb = true →
    a ≠ s.pfb.encA → b ≠ s.pfb.encB → s.pfb.encCyc ≠ s.cyc + 1 → s.pfb.encIdx = some x → x.cyc = s.cyc →
    ∃ t, exec (.encEdge a b na nb) s = .next t ∧ t.rd R.PFB_ENC_COUNT = x.count ∧ t.fbit F.PFB_STAT_ENC_REF = x.ref ∧ t.pfb.encIdx = none) ∧
  (∀ (s : State) (n : Nat), s.fbit F.PFB_ENC_CFG_EN = true → s.encStable n = true → (s.fbit F.PFB_ENC_CFG_ZQUAL = true → s.pfb.encA = true ∧ s.pfb.encB = true) →
    s.pfb.encQerr ≠ s.cyc + 1 → s.fbit F.PFB_STAT_ENC_REF = false ∨ s.pfb.encInval = true →
    ∃ t, exec (.encIndex n) s = .next t ∧ t.rd R.PFB_ENC_COUNT = s.rd R.PFB_ENC_IDX_POS ∧ t.fbit F.PFB_STAT_ENC_REF = true ∧ t.pfb.encInval = false) ∧
  (∀ (s : State) (n : Nat), s.fbit F.PFB_ENC_CFG_EN = true → s.encStable n = true → (s.fbit F.PFB_ENC_CFG_ZQUAL = true → s.pfb.encA = true ∧ s.pfb.encB = true) →
    s.pfb.encQerr ≠ s.cyc + 1 → s.fbit F.PFB_STAT_ENC_REF = true → s.pfb.encInval = false →
    ∃ t, exec (.encIndex n) s = .next t ∧ t.rd R.PFB_ENC_IDX_DEV = BitVec.ofInt 32 s.encDev ∧
      (s.encDev.natAbs ≤ s.fget F.PFB_ENC_IDX_TOL_TOL → t.rd R.PFB_ENC_COUNT = s.rd R.PFB_ENC_COUNT - BitVec.ofInt 32 s.encDev) ∧
      (s.encDev ≠ 0 → s.fget F.PFB_ENC_IDX_TOL_TOL < s.encDev.natAbs →
        t.rd R.PFB_ENC_COUNT = s.rd R.PFB_ENC_COUNT ∧ t.fbit F.PFB_STAT_ENC_REF = false)) ∧
  (∀ s : State, s.fbit F.PFB_ENC_CFG_EN = true → s.past s.pfb.encLast (800 * s.fget F.PFB_ENC_TMO_TMO) = true →
    ∃ t, exec .encSpeedTimeout s = .next t ∧ t.sget 0x109 = 0 ∧ (∀ a, t.rd a = s.rd a) ∧ SameMem s t) ∧
  (∀ (s : State) (m : Fin 3) (c : Fin 8) (n : Nat) (j : Fin 33), s.fbit (F.PFB_HALL_CFG_EN m.val) = true →
    c.val ≠ s.fget (F.PFB_HALL_STAT_CODE m.val) → s.hallStable m.val n = true →
    ∃ t, exec (.hallSectorChange m c n j) s = .next t ∧ t.fget (F.PFB_HALL_STAT_CODE m.val) = c.val ∧
      t.fget (F.PFB_HALL_STAT_SECTOR m.val) = s.hallSector m.val c.val ∧
      (∀ d : Int, s.hallSector m.val c.val ≠ s.fget (F.PFB_HALL_STAT_SECTOR m.val) → s.hallSector m.val c.val ≠ 0 → s.hallSector m.val c.val ≠ 7 →
        s.fget (F.PFB_HALL_STAT_LAST m.val) ≠ 0 → hallStep (s.fget (F.PFB_HALL_STAT_LAST m.val)) (s.hallSector m.val c.val) = d → d ≠ -3 →
        t.rd (R.PFB_HALL_STEP m.val) = s.rd (R.PFB_HALL_STEP m.val) + BitVec.ofInt 32 d)) ∧
  (∀ (s : State) (m : Fin 3) (c : Fin 8) (n : Nat) (j : Fin 33), s.hallStable m.val n = false → exec (.hallSectorChange m c n j) s = .next s) ∧
  (∀ (s : State) (m : Fin 3), (s.hallAt m.val).last ≠ 0 →
    s.past ((s.hallAt m.val).last - 1) (800 * (s.rd (R.PFB_HALL_TMO m.val)).toNat) = true →
    ∃ t, exec (.hallTimeout m) s = .next t ∧ t.sget (0x111 + 2 * m.val) = 0 ∧ (∀ a, t.rd a = s.rd a) ∧ SameMem s t) ∧
  (∀ (s : State) (m : Master) (c : Fin 8) (v : Word), s.grants m (R.PFB_CMP_VAL c.val) → (5 ≤ c.val → s.actEn (c.val - 5) = false) →
    ∃ t, exec (.cmpArm m c v) s = .next t ∧ t.answered 0 ∧ t.rd (R.PFB_CMP_VAL c.val) = v ∧
      (s.fbit (F.PFB_CMP_CTRL_EN c.val) = false → SameRegs s t [R.PFB_CMP_VAL c.val]) ∧
      (s.fbit (F.PFB_CMP_CTRL_EN c.val) = true → s.cmpCounter (s.fget (F.PFB_CMP_CTRL_SRC c.val)) = v →
        t.fbit (F.PFB_CMP_STAT_ARMED c.val) = false ∧ t.fbit (F.PFB_CMP_STAT_FIRED c.val) = true) ∧
      (s.fbit (F.PFB_CMP_CTRL_EN c.val) = true → s.fget (F.PFB_CMP_CTRL_DIR c.val) = 1 → (s.cmpCounter (s.fget (F.PFB_CMP_CTRL_SRC c.val)) - v).toInt < 0 →
        t.fbit (F.PFB_CMP_STAT_ARMED c.val) = true) ∧ SameMem s t)


/-! ### PWM and gate drive (spec/07) -/

/-- Timer groups: RUN set where the period allows it and refused where not (R296), the carrier's start (R299), RUN cleared (R301), and the
centre, peak and update events, the last of which loads the shadows (R298, R306). Switches: a pattern asked for is put in force (R311); a
channel is turned on where the interlock allows it, its extension beyond DT noted, a bootstrapped high side only once it is charged (R337),
and no command of the interlock turns one on beside its opposite (R314, R315). Where the spec leaves a point of it open, the model's choice
is log entries 71, 73, 149. -/
def Obligations.TimerGroupsAndSwitches : Prop :=
  (∀ (s : State) (m : Master) (g : Fin 12) (v : Word), s.grants m (R.PWM_GRP_CTRL g.val) → s.fbit (F.PWM_GRP_CTRL_RUN g.val) = false →
    s.lvcHolds g.val = false → s.fget (F.PWM_GRP_CFG_START_MODE g.val) ≠ 2 → s.room 4 →
    ∃ t, exec (.pwmRunStart m g v) s = .next t ∧ t.answered 0 ∧ SameRegs s t [R.PWM_GRP_CTRL g.val] ∧ SameMem s t ∧
      (12800 ≤ s.period g.val → s.period g.val ≤ 3200000 →
        t.fbit (F.PWM_GRP_CTRL_RUN g.val) = true ∧ (t.grp g.val).starting = some s.time) ∧
      (s.period g.val < 12800 ∨ 3200000 < s.period g.val → t.fbit (F.PWM_GRP_CTRL_RUN g.val) = false ∧
        Journaled s t C.PWM_CFG_INVALID (16 * g.val) { w0 := bytes4 (0x10C + 128 * g.val) ((0x10C + 128 * g.val) / 256) 0 0 })) ∧
  (∀ (s : State) (g : Fin 12), s.startDue g.val = true →
    ∃ t, exec (.pwmCarrierStart g) s = .next t ∧ (t.grp g.val).running = true ∧ (t.grp g.val).starting = none ∧ (t.grp g.val).t0 = s.time ∧
      (∀ k, k ≠ g.val → t.grp k = s.grp k) ∧ (∀ a, t.rd a = s.rd a) ∧ SameMem s t) ∧
  (∀ (s : State) (m : Master) (g : Fin 12) (v : Word), s.grants m (R.PWM_GRP_CTRL g.val) → s.fbit (F.PWM_GRP_CTRL_RUN g.val) = true →
    s.lvcHolds g.val = false →
    ∃ t, exec (.pwmRunStop m g v) s = .next t ∧ t.answered 0 ∧ t.fbit (F.PWM_GRP_CTRL_RUN g.val) = false ∧
      (t.grp g.val).running = false ∧ (t.grp g.val).starting = none ∧ SameMem s t) ∧
  (∀ (s : State) (g : Fin 12), (s.grp g.val).running = true → (s.grp g.val).centres < s.centresDue g.val →
    ∃ t, exec (.pwmCentreEvent g) s = .next t ∧ (t.grp g.val).centres = (s.grp g.val).centres + 1 ∧
      t.rd (R.PWM_GRP_EVSTAMP_LO g.val) = loWord s.clave ∧ t.rd (R.PWM_GRP_EVSTAMP_HI g.val) = hiWord s.clave ∧ SameMem s t) ∧
  (∀ (s : State) (g : Fin 12), (s.grp g.val).running = true → (s.grp g.val).peaks < s.peaksDue g.val →
    ∃ t, exec (.pwmPeakEvent g) s = .next t ∧ (t.grp g.val).peaks = (s.grp g.val).peaks + 1 ∧ SameMem s t) ∧
  (∀ (s : State) (g : Fin 12), (s.grp g.val).running = true → (s.grp g.val).updates < s.updatesDue g.val →
    ∃ t, exec (.pwmUpdateEvent g) s = .next t ∧ (t.grp g.val).updates = (s.grp g.val).updates + 1 ∧ SameMem s t ∧
      (7 ≤ g.val → g.val ≠ 9 → s.fbit (F.PWM_GRP_CTRL_HOLD g.val) = false →
        ∀ l : Fin 4, t.rd (R.PWM_GRP_DUTY_ACT g.val l.val) = s.shadowVal g.val (R.PWM_GRP_DUTY g.val l.val))) ∧
  (∀ (s : State) (g : Fin 12), (s.patternAsked g.val).1 ≠ 0 → (s.patternAsked g.val).1 ≠ (s.grp g.val).pat →
    ∃ t, exec (.safePatternApply g) s = .next t ∧ (t.grp g.val).pat = (s.patternAsked g.val).1 ∧ (t.grp g.val).patSrc = (s.patternAsked g.val).2 ∧
      SameMem s t) ∧
  (∀ (s : State) (g : Fin 12), s.fbit F.PWM_GLB_STAT_GD = true → (s.grp g.val).gd = false →
    ∃ t, exec (.safePatternApply g) s = .next t ∧ (t.grp g.val).gd = true ∧ SameMem s t) ∧
  (∀ (s : State) (ch : Fin 69) (conf boot : Bool), s.mayTurnOn ch.val conf boot = true →
    ∃ t, exec (.gateTurnOn ch conf boot) s = .next t ∧ (t.chan ch.val).on = true ∧ (t.chan ch.val).cmd = true ∧ (t.chan ch.val).onAt = s.time ∧
      ((legOf ch.val).1 ≠ 2 → (t.chan (oppositeOf ch.val)).on = false ∧ t.fget (F.PWM_GRP_DTEXT_LAST (legOf ch.val).1) = s.dtExtension ch.val) ∧
      SameMem s t) ∧
  (∀ (s : State) (ch : Fin 69) (conf : Bool), s.needsBoot ch.val = true → exec (.gateTurnOn ch conf false) s = .next s) ∧
  (∀ (s t : State) (ch : Fin 69) (conf boot : Bool), exec (.gateTurnOn ch conf boot) s = .next t → (legOf ch.val).1 ≠ 2 →
    (s.chan ch.val).on = false → (t.chan ch.val).on = true → (t.chan (oppositeOf ch.val)).on = false)

/-- Gate faults latch the leg (R328): the opposite switch not confirmed off in time (R317), a gate on without a command (R322) or not on in time
(R323), a driver's fault (R324), a bootstrap or charge pump that fails (R337, R341), a drain voltage over its threshold (R342), and a
current comparator, which latches every leg of its bridge (R344). Where the spec leaves a point of it open, the model's choice is log
entries 74, 75, 77. -/
def Obligations.LegLatches : Prop :=
  (∀ (s : State) (ch : Fin 69), (legOf ch.val).1 ≠ 2 → s.waitedOut ch.val = true → (s.chan (oppositeOf ch.val)).cmd = false →
    s.unused (oppositeOf ch.val) = false → s.gateCodesOff (legOf ch.val).1 = false →
    ∃ t, exec (.pwmConfirmTmo ch) s = .next t ∧ t.legLatched (legOf ch.val).1 (legOf ch.val).2.1 = true) ∧
  (∀ (s : State) (n : Fin 31) (low high : Nat), 40 ≤ low → s.confirmedOff n.val low high = true → (legOf n.val).1 ≠ 2 → (s.chan n.val).cmd = false →
    (s.chan n.val).on = false → s.unused n.val = false → s.gateCodesOff (legOf n.val).1 = false →
    ∃ t, exec (.pwmGateUncmd n low high) s = .next t ∧ t.legLatched (legOf n.val).1 (legOf n.val).2.1 = true ∧ t.rbit R.GDR_GC_GS n.val = false) ∧
  (∀ (s : State) (n : Fin 31) (low high : Nat), low < 40 ∨ s.confirmedOff n.val low high = false → exec (.pwmGateUncmd n low high) s = .next s) ∧
  (∀ (s : State) (ch : Fin 69), (legOf ch.val).1 ≠ 2 → (s.chan ch.val).on = true → s.unused ch.val = false →
    31 ≤ ch.val ∨ s.past (s.chan ch.val).onAt (16 * s.fget (F.GDR_GC_CFG_GS_ON_TMO ch.val)) = true →
    ∃ t, exec (.pwmGateNoOn ch) s = .next t ∧ t.legLatched (legOf ch.val).1 (legOf ch.val).2.1 = true) ∧
  (∀ (s : State) (n : Fin 31) (low : Nat), 40 ≤ low → s.unused n.val = false →
    ∃ t, exec (.gdrGcFault n low) s = .next t ∧ t.rbit R.GDR_GC_GF n.val = true ∧
      (s.fbit (F.GDR_GC_CFG_GF_EN n.val) = true → t.legLatched (legOf n.val).1 (legOf n.val).2.1 = true) ∧
      (s.fbit (F.GDR_GC_CFG_GF_EN n.val) = false → SameRegs s t [R.GDR_GC_GF] ∧ SameMem s t)) ∧
  (∀ (s : State) (k : Fin 38), (legOf (31 + k.val)).2.2 = 0 → s.fbit (F.GDR_LGB_CFG_HS_SUP (lgBridge k.val)) = false →
    s.waitedOut (31 + k.val) = true →
    ∃ t, exec (.gdrBootUv k) s = .next t ∧ t.legLatched (legOf (31 + k.val)).1 (legOf (31 + k.val)).2.1 = true) ∧
  (∀ (s : State) (k : Fin 38), (legOf (31 + k.val)).2.2 = 0 → s.fbit (F.GDR_LGB_CFG_HS_SUP (lgBridge k.val)) = true →
    (s.chan (31 + k.val)).on = true →
    ∃ t, exec (.gdrCpFail k) s = .next t ∧ t.legLatched (legOf (31 + k.val)).1 (legOf (31 + k.val)).2.1 = true ∧
      (t.chan (31 + k.val)).dOff = true) ∧
  (∀ (s : State) (k : Fin 38), (s.chan (31 + k.val)).on = true → s.fbit (F.GDR_LGB_CFG_EN (lgBridge k.val)) = true →
    s.past (s.chan (31 + k.val)).onAt (200 * s.fget (F.GDR_LGB_CFG_TBLANK (lgBridge k.val))) = true →
    ∃ t, exec (.gdrLgVds k) s = .next t ∧ t.legLatched (legOf (31 + k.val)).1 (legOf (31 + k.val)).2.1 = true ∧
      (t.chan (31 + k.val)).dOff = true) ∧
  (∀ (s : State) (b : Fin 12), s.fbit (F.GDR_LGB_CFG_CC_EN b.val) = true →
    ∃ t, exec (.gdrLgCc b) s = .next t ∧ t.rbit (R.GDR_LGB_STAT b.val) 0 = true ∧
      ∀ j, j < (bridgeLegs b.val).2 →
        t.legLatched (lgLegGroup ((bridgeLegs b.val).1 + j)).1 (lgLegGroup ((bridgeLegs b.val).1 + j)).2 = true)

/-- A latch is cleared by a write of its bit where the conditions of R333 hold, and stays where they do not (R333); the diagnostics' results
stand in their registers and end the step or the test (R346, R347); the brake of the actuator supply follows its thresholds and its budget
(R349, R350). Where the spec leaves a point of it open, the model's choice is log entries 64, 76, 138, 150. -/
def Obligations.LatchClearDiagnosticsAndBrake : Prop :=
  (∀ (s : State) (m : Master) (w : Fin 3) (n : Nat) (gs gf : BitVec 31) (off clr : BitVec 38),
    s.grants m (if w.val = 0 then R.GDR_LATCH_GC else if w.val = 1 then R.GDR_LATCH_LG_LO else R.GDR_LATCH_LG_HI) →
    n < (latchSpan w.val).2 → s.latched ((latchSpan w.val).1 + n) = true →
    ∃ t, exec (.gdrLatchClear m w (BitVec.ofNat 32 (2 ^ n)) gs gf off clr) s = .next t ∧ t.answered 0 ∧
      t.latched ((latchSpan w.val).1 + n) = !s.mayClear { gs := gs, gf := gf, off := off, clear := clr }
        (legOf ((latchSpan w.val).1 + n)).1 (legOf ((latchSpan w.val).1 + n)).2.1 []) ∧
  (∀ (s : State) (legs : List DiagLeg) (vbat : BitVec 12) (vo : BitVec 16), s.seq.test = some 0 → s.inMode .arming = false →
    ∃ t, exec (.lgDiagDone legs vbat vo) s = .next t ∧ t.seq.test = none ∧
      ∀ x rest, legs = x :: rest → s.fbit (F.GDR_LGB_CFG_EN 0) = true → x.t1.toNat < 1024 → x.t2.toNat < 1024 →
        t.rd (R.GDR_DIAG_RES 0) = w32 (diagResult 0 x (rest.head?.map (·.t3)) vbat.toNat (s.diagRef vbat.toNat vo.toNat) +
          16 * x.t1.toNat + 65536 * x.t2.toNat)) ∧
  (∀ (s : State) (legs : List DiagLeg) (vbat : BitVec 12) (vo : BitVec 16), s.inMode .arming = true → s.seq.boot = .running →
    s.seq.diagOk = false → s.seq.diagBad = false →
    ∃ t, exec (.lgDiagDone legs vbat vo) s = .next t ∧ (t.seq.diagOk = true ∨ (t.seq.diagBad = true ∧ t.rbit R.SYS_ARM_STAT 13 = true))) ∧
  (∀ (s : State) (legs : List DiagLeg) (vbat : BitVec 12) (vo : BitVec 16), s.testOn 0 = false → exec (.lgDiagDone legs vbat vo) s = .next s) ∧
  (∀ (s : State) (mv : BitVec 16), 100 * s.fget F.GDR_ABC_ON_V < mv.toNat →
    ∃ t, exec (.abcSwitch mv) s = .next t ∧ t.pwm.abcWant = true ∧
      t.fbit F.GDR_ABC_STAT_ON = (s.fbit F.GDR_ABC_CFG_EN && !s.fbit F.GDR_ABC_STAT_BUDGET && !s.inMode .dormant) ∧
      SameRegs s t [R.GDR_ABC_STAT] ∧ SameMem s t) ∧
  (∀ (s : State) (mv : BitVec 16), mv.toNat ≤ 100 * s.fget F.GDR_ABC_ON_V → mv.toNat < 100 * s.fget F.GDR_ABC_OFF_V →
    ∃ t, exec (.abcSwitch mv) s = .next t ∧ t.pwm.abcWant = false ∧ t.fbit F.GDR_ABC_STAT_ON = false ∧ SameRegs s t [R.GDR_ABC_STAT] ∧ SameMem s t) ∧
  (∀ s : State, s.fbit F.GDR_ABC_STAT_BUDGET = false → s.pwm.abc.since.isSome = true → s.fget F.GDR_ABC_MAXON_US ≤ s.abcUsed → s.room 4 →
    ∃ t, exec .gdrAbcBudget s = .next t ∧ t.fbit F.GDR_ABC_STAT_BUDGET = true ∧ t.fbit F.GDR_ABC_STAT_ON = false ∧
      Journaled s t C.GDR_ABC_BUDGET 255 { w1 := w32 s.abcUsed } ∧ SameRegs s t [R.GDR_ABC_STAT] ∧ SameMem s t) ∧
  (∀ s : State, s.fbit F.GDR_ABC_STAT_BUDGET = true → 2 * s.abcUsed < s.fget F.GDR_ABC_MAXON_US →
    ∃ t, exec .abcBudgetRelease s = .next t ∧ t.fbit F.GDR_ABC_STAT_BUDGET = false ∧
      t.fbit F.GDR_ABC_STAT_ON = (s.fbit F.GDR_ABC_CFG_EN && s.pwm.abcWant && !s.inMode .dormant) ∧ SameRegs s t [R.GDR_ABC_STAT] ∧ SameMem s t)

/-! ### The LV network converter (spec/08) -/

/-- The stage's start and stop: EN starts it where R370 allows and is refused where not, and where the input voltage is low (R359, R370), the
steps of the start (R371), the orderly stop and its end (R372), and the stops by a fault (R358, R359, R371). The running stage: a shed
begins with the highest active phase (R375), and the warnings of R386, R367 and R390 are given once; a write of RS_RETRY asks for remote
sense again (R384). Where the spec leaves a point of it open, the model's choice is log entries 80, 81, 151. -/
def Obligations.LvNetworkConverter : Prop :=
  (∀ (s : State) (m : Master) (v : Word), s.grants m R.LVC_CTRL → s.fbit F.LVC_CTRL_EN = false → v.getLsbD 1 = s.fbit F.LVC_CTRL_RANGE →
    s.lvcRefuse = none → s.lvcVinLow = false → s.fget (F.PWM_GRP_CFG_START_MODE 5) ≠ 2 →
    ∃ t, exec (.lvcEnable m v) s = .next t ∧ t.answered 0 ∧ t.fbit F.LVC_CTRL_EN = true ∧ t.lvcSt = 1 ∧ t.lvcActive = [] ∧
      t.lvc.t0 = s.time ∧ t.fbit (F.PWM_GRP_CTRL_RUN 5) = true ∧ SameMem s t) ∧
  (∀ (s : State) (m : Master) (v : Word) (r : Nat), s.grants m R.LVC_CTRL → s.fbit F.LVC_CTRL_EN = false → v.getLsbD 1 = s.fbit F.LVC_CTRL_RANGE →
    s.lvcRefuse = some r → r < 5 → s.room 4 →
    ∃ t, exec (.lvcEnable m v) s = .next t ∧ t.answered 0 ∧ t.fbit F.LVC_CTRL_EN = false ∧
      Journaled s t C.LVC_CFG_INVALID 255 { w0 := bytes4 0 0 r 0 } ∧ SameRegs s t [R.LVC_CTRL] ∧ SameMem s t) ∧
  (∀ (s : State) (m : Master) (v : Word), s.grants m R.LVC_CTRL → s.fbit F.LVC_CTRL_EN = false → s.lvcVinLow = true → s.room 4 →
    ∃ t, exec (.lvcEnable m v) s = .next t ∧ t.answered 0 ∧ t.fbit F.LVC_CTRL_EN = false ∧ t.lvcSt = s.lvcSt ∧
      Journaled s t C.LVC_VIN_LOW 255 { w1 := s.vdcNow } ∧ SameRegs s t [R.LVC_CTRL] ∧ SameMem s t) ∧
  (∀ s : State, s.lvcSt = 1 → s.lvc.window = false → s.past s.lvc.t0 (800 * s.fget F.LVC_DCX_SS_US) = true →
    ∃ t, exec .lvcDcxSsEnd s = .next t ∧ t.lvc.window = true ∧ t.lvc.t0 = s.time ∧ t.rd (R.PWM_GRP_PHASE 5 1) = wrapPhase fHalf ∧
      SameRegs s t [R.PWM_GRP_PHASE 5 1] ∧ SameMem s t) ∧
  (∀ (s : State) (b : Nat), s.lvcSt = 1 → s.lvc.window = true → s.lvc.busOk = some b → b + 800000 ≤ s.time →
    ∃ t, exec .lvcDcxSrOn s = .next t ∧ t.lvcSt = (if fIsZero s.lvcGain then 5 else 2)) ∧
  (∀ s : State, s.lvcSt = 1 → s.lvc.window = true → s.lvc.t0 + 4000000 ≤ s.time →
    ∃ t, exec .lvcDcxStartFail s = .next t ∧ t.lvcSt = 5 ∧ t.fbit (F.PWM_GRP_CTRL_RUN 5) = false) ∧
  (∀ s : State, s.lvcSt = 2 → s.lvc.rampDone = true → s.fget F.LVC_CFG_NPH ≤ 8 →
    ∃ t, exec .lvcRunEntry s = .next t ∧ t.lvcSt = 3 ∧ t.lvcActive = s.lvcAvail ∧ t.lvc.hold = s.time) ∧
  (∀ (s : State) (m : Master) (v : Word), s.grants m R.LVC_CTRL → s.fbit F.LVC_CTRL_EN = true →
    ∃ t, exec (.lvcOrderlyStop m v) s = .next t ∧ t.answered 0 ∧ t.fbit F.LVC_CTRL_EN = false ∧
      (s.lvcSt = 3 → t.lvcSt = 4 ∧ t.lvc.t0 = s.time) ∧ (s.lvcSt = 1 ∨ s.lvcSt = 2 → t.lvcSt = 0)) ∧
  (∀ s : State, s.lvcSt = 4 → s.past s.lvc.t0 (800 * s.fget F.LVC_STOP_T_US) = true →
    ∃ t, exec .lvcStopDone s = .next t ∧ t.lvcSt = 0 ∧ t.lvcActive = []) ∧
  (∀ s : State, s.lvcOn = true → s.lasted s.lvc.vin 800000 = true →
    ∃ t, exec .lvcVinLow s = .next t ∧ t.lvcSt = 5 ∧ t.lvcActive = []) ∧
  (∀ (s : State) (l : Nat), s.fbit F.LVC_CTRL_SHED_EN = true → s.lvcSt = 3 → s.fbit F.LVC_STAT_SHED_PEND = false →
    s.fget F.LVC_CFG_NMIN < s.lvcActive.length → s.fget F.LVC_CFG_NPH ≤ 8 → s.lvc.low = some l →
    s.past l (800000 * s.fget F.LVC_SHED_HOLD_MS) = true → s.past s.lvc.hold (800000 * s.fget F.LVC_SHED_HOLD_MS) = true →
    ∃ t, exec .lvcShed s = .next t ∧ t.fbit F.LVC_STAT_SHED_PEND = true ∧ t.fget F.LVC_STAT_SHED_PH = s.lvcActive.getLastD 0 ∧
      t.lvc.shedJ = 0 ∧ SameMem s t) ∧
  (∀ s : State, s.lasted s.lvc.uv 800000 = true → s.lvc.uvRep = false → s.room 4 →
    ∃ t, exec .lvcOutUv s = .next t ∧ t.lvc.uvRep = true ∧ Journaled s t C.LVC_OUT_UV 255 { w1 := s.sget 0x140 } ∧ SameRegs s t [] ∧ SameMem s t) ∧
  (∀ s : State, s.lasted s.lvc.head 800000 = true → s.lvc.headRep = false → s.room 4 →
    ∃ t, exec .lvcHeadroom s = .next t ∧ t.lvc.headRep = true ∧ t.fbit F.LVC_STAT_HEADROOM = true ∧
      Journaled s t C.LVC_HEADROOM 255 { w1 := s.sget 0x143 } ∧ SameRegs s t [R.LVC_STAT] ∧ SameMem s t) ∧
  (∀ s : State, s.lasted s.lvc.ilim 8000000 = true → s.lvc.ilimRep = false → s.room 4 →
    ∃ t, exec .lvcIlim s = .next t ∧ t.lvc.ilimRep = true ∧
      Journaled s t C.LVC_ILIM 255 { w1 := s.sget 0x144, w2 := s.lvcIlimit } ∧ SameRegs s t [] ∧ SameMem s t) ∧
  (∀ (s : State) (m : Master) (v : Word), s.grants m R.LVC_CTRL → v.getLsbD 0 = s.fbit F.LVC_CTRL_EN →
    ∃ t, exec (.lvcRsRetry m v) s = .next t ∧ t.answered 0 ∧ t.lvc.retry = true ∧ SameRegs s t [R.LVC_CTRL] ∧ SameMem s t)


/-! ### The on-board charger (spec/09) -/

/-- The charger: EN starts it where R411 allows and is refused where not (R411, R412), the grid is taken up or timed out (R412), the orderly
stop and its end (R414), and the stops by a grid fault or a lost lock (R413, R419). The pilot and the proximity measurement show in their
registers, the pilot's once its three measurements agree (R401 to R403); an unplugged pilot or cable stops a running charger by a fault
(R415), a pilot that stops oscillating in an orderly way (R414). Where the spec leaves a point of it open, the model's choice is log entries
80, 82, 157, 158. -/
def Obligations.OnBoardCharger : Prop :=
  (∀ (s : State) (m : Master) (v : Word), s.grants m R.CHG_CTRL → s.fbit F.CHG_CTRL_EN = false → v.getLsbD 1 = s.fbit F.CHG_CTRL_DIR →
    s.chgRefuse = none →
    ∃ t, exec (.chgEnable m v) s = .next t ∧ t.answered 0 ∧ t.fbit F.CHG_CTRL_EN = true ∧ t.chgSt = (if s.chgForms then 2 else 1) ∧
      t.chg.t0 = s.time ∧ SameMem s t) ∧
  (∀ (s : State) (m : Master) (v : Word) (o r : Nat), s.grants m R.CHG_CTRL → s.fbit F.CHG_CTRL_EN = false → v.getLsbD 1 = s.fbit F.CHG_CTRL_DIR →
    s.chgRefuse = some (o, r) → s.room 4 →
    ∃ t, exec (.chgEnable m v) s = .next t ∧ t.answered 0 ∧ t.fbit F.CHG_CTRL_EN = false ∧
      Journaled s t C.CHG_CFG_INVALID 255 { w0 := bytes4 o (o / 256) r 0 } ∧ SameRegs s t [R.CHG_CTRL] ∧ SameMem s t) ∧
  (∀ s : State, s.chgSt = 1 → s.chgGridOk = true → ∃ t, exec .chgFeStart s = .next t ∧ t.chgSt = 2 ∧ t.chg.t0 = s.time ∧ SameMem s t) ∧
  (∀ s : State, s.chgSt = 1 → s.chg.t0 + 4000000000 ≤ s.time →
    ∃ t, exec .chgGridTimeout s = .next t ∧ t.chgSt = 6 ∧ t.fbit F.CHG_STAT_S2 = false) ∧
  (∀ (s : State) (m : Master) (v : Word), s.grants m R.CHG_CTRL → s.fbit F.CHG_CTRL_EN = true →
    ∃ t, exec (.chgOrderlyStop m v) s = .next t ∧ t.answered 0 ∧ t.fbit F.CHG_CTRL_EN = false ∧
      (s.chgSt = 4 → t.chgSt = 5 ∧ t.chg.t0 = s.time) ∧ (1 ≤ s.chgSt → s.chgSt ≤ 3 → t.chgSt = 0)) ∧
  (∀ s : State, s.chgSt = 5 → s.past s.chg.t0 (800 * s.fget F.CHG_STOP_T_US) = true →
    ∃ t, exec .chgStopDone s = .next t ∧ t.chgSt = 0 ∧ t.fbit F.CHG_STAT_S2 = false) ∧
  (∀ s : State, s.chgSt = 4 → s.lasted s.chg.vg 8000000 = true →
    ∃ t, exec (.chgGridFault false) s = .next t ∧ t.chgSt = 6 ∧ t.fbit F.CHG_STAT_S2 = false) ∧
  (∀ s : State, s.chgSt = 4 → s.lasted s.chg.fr 80000000 = true →
    ∃ t, exec (.chgGridFault true) s = .next t ∧ t.chgSt = 6 ∧ t.fbit F.CHG_STAT_S2 = false) ∧
  (∀ s : State, s.fbit F.CHG_STAT_PLL_LOCK = true → s.lasted s.chg.unlock 1600000 = true →
    ∃ t, exec .chgPllUnlock s = .next t ∧ t.fbit F.CHG_STAT_PLL_LOCK = false ∧ (2 ≤ s.chgSt → s.chgSt ≤ 4 → t.chgSt = 6)) ∧
  (∀ (s : State) (p : PilotMeas), s.inMode .dormant = false →
    ∃ t, exec (.chgPilotChange p) s = .next t ∧ t.fbit F.CHG_PILOT_PWM = pilotOn p ∧
      (pilotAgrees p = true → t.fget F.CHG_PILOT_STATE = pilotState p ∧ t.fget F.CHG_PILOT_ILIM = (pilotLimit p).2 ∧ t.chg.pilot = (pilotLimit p).1) ∧
      (pilotAgrees p = false → t.fget F.CHG_PILOT_STATE = s.fget F.CHG_PILOT_STATE ∧ t.fget F.CHG_PILOT_ILIM = s.fget F.CHG_PILOT_ILIM ∧
        t.chg.pilot = s.chg.pilot) ∧
      (pilotAgrees p = true → s.chgForms = false → s.chgOn = true → pilotState p ≠ s.fget F.CHG_PILOT_STATE →
        pilotState p = 0 ∨ 4 ≤ pilotState p → t.chgSt = 6) ∧
      (pilotAgrees p = false → s.chgForms = false → s.chgSt = 4 → s.fbit F.CHG_PILOT_PWM = true → pilotOn p = false → t.chgSt = 5)) ∧
  (∀ (s : State) (r : BitVec 24), s.inMode .dormant = false →
    ∃ t, exec (.ppMeasure r) s = .next t ∧ t.fget F.CHG_PP_STATE = (ppClass r.toNat).1 ∧ t.fget F.CHG_PP_CAP = (ppClass r.toNat).2 ∧
      (s.chgOn = true → s.fget F.CHG_PP_STATE = 1 → (ppClass r.toNat).1 ≠ 1 → t.chgSt = 6))

/-! ### The gearbox actuators (spec/10) -/

/-- Enabling an actuator checks its configuration (R429, R446); GO starts a move where nothing refuses it and STOP was not written in its
control cycle, and says why where something does (R431, R432, R436), STOP brakes (R435); the park lock takes its reference (R442). A move
ends: still in BRAKE with the target reached or by STOP (R434, R435), stalled, timed out (R437) or without supply (R438); its result shows
in ACT_STAT and the actuator is idle. Where the spec leaves a point of it open, the model's choice is log entries 80, 83, 159, 160. -/
def Obligations.GearboxActuators : Prop :=
  (∀ (s : State) (m : Master) (a : Fin 3) (v : Word), s.grants m (R.ACT_CFG a.val) → s.actEn a.val = false → v.getLsbD 0 = true →
    s.actCtxOk a.val (bits v 14 8) = true →
    (a = 1 → v.getLsbD 1 = false ∧ (v.getLsbD 2 = true → s.fbit (F.GDR_LGB_CFG_HS_SUP 10) = true) ∧ s.plMapOk = true) →
    ∃ t, exec (.actEnable m a v) s = .next t ∧ t.answered 0 ∧ t.actEn a.val = true ∧ t.actCtx a.val = bits v 14 8 ∧
      SameRegs s t [R.ACT_CFG a.val] ∧ SameMem s t) ∧
  (∀ (s : State) (m : Master) (a : Fin 3) (v : Word), s.grants m (R.ACT_CFG a.val) → s.actEn a.val = false → v.getLsbD 0 = true →
    s.actCtxOk a.val (bits v 14 8) = false → s.room 4 →
    ∃ t, exec (.actEnable m a v) s = .next t ∧ t.answered 0 ∧ t.actEn a.val = false ∧
      Journaled s t C.ACT_CFG_INVALID a.val { w0 := bytes4 (0x100 + 0x40 * a.val) ((0x100 + 0x40 * a.val) / 256) 0 0 } ∧
      SameRegs s t [R.ACT_CFG a.val] ∧ SameMem s t) ∧
  (∀ (s : State) (m : Master) (a : Fin 3) (v : Word), s.grants m (R.ACT_CMD a.val) → v.getLsbD 1 = false → s.actEn a.val = true →
    s.actRefuse a.val = none → s.actHot = false → (s.actm a.val).stopCyc ≠ s.cyc + 1 →
    ∃ t, exec (.actGo m a v) s = .next t ∧ t.answered 0 ∧
      (s.actMoving a.val = false → s.actStillNow a.val = true → s.rd (R.ACT_TARGET a.val) ≠ s.actCount a.val →
        t.actMoving a.val = true ∧ (t.actm a.val).goAt = some s.time) ∧
      (s.actMoving a.val = false → s.actStillNow a.val = true → s.rd (R.ACT_TARGET a.val) = s.actCount a.val →
        t.actMoving a.val = false ∧ t.fget (F.ACT_STAT_RESULT a.val) = 1) ∧
      (s.actMoving a.val = true ∨ s.actStillNow a.val = false → t.actSt a.val = 1 ∧ t.fbit (F.ACT_STAT_PEND a.val) = true)) ∧
  (∀ (s : State) (m : Master) (a : Fin 3) (v : Word) (r : Nat), s.grants m (R.ACT_CMD a.val) → v.getLsbD 1 = false → s.actEn a.val = true →
    s.actRefuse a.val = some r → (s.actm a.val).stopCyc ≠ s.cyc + 1 → s.room 4 →
    ∃ t, exec (.actGo m a v) s = .next t ∧ t.answered 0 ∧ t.fget (F.ACT_STAT_RESULT a.val) = 6 ∧
      Journaled s t C.ACT_REFUSED a.val { w0 := bytes4 r 0 0 0 } ∧ SameRegs s t [R.ACT_STAT a.val] ∧ SameMem s t) ∧
  (∀ (s : State) (m : Master) (a : Fin 3) (v : Word), s.grants m (R.ACT_CMD a.val) → s.actEn a.val = true →
    ∃ t, exec (.actStop m a v) s = .next t ∧ t.answered 0 ∧ t.actSt a.val = 1 ∧ (t.actm a.val).stopping = true ∧
      t.fbit (F.ACT_STAT_PEND a.val) = false) ∧
  (∀ (s : State) (m : Master) (v : Word), s.grants m R.ACT_PL_CTRL → v.getLsbD 0 = true → s.actEn 1 = false →
    ∃ t, exec (.actPlRef m v) s = .next t ∧ t.answered 0 ∧ t.fbit F.ACT_PL_STAT_REF = true) ∧
  (∀ (s : State) (a : Fin 3), s.actStillNow a.val = true → s.actEn a.val = true → s.actSt a.val = 1 → s.fbit (F.ACT_STAT_PEND a.val) = false →
    ∃ t, exec (.actStill a) s = .next t ∧ t.fget (F.ACT_STAT_RESULT a.val) = (if (s.actm a.val).stopping then 2 else 1) ∧
      t.actMoving a.val = false ∧ (t.actm a.val).goAt = none) ∧
  (∀ (s : State) (a : Fin 3) (t0 : Nat), s.actEn a.val = true → 2 ≤ s.actSt a.val → s.actSt a.val ≤ 3 → s.actStillNow a.val = true →
    (s.actm a.val).stillSince = some t0 →
    s.past (max (t0 + 800 * s.fget (F.ACT_STILL_T_US a.val)) (s.actm a.val).runAt) (800000 * s.fget (F.ACT_STALL_T_MS a.val)) = true →
    ∃ t, exec (.actStall a) s = .next t ∧ t.fget (F.ACT_STAT_RESULT a.val) = 3 ∧ t.actSt a.val = 0 ∧ (t.actm a.val).goAt = none) ∧
  (∀ (s : State) (a : Fin 3), s.actEn a.val = true → s.actMoving a.val = true →
    s.lasted (s.actm a.val).goAt (800000 * s.fget (F.ACT_MOVE_TMO_MS a.val)) = true →
    ∃ t, exec (.actMoveTmo a) s = .next t ∧ t.fget (F.ACT_STAT_RESULT a.val) = 4 ∧ t.actSt a.val = 0 ∧ (t.actm a.val).goAt = none) ∧
  (∀ (s : State) (a : Fin 3), s.actEn a.val = true → s.actMoving a.val = true → s.lasted s.act.low 800000 = true →
    ∃ t, exec (.actSupLow a) s = .next t ∧ t.fget (F.ACT_STAT_RESULT a.val) = 5 ∧ t.actSt a.val = 0 ∧ (t.actm a.val).goAt = none)


/-! ### The safety channels (spec/11) -/

/-- The safety channels' evaluation publishes what each measures (R453, R454, R456); a park-lock pattern in the inhibit is cut and released
(R449, R450). What SMON-B decides alone is a SAFE cause there and a record (R457, R464, R467); a supply cut ends when its conditions hold
(R469); SMON-B takes the pod over the link (R458). Where the spec leaves a point of it open, the model's choice is log entries 84, 86, 87,
88, 92, 161. -/
def Obligations.SafetyEvaluationAndDecisions : Prop :=
  (∀ (s : State) (i : SadcIn), s.safe.a.started = true →
    ∃ t, exec (.smonEvaluate .smonA i) s = .next t ∧ t.safe.a.speed = s.rpmA ∧ t.safe.a.speedOk = s.speedOkA ∧ t.safe.a.vdc = s.tmu.vdc ∧
      t.rd R.SMA_SPEED = s.rpmA ∧ t.rd R.SMA_VDC = s.tmu.vdc) ∧
  (∀ (s : State) (i : SadcIn) (p : Params) (sn cs : F32) (neg : Bool) (per clk : BitVec 32),
    s.safe.b.started = true → s.safe.b.params = some p → i.res = .taken sn cs neg per clk →
    ∃ t, exec (.smonEvaluate .smonB i) s = .next t ∧ t.safe.b.amp = fSqrt (fAdd (fMul sn sn) (fMul cs cs)) ∧
      t.rd R.SMB_AMP = fSqrt (fAdd (fMul sn sn) (fMul cs cs)) ∧
      t.safe.b.speedOk = (fLe p.ampLo (fSqrt (fAdd (fMul sn sn) (fMul cs cs))) && fLe (fSqrt (fAdd (fMul sn sn) (fMul cs cs))) p.ampHi &&
        fLe (fAbs (fSub (fOfRatio per.toNat 16) p.nomPer)) (fMul 0x3DCCCCCD p.nomPer) &&
        (s.safe.b.ang.isSome && decide (7 ≤ s.safe.b.advs.length))) ∧
      t.safe.b.vdc = voltsB p 0 i.vdc ∧
      SameRegs s t [R.SMB_STAT, R.SMB_SPEED, R.SMB_VDC, R.SMB_AMP] ∧ SameMem s t) ∧
  (∀ (s : State) (i : SadcIn) (p : Params), s.safe.b.started = true → s.safe.b.params = some p → i.res = .missed → 1 ≤ s.safe.b.missed →
    ∃ t, exec (.smonEvaluate .smonB i) s = .next t ∧ t.safe.b.speedOk = false ∧ t.safe.b.vdc = voltsB p 0 i.vdc ∧
      SameRegs s t [R.SMB_STAT, R.SMB_SPEED, R.SMB_VDC, R.SMB_AMP] ∧ SameMem s t) ∧
  (∀ (s : State) (c : Chan), (s.smon c).inh = true → (s.smon c).plCut = false → s.plEngaging c = true →
    ∃ t, exec (.plInhibitCut c) s = .next t ∧ (t.smon c).plCut = true ∧
      t.fbit (match c with | .smonA => F.ACT_PL_STAT_INH_A | .smonB => F.ACT_PL_STAT_INH_B) = true) ∧
  (∀ (s : State) (c : Chan), (s.smon c).plCut = true →
    ((s.inhibitStep c).smon c).inh = false ∨ (s.inhibitStep c).plEngaging c = false →
    ∃ t, exec (.plInhibitEnd c) s = .next t ∧ (t.smon c).plCut = false ∧
      t.fbit (match c with | .smonA => F.ACT_PL_STAT_INH_A | .smonB => F.ACT_PL_STAT_INH_B) = false) ∧
  (∀ (s : State) (p : Params), s.safe.b.params = some p → s.lastedB s.safe.b.ovSince 16000 = true → s.room 8 →
    ∃ t, exec .smonbVdcOv s = .next t ∧ t.safe.b.cause = true ∧ Journaled s t C.SMONB_VDC_OV 1 { w1 := s.safe.b.vdc } ∧
      SameRegs s t [R.SMB_STAT, R.SMB_SPEED, R.SMB_VDC, R.SMB_AMP] ∧ SameMem s t) ∧
  (∀ s : State, s.safe.b.overRun = 2 → s.room 8 →
    ∃ t, exec .smonbOverspeed s = .next t ∧ t.safe.b.cause = true ∧ Journaled s t C.SMONB_OVERSPEED 1 { w1 := s.safe.b.speed } ∧
      SameRegs s t [R.SMB_STAT, R.SMB_SPEED, R.SMB_VDC, R.SMB_AMP] ∧ SameMem s t) ∧
  (∀ (s : State) (i : BitVec 8), s.room 8 →
    ∃ t, exec (.smonSadcFault i) s = .next t ∧ t.safe.b.cause = true ∧ Journaled s t C.SMON_SADC_FAULT 1 { w0 := bytes4 i.toNat 0 0 0 } ∧
      SameRegs s t [R.SMB_STAT, R.SMB_SPEED, R.SMB_VDC, R.SMB_AMP] ∧ SameMem s t) ∧
  (∀ (s : State) (ph : Fin 6), s.lastedB (nth none (s.safe.b.imp.drop ph.val) 0) 16000 = true → s.safe.b.code = 2 →
    ∃ t, exec (.smonbAscImplaus ph) s = .next t ∧ t.safe.b.ownL = true ∧ t.safe.b.code ≠ 2 ∧ SameMem s t) ∧
  (∀ (s : State) (ph : Fin 6), s.lastedB (nth none (s.safe.b.imp.drop ph.val) 0) 16000 = true → s.safe.b.code = 3 →
    ∃ t, exec (.smonbAscImplaus ph) s = .next t ∧ t.safe.b.ownH = true ∧ t.safe.b.code ≠ 3 ∧ SameMem s t) ∧
  (∀ (s : State) (back : BitVec 2), s.safe.a.code ≠ back.toNat → s.room 4 →
    ∃ t, exec (.smonOutFault .smonA back) s = .next t ∧ Journaled s t C.SMON_OUT_FAULT 0 { w0 := bytes4 0 s.safe.a.code back.toNat 0 } ∧
      SameRegs s t [] ∧ SameMem s t) ∧
  (∀ (s : State) (back : BitVec 2), s.safe.b.code ≠ back.toNat → s.room 8 →
    ∃ t, exec (.smonOutFault .smonB back) s = .next t ∧ t.safe.b.cause = true ∧
      Journaled s t C.SMON_OUT_FAULT 1 { w0 := bytes4 1 s.safe.b.code back.toNat 0 } ∧
      SameRegs s t [R.SMB_STAT, R.SMB_SPEED, R.SMB_VDC, R.SMB_AMP] ∧ SameMem s t) ∧
  (∀ s : State, s.safe.cut = true → s.safe.cutReset = true → s.idl.lost = false → (s.idl.lane0.down && s.idl.lane1.down) = false →
    s.lDead = false → s.clocks.xtal25 = false → s.safe.a.params.isSome = true → s.lastedB s.safe.okSince 800000 = true →
    ∃ t, exec .smonbSupplyRestore s = .next t ∧ t.safe.cut = false ∧ t.fbit F.SMB_STAT_CCUT = false ∧ t.fbit F.SMB_STAT_ACUT = false ∧ SameMem s t) ∧
  (∀ (s : State) (p : SafetyPod), s.safe.podA = some p → s.idl.lost = false →
    ∃ t, exec .smonbPodReceive s = .next t ∧ t.safe.podB = some p ∧ SameMem s t)

/-- The watchdogs and the cross-comparison: a period that ends begins the next with a challenge that is not 0 (R471), the right answer in its
window to both channels restarts the hold timer (R472, R477), its expiry fails the watch (R475), a pause is taken (R476); an exchange
compares once (R479, R480), and its loss is a SAFE cause (R479). Where the spec leaves a point of it open, the model's choice is log entries
84, 85, 89, 162. -/
def Obligations.WatchdogsAndComparison : Prop :=
  (∀ (s : State) (c : Chan) (p : Fin 3), (s.wdog c p.val).on = true → s.wdDue c p.val = true →
    ∃ t, exec (.wdPeriodStart c p) s = .next t ∧ (t.wdog c p.val).on = true ∧ (t.wdog c p.val).start = s.now ∧ (t.wdog c p.val).answered = false ∧
      t.rd (match c with | .smonA => R.SMA_WD_CHAL p.val | .smonB => R.SMB_WD_CHAL p.val) ≠ 0) ∧
  (∀ (s : State) (b : BitVec 32) (a : WdAns) (rest : List WdAns), s.safe.answers = a :: rest → s.idl.lost = false →
    ∃ t, exec (.wdAnswer b) s = .next t ∧ t.safe.answers = rest ∧
      ((s.wdog .smonA (s.answerPair a)).on = true → (s.wdog .smonB (s.answerPair a)).on = true →
        ¬ (s.lksSt (s.unitOf (s.answerPair a)) = 3 ∧ a.half = .trailing) →
        (s.wdog .smonA (s.answerPair a)).answered = false → (s.wdog .smonB (s.answerPair a)).answered = false →
        s.fget (F.SMA_WD_CFG_OPEN (s.answerPair a)) * 80000 * s.fget (F.SMA_WD_CFG_PER (s.answerPair a)) ≤
          16 * (a.stamp - (s.wdog .smonA (s.answerPair a)).start) →
        s.fget (F.SMA_WD_CFG_OPEN (s.answerPair a)) * 1600 * s.fget (F.SMA_WD_CFG_PER (s.answerPair a)) ≤ 16 * b.toNat →
        a.ansA = s.wdExpected .smonA (s.answerPair a) → a.ansB = s.wdExpected .smonB (s.answerPair a) →
        ∀ c, (t.wdog c (s.answerPair a)).answered = true ∧ (t.wdog c (s.answerPair a)).hold = s.time ∧ (t.wdog c (s.answerPair a)).pause = false)) ∧
  (∀ (s : State) (p : Fin 3), (s.wdog .smonA p.val).on = true → (s.wdog .smonA p.val).holdRep = false →
    s.past (s.wdog .smonA p.val).hold (800000 * s.fget (F.SMA_WD_CFG_HOLD_MAX p.val)) = true →
    ∃ t, exec (.wdHoldExpire .smonA p) s = .next t ∧ (t.wdog .smonA p.val).fail = true ∧ (t.wdog .smonA p.val).holdRep = true ∧
      (p ≠ 0 → t.lksSt (s.unitOf p.val) = 5)) ∧
  (∀ (s : State) (m : Master) (p : Fin 3) (v : Word), s.grants m (R.SMA_WD_PAUSE p.val) → p ≠ 0 ∨ s.inMode .arming = true ∨ s.inMode .service = true →
    (s.wdog .smonA p.val).on = true →
    ∃ t, exec (.wdPause m p v) s = .next t ∧ t.answered 0 ∧ (t.wdog .smonA p.val).pause = true ∧
      (s.idl.lost = false → (s.wdog .smonB p.val).on = true → (t.wdog .smonB p.val).pause = true) ∧
      SameRegs s t [R.SMA_WD_STAT p.val, R.SMB_WD_STAT p.val] ∧ SameMem s t) ∧
  (∀ s : State, s.xcmpRuns = true → s.safe.bOff = false → s.safe.xLast < s.now / 80000 →
    ∃ t, exec .xcmpExchange s = .next t ∧ t.safe.xLast = s.now / 80000 ∧ t.safe.xTime = s.time ∧ t.safe.xBits = BitVec.ofNat 32 s.xcmpBits ∧
      (s.xcmpBits = 0 → SameRegs s t [R.SMA_XCMP_STAT] ∧ SameMem s t)) ∧
  (∀ s : State, s.xcmpRuns = true → s.fbit F.SMA_XCMP_STAT_LOST = false → s.past s.safe.xTime 240000 = true →
    ∃ t, exec .smonXcmpLost s = .next t ∧ t.fbit F.SMA_XCMP_STAT_LOST = true ∧ (s.safe.bOff = false → t.safe.b.cause = true) ∧ SameMem s t)

/-- The seal: three equal reads of the straps are taken (R482); the key and GO in order begin a re-seal, whose end writes the slot and says so,
and GO without the key is refused (R486). Where the spec leaves a point of it open, the model's choice is log entries 90, 163. -/
def Obligations.Seal : Prop :=
  (∀ (s : State) (c : Chan) (a : BitVec 8), (s.smon c).strapCnt = 2 → (s.smon c).strapVal = a →
    s.pastBy c (s.smon c).strapAt 800000 = true →
    ∃ t, exec (.sealRead c a (~~~ a)) s = .next t ∧ (t.smon c).strap = some a ∧ (t.smon c).strapCnt = 3) ∧
  (∀ (s : State) (c : Chan) (a b : BitVec 8), b ≠ ~~~ a →
    ∃ t, exec (.sealRead c a b) s = .next t ∧ (t.smon c).strapCnt = 0 ∧ (t.smon c).strap = (s.smon c).strap) ∧
  (∀ (s : State) (m : Master) (v : Word), s.grants m R.SMA_SEAL_KEY →
    ∃ t, exec (.sealKeyWrite m v) s = .next t ∧ t.answered 0 ∧
      t.safe.keyStep = (if v = 0x5EA1 then 1 else if v = 0x0C1D ∧ s.safe.keyStep = 1 then 2 else 0) ∧ (∀ a, t.rd a = s.rd a) ∧ SameMem s t) ∧
  (∀ (s : State) (m : Master) (v : Word) (k : Nat) (a b : SafetyPod), s.grants m R.SMA_SEAL_PROG → v.getLsbD 0 = true → s.safe.prog = none →
    s.safe.keyStep = 2 → ([0, 1, 2, 3].find? fun k => !s.fbit (F.SMA_SEAL_SLOT_LO_BLOWN k)) = some k → s.inMode .service = true →
    (validStrap s.safe.a).isSome = true → s.safe.podA = some a → s.safe.podB = some b → a.crc = b.crc →
    ∃ t, exec (.sealProgGo m v true true) s = .next t ∧ t.answered 0 ∧ t.safe.prog = some k ∧ t.safe.keyStep = 0 ∧ (∀ a, t.rd a = s.rd a) ∧ SameMem s t) ∧
  (∀ (s : State) (m : Master) (v : Word) (k : Nat) (x y : Bool), s.grants m R.SMA_SEAL_PROG → v.getLsbD 0 = true → s.safe.prog = none →
    s.safe.keyStep ≠ 2 → ([0, 1, 2, 3].find? fun k => !s.fbit (F.SMA_SEAL_SLOT_LO_BLOWN k)) = some k → s.room 4 →
    ∃ t, exec (.sealProgGo m v x y) s = .next t ∧ t.answered 0 ∧ t.safe.prog = none ∧ t.safe.keyStep = 0 ∧ t.fget F.SMA_SEAL_STAT_PROG = 4 ∧
      Journaled s t C.SMON_SEAL_PROG 255 { w0 := bytes4 4 k 0 0 } ∧ SameRegs s t [R.SMA_SEAL_STAT] ∧ SameMem s t) ∧
  (∀ (s : State) (k : Fin 4) (v : BitVec 8) (q : SafetyPod), s.safe.prog = some k.val → s.safe.a.strap = some v → s.safe.podA = some q → s.room 4 →
    ∃ t, exec (.sealProgDone true) s = .next t ∧ t.safe.prog = none ∧ t.fbit (F.SMA_SEAL_SLOT_LO_BLOWN k.val) = true ∧
      t.fget (F.SMA_SEAL_SLOT_LO_STRAP k.val) = v.toNat ∧ t.fget (F.SMA_SEAL_SLOT_LO_COMP k.val) = 255 - v.toNat ∧
      t.rd (R.SMA_SEAL_SLOT_HI k.val) = q.crc ∧ t.fget F.SMA_SEAL_STAT_PROG = 1 ∧
      Journaled s t C.SMON_SEAL_PROG 255 { w0 := bytes4 1 k.val 0 0 } ∧
      SameRegs s t [R.SMA_SEAL_STAT, R.SMA_SEAL_SLOT_LO k.val, R.SMA_SEAL_SLOT_HI k.val] ∧ SameMem s t)

/-! ### Lockstep and recovery (spec/12) -/

/-- A mismatch of a joined pair begins its recovery, or retires it at the RET_N-th in the window (R496, R501, R506); a recovery ends with the
pair joined, or split again where it was splitting, and untrusted where the checkers do not see the injected fault (R500, R502, R509); a
peripheral load is replayed from the input agreement unit (R498, R500); the register file's errors are reported (R507). Where the spec
leaves a point of it open, the model's choice is log entry 93. -/
def Obligations.PairRecovery : Prop :=
  (∀ (s : State) (p : Fin 3) (item : LksItem) (v : Verified) (e : Option VrfErr), s.triangle = false → s.lksSt p.val = 0 ∨ s.lksSt p.val = 2 →
    ∃ t, exec (.lksMismatch p item true true v e) s = .next t ∧ t.rd (R.LKS_PAIR_VPC p.val) = v.pc ∧
      t.lksSt p.val = (if s.fget F.LKS_CFG_RET_N ≤ (s.inWin (s.time :: (s.lksP p.val).times)).length then 5 else 1) ∧ SameMem s t ∧
      ((s.inWin (s.time :: (s.lksP p.val).times)).length < s.fget F.LKS_CFG_RET_N → (t.lksP p.val).detect = s.time ∧ (t.lksP p.val).vrf = v.file)) ∧
  (∀ (s : State) (p : Fin 3), s.lksSt (s.unitOf p.val) = 1 ∨ s.lksSt (s.unitOf p.val) = 4 → (s.lksP (s.unitOf p.val)).vrfBad = false →
    s.draining (s.unitOf p.val) = false →
    ∃ t, exec (.lksResume p true true) s = .next t ∧ t.fbit (F.LKS_PAIR_STAT_TEST_OK (s.unitOf p.val)) = true ∧ SameMem s t ∧
      t.lksSt (s.unitOf p.val) = (if s.lksSt (s.unitOf p.val) = 1 ∧ (s.lksP (s.unitOf p.val)).redo = true then 2 else 0)) ∧
  (∀ (s : State) (p : Fin 3) (a b : Bool), s.lksSt (s.unitOf p.val) = 1 ∨ s.lksSt (s.unitOf p.val) = 4 → (s.lksP (s.unitOf p.val)).vrfBad = false →
    s.draining (s.unitOf p.val) = false → (a && b) = false →
    ∃ t, exec (.lksResume p a b) s = .next t ∧ t.lksSt (s.unitOf p.val) = 5 ∧ SameMem s t) ∧
  (∀ (s : State) (p : Fin 3) (addr : Word) (tag : BitVec 64) (x : Iau) (rest : List Iau), (s.triangle = false ∨ p ≠ 1) →
    s.issues (.core p .leading true) = true → placeOf addr.toNat = .peripheral →
    (s.lksP (s.unitOfCore p.val .leading)).replay = x :: rest → x.tag = tag →
    ∃ t, exec (.periphLoadIssue p addr .word tag) s = .next t ∧ t.answered x.value ∧ (t.lksP (s.unitOfCore p.val .leading)).replay = rest ∧
      SameRegs s t [] ∧ SameMem s t) ∧
  (∀ (s : State) (p : Fin 3) (tag : BitVec 64), (s.triangle = false ∨ p ≠ 1) → s.issues (.core p .leading true) = true →
    (s.lksP (s.unitOfCore p.val .leading)).replay = [] → s.lksSt (s.unitOfCore p.val .leading) ≠ 3 →
    ∃ t, exec (.periphLoadIssue p (BitVec.ofNat 32 R.LKS_CFG) .word tag) s = .next t ∧ t.answered (s.rd R.LKS_CFG) ∧
      ((t.lksP (s.unitOfCore p.val .leading)).iau.head? = some { tag := tag, value := s.rd R.LKS_CFG }) ∧ SameRegs s t [] ∧ SameMem s t) ∧
  (∀ (s : State) (p : Fin 3) (addr : Word) (z : AccSize) (tag : BitVec 64), (s.triangle = false ∨ p ≠ 1) →
    s.issues (.core p .leading true) = true → placeOf addr.toNat = .peripheral → z ≠ .word →
    ∃ t, exec (.periphLoadIssue p addr z tag) s = .next t ∧ t.bus.err = true ∧ SameRegs s t [] ∧ SameMem s t) ∧
  (∀ (s : State) (a b : BitVec 3), s.past s.lks.lastTest (80000 * s.fget F.LKS_TEST_PER) = true → s.triangle = false →
    ∃ t, exec (.lksTestInject a b) s = .next t ∧ t.lks.lastTest = s.time ∧ SameMem s t ∧
      ∀ p : Fin 3, s.lksSt p.val = 0 ∨ s.lksSt p.val = 2 → (a.getLsbD p.val = false → b.getLsbD p.val = false →
          t.lksSt p.val = s.lksSt p.val ∧ t.fbit (F.LKS_PAIR_STAT_TEST_OK p.val) = true) ∧
        (a.getLsbD p.val = true ∨ b.getLsbD p.val = true → t.lksSt p.val = 5 ∧ t.fbit (F.LKS_PAIR_STAT_TEST_OK p.val) = false)) ∧
  (∀ (s : State) (p : Fin 3) (r : VrfErr), s.untrusted p.val = false → (s.lksP (s.unitOf p.val)).vrfBad = false → s.room 4 →
    ∃ t, exec (.lksVrfScrub p (some r)) s = .next t ∧ (t.lksP (s.unitOf p.val)).vrfBad = r.uncorrectable ∧
      Journaled s t (if r.uncorrectable then C.LKS_VRF_UNCORR else C.LKS_VRF_CORR) (s.lksInst (s.unitOf p.val)) { w0 := bytes4 r.word.toNat 0 0 0 } ∧
      SameRegs s t [] ∧ SameMem s t)

/-- The standby of an untrusted pair is offered it and takes it over (R512, R513); a pair is split and rejoined by its requests, the answers of
its cores and the hardware's steps (R515 to R520), each refused where R515 says so. Where the spec leaves a point of it open, the model's
choice is log entries 93, 94. -/
def Obligations.TakeoverSplitAndRejoin : Prop :=
  (∀ (s : State) (p : Fin 3) (q : Nat), s.standby p.val = some q → s.lksSt p.val = 5 → s.fbit (F.LKS_PAIR_STAT_TAKEN p.val) = false → s.lksSt q = 0 →
    (s.lksP q).pend ≠ 3 →
    ∃ t, exec (.lksTakeoverOffer p) s = .next t ∧ (t.lksP q).pend = 3 ∧ t.fget (F.LKS_PAIR_STAT_FOR_P q) = p.val ∧
      SameRegs s t [R.LKS_PAIR_STAT q] ∧ SameMem s t) ∧
  (∀ (s : State) (q : Fin 3), (s.lksP (s.unitOf q.val)).pend = 3 → s.lksSt (s.unitOf q.val) = 0 →
    s.fget (F.LKS_PAIR_STAT_FOR_P (s.unitOf q.val)) ≤ 2 → s.room 4 →
    ∃ t, exec (.lksTakeover q) s = .next t ∧ (t.lksP (s.unitOf q.val)).pend = 0 ∧
      t.fbit (F.LKS_PAIR_STAT_TAKEN (s.fget (F.LKS_PAIR_STAT_FOR_P (s.unitOf q.val)))) = true ∧
      SameRegs s t [R.LKS_PAIR_STAT (s.fget (F.LKS_PAIR_STAT_FOR_P (s.unitOf q.val)))] ∧ SameMem s t) ∧
  (∀ (s : State) (m : Master) (p : Fin 3) (v : Word), s.grants m (R.LKS_PAIR_CTRL p.val) → v.getLsbD 1 = false → s.triangle = false →
    s.lksSt p.val = 0 → (s.lksP p.val).pend ≠ 3 → s.fget (F.LKS_PAIR_STAT_FOR_P p.val) = 3 → p ≠ 0 → (p = 1 → s.inMode .drive = false) →
    ∃ t, exec (.lksSplitReq m p v) s = .next t ∧ t.answered 0 ∧ (t.lksP p.val).pend = 1 ∧ (t.lksP p.val).hoAt = s.time ∧
      SameRegs s t [R.LKS_PAIR_CTRL p.val] ∧ SameMem s t) ∧
  (∀ (s : State) (m : Master) (v : Word), s.grants m (R.LKS_PAIR_CTRL 0) → v.getLsbD 1 = false → s.triangle = false → s.lksSt 0 ≠ 3 → s.room 4 →
    ∃ t, exec (.lksSplitReq m 0 v) s = .next t ∧ t.answered 0 ∧ Journaled s t C.LKS_SPLIT_REFUSED 0 { w0 := bytes4 1 0 0 0 } ∧
      SameRegs s t [R.LKS_PAIR_CTRL 0] ∧ SameMem s t) ∧
  (∀ (s : State) (p : Fin 3), s.triangle = false → (s.lksP p.val).pend = 1 → s.lksSt p.val = 0 →
    ∃ t, exec (.lkshoSplitReady p) s = .next t ∧ t.lksSt p.val = 2 ∧ (t.lksP p.val).readyL = true ∧ SameRegs s t [R.LKS_PAIR_STAT p.val] ∧ SameMem s t) ∧
  (∀ (s : State) (p : Fin 3), s.triangle = false → s.lksSt p.val = 2 → s.draining p.val = false → s.room 4 →
    ∃ t, exec (.lksSplit p) s = .next t ∧ t.lksSt p.val = 3 ∧ (t.lksP p.val).pend = 0 ∧
      Journaled s t C.LKS_SPLIT p.val { w0 := bytes4 0 s.seq.mode.code 0 0 } ∧ SameRegs s t [R.LKS_PAIR_STAT p.val] ∧ SameMem s t) ∧
  (∀ (s : State) (m : Master) (p : Fin 3) (v : Word), s.grants m (R.LKS_PAIR_CTRL p.val) → v.getLsbD 0 = false → s.triangle = false →
    s.lksSt p.val = 3 →
    ∃ t, exec (.lksRejoinReq m p v) s = .next t ∧ t.answered 0 ∧ (t.lksP p.val).pend = 2 ∧
      ((s.lksP p.val).pend ≠ 2 → (t.lksP p.val).readyL = false ∧ (t.lksP p.val).readyT = false) ∧ (t.lksP p.val).hoAt = s.time ∧
      SameRegs s t [R.LKS_PAIR_CTRL p.val] ∧ SameMem s t) ∧
  (∀ (s : State) (p : Fin 3) (h : Half) (v : Verified), s.triangle = false → s.lksSt p.val = 3 → (s.lksP p.val).pend = 2 →
    ∃ t, exec (.lkshoRejoinReady p h v) s = .next t ∧ SameMem s t ∧
      t.lksSt p.val = (if (if h = .leading then (s.lksP p.val).readyT else (s.lksP p.val).readyL) then 4 else 3)) ∧
  (∀ (s : State) (p : Fin 3) (v : Verified), s.triangle = false → s.past (s.lksP p.val).hoAt (800000 * s.fget (F.LKS_PAIR_CTRL_HO_TMO p.val)) = true →
    ∃ t, exec (.lksHoTmo p v) s = .next t ∧ SameMem s t ∧
      ((s.lksP p.val).pend = 1 → s.lksSt p.val = 0 ∨ (s.lksSt p.val = 1 ∧ (s.lksP p.val).redo = false) →
        (t.lksP p.val).pend = 0 ∧ t.lksSt p.val = s.lksSt p.val) ∧
      ((s.lksP p.val).pend = 2 → s.lksSt p.val = 3 → (s.lksP p.val).readyL = true → t.lksSt p.val = 4) ∧
      ((s.lksP p.val).pend = 2 → s.lksSt p.val = 3 → (s.lksP p.val).readyL = false → (t.lksP p.val).pend = 0 ∧ t.lksSt p.val = 3))

/-- Triads: a dissenting core is masked, and retired at the RET_N-th dissent in the window (R526, R528), the reload unmasks it (R526), and a
triad without a majority rolls back (R527). Where the spec leaves a point of it open, the model's choice is log entry 94. -/
def Obligations.Triads : Prop :=
  (∀ (s : State) (t : Fin 2) (k : Fin 3) (item : LksItem), s.triangle = true → s.lksSt (unitOfTriad t.val) = 0 →
    s.fget (F.LKS_TRI_STAT_RETIRED t.val) = 0 → s.fget (F.LKS_TRI_STAT_MASKED t.val) = 0 → s.room 4 →
    ∃ u, exec (.lksTriDissent t k item) s = .next u ∧ SameMem s u ∧
      SameRegs s u [R.LKS_TRI_STAT t.val, R.LKS_TRI_DCNT t.val] ∧
      Journaled s u C.LKS_TRI_DISSENT (8 + t.val)
        { w0 := bytes4 k.val (itemCode item) (s.inWin (s.time :: (s.lksP (unitOfTriad t.val)).dis k.val)).length 0 } ∧
      (if s.fget F.LKS_CFG_RET_N ≤ (s.inWin (s.time :: (s.lksP (unitOfTriad t.val)).dis k.val)).length then
        (u.fget (F.LKS_TRI_STAT_RETIRED t.val)).testBit k.val = true ∧ u.fget (F.LKS_TRI_STAT_MASKED t.val) = 0
      else u.fget (F.LKS_TRI_STAT_RETIRED t.val) = 0 ∧ u.fget (F.LKS_TRI_STAT_MASKED t.val) = k.val + 1)) ∧
  (∀ (s : State) (t : Fin 2), s.triangle = true →
    ∃ u, exec (.lksTriReload t) s = .next u ∧ u.fget (F.LKS_TRI_STAT_MASKED t.val) = 0 ∧ SameRegs s u [R.LKS_TRI_STAT t.val] ∧ SameMem s u) ∧
  (∀ (s : State) (t : Fin 2) (item : LksItem) (v : Verified) (e : Option VrfErr), s.triangle = true → s.lksSt (unitOfTriad t.val) = 0 →
    ∃ u, exec (.lksTriRollback t item v e) s = .next u ∧ u.fget (F.LKS_TRI_STAT_MASKED t.val) = 0 ∧ SameMem s u ∧
      u.lksSt (unitOfTriad t.val) = (if s.fget F.LKS_CFG_RET_N ≤ (s.inWin (s.time :: (s.lksP (unitOfTriad t.val)).times)).length then 5 else 1))


/-! ### Thermal management and supplies (spec/13) -/

/-- A zone's sample is evaluated on its sensors (R533, R534); a broken mark clears where the last ten samples were good (R543); the hard cut
holds the L-die and its end is a reset (R546, R547). The supply monitors: VBAT and VGD latch and report (R548, R549), VGD latches every
enabled leg; a rail fault holds the L-die and cuts the supplies until the rails return (R550); without its regulator SMON-B reads as OFF
(R551). Where the spec leaves a point of it open, the model's choice is log entries 95, 97. -/
def Obligations.ThermalAndSupplies : Prop :=
  (∀ (s : State) (z : Fin 16) (reads : List SensRead), s.fbit F.THM_CTRL_EN = true → s.inMode .dormant = false → s.lDead = false →
    s.zoneDue z.val = true → s.zoneSens z.val ≠ [] →
    ∃ t, exec (.thmSample z reads) s = .next t ∧ (t.zone z.val).last = some s.time ∧
      ∀ i, s.zoneSens z.val = [i] → t.rd (R.THM_ZONE_T z.val) = t.rd (R.THM_SENS_T i)) ∧
  (∀ (s : State) (m : Master) (v : Word), s.grants m R.THM_SENS_BROKEN →
    ∃ t, exec (.thmSensBrokenClear m v) s = .next t ∧ t.answered 0 ∧ SameRegs s t [R.THM_SENS_BROKEN] ∧ SameMem s t ∧
      ∀ n : Fin 24, t.rbit R.THM_SENS_BROKEN n.val = (s.rbit R.THM_SENS_BROKEN n.val && !(v.getLsbD n.val && (s.sens n.val).good == 10))) ∧
  (∀ (s : State) (k : Fin 8), s.lDead = false →
    ∃ t, exec (.thmHardCutTrip k) s = .next t ∧ t.seq.held = .hardCut ∧ t.fbit F.SUP_LATCH_HCUT = true ∧
      t.thm.cut = some (if k.val < 6 then 0 else 1, 16 + k.val)) ∧
  (∀ (s : State) (f : FlashBoot), s.seq.held = .hardCut →
    ∃ t, exec (.thmHardCutRestore f) s = .next t ∧ t.seq.held = .no ∧ t.inMode .arming = true) ∧
  (∀ (s : State) (v : F32), s.lDead = false → fLe v 0x40BB3333 = true → s.room 4 →
    ∃ t, exec (.supVbatUv v) s = .next t ∧ t.rbit R.SUP_LATCH 0 = true ∧ Journaled s t C.SUP_VBAT_UV 0 { w1 := v } ∧ SameRegs s t [R.SUP_LATCH] ∧ SameMem s t) ∧
  (∀ (s : State) (v : F32), s.lDead = false → fLe 0x4195999A v = true → s.room 4 →
    ∃ t, exec (.supVbatOv v) s = .next t ∧ t.rbit R.SUP_LATCH 0 = true ∧ Journaled s t C.SUP_VBAT_OV 0 { w1 := v } ∧ SameRegs s t [R.SUP_LATCH] ∧ SameMem s t) ∧
  (∀ (s : State) (h : Bool) (v : F32), (if h then fLe 0x417B3333 v else fLe v 0x4124CCCD) = true →
    ∃ t, exec (.supVgdFault h v) s = .next t ∧ t.rbit R.SUP_LATCH 2 = true ∧ (∀ k : Fin 38, (t.chan (31 + k.val)).dOff = true) ∧
      (s.lDead = false → ∀ k : Fin 19, s.fbit (F.GDR_LGB_CFG_EN (bridgeOfLeg k.val)) = true → t.legLatched (lgLegGroup k.val).1 (lgLegGroup k.val).2 = true)) ∧
  (∀ (s : State) (rail : Fin 4) (h : Bool), s.lDead = false →
    ∃ t, exec (.supRailFault rail h false) s = .next t ∧ t.rbit R.SUP_LATCH (3 + rail.val) = true ∧ t.seq.held = .rail ∧ t.safe.cut = true ∧
      t.safe.b.cause = true ∧ t.thm.out.getLsbD (3 + rail.val) = true) ∧
  (∀ (s : State) (h : Bool), s.lDead = false → s.room 4 →
    ∃ t, exec (.supRailFault 0 h true) s = .next t ∧ Journaled s t C.SUP_RAIL_FAULT 8 { w0 := bytes4 3 (b2n h) 0 0 } ∧ SameRegs s t [] ∧ SameMem s t) ∧
  (∀ (s : State) (f : FlashBoot), s.seq.held = .rail →
    ∃ t, exec (.supRailRecover f) s = .next t ∧ t.seq.held = .no ∧ t.inMode .arming = true ∧ ∀ k, 3 ≤ k → k ≤ 6 → t.thm.out.getLsbD k = false) ∧
  (∀ s : State, ∃ t, exec .smonbRegFault s = .next t ∧ t.rbit R.SUP_LATCH 7 = true ∧ t.safe.bOff = true ∧ t.safe.b.started = false ∧ t.safe.b.code = 1 ∧
    SameMem s t)


/-! ### The host interface (spec/14) -/

/-- A good host frame in sequence is accepted. One for firmware takes the next slot of the receive queue; KEEPALIVE only is heard; JOURNAL_REQ
starts a replay at its first record; a frame whose TYPE is none "to device" is answered by a NACK of reason 0 (R567, R568, R570, R577, R579,
R583, R620). STATUS_REQ is served whatever its sequence, and changes neither LAST_RX nor the host timer (R571). A host frame with a bad CRC
is counted in HIF_CNT0.FMT, and one that is not ahead of the last in HIF_CNT0.OLD; neither changes the sequence state (R566, R570). One that
finds the receive queue full is counted and dropped (R573). Where the spec leaves a point of it open, the model's choice is log entries 98,
100, 140. -/
def Obligations.HostFrames : Prop :=
  (∀ (s : State) (c : Instr) (ty : Nat) (f : AcpFrame), (c, ty) ∈ [(Instr.acpCommand f, 1), (.acpUpdateBlock f, 5), (.acpActivate f, 6), (.acpConfirm f, 7)] ∨
      (∃ k : Fin 64, c = .acpFwDefined k f ∧ ty = 0x40 + k.val) → s.hears ty f → s.inOrder f →
    acpLenOk ty f.path.val f.len.toNat = some true → s.rxqFull = false →
    ∃ t, exec c s = .next t ∧ HostHeard s t f ∧
      (t.rd R.HIF_RXQ_WR).toNat = ((s.rd R.HIF_RXQ_WR).toNat % s.rxqSlots + 1) % s.rxqSlots) ∧
  (∀ (s : State) (f : AcpFrame), s.hears 2 f → s.inOrder f → f.len = 0 →
    ∃ t, exec (.acpKeepalive f) s = .next t ∧ HostHeard s t f ∧ t.rd R.HIF_RXQ_WR = s.rd R.HIF_RXQ_WR ∧ SameMem s t) ∧
  (∀ (s : State) (f : AcpFrame) (b0 b1 b2 b3 b4 b5 : Byte), s.hears 4 f → s.inOrder f → f.len = 6 →
    frameBody f = [b0, b1, b2, b3, b4, b5] →
    ∃ t, exec (.acpJournalReq f) s = .next t ∧ HostHeard s t f ∧ t.fbit F.HIF_STAT_REPLAY = true ∧
      (∃ r, t.hif.replay = some r ∧ r.first = bytesWord b0 b1 b2 b3 ∧ r.sent = 0 ∧
        ((b5 ++ b4 : BitVec 16).toNat ≤ 4096 → (s.rd R.JRN_NEXT_SEQ - r.first).toNat < 2 ^ 31 →
          r.left = min (b5 ++ b4 : BitVec 16).toNat (s.rd R.JRN_NEXT_SEQ - r.first).toNat)) ∧ t.rd R.HIF_RXQ_WR = s.rd R.HIF_RXQ_WR ∧ SameMem s t) ∧
  (∀ (s : State) (ty : Byte) (f : AcpFrame), s.hears ty.toNat f → s.inOrder f → acpLenOk ty.toNat f.path.val f.len.toNat = none →
    ∃ t, exec (.acpFrameInvalid ty f) s = .next t ∧ HostHeard s t f ∧
      t.hif.nacks = s.hif.nacks ++ [{ type := ty, reason := 0, seq := f.seq }] ∧ t.rd R.HIF_RXQ_WR = s.rd R.HIF_RXQ_WR ∧ SameMem s t) ∧
  (∀ (s : State) (f : AcpFrame), s.hears 3 f → f.len = 0 →
    ∃ t, exec (.acpStatusReq f) s = .next t ∧ t.hif.status = true ∧ t.hif.hostAt = s.hif.hostAt ∧ SameRegs s t [] ∧ SameMem s t) ∧
  (∀ (s : State) (f : AcpFrame), s.hifOn = true → s.acpTakes f = true → s.busOff f.path.val = false → frameFormOk f = true →
    s.acpCrc 1 (frameHead f 1) (frameBody f) ≠ f.crc →
    ∃ t, exec (.acpCommand f) s = .next t ∧ t.fget F.HIF_CNT0_FMT = min (s.fget F.HIF_CNT0_FMT + 1) 65535 ∧
      t.hif.hostAt = s.hif.hostAt ∧ SameRegs s t [R.HIF_CNT0] ∧ SameMem s t) ∧
  (∀ (s : State) (f : AcpFrame), s.hears 2 f → f.len = 0 → s.fbit F.HIF_STAT_RX_SYNC = true → (s.ahead f = 0 ∨ 32768 ≤ s.ahead f) →
    f.path ≠ 0 ∨ s.hif.can1.1 ≠ s.cyc + 1 →
    ∃ t, exec (.acpKeepalive f) s = .next t ∧ t.fget F.HIF_CNT0_OLD = min (s.fget F.HIF_CNT0_OLD + 1) 65535 ∧
      t.hif.hostAt = s.hif.hostAt ∧ SameRegs s t [R.HIF_CNT0] ∧ SameMem s t) ∧
  (∀ (s : State) (f : AcpFrame), s.hears 1 f → f.len = 16 → s.rxqFull = true →
    ∃ t, exec (.acpCommand f) s = .next t ∧ t.fget F.HIF_CNT1_OVF = min (s.fget F.HIF_CNT1_OVF + 1) 65535 ∧
      t.hif.hostAt = s.hif.hostAt ∧ SameRegs s t [R.HIF_CNT1] ∧ SameMem s t)

/-- Raw CAN and Ethernet frames take the next slot of the receive queue or are counted as overflow (R558, R563, R573), bus-off and its end
(R555), the loss of the PHY's link (R560), the host timer (R577), STATUS when due (R581), the start of a transmission (R574), and a write of
HIF_TXQ_WR (R620). Where the spec leaves a point of it open, the model's choice is log entries 98, 99, 101, 153. -/
def Obligations.HostLinks : Prop :=
  (∀ (s : State) (c : Fin 2) (ide : Bool) (id : BitVec 29) (data : List Byte) (age : Nat), s.hifOn = true → s.busOff c.val = false →
    s.acpId c.val ide id.toNat = false → s.canFilter c.val ide id.toNat = true → s.rxqFull = false →
    ∃ t, exec (.canRawFrame c ide id data age) s = .next t ∧
      (t.rd R.HIF_RXQ_WR).toNat = ((s.rd R.HIF_RXQ_WR).toNat % s.rxqSlots + 1) % s.rxqSlots ∧ SameRegs s t [R.HIF_RXQ_WR, R.SYS_FW_VIOL]) ∧
  (∀ (s : State) (data : List Byte) (age : Nat), s.hifOn = true → s.rxqFull = false →
    ∃ t, exec (.ethRawFrame data age) s = .next t ∧
      (t.rd R.HIF_RXQ_WR).toNat = ((s.rd R.HIF_RXQ_WR).toNat % s.rxqSlots + 1) % s.rxqSlots ∧ SameRegs s t [R.HIF_RXQ_WR, R.SYS_FW_VIOL]) ∧
  (∀ (s : State) (data : List Byte) (age : Nat), s.hifOn = true → s.rxqFull = true → s.room 4 →
    ∃ t, exec (.ethRawFrame data age) s = .next t ∧
      Journaled s t C.HIF_RX_OVERFLOW 2 { w0 := halves (min (s.fget F.HIF_CNT1_OVF + 1) 65535) 0 } ∧ SameRegs s t [R.HIF_CNT1] ∧ SameMem s t) ∧
  (∀ (s : State) (c : Fin 2) (tec : Byte), s.hifOn = true → s.busOff c.val = false → s.room 4 →
    ∃ t, exec (.hifCanBusoff c tec) s = .next t ∧ t.busOff c.val = true ∧
      Journaled s t C.HIF_CAN_BUSOFF c.val { w0 := bytes4 tec.toNat 0 0 0 } ∧ SameRegs s t [R.HIF_STAT] ∧ SameMem s t) ∧
  (∀ (s : State) (c : Fin 2), s.hifOn = true →
    ∃ t, exec (.canBusoffRecover c) s = .next t ∧ t.busOff c.val = false ∧ SameRegs s t [R.HIF_STAT] ∧ SameMem s t) ∧
  (∀ s : State, s.lDead = false →
    ∃ t, exec (.hifEthLink true) s = .next t ∧ t.fbit F.HIF_STAT_ETH_UP = true ∧ SameRegs s t [R.HIF_STAT] ∧ SameMem s t) ∧
  (∀ s : State, s.lDead = false → s.fbit F.HIF_STAT_ETH_UP = true → s.room 4 →
    ∃ t, exec (.hifEthLink false) s = .next t ∧ t.fbit F.HIF_STAT_ETH_UP = false ∧ Journaled s t C.HIF_ETH_LINK 2 {} ∧
      SameRegs s t [R.HIF_STAT] ∧ SameMem s t) ∧
  (∀ s : State, s.hifOn = true → s.fbit F.HIF_STAT_HOST_LOST = false → s.past s.hif.hostAt (msTicks (s.fget F.HIF_HOST_TMO_MS)) = true →
    s.room 6 →
    ∃ t, exec .hostLost s = .next t ∧ t.fbit F.HIF_STAT_HOST_LOST = true ∧ t.rd R.TMU_TQ_REF = 0 ∧
      Journaled s t C.HOST_LOST s.hif.path { w0 := halves (s.fget F.HIF_SEQ_LAST_RX) 0, w1 := s.tmu.tApp } ∧ t.seq.mode = s.seq.mode) ∧
  (∀ s : State, s.hifOn = true → s.fget F.HIF_STAT_PER_MS ≠ 0 → s.past s.hif.statAt (msTicks (s.fget F.HIF_STAT_PER_MS)) = true →
    ∃ t, exec .statusSend s = .next t ∧ t.hif.status = true ∧ t.hif.statAt = s.time ∧ (∀ a, t.rd a = s.rd a) ∧ SameMem s t) ∧
  (∀ (s : State) (n : Fin 32), s.hifOn = true → s.txLink = true → s.hif.evHi = [] → s.hif.nacks = [] → s.hif.status = true →
    ∃ t, exec (.hifTxStart n) s = .next t ∧ t.fget F.HIF_SEQ_NEXT_TX = (s.fget F.HIF_SEQ_NEXT_TX + 1) % 65536 ∧ t.hif.status = false ∧
      t.hif.outRaw = false ∧ SameRegs s t [R.HIF_SEQ, R.HIF_TXQ_RD] ∧ SameMem s t) ∧
  (∀ (s : State) (m : Master) (v : Word), s.grants m R.HIF_TXQ_WR →
    ∃ t, exec (.hifTxqWrite m v) s = .next t ∧ t.answered 0 ∧ t.rd R.HIF_TXQ_WR = v ∧ SameRegs s t [R.HIF_TXQ_WR, R.HIF_TXQ_RD] ∧ SameMem s t)

/-! ### OmterLink (spec/14) -/

/-- A frame that fails R591 is counted; a chain frame under the unit's own ID is an ID conflict (R605); a new one of another unit, with room for
it and not on port 0 of an intact ring, is accepted and noted (R604, R606); a duplicate is acknowledged and changes no register (R592); a
one-hop frame is acknowledged and leaves its source's sequence alone; one without room is answered by a NAK (R592, R604). ACK, NAK, retry
and timeout of the frame a port awaits an acknowledgement for (R595, R596), and the probes of a port that is down (R592, R597). Where the
spec leaves a point of it open, the model's choice is log entries 103, 105. -/
def Obligations.OmterLinkFramesAndAcknowledges : Prop :=
  (∀ (s : State) (p : Fin 2), s.portOn p.val = true →
    ∃ t, exec (.olkBadFrame p) s = .next t ∧ t.fget (F.OLK_PORT_CNT_BAD p.val) = min (s.fget (F.OLK_PORT_CNT_BAD p.val) + 1) 65535 ∧
      (∀ a, a ≠ R.OLK_PORT_CNT p.val → t.rd a = s.rd a) ∧ SameMem s t) ∧
  (∀ (s : State) (c : Instr) (ty : Nat) (f : OlkRx),
    (c, ty) ∈ [(Instr.olkStatus f, 1), (.olkFault f, 2), (.olkActivate f, 5), (.olkUpdateReverted f, 6), (.olkApp f, 7)] →
    s.portOn f.port.val = true → f.payload.length ≤ 64 → f.src.val = s.olkUnit → s.room 4 →
    ∃ t, exec c s = .next t ∧ (t.olkPort f.port.val).answer = some (false, f.seq.setWidth 8) ∧
      Journaled s t C.OLK_ID_CONFLICT f.src.val { w0 := bytes4 ty f.hop.toNat 0 0 } ∧ SameRegs s t [] ∧ SameMem s t) ∧
  (∀ (s : State) (c : Instr) (ty : Nat) (f : OlkRx),
    (c, ty) ∈ [(Instr.olkStatus f, 1), (.olkFault f, 2), (.olkActivate f, 5), (.olkUpdateReverted f, 6), (.olkApp f, 7)] →
    s.portOn f.port.val = true → f.payload.length ≤ 64 → f.src.val ≠ s.olkUnit → s.fresher f = false →
    ∃ t, exec c s = .next t ∧ (t.olkPort f.port.val).answer = some (false, f.seq.setWidth 8) ∧ SameRegs s t [] ∧ SameMem s t) ∧
  (∀ (s : State) (c : Instr) (ty : Nat) (f : OlkRx),
    (c, ty) ∈ [(Instr.olkStatus f, 1), (.olkFault f, 2), (.olkActivate f, 5), (.olkUpdateReverted f, 6), (.olkApp f, 7)] →
    s.portOn f.port.val = true → f.payload.length ≤ 64 → f.src.val ≠ s.olkUnit → s.fresher f = true → (s.ringOk = true → f.port = 1) →
    s.olkNoRoom ty f.port.val f.payload = false →
    ∃ t, exec c s = .next t ∧ (t.olkPort f.port.val).answer = some (false, f.seq.setWidth 8) ∧
      t.fget (F.OLK_PEER_SEQ_SEQ f.src.val) = f.seq.toNat ∧ t.heard f.src.val = true ∧ t.rbit R.OLK_STAT (16 + f.src.val) = true ∧
      (t.peer f.src.val).heard = s.time) ∧
  (∀ (s : State) (c : Instr) (ty : Nat) (f : OlkRx),
    (c, ty) ∈ [(Instr.olkFwSeg f, 3), (.olkFwBlockEnd f, 4)] →
    s.portOn f.port.val = true → f.payload.length ≤ 64 → s.olkNoRoom ty f.port.val f.payload = false →
    ∃ t, exec c s = .next t ∧ (t.olkPort f.port.val).answer = some (false, f.seq.setWidth 8) ∧
      t.rd (R.OLK_PEER_SEQ f.src.val) = s.rd (R.OLK_PEER_SEQ f.src.val) ∧ t.heard f.src.val = s.heard f.src.val) ∧
  (∀ (s : State) (c : Instr) (ty : Nat) (f : OlkRx),
    (c, ty) ∈ [(Instr.olkStatus f, 1), (.olkFault f, 2), (.olkActivate f, 5), (.olkUpdateReverted f, 6), (.olkApp f, 7),
      (.olkFwSeg f, 3), (.olkFwBlockEnd f, 4)] →
    s.portOn f.port.val = true → f.payload.length ≤ 64 → (chainType ty = true → f.src.val ≠ s.olkUnit ∧ s.fresher f = true ∧ (s.ringOk = true → f.port = 1)) →
    s.olkNoRoom ty f.port.val f.payload = true →
    ∃ t, exec c s = .next t ∧ (t.olkPort f.port.val).answer = some (true, f.seq.setWidth 8) ∧ SameRegs s t [] ∧ SameMem s t) ∧
  (∀ (s : State) (p : Fin 2) (sym : Byte) (w : OlkWait), s.portOn p.val = true → s.portUp p.val = true → (s.olkPort p.val).wait = some w →
    w.named sym = true →
    ∃ t, exec (.olkAckRx p sym) s = .next t ∧ (t.olkPort p.val).fails = 0) ∧
  (∀ (s : State) (p : Fin 2) (sym : Byte) (w : OlkWait), s.portOn p.val = true → s.portUp p.val = false → (s.olkPort p.val).wait = some w →
    w.named sym = true → w.frame.type = 0x83 → (s.olkPort p.val).probes < 7 →
    ∃ t, exec (.olkAckRx p sym) s = .next t ∧ (t.olkPort p.val).probes = (s.olkPort p.val).probes + 1 ∧ (t.olkPort p.val).wait = none ∧
      SameRegs s t [] ∧ SameMem s t) ∧
  (∀ (s : State) (p : Fin 2) (sym : Byte) (w : OlkWait), s.portOn p.val = true → s.portUp p.val = false → (s.olkPort p.val).wait = some w →
    w.named sym = true → w.frame.type = 0x83 → (s.olkPort p.val).probes = 7 →
    ∃ t, exec (.olkAckRx p sym) s = .next t ∧ t.portUp p.val = true) ∧
  (∀ (s : State) (p : Fin 2) (sym : Byte) (w : OlkWait), s.portOn p.val = true → (s.olkPort p.val).wait = some w → w.named sym = true →
    ∃ t, exec (.olkNakRx p sym) s = .next t ∧
      (t.olkPort p.val).wait = some { w with nakFirst := some (w.nakFirst.getD s.time), nakAt := some s.time } ∧ SameRegs s t [] ∧ SameMem s t) ∧
  (∀ (s : State) (p : Fin 2) (w : OlkWait) (a b : Nat), s.portOn p.val = true → (s.olkPort p.val).faultWait = none →
    (s.olkPort p.val).wait = some w → w.nakAt = some a → w.nakFirst = some b → s.past a 1600 = true → s.past b 800000 = false →
    ∃ t, exec (.olkNakRetry p) s = .next t ∧ (t.olkPort p.val).out = some w.frame ∧
      t.fget (F.OLK_PORT_CNT_RETX p.val) = min (s.fget (F.OLK_PORT_CNT_RETX p.val) + 1) 65535 ∧
      (t.olkPort p.val).fails = (s.olkPort p.val).fails ∧ SameRegs s t [R.OLK_PORT_CNT p.val] ∧ SameMem s t) ∧
  (∀ (s : State) (p : Fin 2) (w : OlkWait), s.portOn p.val = true → s.portUp p.val = true → (s.olkPort p.val).wait = some w →
    w.nakAt = none → s.past w.endAt 1600 = true → (s.olkPort p.val).fails = 0 →
    ∃ t, exec (.olkAckTimeout p false) s = .next t ∧ (t.olkPort p.val).out = some w.frame ∧ (t.olkPort p.val).fails = 1 ∧
      SameRegs s t [R.OLK_PORT_CNT p.val] ∧ SameMem s t) ∧
  (∀ (s : State) (p : Fin 2) (w : OlkWait), s.portOn p.val = true → s.portUp p.val = true → (s.olkPort p.val).wait = some w →
    w.nakAt = none → s.past w.endAt 1600 = true → 2 ≤ (s.olkPort p.val).fails → s.room 8 →
    ∃ t, exec (.olkAckTimeout p false) s = .next t ∧ t.portUp p.val = false ∧
      Journaled s t C.OLK_LINK_DOWN p.val { w0 := bytes4 (b2n s.ringOk) 0 0 0 } ∧ (t.olkPort p.val).wait = none) ∧
  (∀ (s : State) (p : Fin 2), s.portOn p.val = true → s.portUp p.val = false → (s.olkPort p.val).wait = none →
    s.past (s.olkPort p.val).lastProbe 800000 = true →
    ∃ t, exec (.olkProbeSend p) s = .next t ∧ (t.olkPort p.val).lastProbe = s.time ∧
      (∃ w, (t.olkPort p.val).wait = some w ∧ w.frame.type = 0x83) ∧ SameRegs s t [] ∧ SameMem s t) ∧
  (∀ (s : State) (p : Fin 2) (seq : Byte), s.portOn p.val = true →
    ∃ t, exec (.olkProbe p seq) s = .next t ∧ (t.olkPort p.val).answer = some (false, seq) ∧ (∀ a, t.rd a = s.rd a) ∧ SameMem s t)

/-- The time exchange (R46, R599), the unit's own STATUS and the loss of a peer (R606), the ring (R603), FAULT on each port that is up (R607),
and the writes of firmware: the transmit queue, released buffers (R615) and the wake pattern (R617). Where the spec leaves a point of it
open, the model's choice is log entries 102, 105. -/
def Obligations.OmterLinkTimeAndChain : Prop :=
  (∀ s : State, s.olkOn = true → s.fget F.CLV_CTRL_SRC ≠ 1 → s.timeMaster ≠ s.olkUnit → (s.wayTo s.timeMaster).1 < 2 →
    s.portUp (s.wayTo s.timeMaster).1 = true → s.past s.clv.lastStart 800000 = true →
    ∃ t, exec .timeExchange s = .next t ∧ t.clv.lastStart = s.time ∧ t.fget F.CLV_STATUS_ROLE = 2 ∧
      t.fget F.CLV_STATUS_PORT = (s.wayTo s.timeMaster).1) ∧
  (∀ (s : State) (p : Fin 2) (seq : Byte) (i : TimeInfo), s.portOn p.val = true →
    ∃ t, exec (.olkTimeReq p seq i) s = .next t ∧ (t.olkPort p.val).answer = some (false, seq) ∧
      (s.portUp p.val = true → (s.olkPort p.val).wait = none → (s.olkPort p.val).queue = [] →
        ∃ fr, (t.olkPort p.val).out = some fr ∧ fr.type = 0x82)) ∧
  (∀ (s : State) (p : Fin 2) (seq : Byte) (t2 t3 : BitVec 64) (i : TimeInfo), s.portOn p.val = true → s.clv.exchange = none →
    ∃ t, exec (.olkTimeResp p seq t2 t3 i) s = .next t ∧ (t.olkPort p.val).answer = some (false, seq) ∧ SameRegs s t [] ∧ SameMem s t) ∧
  (∀ (s : State) (p : Fin 2) (seq : Byte) (t2 t3 : BitVec 64) (i : TimeInfo) (t1 : Nat) (d : Int), s.portOn p.val = true →
    s.clv.exchange = some t1 → s.fget F.CLV_STATUS_PORT = p.val →
    d = (Int.ofNat t2.toNat - Int.ofNat t1) - (Int.ofNat (s.now - 576) - Int.ofNat t3.toNat) → -(2 ^ 28) ≤ d → d < 2 ^ 28 →
    ∃ t, exec (.olkTimeResp p seq t2 t3 i) s = .next t ∧ (t.olkPort p.val).answer = some (false, seq) ∧
      t.rd R.CLV_OFFSET = BitVec.ofInt 32 (8 * d) ∧
      (d.natAbs ≤ 3200 → (t.rd R.CLV_RATE).toInt.sign = d.sign ∧ (t.rd R.CLV_RATE).toInt.natAbs ≤ 500000) ∧ t.clv.lastDone = s.time ∧ t.clv.exchange = none) ∧
  (∀ s : State, s.olkOn = true → s.past s.olk.statAt (800 * (100 * s.fget F.OLK_STAT_PER_PER)) = true →
    ∃ t, exec .olkStatusSend s = .next t ∧ t.olk.statAt = s.time ∧ t.olk.key = s.olk.key + 1) ∧
  (∀ (s : State) (u : Fin 8), s.olkOn = true → s.heard u.val = true →
    s.past (s.peer u.val).heard (msTicks (s.fget F.OLK_PEER_TMO_MS)) = true → s.room 6 →
    ∃ t, exec (.olkPeerLost u) s = .next t ∧ t.heard u.val = false ∧ t.rbit R.OLK_STAT (16 + u.val) = false ∧
      Journaled s t C.OLK_PEER_LOST u.val { w0 := halves (s.fget (F.OLK_PEER_SEQ_SEQ u.val)) 0 }) ∧
  (∀ s : State, s.ringCond = true → s.ringOk = false → s.lasted s.olk.ringSince 80000000 = true → s.room 4 →
    ∃ t, exec .olkRingRestored s = .next t ∧ t.ringOk = true ∧ Journaled s t C.OLK_RING_RESTORED 255 {} ∧
      SameRegs s t [R.OLK_STAT, R.CLV_STATUS] ∧ SameMem s t) ∧
  (∀ (s : State) (p : Fin 2) (b : List Byte), s.olk.faultDue = some b → s.olkOn = true → s.portUp p.val = true →
    (s.olkPort p.val).faultWait = none → (∀ g ∈ (s.olkPort p.val).queue, g.type ≠ 2) →
    ∃ t, exec .olkFaultSend s = .next t ∧ t.olk.faultDue = none ∧
      ∃ w, (t.olkPort p.val).faultWait = some w ∧ w.frame.type = 2 ∧ w.frame.payload = b) ∧
  (∀ (s : State) (m : Master) (v : Word), s.grants m R.OLK_TXQ_WR →
    ∃ t, exec (.olkTxqWrite m v) s = .next t ∧ t.answered 0 ∧ t.rd R.OLK_TXQ_WR = v) ∧
  (∀ (s : State) (m : Master) (v : Word), s.grants m R.OLK_FWB_REL →
    ∃ t, exec (.olkFwbRel m v) s = .next t ∧ t.answered 0 ∧
      (∀ n, n < 4 → t.rbit R.OLK_FWB_STAT n = (s.rbit R.OLK_FWB_STAT n && !(v.getLsbD n && !s.rbit R.OLK_FWB_STAT (4 + n))) ∧
        t.rbit R.OLK_FWB_STAT (4 + n) = s.rbit R.OLK_FWB_STAT (4 + n)) ∧ SameRegs s t [R.OLK_FWB_STAT] ∧ SameMem s t) ∧
  (∀ (s : State) (m : Master) (v : Word), s.grants m R.OLK_WAKE →
    ∃ t, exec (.olkWake m v) s = .next t ∧ t.answered 0 ∧ t.olk.wakeUntil = s.time + 40000 ∧ SameRegs s t [R.OLK_WAKE] ∧ SameMem s t)


/-! ### The NVM controller (spec/15) -/

/-- A command that the port's pair may give starts and shows BUSY, or ends at once with its reason (R545, R626, R630, R633); a completion ends
it: a read has copied the flash into SRAM, an erase has cleared its sector, a pod is the newest of its bank under the next sequence (R628),
and a missing pod or a full bank is reported. Where the spec leaves a point of it open, the model's choice is log entries 106, 107, 155. -/
def Obligations.NvmCommands : Prop :=
  (∀ (s : State) (m : Master) (p : Fin 3) (v : Word) (op : Nat) (c : Instr),
    (c, op) ∈ [(Instr.nvcFindPod m p v, 1), (.nvcAppendPod m p v, 2), (.nvcAppendLog m p v, 3), (.nvcRead m p v, 4), (.nvcProgram m p v, 5),
      (.nvcErase m p v, 6), (.nvcCompact m p v, 7)] → s.grants m (R.NVC_CMD p.val) →
    (s.roles m).contains p.val = true → s.nvcOp p.val = none → s.nvcRefuse p.val (s.nvcArgs p.val op v) = none →
    ∃ t, exec c s = .next t ∧ t.answered 0 ∧ t.nvcOp p.val = some (s.nvcArgs p.val op v) ∧ t.fbit (F.NVC_RES_BUSY p.val) = true ∧
      SameRegs s t [R.NVC_RES p.val, R.NVC_STAT] ∧ SameMem s t) ∧
  (∀ (s : State) (m : Master) (p : Fin 3) (v : Word) (op r : Nat) (c : Instr),
    (c, op) ∈ [(Instr.nvcFindPod m p v, 1), (.nvcAppendPod m p v, 2), (.nvcAppendLog m p v, 3), (.nvcRead m p v, 4), (.nvcProgram m p v, 5),
      (.nvcErase m p v, 6), (.nvcCompact m p v, 7)] → s.grants m (R.NVC_CMD p.val) →
    (s.roles m).contains p.val = true → s.nvcOp p.val = none → s.nvcRefuse p.val (s.nvcArgs p.val op v) = some r →
    ∃ t, exec c s = .next t ∧ t.answered 0 ∧ t.nvcOp p.val = none ∧ t.fget (F.NVC_RES_RESULT p.val) = r ∧
      SameRegs s t [R.NVC_RES p.val] ∧ SameMem s t) ∧
  (∀ (s : State) (p : Fin 3) (o : NvcOp), s.lDead = false → s.nvcOp p.val = some o → o.op = 4 → inRegion o.addr o.len 3 = true →
    ∃ t, exec (.nvcOpComplete p true) s = .next t ∧ t.nvcOp p.val = none ∧ t.fbit (F.NVC_RES_BUSY p.val) = false ∧
      t.fget (F.NVC_RES_RESULT p.val) = 0 ∧ t.mgets o.addr o.len = s.fls o.nor o.len ∧
      ∀ a, a < o.addr ∨ o.addr + o.len ≤ a → t.mget a = s.mget a) ∧
  (∀ (s : State) (p : Fin 3) (o : NvcOp), s.lDead = false → s.nvcOp p.val = some o → o.op = 4 → inRegion o.addr o.len 3 = false →
    ∃ t, exec (.nvcOpComplete p true) s = .next t ∧ t.nvcOp p.val = none ∧ t.fbit (F.NVC_RES_BUSY p.val) = false ∧
      t.fget (F.NVC_RES_RESULT p.val) = 6 ∧ SameMem s t) ∧
  (∀ (s : State) (p : Fin 3) (o : NvcOp), s.lDead = false → s.nvcOp p.val = some o → o.op = 6 →
    ∃ t, exec (.nvcOpComplete p true) s = .next t ∧ t.nvcOp p.val = none ∧ t.fget (F.NVC_RES_RESULT p.val) = 0 ∧ SameMem s t ∧
      ∀ a, t.fl a = if o.nor / 4096 * 4096 ≤ a ∧ a < o.nor / 4096 * 4096 + 4096 then 0xFF else s.fl a) ∧
  (∀ (s : State) (p : Fin 3) (o : NvcOp), s.lDead = false → s.nvcOp p.val = some o → o.op = 1 →
    (s.bank (s.bankOf p.val o.old)).current o.type = none →
    ∃ t, exec (.nvcOpComplete p true) s = .next t ∧ t.nvcOp p.val = none ∧ t.fget (F.NVC_RES_RESULT p.val) = 1 ∧ SameMem s t) ∧
  (∀ (s : State) (p : Fin 3) (o : NvcOp), s.lDead = false → s.nvcOp p.val = some o → o.op = 2 →
    (s.bank (s.bankOf p.val false)).used + podSize o.len ≤ bankRoom →
    ∃ t q, exec (.nvcOpComplete p true) s = .next t ∧ t.nvcOp p.val = none ∧ t.fget (F.NVC_RES_RESULT p.val) = 0 ∧
      (t.bank (s.bankOf p.val false)).pods = q :: (s.bank (s.bankOf p.val false)).pods ∧ q.type = o.type ∧
      q.payload = s.mgets o.addr o.len ∧ q.seq = (s.bank (s.bankOf p.val false)).nextSeq ∧ t.rd (R.NVC_SEQ p.val) = q.seq ∧ SameMem s t) ∧
  (∀ (s : State) (p : Fin 3) (o : NvcOp), s.lDead = false → s.nvcOp p.val = some o → o.op = 2 →
    bankRoom < (s.bank (s.bankOf p.val false)).used + podSize o.len →
    ∃ t, exec (.nvcOpComplete p true) s = .next t ∧ t.nvcOp p.val = none ∧ t.fget (F.NVC_RES_RESULT p.val) = 3 ∧
      (∀ k, t.bank k = s.bank k) ∧ SameMem s t)

/-! ### Live update (spec/15) -/

/-- Staging: a block's commit starts or is refused (R644, R646), ends committed or failed (R646), is given up (R645), and a full image is
verified and staged, or invalid (R649). Where the spec leaves a point of it open, the model's choice is log entry 108. -/
def Obligations.Staging : Prop :=
  (∀ (s : State) (m : Master) (k : Nat) (tag : BitVec 16), s.grants m R.UPD_BLK_GO → s.upd.blk = none → s.targetSlot = some k →
    s.nvm.stage = some (tag, k) → s.fget F.UPD_BLK_NUM_TAG = tag.toNat → s.fget F.UPD_BLK_NUM_BLK < 4096 → s.fbit F.THM_STAT_NO_NVM = false →
    crc32c (s.mgets (s.rd R.UPD_BLK_ADDR).toNat 4096) = s.rd R.UPD_BLK_CRC →
    ∃ t g, exec (.updBlkGo m) s = .next t ∧ t.answered 0 ∧ t.upd.blk = some g ∧ g.blk.toNat = s.fget F.UPD_BLK_NUM_BLK ∧ g.tag = tag ∧
      t.fget F.UPD_STAT_BLK_RESULT = 0 ∧ t.fget F.UPD_STAT_STAGE = 1 ∧ SameRegs s t [R.UPD_STAT, R.NVC_STAT] ∧ SameMem s t) ∧
  (∀ (s : State) (m : Master), s.grants m R.UPD_BLK_GO → s.upd.blk.isSome = true →
    ∃ t, exec (.updBlkGo m) s = .next t ∧ t.answered 0 ∧ t.fget F.UPD_STAT_BLK_RESULT = 4 ∧ SameRegs s t [R.UPD_STAT] ∧ SameMem s t) ∧
  (∀ (s : State) (m : Master), s.grants m R.UPD_BLK_GO → s.upd.blk = none → s.targetSlot = none →
    ∃ t, exec (.updBlkGo m) s = .next t ∧ t.answered 0 ∧ t.fget F.UPD_STAT_BLK_RESULT = 3 ∧ SameRegs s t [R.UPD_STAT] ∧ SameMem s t) ∧
  (∀ (s : State) (g : BlkGo) (tag : BitVec 16) (k : Nat), s.lDead = false → s.upd.blk = some g → s.nvm.stage = some (tag, k) →
    ∃ t, exec (.updBlockCommitted true) s = .next t ∧ t.upd.blk = none ∧ t.fget F.UPD_STAT_BLK_RESULT = 1 ∧
      SMap.get (fun _ => none) t.nvm.commits g.blk.toNat = some g.crc ∧ SameMem s t) ∧
  (∀ (s : State) (g : BlkGo) (tag : BitVec 16) (k : Nat), s.lDead = false → s.upd.blk = some g → s.nvm.stage = some (tag, k) → s.room 8 →
    ∃ t, exec (.updBlockCommitted false) s = .next t ∧ t.upd.blk = none ∧ t.fget F.UPD_STAT_BLK_RESULT = 2 ∧
      Journaled s t C.UPD_BLOCK_FAIL 255 { w0 := bytes4 g.blk.toNat (g.blk.toNat / 256) 4 0 } ∧ SameMem s t) ∧
  (∀ (s : State) (m : Master) (v : Word) (tag : BitVec 16) (k : Nat), s.grants m R.UPD_STG_CTRL → s.nvm.stage = some (tag, k) →
    s.upd.blk = none → (s.hdr.slot k).state = 2 → s.hdr.inUse k = false → s.upd.armed = none →
    ∃ t, exec (.updStgAbandon m v) s = .next t ∧ t.answered 0 ∧ (t.hdr.slot k).state = 0 ∧ t.nvm.stage = none ∧
      t.fget F.UPD_STAT_STAGE = 0 ∧ SameMem s t) ∧
  (∀ (s : State) (tag : BitVec 16) (k : Nat), s.lDead = false → s.nvm.stage = some (tag, k) → s.fget F.UPD_STAT_STAGE = 2 →
    s.fbit F.THM_STAT_NO_NVM = false → s.room 4 →
    ∃ t, exec .updStaged s = .next t ∧ SameMem s t ∧
      match s.imgFail k with
      | none => (t.hdr.slot k).state = 2 ∧ (t.hdr.slot k).bank = 1 - s.bankOf 0 false ∧ t.fget F.UPD_STAT_STAGE = 4 ∧
          Journaled s t C.UPD_STAGED 255 { w0 := halves tag.toNat 0, w1 := (t.hdr.slot k).bankGen }
      | some why => (t.hdr.slot k).state = 0 ∧ t.fget F.UPD_STAT_STAGE = 0 ∧
          Journaled s t C.UPD_STAGE_INVALID 255 { w0 := bytes4 tag.toNat (tag.toNat / 256) why 0 })

/-- Activation: ARM takes an activation whose image's signature verifies and whose time is in range (R651), CANCEL drops it, the update
interrupt and READY (R652), the restart at T of a pair whose window holds (R653, R654), and the end of its copy (R654). Where the spec
leaves a point of it open, the model's choice is log entry 109. -/
def Obligations.Activation : Prop :=
  (∀ (s : State) (m : Master) (v : Word) (k : Nat), s.grants m R.UPD_ACT_CTRL → v.getLsbD 1 = false →
    s.actSlot (BitVec.ofNat 16 (s.fget F.UPD_ACT_TAG_TAG)) = some k →
    s.now + msTicks 100 ≤ (tickOf (s.rd R.UPD_ACT_TIME_LO) (s.rd R.UPD_ACT_TIME_HI)).toNat →
    (tickOf (s.rd R.UPD_ACT_TIME_LO) (s.rd R.UPD_ACT_TIME_HI)).toNat ≤ s.now + msTicks 3600000 →
    ∃ t, exec (.updActArm m v) s = .next t ∧ t.answered 0 ∧ t.fbit F.SEC_STAT_PASS = s.imgSigOk k ∧
      (s.imgSigOk k = true → t.fbit F.UPD_ACT_STAT_ARMED = true ∧
        ∃ a, t.upd.armed = some a ∧ a.tag.toNat = s.fget F.UPD_ACT_TAG_TAG ∧ a.at_ = tickOf (s.rd R.UPD_ACT_TIME_LO) (s.rd R.UPD_ACT_TIME_HI)) ∧
      (s.imgSigOk k = false → t.upd.armed = s.upd.armed) ∧ SameRegs s t [R.UPD_ACT_STAT, R.SEC_STAT] ∧ SameMem s t) ∧
  (∀ (s : State) (m : Master) (v : Word), s.grants m R.UPD_ACT_CTRL → v.getLsbD 0 = false → s.upd.fired = false →
    ∃ t, exec (.updActCancel m v) s = .next t ∧ t.answered 0 ∧ t.upd.armed = none ∧ t.fbit F.UPD_ACT_STAT_ARMED = false ∧
      SameRegs s t [R.UPD_ACT_STAT] ∧ SameMem s t) ∧
  (∀ (s : State) (a : Armed), s.upd.armed = some a → a.at_.toNat ≤ s.now + msTicks (s.fget F.UPD_CFG_PRE_T) → s.lDead = false →
    ∃ t, exec .updPreInterrupt s = .next t ∧ (∀ p : Fin 3, a.mask.getLsbD p.val = true → (t.updP p.val).told = true) ∧
      SameRegs s t [] ∧ SameMem s t) ∧
  (∀ (s : State) (p : Fin 3), (s.updP p.val).told = true → s.pairFrozen p.val = false →
    ∃ t, exec (.updhoReady p) s = .next t ∧ (t.updP p.val).ready = true ∧ (∀ a, t.rd a = s.rd a) ∧ SameMem s t) ∧
  (∀ (s : State) (p : Fin 3) (a : Armed) (k : Nat), s.lDead = false → s.upd.armed = some a → s.upd.fired = false → a.at_.toNat ≤ s.now →
    a.mask = BitVec.ofNat 3 (2 ^ p.val) → s.actSlot a.tag = some k → (s.hdr.slot (s.hdr.runs p.val)).tag ≠ a.tag → s.windowFail p.val = none →
    ∃ t, exec .updActivate s = .next t ∧ (t.updP p.val).run = some { slot := k, start := s.time, why := .activate } ∧ SameMem s t) ∧
  (∀ (s : State) (p : Fin 3) (r : Restart), s.lDead = false → (s.updP p.val).run = some r → r.slot < 2 → s.room 4 →
    (((s.segs r.slot).filter fun g => g.owner == p.val).all fun g => s.segOk r.slot g) = true →
    ∃ t, exec (.updActDone p) s = .next t ∧ (t.updP p.val).run = none ∧ t.hdr.runs p.val = r.slot ∧
      ((s.hdr.slot r.slot).state = 2 → (t.hdr.slot r.slot).state = 3) ∧
      Journaled s t C.UPD_ACT_DONE p.val { w0 := halves (s.hdr.slot r.slot).tag.toNat 0, w1 := w32 ((s.time - r.start) / 800) })

/-- Migration done (R661), failed or timed out: the slot is given up and every pair that runs it restarted (R662); confirmation by firmware and
by time (R664). Where the spec leaves a point of it open, the model's choice is log entries 109, 156. -/
def Obligations.MigrationAndConfirmation : Prop :=
  (∀ (s : State) (p : Fin 3), (s.updP p.val).mig.isSome = true → s.pairFrozen p.val = false → s.restarting p.val = false → s.room 4 →
    ∃ t, exec (.updhoMigDone p) s = .next t ∧ (t.updP p.val).mig = none ∧ t.fget (F.UPD_PAIR_STAT_MIG p.val) = 0 ∧
      (t.hdr.slot (s.hdr.runs p.val)).migrated.getLsbD p.val = true ∧
      Journaled s t C.UPD_MIG_DONE p.val { w0 := halves (s.hdr.slot (s.hdr.runs p.val)).tag.toNat 0 } ∧ SameMem s t) ∧
  (∀ (s : State) (p : Fin 3) (c : Instr), (s.updP p.val).mig.isSome = true → s.restarting p.val = false → s.room 4 →
    ((c = .updhoMigFail p ∧ s.pairFrozen p.val = false) ∨
      (c = .updMigTimeout p ∧ s.lasted (s.updP p.val).mig (msTicks (100 * s.fget F.UPD_CFG_MIG_TMO)) = true)) →
    ∃ t, exec c s = .next t ∧ (t.hdr.slot (s.hdr.runs p.val)).state = 6 ∧
      (t.hdr.slot (s.hdr.runs p.val)).unbootGen = s.oldGen (s.hdr.runs p.val) ∧
      (∀ q : Fin 3, s.hdr.runs q.val = s.hdr.runs p.val → t.restarting q.val = true) ∧
      (∃ w, Journaled s t C.UPD_REVERTED p.val w) ∧ SameMem s t) ∧
  (∀ (s : State) (m : Master) (v : Word), s.grants m R.UPD_CMD → s.confReady = none →
    ∃ t, exec (.updCmdConfirm m v) s = .next t ∧ t.answered 0 ∧ t.fget F.UPD_STAT_CONF_RESULT = 2 ∧ SameRegs s t [R.UPD_STAT] ∧ SameMem s t) ∧
  (∀ (s : State) (m : Master) (v : Word) (k : Nat), s.grants m R.UPD_CMD → s.confReady = some k →
    (s.hdr.slot k).tag.toNat = bits v 31 16 → s.room 4 →
    ∃ t, exec (.updCmdConfirm m v) s = .next t ∧ t.answered 0 ∧ (t.hdr.slot k).state = 4 ∧ (t.hdr.slot (1 - k)).state = 5 ∧
      t.fget F.UPD_STAT_CONF_RESULT = 1 ∧
      Journaled s t C.UPD_CONFIRMED 255 { w0 := bytes4 (s.hdr.slot k).tag.toNat ((s.hdr.slot k).tag.toNat / 256) 0 0 } ∧ SameMem s t) ∧
  (∀ (s : State) (k : Nat), s.confReady = some k → s.confSteady = true → s.fbit F.THM_STAT_NO_NVM = false →
    s.lasted s.upd.confSince (msTicks (1000 * s.fget F.UPD_CFG_CONF_T)) = true → s.room 4 →
    ∃ t, exec .updConfirmTimeout s = .next t ∧ (t.hdr.slot k).state = 4 ∧ (t.hdr.slot (1 - k)).state = 5 ∧
      t.fget F.UPD_STAT_CONF_RESULT = 1 ∧
      Journaled s t C.UPD_CONFIRMED 255 { w0 := bytes4 (s.hdr.slot k).tag.toNat ((s.hdr.slot k).tag.toNat / 256) 1 0 } ∧ SameMem s t)


/-! ### Event counters, the Gong record and Rattle (spec/16), the test port (spec/17) -/

/-- A write of PMC_MODE leaves the present control cycle in the old mode (R668); PMC_CLR clears the counters of its bits and no other (R672); a
counter goes on by the occurrences of its event, and past its end sets its PMC_OVF bit and raises PMC_OVERFLOW (R667, R669). The first FATAL
record freezes the snapshot and latches its cause (R675); a further one is only counted (R677); DONE ends in the FATAL reset, and is ignored
while nothing is frozen (R679). Where the spec leaves a point of it open, the model's choice is log entries 110, 111. -/
def Obligations.CountersAndGong : Prop :=
  (∀ (s : State) (m : Master) (w : Fin 16) (v : Word), s.grants m (R.PMC_MODE w.val) → s.pmc.cyc = s.cyc →
    ∃ t, exec (.pmcModeWrite m w v) s = .next t ∧ t.answered 0 ∧ t.rd (R.PMC_MODE w.val) = v ∧
      (∀ n, n / 32 = w.val → t.pmcLevel n = s.pmcLevel n) ∧ SameRegs s t [R.PMC_MODE w.val] ∧ SameMem s t) ∧
  (∀ (s : State) (m : Master) (w : Fin 16) (v : Word), s.grants m (R.PMC_CLR w.val) → s.pmc.cyc = s.cyc →
    ∃ t, exec (.pmcClr m w v) s = .next t ∧ t.answered 0 ∧
      (∀ i, i < 32 → v.getLsbD i = true → (t.pmcNow (32 * w.val + i)).clear = true) ∧
      (∀ i, i < 32 → v.getLsbD i = false → t.pmcNow (32 * w.val + i) = s.pmcNow (32 * w.val + i)) ∧
      (∀ n, n / 32 ≠ w.val → t.pmcNow n = s.pmcNow n) ∧ (∀ n, t.pmcBase n = s.pmcBase n) ∧ SameRegs s t [] ∧ SameMem s t) ∧
  (∀ (s : State) (n : Fin 512) (c : Fin 4), s.lDead = false → s.pmc.cyc = s.cyc → s.pmcLevel n.val = false →
    (s.pmcBase n.val).toNat + (s.pmcNow n.val).add + c.val < 2 ^ 48 →
    ∃ t, exec (.pmcOverflow n c) s = .next t ∧ (t.pmcNow n.val).add = (s.pmcNow n.val).add + c.val ∧ (∀ k, t.pmcBase k = s.pmcBase k) ∧
      (∀ a, t.rd a = s.rd a) ∧ SameMem s t) ∧
  (∀ (s : State) (n : Fin 512) (c : Fin 4), s.lDead = false → s.pmc.cyc = s.cyc → s.pmcLevel n.val = false →
    (s.pmcBase n.val).toNat + (s.pmcNow n.val).add < 2 ^ 48 → 2 ^ 48 ≤ (s.pmcBase n.val).toNat + (s.pmcNow n.val).add + c.val → s.room 4 →
    ∃ t, exec (.pmcOverflow n c) s = .next t ∧ t.rbit (R.PMC_OVF (n.val / 32)) (n.val % 32) = true ∧
      Journaled s t C.PMC_OVERFLOW (n.val % 256) { w0 := halves n.val 0 } ∧ SameRegs s t [] ∧ SameMem s t) ∧
  (∀ (s : State) (v0 v1 v2 : Verified) (r : React) (l : List React), takeReact 5 s.reacts = some (r, l) → s.fbit F.PMC_GNG_STAT_FROZEN = false →
    ∃ t, exec (.gongFreeze v0 v1 v2) s = .next t ∧ t.fbit F.PMC_GNG_STAT_FROZEN = true ∧ t.rd R.PMC_GNG_CAUSE_LO = loWord r.stamp ∧
      t.rd R.PMC_GNG_CAUSE_HI = hiWord r.stamp ∧ t.fget F.PMC_GNG_CODE_CODE = r.code.toNat ∧ t.fget F.PMC_GNG_CODE_INST = r.inst.toNat ∧
      t.gong.fatalAt.isSome = true) ∧
  (∀ (s : State) (v0 v1 v2 : Verified) (r : React) (l : List React), takeReact 5 s.reacts = some (r, l) → s.fbit F.PMC_GNG_STAT_FROZEN = true →
    ∃ t, exec (.gongFreeze v0 v1 v2) s = .next t ∧ t.gong.win = s.gong.win ∧
      t.fget F.PMC_GNG_STAT_EXTRA = min (s.fget F.PMC_GNG_STAT_EXTRA + 1) 65535 ∧ t.rd R.PMC_GNG_CAUSE_LO = s.rd R.PMC_GNG_CAUSE_LO ∧
      t.rd R.PMC_GNG_CAUSE_HI = s.rd R.PMC_GNG_CAUSE_HI ∧ t.rd R.PMC_GNG_CODE = s.rd R.PMC_GNG_CODE) ∧
  (∀ (s : State) (m : Master) (v : Word) (f : FlashBoot), s.grants m R.PMC_GNG_CTRL → v.getLsbD 0 = true → s.fbit F.PMC_GNG_STAT_FROZEN = true →
    ∃ t, exec (.pmcGngDone m v f) s = .next t ∧ t.clave = s.clave ∧ t.seq.mode = .arming ∧ t.rd R.SYS_RESET_CAUSE = 4) ∧
  (∀ (s : State) (m : Master) (v : Word) (f : FlashBoot), s.grants m R.PMC_GNG_CTRL → s.fbit F.PMC_GNG_STAT_FROZEN = false →
    ∃ t, exec (.pmcGngDone m v f) s = .next t ∧ t.answered 0 ∧ (∀ a, t.rd a = s.rd a) ∧ SameMem s t)

/-- The two key words in SERVICE unlock the Rattle registers (R681); a write outside SERVICE, or while locked, is ignored and journalled (R682);
a forced mismatch of a joined pair is journalled (R685), and a step moves Clave forward by its size, or is ignored where R687 says so. Where
the spec leaves a point of it open, the model's choice is log entry 112. -/
def Obligations.Rattle : Prop :=
  (∀ (s : State) (m : Master), s.grants m R.RTL_KEY → s.seq.mode = .service →
    s.rtl.key = false →
    ∃ t, exec (.rtlKey m 0x7A77) s = .next t ∧ t.answered 0 ∧ t.rtl.key = true ∧ SameRegs s t [] ∧ SameMem s t) ∧
  (∀ (s : State) (m : Master), s.grants m R.RTL_KEY → s.seq.mode = .service → s.rtl.key = true → s.room 4 →
    ∃ t, exec (.rtlKey m 0x1E55) s = .next t ∧ t.answered 0 ∧ t.fbit F.RTL_STAT_UNLOCKED = true ∧ Journaled s t C.RTL_UNLOCKED 255 {} ∧
      SameRegs s t [R.RTL_STAT] ∧ SameMem s t) ∧
  (∀ (s : State) (m : Master) (v : Word), s.grants m R.RTL_KEY → s.inMode .service = false → s.room 4 →
    ∃ t, exec (.rtlKey m v) s = .next t ∧ t.answered 0 ∧
      Journaled s t C.RTL_WRITE_IGNORED 255 { w0 := bytes4 0 0 s.seq.mode.code 1 } ∧ SameRegs s t [] ∧ SameMem s t) ∧
  (∀ (s : State) (m : Master) (v : Word) (w : Verified) (e : Option VrfErr), s.grants m R.RTL_MISM → s.seq.mode = .service →
    s.fbit F.RTL_STAT_UNLOCKED = false → s.room 4 →
    ∃ t, exec (.rtlMismGo m v w e) s = .next t ∧ t.answered 0 ∧
      Journaled s t C.RTL_WRITE_IGNORED 255 { w0 := bytes4 0x50 0 s.seq.mode.code 0 } ∧ SameRegs s t [] ∧ SameMem s t) ∧
  (∀ (s : State) (m : Master) (v : Word) (w : Verified) (e : Option VrfErr), s.grants m R.RTL_MISM → s.seq.mode = .service →
    s.fbit F.RTL_STAT_UNLOCKED = true → s.triangle = false → bits v 1 0 < 3 → bits v 5 4 < 3 → bits v 10 8 < 4 →
    s.lksSt (bits v 1 0) = 0 → s.room 4 →
    ∃ t, exec (.rtlMismGo m v w e) s = .next t ∧ t.answered 0 ∧
      Journaled s t C.RTL_INJECT (bits v 1 0) { w0 := bytes4 (bits v 5 4) (bits v 10 8) (bits v 12 12) 0 }) ∧
  (∀ (s : State) (m : Master) (d : Nat), s.grants m R.RTL_STEP_GO → s.seq.mode = .service → s.fbit F.RTL_STAT_UNLOCKED = true →
    (tickOf (s.rd R.RTL_STEP_LO) (s.rd R.RTL_STEP_HI)).toNat = d → 1 ≤ d → d ≤ 2 ^ 40 → s.room 4 →
    ∃ t, exec (.rtlStepGo m) s = .next t ∧ t.answered 0 ∧ t.clave = s.clave + BitVec.ofNat 64 d ∧
      Journaled s t C.CLV_STEP 0 { w0 := loWord s.clave, w1 := hiWord s.clave, w2 := loWord t.clave, w3 := hiWord t.clave }) ∧
  (∀ (s : State) (m : Master), s.grants m R.RTL_STEP_GO → s.seq.mode = .service → s.fbit F.RTL_STAT_UNLOCKED = true →
    (tickOf (s.rd R.RTL_STEP_LO) (s.rd R.RTL_STEP_HI)).toNat = 0 ∨ 2 ^ 40 < (tickOf (s.rd R.RTL_STEP_LO) (s.rd R.RTL_STEP_HI)).toNat → s.room 4 →
    ∃ t, exec (.rtlStepGo m) s = .next t ∧ t.answered 0 ∧ t.clave = s.clave ∧
      Journaled s t C.RTL_WRITE_IGNORED 255 { w0 := bytes4 0x68 0 s.seq.mode.code 2 } ∧ SameRegs s t [] ∧ SameMem s t)

/-- The test port: IDCODE and BYPASS, a challenge of 24 bytes with one response, EXTEST and DBG only after unlock, EXTEST only in SERVICE (R707,
R708). No register and no memory changes, the debug reset left aside. Where the spec leaves a point of it open, the model's choice is log
entries 12, 113. -/
def Obligations.TestPort : Prop :=
  (∀ (s : State) (b c : Byte), s.lDead = false →
    ∃ t, exec (.jtagBypass [b, c]) s = .next t ∧ t.jtag.out = [b <<< 1, (c <<< 1) ||| (if b.getLsbD 7 then 1 else 0)] ∧
      t.jtag.extest = false ∧ (∀ a, t.rd a = s.rd a) ∧ SameMem s t) ∧
  (∀ (s : State) (tdi : List Byte), s.lDead = false →
    ∃ t, exec (.jtagBypass tdi) s = .next t ∧ t.jtag.out = bypassBytes false tdi ∧ t.jtag.out.length = tdi.length ∧
      t.jtag.extest = false ∧ (∀ a, t.rd a = s.rd a) ∧ SameMem s t) ∧
  (∀ s : State, s.lDead = false →
    ∃ t, exec .jtagIdcode s = .next t ∧ t.jtag.out = [0x4D, 0x05, 0x82, 0x16] ∧ t.jtag.extest = false ∧ (∀ a, t.rd a = s.rd a) ∧ SameMem s t) ∧
  (∀ (s : State) (cells : List Bool), s.lDead = false →
    ∃ t, exec (.jtagSamplePreload cells) s = .next t ∧ t.jtag.cells = cells ∧ t.jtag.out.length = (cells.length + 7) / 8 ∧
      (∀ a, t.rd a = s.rd a) ∧ SameMem s t) ∧
  (∀ s : State, s.lDead = false →
    ∃ t, exec .jtagDbgChal s = .next t ∧ t.jtag.chal = some t.jtag.out ∧ t.jtag.out.length = 24 ∧
      t.jtag.unlocked = s.jtag.unlocked ∧ (∀ a, t.rd a = s.rd a) ∧ SameMem s t) ∧
  (∀ (s : State) (sig : List Byte), s.lDead = false →
    ∃ t, exec (.jtagDbgResp sig) s = .next t ∧ t.jtag.chal = none ∧
      (s.jtag.chal = none ∨ s.rbit R.SEC_REVOKE 1 = true ∨ sig.length ≠ 64 → t.jtag.unlocked = s.jtag.unlocked) ∧
      (s.jtag.unlocked = true → t.jtag.unlocked = true) ∧ (∀ a, t.rd a = s.rd a) ∧ SameMem s t) ∧
  (∀ s : State, s.lDead = false →
    ∃ t, exec .jtagExtest s = .next t ∧ t.jtag.extest = (s.jtag.unlocked && s.inMode .service) ∧ (∀ a, t.rd a = s.rd a) ∧ SameMem s t) ∧
  (∀ (s : State) (c : Fin 6), s.lDead = false →
    ∃ t, exec (.jtagDbg (.halt c)) s = .next t ∧ t.jtag.halted.getLsbD c.val = (s.jtag.unlocked || s.jtag.halted.getLsbD c.val) ∧
      (∀ d : Fin 6, d ≠ c → t.jtag.halted.getLsbD d.val = s.jtag.halted.getLsbD d.val) ∧ (∀ a, t.rd a = s.rd a) ∧ SameMem s t) ∧
  (∀ (s : State) (c : Fin 6), s.lDead = false →
    ∃ t, exec (.jtagDbg (.resume c)) s = .next t ∧ t.jtag.halted.getLsbD c.val = (!s.jtag.unlocked && s.jtag.halted.getLsbD c.val) ∧
      (∀ d : Fin 6, d ≠ c → t.jtag.halted.getLsbD d.val = s.jtag.halted.getLsbD d.val) ∧ (∀ a, t.rd a = s.rd a) ∧ SameMem s t) ∧
  (∀ (s : State) (c : Fin 6), s.lDead = false →
    ∃ t, exec (.jtagDbg (.step c)) s = .next t ∧ t.jtag.halted = s.jtag.halted ∧
      t.jtag.stepped.getLsbD c.val = ((s.jtag.unlocked && s.jtag.halted.getLsbD c.val) || s.jtag.stepped.getLsbD c.val) ∧
      (∀ a, t.rd a = s.rd a) ∧ SameMem s t) ∧
  (∀ (s : State) (f : FlashBoot), s.lDead = false → s.jtag.unlocked = true →
    ∃ t, exec (.jtagDbg (.reset f)) s = .next t ∧ t.clave = s.clave ∧ t.seq.mode = .arming ∧ t.seq.safeLatch = s.seq.safeLatch ∧
      t.rd R.JRN_NEXT_SEQ = s.rd R.JRN_NEXT_SEQ ∧ t.jrn.pins = s.jrn.pins ∧
      ∀ a, a < 0x10C40000 ∨ (0x10D20000 ≤ a ∧ a < 0x10D22000) → t.mget a = s.mget a) ∧
  (∀ (s : State) (f : FlashBoot), s.lDead = false → s.jtag.unlocked = false →
    ∃ t, exec (.jtagDbg (.reset f)) s = .next t ∧ t.seq = s.seq ∧ (∀ a, t.rd a = s.rd a) ∧ SameMem s t)

/-! ### What commands leave alone -/

/-- The frame of the commands of the closed-loop engine, the converters, torque control and position feedback whose own statement does not give
it: the command completes, no register outside those `controlFrame` names for it changes, and no byte of memory. The frame of the commands
of the bridges, the gate drivers, the LV network converter, the charger, the actuators, thermal and the supplies whose own statement does
not give it: the command completes, no register outside those `powerFrame` names for it changes, and no byte of memory. -/
def Obligations.ControlAndPowerFrames : Prop :=
  (∀ (s : State) (c : Instr) (l : List Nat), controlFrame c = some l → ∃ t, exec c s = .next t ∧ SameRegs s t l ∧ SameMem s t) ∧
  (∀ (s : State) (c : Instr) (l : List Nat), powerFrame c = some l → ∃ t, exec c s = .next t ∧ SameRegs s t l ∧ SameMem s t)

/-- The registers that commands of modes, boot, the links, the safety channels, lockstep, the host interface, OmterLink, NVM, update, the
journal and Rattle leave alone: the command completes, and no register outside those `systemFrame` names for it changes. -/
def Obligations.SystemFrames : Prop :=
  ∀ (s : State) (c : Instr) (l : List Nat), systemFrame c = some l → ∃ t, exec c s = .next t ∧ SameRegs s t l

/-- Memory under every well-formed command: only the bytes that `State.stores` names for the command may change: a store's own bytes, what a
reset loses, the ring slot and the pinned area of an insertion, the next slot of a receive queue, the firmware block buffers, the data of an
NVM operation, the segments of a restarted pair. Where the spec leaves a point of it open, the model's choice is log entry 5. -/
def Obligations.MemoryFrame : Prop :=
  ∀ (s : State) (c : Instr), c.wf = true → ∃ t, exec c s = .next t ∧ ∀ a, s.stores a c = false → t.mget a = s.mget a
end

