-- ==== Sys2Proof/Laws/Maps.lean ====
section
/-! SUPPORT. The laws of sparse maps: what a read gives after a write, and that every operation keeps the canonical form. -/

namespace Sys2Proof.Machine

variable {V : Type} (d : Nat → V) (m : SMap V) (j k : Nat) (v : V)

/-- An empty map reads as its default. -/
@[simp] theorem SMap.get_nil : SMap.get d [] k = d k := rfl

/-- A read after an erasure of the same key gives the default. -/
@[simp] theorem SMap.get_erase_self : SMap.get d (SMap.erase m k) k = d k := by
  induction m with
  | nil => rfl
  | cons p t ih =>
    obtain ⟨a, b⟩ := p
    by_cases h : k = a <;> simp [SMap.erase, SMap.get, h]
    · simpa [h] using ih
    · simpa using ih

/-- An erasure leaves every other key alone. -/
theorem SMap.get_erase_of_ne (h : j ≠ k) : SMap.get d (SMap.erase m k) j = SMap.get d m j := by
  induction m with
  | nil => rfl
  | cons p t ih =>
    obtain ⟨a, b⟩ := p
    by_cases hk : k = a
    · subst hk; simp [SMap.erase, SMap.get, h, ih]
    · by_cases hj : j = a <;> simp [SMap.erase, SMap.get, hk, hj, ih]

/-- A read after an insertion of a key that the map did not hold. -/
theorem SMap.get_insert_self (h : SMap.get (fun _ => none) (m.map fun p => (p.1, some p.2)) k = none) :
    SMap.get d (SMap.insert m k v) k = v := by
  induction m with
  | nil => simp [SMap.insert, SMap.get]
  | cons p t ih =>
    obtain ⟨a, b⟩ := p
    by_cases hk : k = a
    · simp [SMap.get, hk] at h
    · by_cases hl : k < a <;> simp [SMap.insert, SMap.get, hk, hl]
      exact ih (by simpa [SMap.get, hk] using h)

/-- An insertion leaves every other key alone. -/
theorem SMap.get_insert_of_ne (h : j ≠ k) : SMap.get d (SMap.insert m k v) j = SMap.get d m j := by
  induction m with
  | nil => simp [SMap.insert, SMap.get, h]
  | cons p t ih =>
    obtain ⟨a, b⟩ := p
    by_cases hl : k < a <;> by_cases hj : j = a <;> simp [SMap.insert, SMap.get, hl, hj, h, ih]
    all_goals (intro e; subst hj; exact absurd e h)

/-- An erased key is not held. -/
theorem SMap.absent_erase : SMap.get (fun _ => none) ((SMap.erase m k).map fun p => (p.1, some p.2)) k = none := by
  induction m with
  | nil => rfl
  | cons p t ih =>
    obtain ⟨a, b⟩ := p
    by_cases hk : k = a <;> simp [SMap.erase, SMap.get, hk]
    · simpa [hk] using ih
    · simpa using ih

/-- A read after a write of the same key gives the value written. -/
@[simp] theorem SMap.get_set_self [DecidableEq V] : SMap.get d (SMap.set d m k v) k = v := by
  unfold SMap.set
  split
  · next h => simp [h]
  · exact SMap.get_insert_self d _ k v (SMap.absent_erase m k)

/-- A write leaves every other key alone. -/
theorem SMap.get_set_of_ne [DecidableEq V] (h : j ≠ k) : SMap.get d (SMap.set d m k v) j = SMap.get d m j := by
  unfold SMap.set
  split
  · exact SMap.get_erase_of_ne d m j k h
  · rw [SMap.get_insert_of_ne d _ j k v h, SMap.get_erase_of_ne d m j k h]

/-- What a read gives after a write. -/
theorem SMap.get_set [DecidableEq V] : SMap.get d (SMap.set d m k v) j = if j = k then v else SMap.get d m j := by
  split
  · next h => simp [h]
  · next h => exact SMap.get_set_of_ne d m j k v h

/-! ### The canonical form -/

theorem SMap.above_erase (a : Nat) (h : SMap.above a m = true) : SMap.above a (SMap.erase m k) = true := by
  induction m with
  | nil => rfl
  | cons p t ih =>
    obtain ⟨x, y⟩ := p
    simp only [SMap.above, List.all_cons, Bool.and_eq_true] at h ih
    unfold SMap.erase
    split
    · exact ih h.2
    · simp only [SMap.above, List.all_cons, Bool.and_eq_true]; exact ⟨h.1, ih h.2⟩

theorem SMap.above_insert (a : Nat) (hk : a < k) (h : SMap.above a m = true) : SMap.above a (SMap.insert m k v) = true := by
  induction m with
  | nil => simp [SMap.insert, SMap.above, hk]
  | cons p t ih =>
    obtain ⟨x, y⟩ := p
    simp only [SMap.above, List.all_cons, Bool.and_eq_true] at h ih
    unfold SMap.insert
    split
    · simp only [SMap.above, List.all_cons, Bool.and_eq_true]; exact ⟨by simpa using hk, h.1, h.2⟩
    · simp only [SMap.above, List.all_cons, Bool.and_eq_true]; exact ⟨h.1, ih h.2⟩

theorem SMap.above_mono {a b : Nat} (hab : a < b) (h : SMap.above b m = true) : SMap.above a m = true := by
  simp only [SMap.above, List.all_eq_true, decide_eq_true_eq] at h ⊢
  intro p hp; exact Nat.lt_trans hab (h p hp)

theorem SMap.above_filter (a : Nat) (q : Nat × V → Bool) (h : SMap.above a m = true) : SMap.above a (m.filter q) = true := by
  simp only [SMap.above, List.all_eq_true, decide_eq_true_eq] at h ⊢
  intro p hp; exact h p (List.mem_filter.mp hp).1

variable [DecidableEq V]

/-- An erasure keeps the canonical form. -/
theorem SMap.wf_erase (h : SMap.wf d m = true) : SMap.wf d (SMap.erase m k) = true := by
  induction m with
  | nil => rfl
  | cons p t ih =>
    obtain ⟨x, y⟩ := p
    simp only [SMap.wf, Bool.and_eq_true] at h
    unfold SMap.erase
    split
    · exact ih h.2
    · simp only [SMap.wf, Bool.and_eq_true]; exact ⟨⟨h.1.1, SMap.above_erase t k x h.1.2⟩, ih h.2⟩

/-- An insertion of a key not held, with a value other than its default, keeps the canonical form. -/
theorem SMap.wf_insert (hv : v ≠ d k) (hk : ∀ p ∈ m, p.1 ≠ k) (h : SMap.wf d m = true) : SMap.wf d (SMap.insert m k v) = true := by
  induction m with
  | nil => simp [SMap.insert, SMap.wf, SMap.above, hv]
  | cons p t ih =>
    obtain ⟨x, y⟩ := p
    have hx : x ≠ k := hk (x, y) List.mem_cons_self
    have ht : ∀ p ∈ t, p.1 ≠ k := fun p hp => hk p (List.mem_cons_of_mem _ hp)
    simp only [SMap.wf, Bool.and_eq_true] at h
    unfold SMap.insert
    split
    · next hlt =>
      have ha := SMap.above_mono t hlt h.1.2
      simp only [SMap.above] at ha
      simp only [SMap.wf, SMap.above, List.all_cons, Bool.and_eq_true]
      exact ⟨⟨by simpa using hv, by simpa using hlt, ha⟩, h⟩
    · next hge =>
      simp only [SMap.wf, Bool.and_eq_true]
      exact ⟨⟨h.1.1, SMap.above_insert t k v x (by omega) h.1.2⟩, ih ht h.2⟩

omit [DecidableEq V] in
theorem SMap.erase_ne : ∀ p ∈ SMap.erase m k, p.1 ≠ k := by
  induction m with
  | nil => simp [SMap.erase]
  | cons p t ih =>
    obtain ⟨x, y⟩ := p
    unfold SMap.erase
    split
    · exact ih
    · next h =>
      intro p hp
      rcases List.mem_cons.mp hp with rfl | hp
      · exact fun e => h e.symm
      · exact ih p hp

/-- A write keeps the canonical form. -/
theorem SMap.wf_set (h : SMap.wf d m = true) : SMap.wf d (SMap.set d m k v) = true := by
  unfold SMap.set
  split
  · exact SMap.wf_erase d m k h
  · next hv => exact SMap.wf_insert d _ k v hv (SMap.erase_ne m k) (SMap.wf_erase d m k h)

/-- A selection of entries keeps the canonical form. -/
theorem SMap.wf_filter (q : Nat × V → Bool) (h : SMap.wf d m = true) : SMap.wf d (m.filter q) = true := by
  induction m with
  | nil => rfl
  | cons p t ih =>
    obtain ⟨x, y⟩ := p
    simp only [SMap.wf, Bool.and_eq_true] at h
    by_cases hq : q (x, y) = true
    · simp only [List.filter_cons, hq, if_true, SMap.wf, Bool.and_eq_true]
      exact ⟨⟨h.1.1, SMap.above_filter t x q h.1.2⟩, ih h.2⟩
    · simp only [List.filter_cons, hq]; exact ih h.2

end Sys2Proof.Machine
end

