-- ==== Sys2Proof/Laws/State.lean ====
section
/-! SUPPORT. What the basic updates of the state leave alone, field by field, and what a read gives after a write: of registers, fields, signals and memory. -/

namespace Sys2Proof.Machine

variable (s : State)

/-! ### `wr` -/

@[simp] theorem State.wr_clave (a : Nat) (v : Word) : (s.wr a v).clave = s.clave := rfl
@[simp] theorem State.wr_time (a : Nat) (v : Word) : (s.wr a v).time = s.time := rfl
@[simp] theorem State.wr_mem (a : Nat) (v : Word) : (s.wr a v).mem = s.mem := rfl
@[simp] theorem State.wr_sig (a : Nat) (v : Word) : (s.wr a v).sig = s.sig := rfl
@[simp] theorem State.wr_bus (a : Nat) (v : Word) : (s.wr a v).bus = s.bus := rfl
@[simp] theorem State.wr_writes (a : Nat) (v : Word) : (s.wr a v).writes = s.writes := rfl
@[simp] theorem State.wr_free (a : Nat) (v : Word) : (s.wr a v).free = s.free := rfl
@[simp] theorem State.wr_irqs (a : Nat) (v : Word) : (s.wr a v).irqs = s.irqs := rfl
@[simp] theorem State.wr_reacts (a : Nat) (v : Word) : (s.wr a v).reacts = s.reacts := rfl
@[simp] theorem State.wr_clocks (a : Nat) (v : Word) : (s.wr a v).clocks = s.clocks := rfl
@[simp] theorem State.wr_idl (a : Nat) (v : Word) : (s.wr a v).idl = s.idl := rfl
@[simp] theorem State.wr_clv (a : Nat) (v : Word) : (s.wr a v).clv = s.clv := rfl
@[simp] theorem State.wr_jrn (a : Nat) (v : Word) : (s.wr a v).jrn = s.jrn := rfl
@[simp] theorem State.wr_seq (a : Nat) (v : Word) : (s.wr a v).seq = s.seq := rfl
@[simp] theorem State.wr_cle (a : Nat) (v : Word) : (s.wr a v).cle = s.cle := rfl
@[simp] theorem State.wr_pwm (a : Nat) (v : Word) : (s.wr a v).pwm = s.pwm := rfl
@[simp] theorem State.wr_adc (a : Nat) (v : Word) : (s.wr a v).adc = s.adc := rfl
@[simp] theorem State.wr_tmu (a : Nat) (v : Word) : (s.wr a v).tmu = s.tmu := rfl
@[simp] theorem State.wr_lvc (a : Nat) (v : Word) : (s.wr a v).lvc = s.lvc := rfl
@[simp] theorem State.wr_chg (a : Nat) (v : Word) : (s.wr a v).chg = s.chg := rfl
@[simp] theorem State.wr_pfb (a : Nat) (v : Word) : (s.wr a v).pfb = s.pfb := rfl
@[simp] theorem State.wr_lks (a : Nat) (v : Word) : (s.wr a v).lks = s.lks := rfl
@[simp] theorem State.wr_act (a : Nat) (v : Word) : (s.wr a v).act = s.act := rfl
@[simp] theorem State.wr_safe (a : Nat) (v : Word) : (s.wr a v).safe = s.safe := rfl
@[simp] theorem State.wr_thm (a : Nat) (v : Word) : (s.wr a v).thm = s.thm := rfl
@[simp] theorem State.wr_hif (a : Nat) (v : Word) : (s.wr a v).hif = s.hif := rfl
@[simp] theorem State.wr_olk (a : Nat) (v : Word) : (s.wr a v).olk = s.olk := rfl
@[simp] theorem State.wr_nvm (a : Nat) (v : Word) : (s.wr a v).nvm = s.nvm := rfl
@[simp] theorem State.wr_upd (a : Nat) (v : Word) : (s.wr a v).upd = s.upd := rfl
@[simp] theorem State.wr_pmc (a : Nat) (v : Word) : (s.wr a v).pmc = s.pmc := rfl
@[simp] theorem State.wr_gong (a : Nat) (v : Word) : (s.wr a v).gong = s.gong := rfl
@[simp] theorem State.wr_rtl (a : Nat) (v : Word) : (s.wr a v).rtl = s.rtl := rfl
@[simp] theorem State.wr_jtag (a : Nat) (v : Word) : (s.wr a v).jtag = s.jtag := rfl
@[simp] theorem State.wr_pending (a : Nat) (v : Word) : (s.wr a v).pending = s.pending := rfl

/-! ### `fset` -/

@[simp] theorem State.fset_clave (f : Fld) (n : Nat) : (s.fset f n).clave = s.clave := rfl
@[simp] theorem State.fset_time (f : Fld) (n : Nat) : (s.fset f n).time = s.time := rfl
@[simp] theorem State.fset_mem (f : Fld) (n : Nat) : (s.fset f n).mem = s.mem := rfl
@[simp] theorem State.fset_sig (f : Fld) (n : Nat) : (s.fset f n).sig = s.sig := rfl
@[simp] theorem State.fset_bus (f : Fld) (n : Nat) : (s.fset f n).bus = s.bus := rfl
@[simp] theorem State.fset_writes (f : Fld) (n : Nat) : (s.fset f n).writes = s.writes := rfl
@[simp] theorem State.fset_free (f : Fld) (n : Nat) : (s.fset f n).free = s.free := rfl
@[simp] theorem State.fset_irqs (f : Fld) (n : Nat) : (s.fset f n).irqs = s.irqs := rfl
@[simp] theorem State.fset_reacts (f : Fld) (n : Nat) : (s.fset f n).reacts = s.reacts := rfl
@[simp] theorem State.fset_clocks (f : Fld) (n : Nat) : (s.fset f n).clocks = s.clocks := rfl
@[simp] theorem State.fset_idl (f : Fld) (n : Nat) : (s.fset f n).idl = s.idl := rfl
@[simp] theorem State.fset_clv (f : Fld) (n : Nat) : (s.fset f n).clv = s.clv := rfl
@[simp] theorem State.fset_jrn (f : Fld) (n : Nat) : (s.fset f n).jrn = s.jrn := rfl
@[simp] theorem State.fset_seq (f : Fld) (n : Nat) : (s.fset f n).seq = s.seq := rfl
@[simp] theorem State.fset_cle (f : Fld) (n : Nat) : (s.fset f n).cle = s.cle := rfl
@[simp] theorem State.fset_pwm (f : Fld) (n : Nat) : (s.fset f n).pwm = s.pwm := rfl
@[simp] theorem State.fset_adc (f : Fld) (n : Nat) : (s.fset f n).adc = s.adc := rfl
@[simp] theorem State.fset_tmu (f : Fld) (n : Nat) : (s.fset f n).tmu = s.tmu := rfl
@[simp] theorem State.fset_lvc (f : Fld) (n : Nat) : (s.fset f n).lvc = s.lvc := rfl
@[simp] theorem State.fset_chg (f : Fld) (n : Nat) : (s.fset f n).chg = s.chg := rfl
@[simp] theorem State.fset_pfb (f : Fld) (n : Nat) : (s.fset f n).pfb = s.pfb := rfl
@[simp] theorem State.fset_lks (f : Fld) (n : Nat) : (s.fset f n).lks = s.lks := rfl
@[simp] theorem State.fset_act (f : Fld) (n : Nat) : (s.fset f n).act = s.act := rfl
@[simp] theorem State.fset_safe (f : Fld) (n : Nat) : (s.fset f n).safe = s.safe := rfl
@[simp] theorem State.fset_thm (f : Fld) (n : Nat) : (s.fset f n).thm = s.thm := rfl
@[simp] theorem State.fset_hif (f : Fld) (n : Nat) : (s.fset f n).hif = s.hif := rfl
@[simp] theorem State.fset_olk (f : Fld) (n : Nat) : (s.fset f n).olk = s.olk := rfl
@[simp] theorem State.fset_nvm (f : Fld) (n : Nat) : (s.fset f n).nvm = s.nvm := rfl
@[simp] theorem State.fset_upd (f : Fld) (n : Nat) : (s.fset f n).upd = s.upd := rfl
@[simp] theorem State.fset_pmc (f : Fld) (n : Nat) : (s.fset f n).pmc = s.pmc := rfl
@[simp] theorem State.fset_gong (f : Fld) (n : Nat) : (s.fset f n).gong = s.gong := rfl
@[simp] theorem State.fset_rtl (f : Fld) (n : Nat) : (s.fset f n).rtl = s.rtl := rfl
@[simp] theorem State.fset_jtag (f : Fld) (n : Nat) : (s.fset f n).jtag = s.jtag := rfl
@[simp] theorem State.fset_pending (f : Fld) (n : Nat) : (s.fset f n).pending = s.pending := rfl

/-! ### `fput` -/

@[simp] theorem State.fput_clave (f : Fld) (b : Bool) : (s.fput f b).clave = s.clave := rfl
@[simp] theorem State.fput_time (f : Fld) (b : Bool) : (s.fput f b).time = s.time := rfl
@[simp] theorem State.fput_mem (f : Fld) (b : Bool) : (s.fput f b).mem = s.mem := rfl
@[simp] theorem State.fput_sig (f : Fld) (b : Bool) : (s.fput f b).sig = s.sig := rfl
@[simp] theorem State.fput_bus (f : Fld) (b : Bool) : (s.fput f b).bus = s.bus := rfl
@[simp] theorem State.fput_writes (f : Fld) (b : Bool) : (s.fput f b).writes = s.writes := rfl
@[simp] theorem State.fput_free (f : Fld) (b : Bool) : (s.fput f b).free = s.free := rfl
@[simp] theorem State.fput_irqs (f : Fld) (b : Bool) : (s.fput f b).irqs = s.irqs := rfl
@[simp] theorem State.fput_reacts (f : Fld) (b : Bool) : (s.fput f b).reacts = s.reacts := rfl
@[simp] theorem State.fput_clocks (f : Fld) (b : Bool) : (s.fput f b).clocks = s.clocks := rfl
@[simp] theorem State.fput_idl (f : Fld) (b : Bool) : (s.fput f b).idl = s.idl := rfl
@[simp] theorem State.fput_clv (f : Fld) (b : Bool) : (s.fput f b).clv = s.clv := rfl
@[simp] theorem State.fput_jrn (f : Fld) (b : Bool) : (s.fput f b).jrn = s.jrn := rfl
@[simp] theorem State.fput_seq (f : Fld) (b : Bool) : (s.fput f b).seq = s.seq := rfl
@[simp] theorem State.fput_cle (f : Fld) (b : Bool) : (s.fput f b).cle = s.cle := rfl
@[simp] theorem State.fput_pwm (f : Fld) (b : Bool) : (s.fput f b).pwm = s.pwm := rfl
@[simp] theorem State.fput_adc (f : Fld) (b : Bool) : (s.fput f b).adc = s.adc := rfl
@[simp] theorem State.fput_tmu (f : Fld) (b : Bool) : (s.fput f b).tmu = s.tmu := rfl
@[simp] theorem State.fput_lvc (f : Fld) (b : Bool) : (s.fput f b).lvc = s.lvc := rfl
@[simp] theorem State.fput_chg (f : Fld) (b : Bool) : (s.fput f b).chg = s.chg := rfl
@[simp] theorem State.fput_pfb (f : Fld) (b : Bool) : (s.fput f b).pfb = s.pfb := rfl
@[simp] theorem State.fput_lks (f : Fld) (b : Bool) : (s.fput f b).lks = s.lks := rfl
@[simp] theorem State.fput_act (f : Fld) (b : Bool) : (s.fput f b).act = s.act := rfl
@[simp] theorem State.fput_safe (f : Fld) (b : Bool) : (s.fput f b).safe = s.safe := rfl
@[simp] theorem State.fput_thm (f : Fld) (b : Bool) : (s.fput f b).thm = s.thm := rfl
@[simp] theorem State.fput_hif (f : Fld) (b : Bool) : (s.fput f b).hif = s.hif := rfl
@[simp] theorem State.fput_olk (f : Fld) (b : Bool) : (s.fput f b).olk = s.olk := rfl
@[simp] theorem State.fput_nvm (f : Fld) (b : Bool) : (s.fput f b).nvm = s.nvm := rfl
@[simp] theorem State.fput_upd (f : Fld) (b : Bool) : (s.fput f b).upd = s.upd := rfl
@[simp] theorem State.fput_pmc (f : Fld) (b : Bool) : (s.fput f b).pmc = s.pmc := rfl
@[simp] theorem State.fput_gong (f : Fld) (b : Bool) : (s.fput f b).gong = s.gong := rfl
@[simp] theorem State.fput_rtl (f : Fld) (b : Bool) : (s.fput f b).rtl = s.rtl := rfl
@[simp] theorem State.fput_jtag (f : Fld) (b : Bool) : (s.fput f b).jtag = s.jtag := rfl
@[simp] theorem State.fput_pending (f : Fld) (b : Bool) : (s.fput f b).pending = s.pending := rfl

/-! ### `finc` -/

@[simp] theorem State.finc_clave (f : Fld) (n : Nat) : (s.finc f n).clave = s.clave := rfl
@[simp] theorem State.finc_time (f : Fld) (n : Nat) : (s.finc f n).time = s.time := rfl
@[simp] theorem State.finc_mem (f : Fld) (n : Nat) : (s.finc f n).mem = s.mem := rfl
@[simp] theorem State.finc_sig (f : Fld) (n : Nat) : (s.finc f n).sig = s.sig := rfl
@[simp] theorem State.finc_bus (f : Fld) (n : Nat) : (s.finc f n).bus = s.bus := rfl
@[simp] theorem State.finc_writes (f : Fld) (n : Nat) : (s.finc f n).writes = s.writes := rfl
@[simp] theorem State.finc_free (f : Fld) (n : Nat) : (s.finc f n).free = s.free := rfl
@[simp] theorem State.finc_irqs (f : Fld) (n : Nat) : (s.finc f n).irqs = s.irqs := rfl
@[simp] theorem State.finc_reacts (f : Fld) (n : Nat) : (s.finc f n).reacts = s.reacts := rfl
@[simp] theorem State.finc_clocks (f : Fld) (n : Nat) : (s.finc f n).clocks = s.clocks := rfl
@[simp] theorem State.finc_idl (f : Fld) (n : Nat) : (s.finc f n).idl = s.idl := rfl
@[simp] theorem State.finc_clv (f : Fld) (n : Nat) : (s.finc f n).clv = s.clv := rfl
@[simp] theorem State.finc_jrn (f : Fld) (n : Nat) : (s.finc f n).jrn = s.jrn := rfl
@[simp] theorem State.finc_seq (f : Fld) (n : Nat) : (s.finc f n).seq = s.seq := rfl
@[simp] theorem State.finc_cle (f : Fld) (n : Nat) : (s.finc f n).cle = s.cle := rfl
@[simp] theorem State.finc_pwm (f : Fld) (n : Nat) : (s.finc f n).pwm = s.pwm := rfl
@[simp] theorem State.finc_adc (f : Fld) (n : Nat) : (s.finc f n).adc = s.adc := rfl
@[simp] theorem State.finc_tmu (f : Fld) (n : Nat) : (s.finc f n).tmu = s.tmu := rfl
@[simp] theorem State.finc_lvc (f : Fld) (n : Nat) : (s.finc f n).lvc = s.lvc := rfl
@[simp] theorem State.finc_chg (f : Fld) (n : Nat) : (s.finc f n).chg = s.chg := rfl
@[simp] theorem State.finc_pfb (f : Fld) (n : Nat) : (s.finc f n).pfb = s.pfb := rfl
@[simp] theorem State.finc_lks (f : Fld) (n : Nat) : (s.finc f n).lks = s.lks := rfl
@[simp] theorem State.finc_act (f : Fld) (n : Nat) : (s.finc f n).act = s.act := rfl
@[simp] theorem State.finc_safe (f : Fld) (n : Nat) : (s.finc f n).safe = s.safe := rfl
@[simp] theorem State.finc_thm (f : Fld) (n : Nat) : (s.finc f n).thm = s.thm := rfl
@[simp] theorem State.finc_hif (f : Fld) (n : Nat) : (s.finc f n).hif = s.hif := rfl
@[simp] theorem State.finc_olk (f : Fld) (n : Nat) : (s.finc f n).olk = s.olk := rfl
@[simp] theorem State.finc_nvm (f : Fld) (n : Nat) : (s.finc f n).nvm = s.nvm := rfl
@[simp] theorem State.finc_upd (f : Fld) (n : Nat) : (s.finc f n).upd = s.upd := rfl
@[simp] theorem State.finc_pmc (f : Fld) (n : Nat) : (s.finc f n).pmc = s.pmc := rfl
@[simp] theorem State.finc_gong (f : Fld) (n : Nat) : (s.finc f n).gong = s.gong := rfl
@[simp] theorem State.finc_rtl (f : Fld) (n : Nat) : (s.finc f n).rtl = s.rtl := rfl
@[simp] theorem State.finc_jtag (f : Fld) (n : Nat) : (s.finc f n).jtag = s.jtag := rfl
@[simp] theorem State.finc_pending (f : Fld) (n : Nat) : (s.finc f n).pending = s.pending := rfl

/-! ### `wr64` -/

@[simp] theorem State.wr64_clave (a b : Nat) (t : Tick) : (s.wr64 a b t).clave = s.clave := rfl
@[simp] theorem State.wr64_time (a b : Nat) (t : Tick) : (s.wr64 a b t).time = s.time := rfl
@[simp] theorem State.wr64_mem (a b : Nat) (t : Tick) : (s.wr64 a b t).mem = s.mem := rfl
@[simp] theorem State.wr64_sig (a b : Nat) (t : Tick) : (s.wr64 a b t).sig = s.sig := rfl
@[simp] theorem State.wr64_bus (a b : Nat) (t : Tick) : (s.wr64 a b t).bus = s.bus := rfl
@[simp] theorem State.wr64_writes (a b : Nat) (t : Tick) : (s.wr64 a b t).writes = s.writes := rfl
@[simp] theorem State.wr64_free (a b : Nat) (t : Tick) : (s.wr64 a b t).free = s.free := rfl
@[simp] theorem State.wr64_irqs (a b : Nat) (t : Tick) : (s.wr64 a b t).irqs = s.irqs := rfl
@[simp] theorem State.wr64_reacts (a b : Nat) (t : Tick) : (s.wr64 a b t).reacts = s.reacts := rfl
@[simp] theorem State.wr64_clocks (a b : Nat) (t : Tick) : (s.wr64 a b t).clocks = s.clocks := rfl
@[simp] theorem State.wr64_idl (a b : Nat) (t : Tick) : (s.wr64 a b t).idl = s.idl := rfl
@[simp] theorem State.wr64_clv (a b : Nat) (t : Tick) : (s.wr64 a b t).clv = s.clv := rfl
@[simp] theorem State.wr64_jrn (a b : Nat) (t : Tick) : (s.wr64 a b t).jrn = s.jrn := rfl
@[simp] theorem State.wr64_seq (a b : Nat) (t : Tick) : (s.wr64 a b t).seq = s.seq := rfl
@[simp] theorem State.wr64_cle (a b : Nat) (t : Tick) : (s.wr64 a b t).cle = s.cle := rfl
@[simp] theorem State.wr64_pwm (a b : Nat) (t : Tick) : (s.wr64 a b t).pwm = s.pwm := rfl
@[simp] theorem State.wr64_adc (a b : Nat) (t : Tick) : (s.wr64 a b t).adc = s.adc := rfl
@[simp] theorem State.wr64_tmu (a b : Nat) (t : Tick) : (s.wr64 a b t).tmu = s.tmu := rfl
@[simp] theorem State.wr64_lvc (a b : Nat) (t : Tick) : (s.wr64 a b t).lvc = s.lvc := rfl
@[simp] theorem State.wr64_chg (a b : Nat) (t : Tick) : (s.wr64 a b t).chg = s.chg := rfl
@[simp] theorem State.wr64_pfb (a b : Nat) (t : Tick) : (s.wr64 a b t).pfb = s.pfb := rfl
@[simp] theorem State.wr64_lks (a b : Nat) (t : Tick) : (s.wr64 a b t).lks = s.lks := rfl
@[simp] theorem State.wr64_act (a b : Nat) (t : Tick) : (s.wr64 a b t).act = s.act := rfl
@[simp] theorem State.wr64_safe (a b : Nat) (t : Tick) : (s.wr64 a b t).safe = s.safe := rfl
@[simp] theorem State.wr64_thm (a b : Nat) (t : Tick) : (s.wr64 a b t).thm = s.thm := rfl
@[simp] theorem State.wr64_hif (a b : Nat) (t : Tick) : (s.wr64 a b t).hif = s.hif := rfl
@[simp] theorem State.wr64_olk (a b : Nat) (t : Tick) : (s.wr64 a b t).olk = s.olk := rfl
@[simp] theorem State.wr64_nvm (a b : Nat) (t : Tick) : (s.wr64 a b t).nvm = s.nvm := rfl
@[simp] theorem State.wr64_upd (a b : Nat) (t : Tick) : (s.wr64 a b t).upd = s.upd := rfl
@[simp] theorem State.wr64_pmc (a b : Nat) (t : Tick) : (s.wr64 a b t).pmc = s.pmc := rfl
@[simp] theorem State.wr64_gong (a b : Nat) (t : Tick) : (s.wr64 a b t).gong = s.gong := rfl
@[simp] theorem State.wr64_rtl (a b : Nat) (t : Tick) : (s.wr64 a b t).rtl = s.rtl := rfl
@[simp] theorem State.wr64_jtag (a b : Nat) (t : Tick) : (s.wr64 a b t).jtag = s.jtag := rfl
@[simp] theorem State.wr64_pending (a b : Nat) (t : Tick) : (s.wr64 a b t).pending = s.pending := rfl

/-! ### `rput` -/

@[simp] theorem State.rput_clave (a i : Nat) (b : Bool) : (s.rput a i b).clave = s.clave := rfl
@[simp] theorem State.rput_time (a i : Nat) (b : Bool) : (s.rput a i b).time = s.time := rfl
@[simp] theorem State.rput_mem (a i : Nat) (b : Bool) : (s.rput a i b).mem = s.mem := rfl
@[simp] theorem State.rput_sig (a i : Nat) (b : Bool) : (s.rput a i b).sig = s.sig := rfl
@[simp] theorem State.rput_bus (a i : Nat) (b : Bool) : (s.rput a i b).bus = s.bus := rfl
@[simp] theorem State.rput_writes (a i : Nat) (b : Bool) : (s.rput a i b).writes = s.writes := rfl
@[simp] theorem State.rput_free (a i : Nat) (b : Bool) : (s.rput a i b).free = s.free := rfl
@[simp] theorem State.rput_irqs (a i : Nat) (b : Bool) : (s.rput a i b).irqs = s.irqs := rfl
@[simp] theorem State.rput_reacts (a i : Nat) (b : Bool) : (s.rput a i b).reacts = s.reacts := rfl
@[simp] theorem State.rput_clocks (a i : Nat) (b : Bool) : (s.rput a i b).clocks = s.clocks := rfl
@[simp] theorem State.rput_idl (a i : Nat) (b : Bool) : (s.rput a i b).idl = s.idl := rfl
@[simp] theorem State.rput_clv (a i : Nat) (b : Bool) : (s.rput a i b).clv = s.clv := rfl
@[simp] theorem State.rput_jrn (a i : Nat) (b : Bool) : (s.rput a i b).jrn = s.jrn := rfl
@[simp] theorem State.rput_seq (a i : Nat) (b : Bool) : (s.rput a i b).seq = s.seq := rfl
@[simp] theorem State.rput_cle (a i : Nat) (b : Bool) : (s.rput a i b).cle = s.cle := rfl
@[simp] theorem State.rput_pwm (a i : Nat) (b : Bool) : (s.rput a i b).pwm = s.pwm := rfl
@[simp] theorem State.rput_adc (a i : Nat) (b : Bool) : (s.rput a i b).adc = s.adc := rfl
@[simp] theorem State.rput_tmu (a i : Nat) (b : Bool) : (s.rput a i b).tmu = s.tmu := rfl
@[simp] theorem State.rput_lvc (a i : Nat) (b : Bool) : (s.rput a i b).lvc = s.lvc := rfl
@[simp] theorem State.rput_chg (a i : Nat) (b : Bool) : (s.rput a i b).chg = s.chg := rfl
@[simp] theorem State.rput_pfb (a i : Nat) (b : Bool) : (s.rput a i b).pfb = s.pfb := rfl
@[simp] theorem State.rput_lks (a i : Nat) (b : Bool) : (s.rput a i b).lks = s.lks := rfl
@[simp] theorem State.rput_act (a i : Nat) (b : Bool) : (s.rput a i b).act = s.act := rfl
@[simp] theorem State.rput_safe (a i : Nat) (b : Bool) : (s.rput a i b).safe = s.safe := rfl
@[simp] theorem State.rput_thm (a i : Nat) (b : Bool) : (s.rput a i b).thm = s.thm := rfl
@[simp] theorem State.rput_hif (a i : Nat) (b : Bool) : (s.rput a i b).hif = s.hif := rfl
@[simp] theorem State.rput_olk (a i : Nat) (b : Bool) : (s.rput a i b).olk = s.olk := rfl
@[simp] theorem State.rput_nvm (a i : Nat) (b : Bool) : (s.rput a i b).nvm = s.nvm := rfl
@[simp] theorem State.rput_upd (a i : Nat) (b : Bool) : (s.rput a i b).upd = s.upd := rfl
@[simp] theorem State.rput_pmc (a i : Nat) (b : Bool) : (s.rput a i b).pmc = s.pmc := rfl
@[simp] theorem State.rput_gong (a i : Nat) (b : Bool) : (s.rput a i b).gong = s.gong := rfl
@[simp] theorem State.rput_rtl (a i : Nat) (b : Bool) : (s.rput a i b).rtl = s.rtl := rfl
@[simp] theorem State.rput_jtag (a i : Nat) (b : Bool) : (s.rput a i b).jtag = s.jtag := rfl
@[simp] theorem State.rput_pending (a i : Nat) (b : Bool) : (s.rput a i b).pending = s.pending := rfl

/-! ### `sput` -/

@[simp] theorem State.sput_clave (i : Nat) (v : F32) : (s.sput i v).clave = s.clave := rfl
@[simp] theorem State.sput_time (i : Nat) (v : F32) : (s.sput i v).time = s.time := rfl
@[simp] theorem State.sput_regs (i : Nat) (v : F32) : (s.sput i v).regs = s.regs := rfl
@[simp] theorem State.sput_mem (i : Nat) (v : F32) : (s.sput i v).mem = s.mem := rfl
@[simp] theorem State.sput_bus (i : Nat) (v : F32) : (s.sput i v).bus = s.bus := rfl
@[simp] theorem State.sput_writes (i : Nat) (v : F32) : (s.sput i v).writes = s.writes := rfl
@[simp] theorem State.sput_free (i : Nat) (v : F32) : (s.sput i v).free = s.free := rfl
@[simp] theorem State.sput_irqs (i : Nat) (v : F32) : (s.sput i v).irqs = s.irqs := rfl
@[simp] theorem State.sput_reacts (i : Nat) (v : F32) : (s.sput i v).reacts = s.reacts := rfl
@[simp] theorem State.sput_clocks (i : Nat) (v : F32) : (s.sput i v).clocks = s.clocks := rfl
@[simp] theorem State.sput_idl (i : Nat) (v : F32) : (s.sput i v).idl = s.idl := rfl
@[simp] theorem State.sput_clv (i : Nat) (v : F32) : (s.sput i v).clv = s.clv := rfl
@[simp] theorem State.sput_jrn (i : Nat) (v : F32) : (s.sput i v).jrn = s.jrn := rfl
@[simp] theorem State.sput_seq (i : Nat) (v : F32) : (s.sput i v).seq = s.seq := rfl
@[simp] theorem State.sput_cle (i : Nat) (v : F32) : (s.sput i v).cle = s.cle := rfl
@[simp] theorem State.sput_pwm (i : Nat) (v : F32) : (s.sput i v).pwm = s.pwm := rfl
@[simp] theorem State.sput_adc (i : Nat) (v : F32) : (s.sput i v).adc = s.adc := rfl
@[simp] theorem State.sput_tmu (i : Nat) (v : F32) : (s.sput i v).tmu = s.tmu := rfl
@[simp] theorem State.sput_lvc (i : Nat) (v : F32) : (s.sput i v).lvc = s.lvc := rfl
@[simp] theorem State.sput_chg (i : Nat) (v : F32) : (s.sput i v).chg = s.chg := rfl
@[simp] theorem State.sput_pfb (i : Nat) (v : F32) : (s.sput i v).pfb = s.pfb := rfl
@[simp] theorem State.sput_lks (i : Nat) (v : F32) : (s.sput i v).lks = s.lks := rfl
@[simp] theorem State.sput_act (i : Nat) (v : F32) : (s.sput i v).act = s.act := rfl
@[simp] theorem State.sput_safe (i : Nat) (v : F32) : (s.sput i v).safe = s.safe := rfl
@[simp] theorem State.sput_thm (i : Nat) (v : F32) : (s.sput i v).thm = s.thm := rfl
@[simp] theorem State.sput_hif (i : Nat) (v : F32) : (s.sput i v).hif = s.hif := rfl
@[simp] theorem State.sput_olk (i : Nat) (v : F32) : (s.sput i v).olk = s.olk := rfl
@[simp] theorem State.sput_nvm (i : Nat) (v : F32) : (s.sput i v).nvm = s.nvm := rfl
@[simp] theorem State.sput_upd (i : Nat) (v : F32) : (s.sput i v).upd = s.upd := rfl
@[simp] theorem State.sput_pmc (i : Nat) (v : F32) : (s.sput i v).pmc = s.pmc := rfl
@[simp] theorem State.sput_gong (i : Nat) (v : F32) : (s.sput i v).gong = s.gong := rfl
@[simp] theorem State.sput_rtl (i : Nat) (v : F32) : (s.sput i v).rtl = s.rtl := rfl
@[simp] theorem State.sput_jtag (i : Nat) (v : F32) : (s.sput i v).jtag = s.jtag := rfl
@[simp] theorem State.sput_pending (i : Nat) (v : F32) : (s.sput i v).pending = s.pending := rfl

/-! ### `mput` -/

@[simp] theorem State.mput_clave (a : Nat) (b : Byte) : (s.mput a b).clave = s.clave := rfl
@[simp] theorem State.mput_time (a : Nat) (b : Byte) : (s.mput a b).time = s.time := rfl
@[simp] theorem State.mput_regs (a : Nat) (b : Byte) : (s.mput a b).regs = s.regs := rfl
@[simp] theorem State.mput_sig (a : Nat) (b : Byte) : (s.mput a b).sig = s.sig := rfl
@[simp] theorem State.mput_bus (a : Nat) (b : Byte) : (s.mput a b).bus = s.bus := rfl
@[simp] theorem State.mput_writes (a : Nat) (b : Byte) : (s.mput a b).writes = s.writes := rfl
@[simp] theorem State.mput_free (a : Nat) (b : Byte) : (s.mput a b).free = s.free := rfl
@[simp] theorem State.mput_irqs (a : Nat) (b : Byte) : (s.mput a b).irqs = s.irqs := rfl
@[simp] theorem State.mput_reacts (a : Nat) (b : Byte) : (s.mput a b).reacts = s.reacts := rfl
@[simp] theorem State.mput_clocks (a : Nat) (b : Byte) : (s.mput a b).clocks = s.clocks := rfl
@[simp] theorem State.mput_idl (a : Nat) (b : Byte) : (s.mput a b).idl = s.idl := rfl
@[simp] theorem State.mput_clv (a : Nat) (b : Byte) : (s.mput a b).clv = s.clv := rfl
@[simp] theorem State.mput_jrn (a : Nat) (b : Byte) : (s.mput a b).jrn = s.jrn := rfl
@[simp] theorem State.mput_seq (a : Nat) (b : Byte) : (s.mput a b).seq = s.seq := rfl
@[simp] theorem State.mput_cle (a : Nat) (b : Byte) : (s.mput a b).cle = s.cle := rfl
@[simp] theorem State.mput_pwm (a : Nat) (b : Byte) : (s.mput a b).pwm = s.pwm := rfl
@[simp] theorem State.mput_adc (a : Nat) (b : Byte) : (s.mput a b).adc = s.adc := rfl
@[simp] theorem State.mput_tmu (a : Nat) (b : Byte) : (s.mput a b).tmu = s.tmu := rfl
@[simp] theorem State.mput_lvc (a : Nat) (b : Byte) : (s.mput a b).lvc = s.lvc := rfl
@[simp] theorem State.mput_chg (a : Nat) (b : Byte) : (s.mput a b).chg = s.chg := rfl
@[simp] theorem State.mput_pfb (a : Nat) (b : Byte) : (s.mput a b).pfb = s.pfb := rfl
@[simp] theorem State.mput_lks (a : Nat) (b : Byte) : (s.mput a b).lks = s.lks := rfl
@[simp] theorem State.mput_act (a : Nat) (b : Byte) : (s.mput a b).act = s.act := rfl
@[simp] theorem State.mput_safe (a : Nat) (b : Byte) : (s.mput a b).safe = s.safe := rfl
@[simp] theorem State.mput_thm (a : Nat) (b : Byte) : (s.mput a b).thm = s.thm := rfl
@[simp] theorem State.mput_hif (a : Nat) (b : Byte) : (s.mput a b).hif = s.hif := rfl
@[simp] theorem State.mput_olk (a : Nat) (b : Byte) : (s.mput a b).olk = s.olk := rfl
@[simp] theorem State.mput_nvm (a : Nat) (b : Byte) : (s.mput a b).nvm = s.nvm := rfl
@[simp] theorem State.mput_upd (a : Nat) (b : Byte) : (s.mput a b).upd = s.upd := rfl
@[simp] theorem State.mput_pmc (a : Nat) (b : Byte) : (s.mput a b).pmc = s.pmc := rfl
@[simp] theorem State.mput_gong (a : Nat) (b : Byte) : (s.mput a b).gong = s.gong := rfl
@[simp] theorem State.mput_rtl (a : Nat) (b : Byte) : (s.mput a b).rtl = s.rtl := rfl
@[simp] theorem State.mput_jtag (a : Nat) (b : Byte) : (s.mput a b).jtag = s.jtag := rfl
@[simp] theorem State.mput_pending (a : Nat) (b : Byte) : (s.mput a b).pending = s.pending := rfl

/-! ### `irq` -/

@[simp] theorem State.irq_clave (p : Fin 3) (h : Half) (c : BitVec 16) (i : BitVec 8) (v : Tick) : (s.irq p h c i v).clave = s.clave := rfl
@[simp] theorem State.irq_time (p : Fin 3) (h : Half) (c : BitVec 16) (i : BitVec 8) (v : Tick) : (s.irq p h c i v).time = s.time := rfl
@[simp] theorem State.irq_regs (p : Fin 3) (h : Half) (c : BitVec 16) (i : BitVec 8) (v : Tick) : (s.irq p h c i v).regs = s.regs := rfl
@[simp] theorem State.irq_mem (p : Fin 3) (h : Half) (c : BitVec 16) (i : BitVec 8) (v : Tick) : (s.irq p h c i v).mem = s.mem := rfl
@[simp] theorem State.irq_sig (p : Fin 3) (h : Half) (c : BitVec 16) (i : BitVec 8) (v : Tick) : (s.irq p h c i v).sig = s.sig := rfl
@[simp] theorem State.irq_bus (p : Fin 3) (h : Half) (c : BitVec 16) (i : BitVec 8) (v : Tick) : (s.irq p h c i v).bus = s.bus := rfl
@[simp] theorem State.irq_writes (p : Fin 3) (h : Half) (c : BitVec 16) (i : BitVec 8) (v : Tick) : (s.irq p h c i v).writes = s.writes := rfl
@[simp] theorem State.irq_free (p : Fin 3) (h : Half) (c : BitVec 16) (i : BitVec 8) (v : Tick) : (s.irq p h c i v).free = s.free := rfl
@[simp] theorem State.irq_reacts (p : Fin 3) (h : Half) (c : BitVec 16) (i : BitVec 8) (v : Tick) : (s.irq p h c i v).reacts = s.reacts := rfl
@[simp] theorem State.irq_clocks (p : Fin 3) (h : Half) (c : BitVec 16) (i : BitVec 8) (v : Tick) : (s.irq p h c i v).clocks = s.clocks := rfl
@[simp] theorem State.irq_idl (p : Fin 3) (h : Half) (c : BitVec 16) (i : BitVec 8) (v : Tick) : (s.irq p h c i v).idl = s.idl := rfl
@[simp] theorem State.irq_clv (p : Fin 3) (h : Half) (c : BitVec 16) (i : BitVec 8) (v : Tick) : (s.irq p h c i v).clv = s.clv := rfl
@[simp] theorem State.irq_jrn (p : Fin 3) (h : Half) (c : BitVec 16) (i : BitVec 8) (v : Tick) : (s.irq p h c i v).jrn = s.jrn := rfl
@[simp] theorem State.irq_seq (p : Fin 3) (h : Half) (c : BitVec 16) (i : BitVec 8) (v : Tick) : (s.irq p h c i v).seq = s.seq := rfl
@[simp] theorem State.irq_cle (p : Fin 3) (h : Half) (c : BitVec 16) (i : BitVec 8) (v : Tick) : (s.irq p h c i v).cle = s.cle := rfl
@[simp] theorem State.irq_pwm (p : Fin 3) (h : Half) (c : BitVec 16) (i : BitVec 8) (v : Tick) : (s.irq p h c i v).pwm = s.pwm := rfl
@[simp] theorem State.irq_adc (p : Fin 3) (h : Half) (c : BitVec 16) (i : BitVec 8) (v : Tick) : (s.irq p h c i v).adc = s.adc := rfl
@[simp] theorem State.irq_tmu (p : Fin 3) (h : Half) (c : BitVec 16) (i : BitVec 8) (v : Tick) : (s.irq p h c i v).tmu = s.tmu := rfl
@[simp] theorem State.irq_lvc (p : Fin 3) (h : Half) (c : BitVec 16) (i : BitVec 8) (v : Tick) : (s.irq p h c i v).lvc = s.lvc := rfl
@[simp] theorem State.irq_chg (p : Fin 3) (h : Half) (c : BitVec 16) (i : BitVec 8) (v : Tick) : (s.irq p h c i v).chg = s.chg := rfl
@[simp] theorem State.irq_pfb (p : Fin 3) (h : Half) (c : BitVec 16) (i : BitVec 8) (v : Tick) : (s.irq p h c i v).pfb = s.pfb := rfl
@[simp] theorem State.irq_lks (p : Fin 3) (h : Half) (c : BitVec 16) (i : BitVec 8) (v : Tick) : (s.irq p h c i v).lks = s.lks := rfl
@[simp] theorem State.irq_act (p : Fin 3) (h : Half) (c : BitVec 16) (i : BitVec 8) (v : Tick) : (s.irq p h c i v).act = s.act := rfl
@[simp] theorem State.irq_safe (p : Fin 3) (h : Half) (c : BitVec 16) (i : BitVec 8) (v : Tick) : (s.irq p h c i v).safe = s.safe := rfl
@[simp] theorem State.irq_thm (p : Fin 3) (h : Half) (c : BitVec 16) (i : BitVec 8) (v : Tick) : (s.irq p h c i v).thm = s.thm := rfl
@[simp] theorem State.irq_hif (p : Fin 3) (h : Half) (c : BitVec 16) (i : BitVec 8) (v : Tick) : (s.irq p h c i v).hif = s.hif := rfl
@[simp] theorem State.irq_olk (p : Fin 3) (h : Half) (c : BitVec 16) (i : BitVec 8) (v : Tick) : (s.irq p h c i v).olk = s.olk := rfl
@[simp] theorem State.irq_nvm (p : Fin 3) (h : Half) (c : BitVec 16) (i : BitVec 8) (v : Tick) : (s.irq p h c i v).nvm = s.nvm := rfl
@[simp] theorem State.irq_upd (p : Fin 3) (h : Half) (c : BitVec 16) (i : BitVec 8) (v : Tick) : (s.irq p h c i v).upd = s.upd := rfl
@[simp] theorem State.irq_pmc (p : Fin 3) (h : Half) (c : BitVec 16) (i : BitVec 8) (v : Tick) : (s.irq p h c i v).pmc = s.pmc := rfl
@[simp] theorem State.irq_gong (p : Fin 3) (h : Half) (c : BitVec 16) (i : BitVec 8) (v : Tick) : (s.irq p h c i v).gong = s.gong := rfl
@[simp] theorem State.irq_rtl (p : Fin 3) (h : Half) (c : BitVec 16) (i : BitVec 8) (v : Tick) : (s.irq p h c i v).rtl = s.rtl := rfl
@[simp] theorem State.irq_jtag (p : Fin 3) (h : Half) (c : BitVec 16) (i : BitVec 8) (v : Tick) : (s.irq p h c i v).jtag = s.jtag := rfl
@[simp] theorem State.irq_pending (p : Fin 3) (h : Half) (c : BitVec 16) (i : BitVec 8) (v : Tick) : (s.irq p h c i v).pending = s.pending := rfl

/-! ### `mputs` -/

@[simp] theorem State.mputs_clave (a : Nat) (l : List Byte) : (s.mputs a l).clave = s.clave := by
  induction l generalizing s a with
  | nil => rfl
  | cons b t ih => simp [State.mputs, ih]
@[simp] theorem State.mputs_time (a : Nat) (l : List Byte) : (s.mputs a l).time = s.time := by
  induction l generalizing s a with
  | nil => rfl
  | cons b t ih => simp [State.mputs, ih]
@[simp] theorem State.mputs_regs (a : Nat) (l : List Byte) : (s.mputs a l).regs = s.regs := by
  induction l generalizing s a with
  | nil => rfl
  | cons b t ih => simp [State.mputs, ih]
@[simp] theorem State.mputs_sig (a : Nat) (l : List Byte) : (s.mputs a l).sig = s.sig := by
  induction l generalizing s a with
  | nil => rfl
  | cons b t ih => simp [State.mputs, ih]
@[simp] theorem State.mputs_bus (a : Nat) (l : List Byte) : (s.mputs a l).bus = s.bus := by
  induction l generalizing s a with
  | nil => rfl
  | cons b t ih => simp [State.mputs, ih]
@[simp] theorem State.mputs_writes (a : Nat) (l : List Byte) : (s.mputs a l).writes = s.writes := by
  induction l generalizing s a with
  | nil => rfl
  | cons b t ih => simp [State.mputs, ih]
@[simp] theorem State.mputs_free (a : Nat) (l : List Byte) : (s.mputs a l).free = s.free := by
  induction l generalizing s a with
  | nil => rfl
  | cons b t ih => simp [State.mputs, ih]
@[simp] theorem State.mputs_irqs (a : Nat) (l : List Byte) : (s.mputs a l).irqs = s.irqs := by
  induction l generalizing s a with
  | nil => rfl
  | cons b t ih => simp [State.mputs, ih]
@[simp] theorem State.mputs_reacts (a : Nat) (l : List Byte) : (s.mputs a l).reacts = s.reacts := by
  induction l generalizing s a with
  | nil => rfl
  | cons b t ih => simp [State.mputs, ih]
@[simp] theorem State.mputs_clocks (a : Nat) (l : List Byte) : (s.mputs a l).clocks = s.clocks := by
  induction l generalizing s a with
  | nil => rfl
  | cons b t ih => simp [State.mputs, ih]
@[simp] theorem State.mputs_idl (a : Nat) (l : List Byte) : (s.mputs a l).idl = s.idl := by
  induction l generalizing s a with
  | nil => rfl
  | cons b t ih => simp [State.mputs, ih]
@[simp] theorem State.mputs_clv (a : Nat) (l : List Byte) : (s.mputs a l).clv = s.clv := by
  induction l generalizing s a with
  | nil => rfl
  | cons b t ih => simp [State.mputs, ih]
@[simp] theorem State.mputs_jrn (a : Nat) (l : List Byte) : (s.mputs a l).jrn = s.jrn := by
  induction l generalizing s a with
  | nil => rfl
  | cons b t ih => simp [State.mputs, ih]
@[simp] theorem State.mputs_seq (a : Nat) (l : List Byte) : (s.mputs a l).seq = s.seq := by
  induction l generalizing s a with
  | nil => rfl
  | cons b t ih => simp [State.mputs, ih]
@[simp] theorem State.mputs_cle (a : Nat) (l : List Byte) : (s.mputs a l).cle = s.cle := by
  induction l generalizing s a with
  | nil => rfl
  | cons b t ih => simp [State.mputs, ih]
@[simp] theorem State.mputs_pwm (a : Nat) (l : List Byte) : (s.mputs a l).pwm = s.pwm := by
  induction l generalizing s a with
  | nil => rfl
  | cons b t ih => simp [State.mputs, ih]
@[simp] theorem State.mputs_adc (a : Nat) (l : List Byte) : (s.mputs a l).adc = s.adc := by
  induction l generalizing s a with
  | nil => rfl
  | cons b t ih => simp [State.mputs, ih]
@[simp] theorem State.mputs_tmu (a : Nat) (l : List Byte) : (s.mputs a l).tmu = s.tmu := by
  induction l generalizing s a with
  | nil => rfl
  | cons b t ih => simp [State.mputs, ih]
@[simp] theorem State.mputs_lvc (a : Nat) (l : List Byte) : (s.mputs a l).lvc = s.lvc := by
  induction l generalizing s a with
  | nil => rfl
  | cons b t ih => simp [State.mputs, ih]
@[simp] theorem State.mputs_chg (a : Nat) (l : List Byte) : (s.mputs a l).chg = s.chg := by
  induction l generalizing s a with
  | nil => rfl
  | cons b t ih => simp [State.mputs, ih]
@[simp] theorem State.mputs_pfb (a : Nat) (l : List Byte) : (s.mputs a l).pfb = s.pfb := by
  induction l generalizing s a with
  | nil => rfl
  | cons b t ih => simp [State.mputs, ih]
@[simp] theorem State.mputs_lks (a : Nat) (l : List Byte) : (s.mputs a l).lks = s.lks := by
  induction l generalizing s a with
  | nil => rfl
  | cons b t ih => simp [State.mputs, ih]
@[simp] theorem State.mputs_act (a : Nat) (l : List Byte) : (s.mputs a l).act = s.act := by
  induction l generalizing s a with
  | nil => rfl
  | cons b t ih => simp [State.mputs, ih]
@[simp] theorem State.mputs_safe (a : Nat) (l : List Byte) : (s.mputs a l).safe = s.safe := by
  induction l generalizing s a with
  | nil => rfl
  | cons b t ih => simp [State.mputs, ih]
@[simp] theorem State.mputs_thm (a : Nat) (l : List Byte) : (s.mputs a l).thm = s.thm := by
  induction l generalizing s a with
  | nil => rfl
  | cons b t ih => simp [State.mputs, ih]
@[simp] theorem State.mputs_hif (a : Nat) (l : List Byte) : (s.mputs a l).hif = s.hif := by
  induction l generalizing s a with
  | nil => rfl
  | cons b t ih => simp [State.mputs, ih]
@[simp] theorem State.mputs_olk (a : Nat) (l : List Byte) : (s.mputs a l).olk = s.olk := by
  induction l generalizing s a with
  | nil => rfl
  | cons b t ih => simp [State.mputs, ih]
@[simp] theorem State.mputs_nvm (a : Nat) (l : List Byte) : (s.mputs a l).nvm = s.nvm := by
  induction l generalizing s a with
  | nil => rfl
  | cons b t ih => simp [State.mputs, ih]
@[simp] theorem State.mputs_upd (a : Nat) (l : List Byte) : (s.mputs a l).upd = s.upd := by
  induction l generalizing s a with
  | nil => rfl
  | cons b t ih => simp [State.mputs, ih]
@[simp] theorem State.mputs_pmc (a : Nat) (l : List Byte) : (s.mputs a l).pmc = s.pmc := by
  induction l generalizing s a with
  | nil => rfl
  | cons b t ih => simp [State.mputs, ih]
@[simp] theorem State.mputs_gong (a : Nat) (l : List Byte) : (s.mputs a l).gong = s.gong := by
  induction l generalizing s a with
  | nil => rfl
  | cons b t ih => simp [State.mputs, ih]
@[simp] theorem State.mputs_rtl (a : Nat) (l : List Byte) : (s.mputs a l).rtl = s.rtl := by
  induction l generalizing s a with
  | nil => rfl
  | cons b t ih => simp [State.mputs, ih]
@[simp] theorem State.mputs_jtag (a : Nat) (l : List Byte) : (s.mputs a l).jtag = s.jtag := by
  induction l generalizing s a with
  | nil => rfl
  | cons b t ih => simp [State.mputs, ih]
@[simp] theorem State.mputs_pending (a : Nat) (l : List Byte) : (s.mputs a l).pending = s.pending := by
  induction l generalizing s a with
  | nil => rfl
  | cons b t ih => simp [State.mputs, ih]

/-! ### `fresh` -/

@[simp] theorem State.fresh_clave : s.fresh.2.clave = s.clave := rfl
@[simp] theorem State.fresh_time : s.fresh.2.time = s.time := rfl
@[simp] theorem State.fresh_regs : s.fresh.2.regs = s.regs := rfl
@[simp] theorem State.fresh_mem : s.fresh.2.mem = s.mem := rfl
@[simp] theorem State.fresh_sig : s.fresh.2.sig = s.sig := rfl
@[simp] theorem State.fresh_bus : s.fresh.2.bus = s.bus := rfl
@[simp] theorem State.fresh_writes : s.fresh.2.writes = s.writes := rfl
@[simp] theorem State.fresh_irqs : s.fresh.2.irqs = s.irqs := rfl
@[simp] theorem State.fresh_reacts : s.fresh.2.reacts = s.reacts := rfl
@[simp] theorem State.fresh_clocks : s.fresh.2.clocks = s.clocks := rfl
@[simp] theorem State.fresh_idl : s.fresh.2.idl = s.idl := rfl
@[simp] theorem State.fresh_clv : s.fresh.2.clv = s.clv := rfl
@[simp] theorem State.fresh_jrn : s.fresh.2.jrn = s.jrn := rfl
@[simp] theorem State.fresh_seq : s.fresh.2.seq = s.seq := rfl
@[simp] theorem State.fresh_cle : s.fresh.2.cle = s.cle := rfl
@[simp] theorem State.fresh_pwm : s.fresh.2.pwm = s.pwm := rfl
@[simp] theorem State.fresh_adc : s.fresh.2.adc = s.adc := rfl
@[simp] theorem State.fresh_tmu : s.fresh.2.tmu = s.tmu := rfl
@[simp] theorem State.fresh_lvc : s.fresh.2.lvc = s.lvc := rfl
@[simp] theorem State.fresh_chg : s.fresh.2.chg = s.chg := rfl
@[simp] theorem State.fresh_pfb : s.fresh.2.pfb = s.pfb := rfl
@[simp] theorem State.fresh_lks : s.fresh.2.lks = s.lks := rfl
@[simp] theorem State.fresh_act : s.fresh.2.act = s.act := rfl
@[simp] theorem State.fresh_safe : s.fresh.2.safe = s.safe := rfl
@[simp] theorem State.fresh_thm : s.fresh.2.thm = s.thm := rfl
@[simp] theorem State.fresh_hif : s.fresh.2.hif = s.hif := rfl
@[simp] theorem State.fresh_olk : s.fresh.2.olk = s.olk := rfl
@[simp] theorem State.fresh_nvm : s.fresh.2.nvm = s.nvm := rfl
@[simp] theorem State.fresh_upd : s.fresh.2.upd = s.upd := rfl
@[simp] theorem State.fresh_pmc : s.fresh.2.pmc = s.pmc := rfl
@[simp] theorem State.fresh_gong : s.fresh.2.gong = s.gong := rfl
@[simp] theorem State.fresh_rtl : s.fresh.2.rtl = s.rtl := rfl
@[simp] theorem State.fresh_jtag : s.fresh.2.jtag = s.jtag := rfl
@[simp] theorem State.fresh_pending : s.fresh.2.pending = s.pending := rfl

/-! ### Registers -/

/-- A register after a write of a register. -/
theorem State.rd_wr (a b : Nat) (v : Word) : (s.wr a v).rd b = if b = a then v &&& RegMap.impl a else s.rd b := by
  simp [State.rd, State.wr, SMap.get_set]

/-- A register after a write of it: the bits it has. -/
@[simp] theorem State.rd_wr_self (a : Nat) (v : Word) : (s.wr a v).rd a = v &&& RegMap.impl a := by simp [State.rd_wr]

/-- A write leaves every other register alone. -/
theorem State.rd_wr_of_ne {a b : Nat} (v : Word) (h : b ≠ a) : (s.wr a v).rd b = s.rd b := by simp [State.rd_wr, h]

/-- A register after a write of a field of a register. -/
theorem State.rd_fset (f : Fld) (n b : Nat) :
    (s.fset f n).rd b = if b = f.addr then putBits (s.rd f.addr) f.hi f.lo n &&& RegMap.impl f.addr else s.rd b := by
  simp [State.fset, State.rd_wr]

theorem State.rd_fset_of_ne (f : Fld) (n : Nat) {b : Nat} (h : b ≠ f.addr) : (s.fset f n).rd b = s.rd b := by simp [State.rd_fset, h]

theorem State.rd_fput_of_ne (f : Fld) (x : Bool) {b : Nat} (h : b ≠ f.addr) : (s.fput f x).rd b = s.rd b := s.rd_fset_of_ne f _ h

theorem State.rd_finc_of_ne (f : Fld) (n : Nat) {b : Nat} (h : b ≠ f.addr) : (s.finc f n).rd b = s.rd b := s.rd_fset_of_ne f _ h

theorem State.rd_rput_of_ne (a i : Nat) (x : Bool) {b : Nat} (h : b ≠ a) : (s.rput a i x).rd b = s.rd b := s.rd_wr_of_ne _ h

@[simp] theorem State.rd_sput (i b : Nat) (v : F32) : (s.sput i v).rd b = s.rd b := rfl
@[simp] theorem State.rd_mput (a b : Nat) (x : Byte) : (s.mput a x).rd b = s.rd b := rfl
@[simp] theorem State.rd_irq (p : Fin 3) (h : Half) (c : BitVec 16) (i : BitVec 8) (v : Tick) (b : Nat) : (s.irq p h c i v).rd b = s.rd b := rfl
@[simp] theorem State.rd_fresh (b : Nat) : s.fresh.2.rd b = s.rd b := rfl

@[simp] theorem State.rd_mputs (a b : Nat) (l : List Byte) : (s.mputs a l).rd b = s.rd b := by
  simp [State.rd]

/-! ### Fields of a word -/

/-- A bit of a field mask. -/
theorem getLsbD_bitMask (hi lo i : Nat) : (w32 (bitMask hi lo)).getLsbD i = (decide (i < 32) && decide (lo ≤ i) && decide (i < hi + 1)) := by
  simp only [w32, bitMask, BitVec.getLsbD_ofNat, Nat.testBit_mul_two_pow, Nat.testBit_two_pow_sub_one]
  by_cases h1 : i < 32 <;> by_cases h2 : lo ≤ i <;> simp [h1, h2]
  omega

/-- A bit of a word with a field replaced. -/
theorem getLsbD_putBits (w : Word) (hi lo n i : Nat) : (putBits w hi lo n).getLsbD i =
    if lo ≤ i ∧ i ≤ hi then decide (i < 32) && n.testBit (i - lo) else w.getLsbD i := by
  simp only [putBits, BitVec.getLsbD_or, BitVec.getLsbD_and, BitVec.getLsbD_not, getLsbD_bitMask]
  simp only [w32, BitVec.getLsbD_ofNat, Nat.testBit_mul_two_pow, Nat.testBit_mod_two_pow]
  have e1 : (i < hi + 1) = (i ≤ hi) := propext Nat.lt_succ_iff
  by_cases h2 : lo ≤ i
  · have e2 : (i - lo < hi + 1 - lo) = (i ≤ hi) := by simp only [eq_iff_iff]; omega
    by_cases h1 : i < 32
    · by_cases h3 : i ≤ hi <;> simp [e1, e2, h1, h2, h3]
    · simp [h1, BitVec.getLsbD_of_ge w i (by omega)]
  · by_cases h1 : i < 32
    · simp [h1, h2]
    · simp [h2, BitVec.getLsbD_of_ge w i (by omega)]

/-- A one-bit field after it is written. -/
theorem State.fbit_fput (f : Fld) (b : Bool) (hf : f.hi = f.lo) (hi : (RegMap.impl f.addr).getLsbD f.lo = true) : (s.fput f b).fbit f = b := by
  have h32 : f.lo < 32 := by
    by_cases h : f.lo < 32
    · exact h
    · rw [BitVec.getLsbD_of_ge _ _ (by omega)] at hi; exact absurd hi (by decide)
  simp only [State.fbit, State.fput, State.rd_fset, if_true, BitVec.getLsbD_and, getLsbD_putBits, hf, hi]
  cases b <;> simp [b2n, h32]

/-- Any bit after a field of a register is written. -/
theorem State.fbit_fset (f g : Fld) (n : Nat) (h : g.addr ≠ f.addr ∨ g.lo < f.lo ∨ f.hi < g.lo) (hg : g.addr = f.addr → (RegMap.impl f.addr).getLsbD g.lo = true) :
    (s.fset f n).fbit g = s.fbit g := by
  by_cases ha : g.addr = f.addr
  · have hne : ¬ (f.lo ≤ g.lo ∧ g.lo ≤ f.hi) := by
      rcases h with h | h | h
      · exact absurd ha h
      · omega
      · omega
    simp [State.fbit, State.rd_fset, ha, getLsbD_putBits, hne, hg ha]
  · simp [State.fbit, State.rd_fset, ha]

theorem State.fbit_fset_of_ne (f g : Fld) (n : Nat) (h : g.addr ≠ f.addr) : (s.fset f n).fbit g = s.fbit g := by
  simp [State.fbit, State.rd_fset_of_ne, h]

theorem State.fget_fset_of_ne (f g : Fld) (n : Nat) (h : g.addr ≠ f.addr) : (s.fset f n).fget g = s.fget g := by
  simp [State.fget, State.rd_fset_of_ne, h]

/-! ### Signals and memory -/

/-- A signal after it is published. -/
@[simp] theorem State.sget_sput_self (i : Nat) (v : F32) : (s.sput i v).sget i = v := by simp [State.sget, State.sput]

theorem State.sget_sput_of_ne {i j : Nat} (v : F32) (h : j ≠ i) : (s.sput i v).sget j = s.sget j := by
  simp [State.sget, State.sput, SMap.get_set, h]

@[simp] theorem State.sget_wr (a i : Nat) (v : Word) : (s.wr a v).sget i = s.sget i := rfl
@[simp] theorem State.sget_fset (f : Fld) (n i : Nat) : (s.fset f n).sget i = s.sget i := rfl
@[simp] theorem State.sget_fput (f : Fld) (b : Bool) (i : Nat) : (s.fput f b).sget i = s.sget i := rfl

/-- A byte after it is written. -/
@[simp] theorem State.mget_mput_self (a : Nat) (b : Byte) : (s.mput a b).mget a = b := by simp [State.mget, State.mput]

theorem State.mget_mput_of_ne {a c : Nat} (b : Byte) (h : c ≠ a) : (s.mput a b).mget c = s.mget c := by
  simp [State.mget, State.mput, SMap.get_set, h]

@[simp] theorem State.mget_wr (a c : Nat) (v : Word) : (s.wr a v).mget c = s.mget c := rfl
@[simp] theorem State.mget_fset (f : Fld) (n c : Nat) : (s.fset f n).mget c = s.mget c := rfl

/-- A store of bytes leaves every byte outside alone. -/
theorem State.mget_mputs_of_out (a c : Nat) (l : List Byte) (h : c < a ∨ a + l.length ≤ c) : (s.mputs a l).mget c = s.mget c := by
  induction l generalizing s a with
  | nil => rfl
  | cons b t ih =>
    simp only [List.length_cons] at h
    rw [State.mputs, ih _ _ (by omega), State.mget_mput_of_ne _ _ (by omega)]

/-- A store of bytes leaves the bytes stored. -/
theorem State.mget_mputs (a i : Nat) (l : List Byte) (h : i < l.length) : (s.mputs a l).mget (a + i) = l[i] := by
  induction l generalizing s a i with
  | nil => simp at h
  | cons b t ih =>
    cases i with
    | zero => simp [State.mputs, State.mget_mputs_of_out]
    | succ n =>
      simp only [State.mputs, List.getElem_cons_succ]
      rw [show a + (n + 1) = a + 1 + n by omega]
      exact ih _ _ _ (by simpa using h)

/-- A store keeps the canonical form of the memory. -/
theorem State.mput_wf (a : Nat) (b : Byte) (h : Memory.wf s.mem = true) : Memory.wf (s.mput a b).mem = true := SMap.wf_set _ _ _ _ h

theorem State.mputs_wf (a : Nat) (l : List Byte) (h : Memory.wf s.mem = true) : Memory.wf (s.mputs a l).mem = true := by
  induction l generalizing s a with
  | nil => exact h
  | cons b t ih => exact ih _ _ (State.mput_wf s a b h)

end Sys2Proof.Machine
end

