-- ==== Sys2Proof/Laws/Raise.lean ====
section
/-! SUPPORT. Raising a code: the record it queues, the interrupt and reaction it makes, and everything it leaves alone; the same for counting an event. -/

namespace Sys2Proof.Machine

variable (s : State)

/-! ### Queueing a record -/

@[simp] theorem State.overrun_clave (r : JRec) : (s.overrun r).clave = s.clave := rfl
@[simp] theorem State.overrun_time (r : JRec) : (s.overrun r).time = s.time := rfl
@[simp] theorem State.overrun_mem (r : JRec) : (s.overrun r).mem = s.mem := rfl
@[simp] theorem State.overrun_sig (r : JRec) : (s.overrun r).sig = s.sig := rfl
@[simp] theorem State.overrun_bus (r : JRec) : (s.overrun r).bus = s.bus := rfl
@[simp] theorem State.overrun_writes (r : JRec) : (s.overrun r).writes = s.writes := rfl
@[simp] theorem State.overrun_free (r : JRec) : (s.overrun r).free = s.free := rfl
@[simp] theorem State.overrun_irqs (r : JRec) : (s.overrun r).irqs = s.irqs := rfl
@[simp] theorem State.overrun_reacts (r : JRec) : (s.overrun r).reacts = s.reacts := rfl
@[simp] theorem State.overrun_clocks (r : JRec) : (s.overrun r).clocks = s.clocks := rfl
@[simp] theorem State.overrun_idl (r : JRec) : (s.overrun r).idl = s.idl := rfl
@[simp] theorem State.overrun_clv (r : JRec) : (s.overrun r).clv = s.clv := rfl
@[simp] theorem State.overrun_seq (r : JRec) : (s.overrun r).seq = s.seq := rfl
@[simp] theorem State.overrun_cle (r : JRec) : (s.overrun r).cle = s.cle := rfl
@[simp] theorem State.overrun_pwm (r : JRec) : (s.overrun r).pwm = s.pwm := rfl
@[simp] theorem State.overrun_adc (r : JRec) : (s.overrun r).adc = s.adc := rfl
@[simp] theorem State.overrun_tmu (r : JRec) : (s.overrun r).tmu = s.tmu := rfl
@[simp] theorem State.overrun_lvc (r : JRec) : (s.overrun r).lvc = s.lvc := rfl
@[simp] theorem State.overrun_chg (r : JRec) : (s.overrun r).chg = s.chg := rfl
@[simp] theorem State.overrun_pfb (r : JRec) : (s.overrun r).pfb = s.pfb := rfl
@[simp] theorem State.overrun_lks (r : JRec) : (s.overrun r).lks = s.lks := rfl
@[simp] theorem State.overrun_act (r : JRec) : (s.overrun r).act = s.act := rfl
@[simp] theorem State.overrun_safe (r : JRec) : (s.overrun r).safe = s.safe := rfl
@[simp] theorem State.overrun_thm (r : JRec) : (s.overrun r).thm = s.thm := rfl
@[simp] theorem State.overrun_hif (r : JRec) : (s.overrun r).hif = s.hif := rfl
@[simp] theorem State.overrun_olk (r : JRec) : (s.overrun r).olk = s.olk := rfl
@[simp] theorem State.overrun_nvm (r : JRec) : (s.overrun r).nvm = s.nvm := rfl
@[simp] theorem State.overrun_upd (r : JRec) : (s.overrun r).upd = s.upd := rfl
@[simp] theorem State.overrun_pmc (r : JRec) : (s.overrun r).pmc = s.pmc := rfl
@[simp] theorem State.overrun_gong (r : JRec) : (s.overrun r).gong = s.gong := rfl
@[simp] theorem State.overrun_rtl (r : JRec) : (s.overrun r).rtl = s.rtl := rfl
@[simp] theorem State.overrun_jtag (r : JRec) : (s.overrun r).jtag = s.jtag := rfl
@[simp] theorem State.overrun_pending (r : JRec) : (s.overrun r).pending = s.pending := rfl

@[simp] theorem State.enqueue_clave (r : JRec) : (s.enqueue r).clave = s.clave := by
  unfold State.enqueue; repeat' split
  all_goals rfl
@[simp] theorem State.enqueue_time (r : JRec) : (s.enqueue r).time = s.time := by
  unfold State.enqueue; repeat' split
  all_goals rfl
@[simp] theorem State.enqueue_mem (r : JRec) : (s.enqueue r).mem = s.mem := by
  unfold State.enqueue; repeat' split
  all_goals rfl
@[simp] theorem State.enqueue_sig (r : JRec) : (s.enqueue r).sig = s.sig := by
  unfold State.enqueue; repeat' split
  all_goals rfl
@[simp] theorem State.enqueue_bus (r : JRec) : (s.enqueue r).bus = s.bus := by
  unfold State.enqueue; repeat' split
  all_goals rfl
@[simp] theorem State.enqueue_writes (r : JRec) : (s.enqueue r).writes = s.writes := by
  unfold State.enqueue; repeat' split
  all_goals rfl
@[simp] theorem State.enqueue_free (r : JRec) : (s.enqueue r).free = s.free := by
  unfold State.enqueue; repeat' split
  all_goals rfl
@[simp] theorem State.enqueue_irqs (r : JRec) : (s.enqueue r).irqs = s.irqs := by
  unfold State.enqueue; repeat' split
  all_goals rfl
@[simp] theorem State.enqueue_reacts (r : JRec) : (s.enqueue r).reacts = s.reacts := by
  unfold State.enqueue; repeat' split
  all_goals rfl
@[simp] theorem State.enqueue_clocks (r : JRec) : (s.enqueue r).clocks = s.clocks := by
  unfold State.enqueue; repeat' split
  all_goals rfl
@[simp] theorem State.enqueue_idl (r : JRec) : (s.enqueue r).idl = s.idl := by
  unfold State.enqueue; repeat' split
  all_goals rfl
@[simp] theorem State.enqueue_clv (r : JRec) : (s.enqueue r).clv = s.clv := by
  unfold State.enqueue; repeat' split
  all_goals rfl
@[simp] theorem State.enqueue_seq (r : JRec) : (s.enqueue r).seq = s.seq := by
  unfold State.enqueue; repeat' split
  all_goals rfl
@[simp] theorem State.enqueue_cle (r : JRec) : (s.enqueue r).cle = s.cle := by
  unfold State.enqueue; repeat' split
  all_goals rfl
@[simp] theorem State.enqueue_pwm (r : JRec) : (s.enqueue r).pwm = s.pwm := by
  unfold State.enqueue; repeat' split
  all_goals rfl
@[simp] theorem State.enqueue_adc (r : JRec) : (s.enqueue r).adc = s.adc := by
  unfold State.enqueue; repeat' split
  all_goals rfl
@[simp] theorem State.enqueue_tmu (r : JRec) : (s.enqueue r).tmu = s.tmu := by
  unfold State.enqueue; repeat' split
  all_goals rfl
@[simp] theorem State.enqueue_lvc (r : JRec) : (s.enqueue r).lvc = s.lvc := by
  unfold State.enqueue; repeat' split
  all_goals rfl
@[simp] theorem State.enqueue_chg (r : JRec) : (s.enqueue r).chg = s.chg := by
  unfold State.enqueue; repeat' split
  all_goals rfl
@[simp] theorem State.enqueue_pfb (r : JRec) : (s.enqueue r).pfb = s.pfb := by
  unfold State.enqueue; repeat' split
  all_goals rfl
@[simp] theorem State.enqueue_lks (r : JRec) : (s.enqueue r).lks = s.lks := by
  unfold State.enqueue; repeat' split
  all_goals rfl
@[simp] theorem State.enqueue_act (r : JRec) : (s.enqueue r).act = s.act := by
  unfold State.enqueue; repeat' split
  all_goals rfl
@[simp] theorem State.enqueue_safe (r : JRec) : (s.enqueue r).safe = s.safe := by
  unfold State.enqueue; repeat' split
  all_goals rfl
@[simp] theorem State.enqueue_thm (r : JRec) : (s.enqueue r).thm = s.thm := by
  unfold State.enqueue; repeat' split
  all_goals rfl
@[simp] theorem State.enqueue_hif (r : JRec) : (s.enqueue r).hif = s.hif := by
  unfold State.enqueue; repeat' split
  all_goals rfl
@[simp] theorem State.enqueue_olk (r : JRec) : (s.enqueue r).olk = s.olk := by
  unfold State.enqueue; repeat' split
  all_goals rfl
@[simp] theorem State.enqueue_nvm (r : JRec) : (s.enqueue r).nvm = s.nvm := by
  unfold State.enqueue; repeat' split
  all_goals rfl
@[simp] theorem State.enqueue_upd (r : JRec) : (s.enqueue r).upd = s.upd := by
  unfold State.enqueue; repeat' split
  all_goals rfl
@[simp] theorem State.enqueue_pmc (r : JRec) : (s.enqueue r).pmc = s.pmc := by
  unfold State.enqueue; repeat' split
  all_goals rfl
@[simp] theorem State.enqueue_gong (r : JRec) : (s.enqueue r).gong = s.gong := by
  unfold State.enqueue; repeat' split
  all_goals rfl
@[simp] theorem State.enqueue_rtl (r : JRec) : (s.enqueue r).rtl = s.rtl := by
  unfold State.enqueue; repeat' split
  all_goals rfl
@[simp] theorem State.enqueue_jtag (r : JRec) : (s.enqueue r).jtag = s.jtag := by
  unfold State.enqueue; repeat' split
  all_goals rfl
@[simp] theorem State.enqueue_pending (r : JRec) : (s.enqueue r).pending = s.pending := by
  unfold State.enqueue; repeat' split
  all_goals rfl

@[simp] theorem State.emit_clave (c : BitVec 16) (i : BitVec 8) (k : Nat) (p : Payload) (g : Nat) (d : Bool) : (s.emit c i k p g d).clave = s.clave := by
  simp [State.emit, State.mkRec]
@[simp] theorem State.emit_time (c : BitVec 16) (i : BitVec 8) (k : Nat) (p : Payload) (g : Nat) (d : Bool) : (s.emit c i k p g d).time = s.time := by
  simp [State.emit, State.mkRec]
@[simp] theorem State.emit_mem (c : BitVec 16) (i : BitVec 8) (k : Nat) (p : Payload) (g : Nat) (d : Bool) : (s.emit c i k p g d).mem = s.mem := by
  simp [State.emit, State.mkRec]
@[simp] theorem State.emit_sig (c : BitVec 16) (i : BitVec 8) (k : Nat) (p : Payload) (g : Nat) (d : Bool) : (s.emit c i k p g d).sig = s.sig := by
  simp [State.emit, State.mkRec]
@[simp] theorem State.emit_bus (c : BitVec 16) (i : BitVec 8) (k : Nat) (p : Payload) (g : Nat) (d : Bool) : (s.emit c i k p g d).bus = s.bus := by
  simp [State.emit, State.mkRec]
@[simp] theorem State.emit_writes (c : BitVec 16) (i : BitVec 8) (k : Nat) (p : Payload) (g : Nat) (d : Bool) : (s.emit c i k p g d).writes = s.writes := by
  simp [State.emit, State.mkRec]
@[simp] theorem State.emit_free (c : BitVec 16) (i : BitVec 8) (k : Nat) (p : Payload) (g : Nat) (d : Bool) : (s.emit c i k p g d).free = s.free := by
  simp [State.emit, State.mkRec]
@[simp] theorem State.emit_irqs (c : BitVec 16) (i : BitVec 8) (k : Nat) (p : Payload) (g : Nat) (d : Bool) : (s.emit c i k p g d).irqs = s.irqs := by
  simp [State.emit, State.mkRec]
@[simp] theorem State.emit_reacts (c : BitVec 16) (i : BitVec 8) (k : Nat) (p : Payload) (g : Nat) (d : Bool) : (s.emit c i k p g d).reacts = s.reacts := by
  simp [State.emit, State.mkRec]
@[simp] theorem State.emit_clocks (c : BitVec 16) (i : BitVec 8) (k : Nat) (p : Payload) (g : Nat) (d : Bool) : (s.emit c i k p g d).clocks = s.clocks := by
  simp [State.emit, State.mkRec]
@[simp] theorem State.emit_idl (c : BitVec 16) (i : BitVec 8) (k : Nat) (p : Payload) (g : Nat) (d : Bool) : (s.emit c i k p g d).idl = s.idl := by
  simp [State.emit, State.mkRec]
@[simp] theorem State.emit_clv (c : BitVec 16) (i : BitVec 8) (k : Nat) (p : Payload) (g : Nat) (d : Bool) : (s.emit c i k p g d).clv = s.clv := by
  simp [State.emit, State.mkRec]
@[simp] theorem State.emit_seq (c : BitVec 16) (i : BitVec 8) (k : Nat) (p : Payload) (g : Nat) (d : Bool) : (s.emit c i k p g d).seq = s.seq := by
  simp [State.emit, State.mkRec]
@[simp] theorem State.emit_cle (c : BitVec 16) (i : BitVec 8) (k : Nat) (p : Payload) (g : Nat) (d : Bool) : (s.emit c i k p g d).cle = s.cle := by
  simp [State.emit, State.mkRec]
@[simp] theorem State.emit_pwm (c : BitVec 16) (i : BitVec 8) (k : Nat) (p : Payload) (g : Nat) (d : Bool) : (s.emit c i k p g d).pwm = s.pwm := by
  simp [State.emit, State.mkRec]
@[simp] theorem State.emit_adc (c : BitVec 16) (i : BitVec 8) (k : Nat) (p : Payload) (g : Nat) (d : Bool) : (s.emit c i k p g d).adc = s.adc := by
  simp [State.emit, State.mkRec]
@[simp] theorem State.emit_tmu (c : BitVec 16) (i : BitVec 8) (k : Nat) (p : Payload) (g : Nat) (d : Bool) : (s.emit c i k p g d).tmu = s.tmu := by
  simp [State.emit, State.mkRec]
@[simp] theorem State.emit_lvc (c : BitVec 16) (i : BitVec 8) (k : Nat) (p : Payload) (g : Nat) (d : Bool) : (s.emit c i k p g d).lvc = s.lvc := by
  simp [State.emit, State.mkRec]
@[simp] theorem State.emit_chg (c : BitVec 16) (i : BitVec 8) (k : Nat) (p : Payload) (g : Nat) (d : Bool) : (s.emit c i k p g d).chg = s.chg := by
  simp [State.emit, State.mkRec]
@[simp] theorem State.emit_pfb (c : BitVec 16) (i : BitVec 8) (k : Nat) (p : Payload) (g : Nat) (d : Bool) : (s.emit c i k p g d).pfb = s.pfb := by
  simp [State.emit, State.mkRec]
@[simp] theorem State.emit_lks (c : BitVec 16) (i : BitVec 8) (k : Nat) (p : Payload) (g : Nat) (d : Bool) : (s.emit c i k p g d).lks = s.lks := by
  simp [State.emit, State.mkRec]
@[simp] theorem State.emit_act (c : BitVec 16) (i : BitVec 8) (k : Nat) (p : Payload) (g : Nat) (d : Bool) : (s.emit c i k p g d).act = s.act := by
  simp [State.emit, State.mkRec]
@[simp] theorem State.emit_safe (c : BitVec 16) (i : BitVec 8) (k : Nat) (p : Payload) (g : Nat) (d : Bool) : (s.emit c i k p g d).safe = s.safe := by
  simp [State.emit, State.mkRec]
@[simp] theorem State.emit_thm (c : BitVec 16) (i : BitVec 8) (k : Nat) (p : Payload) (g : Nat) (d : Bool) : (s.emit c i k p g d).thm = s.thm := by
  simp [State.emit, State.mkRec]
@[simp] theorem State.emit_hif (c : BitVec 16) (i : BitVec 8) (k : Nat) (p : Payload) (g : Nat) (d : Bool) : (s.emit c i k p g d).hif = s.hif := by
  simp [State.emit, State.mkRec]
@[simp] theorem State.emit_olk (c : BitVec 16) (i : BitVec 8) (k : Nat) (p : Payload) (g : Nat) (d : Bool) : (s.emit c i k p g d).olk = s.olk := by
  simp [State.emit, State.mkRec]
@[simp] theorem State.emit_nvm (c : BitVec 16) (i : BitVec 8) (k : Nat) (p : Payload) (g : Nat) (d : Bool) : (s.emit c i k p g d).nvm = s.nvm := by
  simp [State.emit, State.mkRec]
@[simp] theorem State.emit_upd (c : BitVec 16) (i : BitVec 8) (k : Nat) (p : Payload) (g : Nat) (d : Bool) : (s.emit c i k p g d).upd = s.upd := by
  simp [State.emit, State.mkRec]
@[simp] theorem State.emit_pmc (c : BitVec 16) (i : BitVec 8) (k : Nat) (p : Payload) (g : Nat) (d : Bool) : (s.emit c i k p g d).pmc = s.pmc := by
  simp [State.emit, State.mkRec]
@[simp] theorem State.emit_gong (c : BitVec 16) (i : BitVec 8) (k : Nat) (p : Payload) (g : Nat) (d : Bool) : (s.emit c i k p g d).gong = s.gong := by
  simp [State.emit, State.mkRec]
@[simp] theorem State.emit_rtl (c : BitVec 16) (i : BitVec 8) (k : Nat) (p : Payload) (g : Nat) (d : Bool) : (s.emit c i k p g d).rtl = s.rtl := by
  simp [State.emit, State.mkRec]
@[simp] theorem State.emit_jtag (c : BitVec 16) (i : BitVec 8) (k : Nat) (p : Payload) (g : Nat) (d : Bool) : (s.emit c i k p g d).jtag = s.jtag := by
  simp [State.emit, State.mkRec]
@[simp] theorem State.emit_pending (c : BitVec 16) (i : BitVec 8) (k : Nat) (p : Payload) (g : Nat) (d : Bool) : (s.emit c i k p g d).pending = s.pending := by
  simp [State.emit, State.mkRec]

theorem State.rd_overrun {a : Nat} (r : JRec) (h : a ≠ R.JRN_STATUS) : (s.overrun r).rd a = s.rd a :=
  State.rd_finc_of_ne _ F.JRN_STATUS_OVERRUN 1 h

theorem State.rd_enqueue {a : Nat} (r : JRec) (h : a ≠ R.JRN_STATUS) : (s.enqueue r).rd a = s.rd a := by
  unfold State.enqueue
  repeat' split
  all_goals first
    | rfl
    | exact State.rd_overrun _ _ h

theorem State.rd_emit {a : Nat} (c : BitVec 16) (i : BitVec 8) (k : Nat) (p : Payload) (g : Nat) (d : Bool) (h : a ≠ R.JRN_STATUS) :
    (s.emit c i k p g d).rd a = s.rd a := State.rd_enqueue _ _ h

/-- A queue with room takes a record. -/
theorem State.enqueue_waiting (r : JRec) (h : hwWaiting s.jrn.waiting < 64) : (s.enqueue r).jrn.waiting = r.join s.jrn.waiting := by
  simp [State.enqueue, h]

/-! ### Raising -/

@[simp] theorem State.raiseFrom_clave (c : BitVec 16) (i k a : Nat) (p : Payload) (g : Nat) (d : Bool) : (s.raiseFrom c i k a p g d).clave = s.clave := by
  simp only [State.raiseFrom]; repeat' split
  all_goals simp
@[simp] theorem State.raiseAs_clave (c : BitVec 16) (i k a : Nat) (p : Payload) (d : Bool) : (s.raiseAs c i k a p d).clave = s.clave := State.raiseFrom_clave ..
@[simp] theorem State.raiseFrom_time (c : BitVec 16) (i k a : Nat) (p : Payload) (g : Nat) (d : Bool) : (s.raiseFrom c i k a p g d).time = s.time := by
  simp only [State.raiseFrom]; repeat' split
  all_goals simp
@[simp] theorem State.raiseAs_time (c : BitVec 16) (i k a : Nat) (p : Payload) (d : Bool) : (s.raiseAs c i k a p d).time = s.time := State.raiseFrom_time ..
@[simp] theorem State.raiseFrom_mem (c : BitVec 16) (i k a : Nat) (p : Payload) (g : Nat) (d : Bool) : (s.raiseFrom c i k a p g d).mem = s.mem := by
  simp only [State.raiseFrom]; repeat' split
  all_goals simp
@[simp] theorem State.raiseAs_mem (c : BitVec 16) (i k a : Nat) (p : Payload) (d : Bool) : (s.raiseAs c i k a p d).mem = s.mem := State.raiseFrom_mem ..
@[simp] theorem State.raiseFrom_sig (c : BitVec 16) (i k a : Nat) (p : Payload) (g : Nat) (d : Bool) : (s.raiseFrom c i k a p g d).sig = s.sig := by
  simp only [State.raiseFrom]; repeat' split
  all_goals simp
@[simp] theorem State.raiseAs_sig (c : BitVec 16) (i k a : Nat) (p : Payload) (d : Bool) : (s.raiseAs c i k a p d).sig = s.sig := State.raiseFrom_sig ..
@[simp] theorem State.raiseFrom_bus (c : BitVec 16) (i k a : Nat) (p : Payload) (g : Nat) (d : Bool) : (s.raiseFrom c i k a p g d).bus = s.bus := by
  simp only [State.raiseFrom]; repeat' split
  all_goals simp
@[simp] theorem State.raiseAs_bus (c : BitVec 16) (i k a : Nat) (p : Payload) (d : Bool) : (s.raiseAs c i k a p d).bus = s.bus := State.raiseFrom_bus ..
@[simp] theorem State.raiseFrom_writes (c : BitVec 16) (i k a : Nat) (p : Payload) (g : Nat) (d : Bool) : (s.raiseFrom c i k a p g d).writes = s.writes := by
  simp only [State.raiseFrom]; repeat' split
  all_goals simp
@[simp] theorem State.raiseAs_writes (c : BitVec 16) (i k a : Nat) (p : Payload) (d : Bool) : (s.raiseAs c i k a p d).writes = s.writes := State.raiseFrom_writes ..
@[simp] theorem State.raiseFrom_free (c : BitVec 16) (i k a : Nat) (p : Payload) (g : Nat) (d : Bool) : (s.raiseFrom c i k a p g d).free = s.free := by
  simp only [State.raiseFrom]; repeat' split
  all_goals simp
@[simp] theorem State.raiseAs_free (c : BitVec 16) (i k a : Nat) (p : Payload) (d : Bool) : (s.raiseAs c i k a p d).free = s.free := State.raiseFrom_free ..
@[simp] theorem State.raiseFrom_clocks (c : BitVec 16) (i k a : Nat) (p : Payload) (g : Nat) (d : Bool) : (s.raiseFrom c i k a p g d).clocks = s.clocks := by
  simp only [State.raiseFrom]; repeat' split
  all_goals simp
@[simp] theorem State.raiseAs_clocks (c : BitVec 16) (i k a : Nat) (p : Payload) (d : Bool) : (s.raiseAs c i k a p d).clocks = s.clocks := State.raiseFrom_clocks ..
@[simp] theorem State.raiseFrom_idl (c : BitVec 16) (i k a : Nat) (p : Payload) (g : Nat) (d : Bool) : (s.raiseFrom c i k a p g d).idl = s.idl := by
  simp only [State.raiseFrom]; repeat' split
  all_goals simp
@[simp] theorem State.raiseAs_idl (c : BitVec 16) (i k a : Nat) (p : Payload) (d : Bool) : (s.raiseAs c i k a p d).idl = s.idl := State.raiseFrom_idl ..
@[simp] theorem State.raiseFrom_clv (c : BitVec 16) (i k a : Nat) (p : Payload) (g : Nat) (d : Bool) : (s.raiseFrom c i k a p g d).clv = s.clv := by
  simp only [State.raiseFrom]; repeat' split
  all_goals simp
@[simp] theorem State.raiseAs_clv (c : BitVec 16) (i k a : Nat) (p : Payload) (d : Bool) : (s.raiseAs c i k a p d).clv = s.clv := State.raiseFrom_clv ..
@[simp] theorem State.raiseFrom_cle (c : BitVec 16) (i k a : Nat) (p : Payload) (g : Nat) (d : Bool) : (s.raiseFrom c i k a p g d).cle = s.cle := by
  simp only [State.raiseFrom]; repeat' split
  all_goals simp
@[simp] theorem State.raiseAs_cle (c : BitVec 16) (i k a : Nat) (p : Payload) (d : Bool) : (s.raiseAs c i k a p d).cle = s.cle := State.raiseFrom_cle ..
@[simp] theorem State.raiseFrom_pwm (c : BitVec 16) (i k a : Nat) (p : Payload) (g : Nat) (d : Bool) : (s.raiseFrom c i k a p g d).pwm = s.pwm := by
  simp only [State.raiseFrom]; repeat' split
  all_goals simp
@[simp] theorem State.raiseAs_pwm (c : BitVec 16) (i k a : Nat) (p : Payload) (d : Bool) : (s.raiseAs c i k a p d).pwm = s.pwm := State.raiseFrom_pwm ..
@[simp] theorem State.raiseFrom_adc (c : BitVec 16) (i k a : Nat) (p : Payload) (g : Nat) (d : Bool) : (s.raiseFrom c i k a p g d).adc = s.adc := by
  simp only [State.raiseFrom]; repeat' split
  all_goals simp
@[simp] theorem State.raiseAs_adc (c : BitVec 16) (i k a : Nat) (p : Payload) (d : Bool) : (s.raiseAs c i k a p d).adc = s.adc := State.raiseFrom_adc ..
@[simp] theorem State.raiseFrom_tmu (c : BitVec 16) (i k a : Nat) (p : Payload) (g : Nat) (d : Bool) : (s.raiseFrom c i k a p g d).tmu = s.tmu := by
  simp only [State.raiseFrom]; repeat' split
  all_goals simp
@[simp] theorem State.raiseAs_tmu (c : BitVec 16) (i k a : Nat) (p : Payload) (d : Bool) : (s.raiseAs c i k a p d).tmu = s.tmu := State.raiseFrom_tmu ..
@[simp] theorem State.raiseFrom_lvc (c : BitVec 16) (i k a : Nat) (p : Payload) (g : Nat) (d : Bool) : (s.raiseFrom c i k a p g d).lvc = s.lvc := by
  simp only [State.raiseFrom]; repeat' split
  all_goals simp
@[simp] theorem State.raiseAs_lvc (c : BitVec 16) (i k a : Nat) (p : Payload) (d : Bool) : (s.raiseAs c i k a p d).lvc = s.lvc := State.raiseFrom_lvc ..
@[simp] theorem State.raiseFrom_chg (c : BitVec 16) (i k a : Nat) (p : Payload) (g : Nat) (d : Bool) : (s.raiseFrom c i k a p g d).chg = s.chg := by
  simp only [State.raiseFrom]; repeat' split
  all_goals simp
@[simp] theorem State.raiseAs_chg (c : BitVec 16) (i k a : Nat) (p : Payload) (d : Bool) : (s.raiseAs c i k a p d).chg = s.chg := State.raiseFrom_chg ..
@[simp] theorem State.raiseFrom_pfb (c : BitVec 16) (i k a : Nat) (p : Payload) (g : Nat) (d : Bool) : (s.raiseFrom c i k a p g d).pfb = s.pfb := by
  simp only [State.raiseFrom]; repeat' split
  all_goals simp
@[simp] theorem State.raiseAs_pfb (c : BitVec 16) (i k a : Nat) (p : Payload) (d : Bool) : (s.raiseAs c i k a p d).pfb = s.pfb := State.raiseFrom_pfb ..
@[simp] theorem State.raiseFrom_lks (c : BitVec 16) (i k a : Nat) (p : Payload) (g : Nat) (d : Bool) : (s.raiseFrom c i k a p g d).lks = s.lks := by
  simp only [State.raiseFrom]; repeat' split
  all_goals simp
@[simp] theorem State.raiseAs_lks (c : BitVec 16) (i k a : Nat) (p : Payload) (d : Bool) : (s.raiseAs c i k a p d).lks = s.lks := State.raiseFrom_lks ..
@[simp] theorem State.raiseFrom_act (c : BitVec 16) (i k a : Nat) (p : Payload) (g : Nat) (d : Bool) : (s.raiseFrom c i k a p g d).act = s.act := by
  simp only [State.raiseFrom]; repeat' split
  all_goals simp
@[simp] theorem State.raiseAs_act (c : BitVec 16) (i k a : Nat) (p : Payload) (d : Bool) : (s.raiseAs c i k a p d).act = s.act := State.raiseFrom_act ..
@[simp] theorem State.raiseFrom_safe (c : BitVec 16) (i k a : Nat) (p : Payload) (g : Nat) (d : Bool) : (s.raiseFrom c i k a p g d).safe = s.safe := by
  simp only [State.raiseFrom]; repeat' split
  all_goals simp
@[simp] theorem State.raiseAs_safe (c : BitVec 16) (i k a : Nat) (p : Payload) (d : Bool) : (s.raiseAs c i k a p d).safe = s.safe := State.raiseFrom_safe ..
@[simp] theorem State.raiseFrom_thm (c : BitVec 16) (i k a : Nat) (p : Payload) (g : Nat) (d : Bool) : (s.raiseFrom c i k a p g d).thm = s.thm := by
  simp only [State.raiseFrom]; repeat' split
  all_goals simp
@[simp] theorem State.raiseAs_thm (c : BitVec 16) (i k a : Nat) (p : Payload) (d : Bool) : (s.raiseAs c i k a p d).thm = s.thm := State.raiseFrom_thm ..
@[simp] theorem State.raiseFrom_hif (c : BitVec 16) (i k a : Nat) (p : Payload) (g : Nat) (d : Bool) : (s.raiseFrom c i k a p g d).hif = s.hif := by
  simp only [State.raiseFrom]; repeat' split
  all_goals simp
@[simp] theorem State.raiseAs_hif (c : BitVec 16) (i k a : Nat) (p : Payload) (d : Bool) : (s.raiseAs c i k a p d).hif = s.hif := State.raiseFrom_hif ..
@[simp] theorem State.raiseFrom_olk (c : BitVec 16) (i k a : Nat) (p : Payload) (g : Nat) (d : Bool) : (s.raiseFrom c i k a p g d).olk = s.olk := by
  simp only [State.raiseFrom]; repeat' split
  all_goals simp
@[simp] theorem State.raiseAs_olk (c : BitVec 16) (i k a : Nat) (p : Payload) (d : Bool) : (s.raiseAs c i k a p d).olk = s.olk := State.raiseFrom_olk ..
@[simp] theorem State.raiseFrom_nvm (c : BitVec 16) (i k a : Nat) (p : Payload) (g : Nat) (d : Bool) : (s.raiseFrom c i k a p g d).nvm = s.nvm := by
  simp only [State.raiseFrom]; repeat' split
  all_goals simp
@[simp] theorem State.raiseAs_nvm (c : BitVec 16) (i k a : Nat) (p : Payload) (d : Bool) : (s.raiseAs c i k a p d).nvm = s.nvm := State.raiseFrom_nvm ..
@[simp] theorem State.raiseFrom_upd (c : BitVec 16) (i k a : Nat) (p : Payload) (g : Nat) (d : Bool) : (s.raiseFrom c i k a p g d).upd = s.upd := by
  simp only [State.raiseFrom]; repeat' split
  all_goals simp
@[simp] theorem State.raiseAs_upd (c : BitVec 16) (i k a : Nat) (p : Payload) (d : Bool) : (s.raiseAs c i k a p d).upd = s.upd := State.raiseFrom_upd ..
@[simp] theorem State.raiseFrom_pmc (c : BitVec 16) (i k a : Nat) (p : Payload) (g : Nat) (d : Bool) : (s.raiseFrom c i k a p g d).pmc = s.pmc := by
  simp only [State.raiseFrom]; repeat' split
  all_goals simp
@[simp] theorem State.raiseAs_pmc (c : BitVec 16) (i k a : Nat) (p : Payload) (d : Bool) : (s.raiseAs c i k a p d).pmc = s.pmc := State.raiseFrom_pmc ..
@[simp] theorem State.raiseFrom_gong (c : BitVec 16) (i k a : Nat) (p : Payload) (g : Nat) (d : Bool) : (s.raiseFrom c i k a p g d).gong = s.gong := by
  simp only [State.raiseFrom]; repeat' split
  all_goals simp
@[simp] theorem State.raiseAs_gong (c : BitVec 16) (i k a : Nat) (p : Payload) (d : Bool) : (s.raiseAs c i k a p d).gong = s.gong := State.raiseFrom_gong ..
@[simp] theorem State.raiseFrom_rtl (c : BitVec 16) (i k a : Nat) (p : Payload) (g : Nat) (d : Bool) : (s.raiseFrom c i k a p g d).rtl = s.rtl := by
  simp only [State.raiseFrom]; repeat' split
  all_goals simp
@[simp] theorem State.raiseAs_rtl (c : BitVec 16) (i k a : Nat) (p : Payload) (d : Bool) : (s.raiseAs c i k a p d).rtl = s.rtl := State.raiseFrom_rtl ..
@[simp] theorem State.raiseFrom_jtag (c : BitVec 16) (i k a : Nat) (p : Payload) (g : Nat) (d : Bool) : (s.raiseFrom c i k a p g d).jtag = s.jtag := by
  simp only [State.raiseFrom]; repeat' split
  all_goals simp
@[simp] theorem State.raiseAs_jtag (c : BitVec 16) (i k a : Nat) (p : Payload) (d : Bool) : (s.raiseAs c i k a p d).jtag = s.jtag := State.raiseFrom_jtag ..
@[simp] theorem State.raiseFrom_pending (c : BitVec 16) (i k a : Nat) (p : Payload) (g : Nat) (d : Bool) : (s.raiseFrom c i k a p g d).pending = s.pending := by
  simp only [State.raiseFrom]; repeat' split
  all_goals simp
@[simp] theorem State.raiseAs_pending (c : BitVec 16) (i k a : Nat) (p : Payload) (d : Bool) : (s.raiseAs c i k a p d).pending = s.pending := State.raiseFrom_pending ..

@[simp] theorem State.raise_clave (c : Code) (i : Nat) (p : Payload) : (s.raise c i p).clave = s.clave := State.raiseAs_clave ..
@[simp] theorem State.raiseD_clave (c : Code) (i : Nat) (p : Payload) : (s.raiseD c i p).clave = s.clave := State.raiseAs_clave ..
@[simp] theorem State.raise_time (c : Code) (i : Nat) (p : Payload) : (s.raise c i p).time = s.time := State.raiseAs_time ..
@[simp] theorem State.raiseD_time (c : Code) (i : Nat) (p : Payload) : (s.raiseD c i p).time = s.time := State.raiseAs_time ..
@[simp] theorem State.raise_mem (c : Code) (i : Nat) (p : Payload) : (s.raise c i p).mem = s.mem := State.raiseAs_mem ..
@[simp] theorem State.raiseD_mem (c : Code) (i : Nat) (p : Payload) : (s.raiseD c i p).mem = s.mem := State.raiseAs_mem ..
@[simp] theorem State.raise_sig (c : Code) (i : Nat) (p : Payload) : (s.raise c i p).sig = s.sig := State.raiseAs_sig ..
@[simp] theorem State.raiseD_sig (c : Code) (i : Nat) (p : Payload) : (s.raiseD c i p).sig = s.sig := State.raiseAs_sig ..
@[simp] theorem State.raise_bus (c : Code) (i : Nat) (p : Payload) : (s.raise c i p).bus = s.bus := State.raiseAs_bus ..
@[simp] theorem State.raise_writes (c : Code) (i : Nat) (p : Payload) : (s.raise c i p).writes = s.writes := State.raiseAs_writes ..
@[simp] theorem State.raiseD_bus (c : Code) (i : Nat) (p : Payload) : (s.raiseD c i p).bus = s.bus := State.raiseAs_bus ..
@[simp] theorem State.raiseD_writes (c : Code) (i : Nat) (p : Payload) : (s.raiseD c i p).writes = s.writes := State.raiseAs_writes ..
@[simp] theorem State.raise_free (c : Code) (i : Nat) (p : Payload) : (s.raise c i p).free = s.free := State.raiseAs_free ..
@[simp] theorem State.raiseD_free (c : Code) (i : Nat) (p : Payload) : (s.raiseD c i p).free = s.free := State.raiseAs_free ..
@[simp] theorem State.raise_clocks (c : Code) (i : Nat) (p : Payload) : (s.raise c i p).clocks = s.clocks := State.raiseAs_clocks ..
@[simp] theorem State.raiseD_clocks (c : Code) (i : Nat) (p : Payload) : (s.raiseD c i p).clocks = s.clocks := State.raiseAs_clocks ..
@[simp] theorem State.raise_idl (c : Code) (i : Nat) (p : Payload) : (s.raise c i p).idl = s.idl := State.raiseAs_idl ..
@[simp] theorem State.raiseD_idl (c : Code) (i : Nat) (p : Payload) : (s.raiseD c i p).idl = s.idl := State.raiseAs_idl ..
@[simp] theorem State.raise_clv (c : Code) (i : Nat) (p : Payload) : (s.raise c i p).clv = s.clv := State.raiseAs_clv ..
@[simp] theorem State.raiseD_clv (c : Code) (i : Nat) (p : Payload) : (s.raiseD c i p).clv = s.clv := State.raiseAs_clv ..
@[simp] theorem State.raise_cle (c : Code) (i : Nat) (p : Payload) : (s.raise c i p).cle = s.cle := State.raiseAs_cle ..
@[simp] theorem State.raiseD_cle (c : Code) (i : Nat) (p : Payload) : (s.raiseD c i p).cle = s.cle := State.raiseAs_cle ..
@[simp] theorem State.raise_pwm (c : Code) (i : Nat) (p : Payload) : (s.raise c i p).pwm = s.pwm := State.raiseAs_pwm ..
@[simp] theorem State.raiseD_pwm (c : Code) (i : Nat) (p : Payload) : (s.raiseD c i p).pwm = s.pwm := State.raiseAs_pwm ..
@[simp] theorem State.raise_adc (c : Code) (i : Nat) (p : Payload) : (s.raise c i p).adc = s.adc := State.raiseAs_adc ..
@[simp] theorem State.raiseD_adc (c : Code) (i : Nat) (p : Payload) : (s.raiseD c i p).adc = s.adc := State.raiseAs_adc ..
@[simp] theorem State.raise_tmu (c : Code) (i : Nat) (p : Payload) : (s.raise c i p).tmu = s.tmu := State.raiseAs_tmu ..
@[simp] theorem State.raiseD_tmu (c : Code) (i : Nat) (p : Payload) : (s.raiseD c i p).tmu = s.tmu := State.raiseAs_tmu ..
@[simp] theorem State.raise_lvc (c : Code) (i : Nat) (p : Payload) : (s.raise c i p).lvc = s.lvc := State.raiseAs_lvc ..
@[simp] theorem State.raiseD_lvc (c : Code) (i : Nat) (p : Payload) : (s.raiseD c i p).lvc = s.lvc := State.raiseAs_lvc ..
@[simp] theorem State.raise_chg (c : Code) (i : Nat) (p : Payload) : (s.raise c i p).chg = s.chg := State.raiseAs_chg ..
@[simp] theorem State.raiseD_chg (c : Code) (i : Nat) (p : Payload) : (s.raiseD c i p).chg = s.chg := State.raiseAs_chg ..
@[simp] theorem State.raise_pfb (c : Code) (i : Nat) (p : Payload) : (s.raise c i p).pfb = s.pfb := State.raiseAs_pfb ..
@[simp] theorem State.raiseD_pfb (c : Code) (i : Nat) (p : Payload) : (s.raiseD c i p).pfb = s.pfb := State.raiseAs_pfb ..
@[simp] theorem State.raise_lks (c : Code) (i : Nat) (p : Payload) : (s.raise c i p).lks = s.lks := State.raiseAs_lks ..
@[simp] theorem State.raiseD_lks (c : Code) (i : Nat) (p : Payload) : (s.raiseD c i p).lks = s.lks := State.raiseAs_lks ..
@[simp] theorem State.raise_act (c : Code) (i : Nat) (p : Payload) : (s.raise c i p).act = s.act := State.raiseAs_act ..
@[simp] theorem State.raiseD_act (c : Code) (i : Nat) (p : Payload) : (s.raiseD c i p).act = s.act := State.raiseAs_act ..
@[simp] theorem State.raise_safe (c : Code) (i : Nat) (p : Payload) : (s.raise c i p).safe = s.safe := State.raiseAs_safe ..
@[simp] theorem State.raiseD_safe (c : Code) (i : Nat) (p : Payload) : (s.raiseD c i p).safe = s.safe := State.raiseAs_safe ..
@[simp] theorem State.raise_thm (c : Code) (i : Nat) (p : Payload) : (s.raise c i p).thm = s.thm := State.raiseAs_thm ..
@[simp] theorem State.raiseD_thm (c : Code) (i : Nat) (p : Payload) : (s.raiseD c i p).thm = s.thm := State.raiseAs_thm ..
@[simp] theorem State.raise_hif (c : Code) (i : Nat) (p : Payload) : (s.raise c i p).hif = s.hif := State.raiseAs_hif ..
@[simp] theorem State.raiseD_hif (c : Code) (i : Nat) (p : Payload) : (s.raiseD c i p).hif = s.hif := State.raiseAs_hif ..
@[simp] theorem State.raise_olk (c : Code) (i : Nat) (p : Payload) : (s.raise c i p).olk = s.olk := State.raiseAs_olk ..
@[simp] theorem State.raiseD_olk (c : Code) (i : Nat) (p : Payload) : (s.raiseD c i p).olk = s.olk := State.raiseAs_olk ..
@[simp] theorem State.raise_nvm (c : Code) (i : Nat) (p : Payload) : (s.raise c i p).nvm = s.nvm := State.raiseAs_nvm ..
@[simp] theorem State.raiseD_nvm (c : Code) (i : Nat) (p : Payload) : (s.raiseD c i p).nvm = s.nvm := State.raiseAs_nvm ..
@[simp] theorem State.raise_upd (c : Code) (i : Nat) (p : Payload) : (s.raise c i p).upd = s.upd := State.raiseAs_upd ..
@[simp] theorem State.raiseD_upd (c : Code) (i : Nat) (p : Payload) : (s.raiseD c i p).upd = s.upd := State.raiseAs_upd ..
@[simp] theorem State.raise_pmc (c : Code) (i : Nat) (p : Payload) : (s.raise c i p).pmc = s.pmc := State.raiseAs_pmc ..
@[simp] theorem State.raiseD_pmc (c : Code) (i : Nat) (p : Payload) : (s.raiseD c i p).pmc = s.pmc := State.raiseAs_pmc ..
@[simp] theorem State.raise_gong (c : Code) (i : Nat) (p : Payload) : (s.raise c i p).gong = s.gong := State.raiseAs_gong ..
@[simp] theorem State.raiseD_gong (c : Code) (i : Nat) (p : Payload) : (s.raiseD c i p).gong = s.gong := State.raiseAs_gong ..
@[simp] theorem State.raise_rtl (c : Code) (i : Nat) (p : Payload) : (s.raise c i p).rtl = s.rtl := State.raiseAs_rtl ..
@[simp] theorem State.raiseD_rtl (c : Code) (i : Nat) (p : Payload) : (s.raiseD c i p).rtl = s.rtl := State.raiseAs_rtl ..
@[simp] theorem State.raise_jtag (c : Code) (i : Nat) (p : Payload) : (s.raise c i p).jtag = s.jtag := State.raiseAs_jtag ..
@[simp] theorem State.raiseD_jtag (c : Code) (i : Nat) (p : Payload) : (s.raiseD c i p).jtag = s.jtag := State.raiseAs_jtag ..
@[simp] theorem State.raise_pending (c : Code) (i : Nat) (p : Payload) : (s.raise c i p).pending = s.pending := State.raiseAs_pending ..
@[simp] theorem State.raiseD_pending (c : Code) (i : Nat) (p : Payload) : (s.raiseD c i p).pending = s.pending := State.raiseAs_pending ..

/-- Raising a code changes nothing of the mode sequencer but its list of causes. -/
theorem State.raiseFrom_seq (c : BitVec 16) (i k a : Nat) (p : Payload) (g : Nat) (d : Bool) :
    ∃ l, (s.raiseFrom c i k a p g d).seq = { s.seq with causes := l } := by
  refine ⟨(s.raiseFrom c i k a p g d).seq.causes, ?_⟩
  simp only [State.raiseFrom]
  repeat' split
  all_goals simp

theorem State.raiseAs_seq (c : BitVec 16) (i k a : Nat) (p : Payload) (d : Bool) :
    ∃ l, (s.raiseAs c i k a p d).seq = { s.seq with causes := l } := s.raiseFrom_seq ..

@[simp] theorem State.raiseAs_seq_mode (c : BitVec 16) (i k a : Nat) (p : Payload) (d : Bool) : (s.raiseAs c i k a p d).seq.mode = s.seq.mode := by
  obtain ⟨l, h⟩ := s.raiseAs_seq c i k a p d; simp [h]
@[simp] theorem State.raise_seq_mode (c : Code) (i : Nat) (p : Payload) : (s.raise c i p).seq.mode = s.seq.mode := State.raiseAs_seq_mode ..
@[simp] theorem State.raiseD_seq_mode (c : Code) (i : Nat) (p : Payload) : (s.raiseD c i p).seq.mode = s.seq.mode := State.raiseAs_seq_mode ..
@[simp] theorem State.raiseAs_seq_sub (c : BitVec 16) (i k a : Nat) (p : Payload) (d : Bool) : (s.raiseAs c i k a p d).seq.sub = s.seq.sub := by
  obtain ⟨l, h⟩ := s.raiseAs_seq c i k a p d; simp [h]
@[simp] theorem State.raise_seq_sub (c : Code) (i : Nat) (p : Payload) : (s.raise c i p).seq.sub = s.seq.sub := State.raiseAs_seq_sub ..
@[simp] theorem State.raiseD_seq_sub (c : Code) (i : Nat) (p : Payload) : (s.raiseD c i p).seq.sub = s.seq.sub := State.raiseAs_seq_sub ..
@[simp] theorem State.raiseAs_seq_redPend (c : BitVec 16) (i k a : Nat) (p : Payload) (d : Bool) : (s.raiseAs c i k a p d).seq.redPend = s.seq.redPend := by
  obtain ⟨l, h⟩ := s.raiseAs_seq c i k a p d; simp [h]
@[simp] theorem State.raise_seq_redPend (c : Code) (i : Nat) (p : Payload) : (s.raise c i p).seq.redPend = s.seq.redPend := State.raiseAs_seq_redPend ..
@[simp] theorem State.raiseD_seq_redPend (c : Code) (i : Nat) (p : Payload) : (s.raiseD c i p).seq.redPend = s.seq.redPend := State.raiseAs_seq_redPend ..
@[simp] theorem State.raiseAs_seq_safeLatch (c : BitVec 16) (i k a : Nat) (p : Payload) (d : Bool) : (s.raiseAs c i k a p d).seq.safeLatch = s.seq.safeLatch := by
  obtain ⟨l, h⟩ := s.raiseAs_seq c i k a p d; simp [h]
@[simp] theorem State.raise_seq_safeLatch (c : Code) (i : Nat) (p : Payload) : (s.raise c i p).seq.safeLatch = s.seq.safeLatch := State.raiseAs_seq_safeLatch ..
@[simp] theorem State.raiseD_seq_safeLatch (c : Code) (i : Nat) (p : Payload) : (s.raiseD c i p).seq.safeLatch = s.seq.safeLatch := State.raiseAs_seq_safeLatch ..
@[simp] theorem State.raiseAs_seq_request (c : BitVec 16) (i k a : Nat) (p : Payload) (d : Bool) : (s.raiseAs c i k a p d).seq.request = s.seq.request := by
  obtain ⟨l, h⟩ := s.raiseAs_seq c i k a p d; simp [h]
@[simp] theorem State.raise_seq_request (c : Code) (i : Nat) (p : Payload) : (s.raise c i p).seq.request = s.seq.request := State.raiseAs_seq_request ..
@[simp] theorem State.raiseD_seq_request (c : Code) (i : Nat) (p : Payload) : (s.raiseD c i p).seq.request = s.seq.request := State.raiseAs_seq_request ..
@[simp] theorem State.raiseAs_seq_since (c : BitVec 16) (i k a : Nat) (p : Payload) (d : Bool) : (s.raiseAs c i k a p d).seq.since = s.seq.since := by
  obtain ⟨l, h⟩ := s.raiseAs_seq c i k a p d; simp [h]
@[simp] theorem State.raise_seq_since (c : Code) (i : Nat) (p : Payload) : (s.raise c i p).seq.since = s.seq.since := State.raiseAs_seq_since ..
@[simp] theorem State.raiseD_seq_since (c : Code) (i : Nat) (p : Payload) : (s.raiseD c i p).seq.since = s.seq.since := State.raiseAs_seq_since ..
@[simp] theorem State.raiseAs_seq_sleepStart (c : BitVec 16) (i k a : Nat) (p : Payload) (d : Bool) : (s.raiseAs c i k a p d).seq.sleepStart = s.seq.sleepStart := by
  obtain ⟨l, h⟩ := s.raiseAs_seq c i k a p d; simp [h]
@[simp] theorem State.raise_seq_sleepStart (c : Code) (i : Nat) (p : Payload) : (s.raise c i p).seq.sleepStart = s.seq.sleepStart := State.raiseAs_seq_sleepStart ..
@[simp] theorem State.raiseD_seq_sleepStart (c : Code) (i : Nat) (p : Payload) : (s.raiseD c i p).seq.sleepStart = s.seq.sleepStart := State.raiseAs_seq_sleepStart ..
@[simp] theorem State.raiseAs_seq_sleepDue (c : BitVec 16) (i k a : Nat) (p : Payload) (d : Bool) : (s.raiseAs c i k a p d).seq.sleepDue = s.seq.sleepDue := by
  obtain ⟨l, h⟩ := s.raiseAs_seq c i k a p d; simp [h]
@[simp] theorem State.raise_seq_sleepDue (c : Code) (i : Nat) (p : Payload) : (s.raise c i p).seq.sleepDue = s.seq.sleepDue := State.raiseAs_seq_sleepDue ..
@[simp] theorem State.raiseD_seq_sleepDue (c : Code) (i : Nat) (p : Payload) : (s.raiseD c i p).seq.sleepDue = s.seq.sleepDue := State.raiseAs_seq_sleepDue ..
@[simp] theorem State.raiseAs_seq_entry (c : BitVec 16) (i k a : Nat) (p : Payload) (d : Bool) : (s.raiseAs c i k a p d).seq.entry = s.seq.entry := by
  obtain ⟨l, h⟩ := s.raiseAs_seq c i k a p d; simp [h]
@[simp] theorem State.raise_seq_entry (c : Code) (i : Nat) (p : Payload) : (s.raise c i p).seq.entry = s.seq.entry := State.raiseAs_seq_entry ..
@[simp] theorem State.raiseD_seq_entry (c : Code) (i : Nat) (p : Payload) : (s.raiseD c i p).seq.entry = s.seq.entry := State.raiseAs_seq_entry ..
@[simp] theorem State.raiseAs_seq_wakeDue (c : BitVec 16) (i k a : Nat) (p : Payload) (d : Bool) : (s.raiseAs c i k a p d).seq.wakeDue = s.seq.wakeDue := by
  obtain ⟨l, h⟩ := s.raiseAs_seq c i k a p d; simp [h]
@[simp] theorem State.raise_seq_wakeDue (c : Code) (i : Nat) (p : Payload) : (s.raise c i p).seq.wakeDue = s.seq.wakeDue := State.raiseAs_seq_wakeDue ..
@[simp] theorem State.raiseD_seq_wakeDue (c : Code) (i : Nat) (p : Payload) : (s.raiseD c i p).seq.wakeDue = s.seq.wakeDue := State.raiseAs_seq_wakeDue ..
@[simp] theorem State.raiseAs_seq_waking (c : BitVec 16) (i k a : Nat) (p : Payload) (d : Bool) : (s.raiseAs c i k a p d).seq.waking = s.seq.waking := by
  obtain ⟨l, h⟩ := s.raiseAs_seq c i k a p d; simp [h]
@[simp] theorem State.raise_seq_waking (c : Code) (i : Nat) (p : Payload) : (s.raise c i p).seq.waking = s.seq.waking := State.raiseAs_seq_waking ..
@[simp] theorem State.raiseD_seq_waking (c : Code) (i : Nat) (p : Payload) : (s.raiseD c i p).seq.waking = s.seq.waking := State.raiseAs_seq_waking ..
@[simp] theorem State.raiseAs_seq_boot (c : BitVec 16) (i k a : Nat) (p : Payload) (d : Bool) : (s.raiseAs c i k a p d).seq.boot = s.seq.boot := by
  obtain ⟨l, h⟩ := s.raiseAs_seq c i k a p d; simp [h]
@[simp] theorem State.raise_seq_boot (c : Code) (i : Nat) (p : Payload) : (s.raise c i p).seq.boot = s.seq.boot := State.raiseAs_seq_boot ..
@[simp] theorem State.raiseD_seq_boot (c : Code) (i : Nat) (p : Payload) : (s.raiseD c i p).seq.boot = s.seq.boot := State.raiseAs_seq_boot ..
@[simp] theorem State.raiseAs_seq_bootArming (c : BitVec 16) (i k a : Nat) (p : Payload) (d : Bool) : (s.raiseAs c i k a p d).seq.bootArming = s.seq.bootArming := by
  obtain ⟨l, h⟩ := s.raiseAs_seq c i k a p d; simp [h]
@[simp] theorem State.raise_seq_bootArming (c : Code) (i : Nat) (p : Payload) : (s.raise c i p).seq.bootArming = s.seq.bootArming := State.raiseAs_seq_bootArming ..
@[simp] theorem State.raiseD_seq_bootArming (c : Code) (i : Nat) (p : Payload) : (s.raiseD c i p).seq.bootArming = s.seq.bootArming := State.raiseAs_seq_bootArming ..
@[simp] theorem State.raiseAs_seq_stepsDone (c : BitVec 16) (i k a : Nat) (p : Payload) (d : Bool) : (s.raiseAs c i k a p d).seq.stepsDone = s.seq.stepsDone := by
  obtain ⟨l, h⟩ := s.raiseAs_seq c i k a p d; simp [h]
@[simp] theorem State.raise_seq_stepsDone (c : Code) (i : Nat) (p : Payload) : (s.raise c i p).seq.stepsDone = s.seq.stepsDone := State.raiseAs_seq_stepsDone ..
@[simp] theorem State.raiseD_seq_stepsDone (c : Code) (i : Nat) (p : Payload) : (s.raiseD c i p).seq.stepsDone = s.seq.stepsDone := State.raiseAs_seq_stepsDone ..
@[simp] theorem State.raiseAs_seq_timedOut (c : BitVec 16) (i k a : Nat) (p : Payload) (d : Bool) : (s.raiseAs c i k a p d).seq.timedOut = s.seq.timedOut := by
  obtain ⟨l, h⟩ := s.raiseAs_seq c i k a p d; simp [h]
@[simp] theorem State.raise_seq_timedOut (c : Code) (i : Nat) (p : Payload) : (s.raise c i p).seq.timedOut = s.seq.timedOut := State.raiseAs_seq_timedOut ..
@[simp] theorem State.raiseD_seq_timedOut (c : Code) (i : Nat) (p : Payload) : (s.raiseD c i p).seq.timedOut = s.seq.timedOut := State.raiseAs_seq_timedOut ..
@[simp] theorem State.raiseAs_seq_diagOk (c : BitVec 16) (i k a : Nat) (p : Payload) (d : Bool) : (s.raiseAs c i k a p d).seq.diagOk = s.seq.diagOk := by
  obtain ⟨l, h⟩ := s.raiseAs_seq c i k a p d; simp [h]
@[simp] theorem State.raise_seq_diagOk (c : Code) (i : Nat) (p : Payload) : (s.raise c i p).seq.diagOk = s.seq.diagOk := State.raiseAs_seq_diagOk ..
@[simp] theorem State.raiseD_seq_diagOk (c : Code) (i : Nat) (p : Payload) : (s.raiseD c i p).seq.diagOk = s.seq.diagOk := State.raiseAs_seq_diagOk ..
@[simp] theorem State.raiseAs_seq_resOk (c : BitVec 16) (i k a : Nat) (p : Payload) (d : Bool) : (s.raiseAs c i k a p d).seq.resOk = s.seq.resOk := by
  obtain ⟨l, h⟩ := s.raiseAs_seq c i k a p d; simp [h]
@[simp] theorem State.raise_seq_resOk (c : Code) (i : Nat) (p : Payload) : (s.raise c i p).seq.resOk = s.seq.resOk := State.raiseAs_seq_resOk ..
@[simp] theorem State.raiseD_seq_resOk (c : Code) (i : Nat) (p : Payload) : (s.raiseD c i p).seq.resOk = s.seq.resOk := State.raiseAs_seq_resOk ..
@[simp] theorem State.raiseAs_seq_held (c : BitVec 16) (i k a : Nat) (p : Payload) (d : Bool) : (s.raiseAs c i k a p d).seq.held = s.seq.held := by
  obtain ⟨l, h⟩ := s.raiseAs_seq c i k a p d; simp [h]
@[simp] theorem State.raise_seq_held (c : Code) (i : Nat) (p : Payload) : (s.raise c i p).seq.held = s.seq.held := State.raiseAs_seq_held ..
@[simp] theorem State.raiseD_seq_held (c : Code) (i : Nat) (p : Payload) : (s.raiseD c i p).seq.held = s.seq.held := State.raiseAs_seq_held ..
@[simp] theorem State.raiseAs_seq_test (c : BitVec 16) (i k a : Nat) (p : Payload) (d : Bool) : (s.raiseAs c i k a p d).seq.test = s.seq.test := by
  obtain ⟨l, h⟩ := s.raiseAs_seq c i k a p d; simp [h]
@[simp] theorem State.raise_seq_test (c : Code) (i : Nat) (p : Payload) : (s.raise c i p).seq.test = s.seq.test := State.raiseAs_seq_test ..
@[simp] theorem State.raiseD_seq_test (c : Code) (i : Nat) (p : Payload) : (s.raiseD c i p).seq.test = s.seq.test := State.raiseAs_seq_test ..

/-- Raising a code changes no register but JRN_STATUS. -/
theorem State.rd_raiseFrom {b : Nat} (c : BitVec 16) (i k a : Nat) (p : Payload) (g : Nat) (d : Bool) (h : b ≠ R.JRN_STATUS) :
    (s.raiseFrom c i k a p g d).rd b = s.rd b := by
  simp only [State.raiseFrom]
  repeat' split
  all_goals exact State.rd_emit _ _ _ _ _ _ _ h

theorem State.rd_raiseAs {b : Nat} (c : BitVec 16) (i k a : Nat) (p : Payload) (d : Bool) (h : b ≠ R.JRN_STATUS) :
    (s.raiseAs c i k a p d).rd b = s.rd b := State.rd_raiseFrom _ _ _ _ _ _ _ _ h

theorem State.rd_raise {b : Nat} (c : Code) (i : Nat) (p : Payload) (h : b ≠ R.JRN_STATUS) : (s.raise c i p).rd b = s.rd b :=
  State.rd_raiseAs _ _ _ _ _ _ _ h

theorem State.rd_raiseD {b : Nat} (c : Code) (i : Nat) (p : Payload) (h : b ≠ R.JRN_STATUS) : (s.raiseD c i p).rd b = s.rd b :=
  State.rd_raiseAs _ _ _ _ _ _ _ h

theorem State.raiseFrom_jrn (c : BitVec 16) (i k a : Nat) (p : Payload) (g : Nat) (d : Bool) :
    (s.raiseFrom c i k a p g d).jrn = (s.emit c (BitVec.ofNat 8 i) (s.classOf c k a) p g d).jrn := by
  simp only [State.raiseFrom]
  repeat' split
  all_goals simp

/-- A queue with room takes the record of a code that is raised. -/
theorem State.raiseFrom_waiting (c : BitVec 16) (i k a : Nat) (p : Payload) (g : Nat) (d : Bool) (h : hwWaiting s.jrn.waiting < 64) :
    ∃ r : JRec, (s.raiseFrom c i k a p g d).jrn.waiting = r.join s.jrn.waiting ∧ r.code = c ∧ r.inst = BitVec.ofNat 8 i ∧ r.payload = p ∧
      r.cls = s.classOf c k a ∧ r.fw = false := by
  refine ⟨(s.mkRec (sourceKey c (BitVec.ofNat 8 i)) c (BitVec.ofNat 8 i) (s.classOf c k a) p g d false).1, ?_, rfl, rfl, rfl, rfl, rfl⟩
  rw [State.raiseFrom_jrn]
  exact State.enqueue_waiting _ _ h

/-- A code of class 3 to 5 in force is a reaction to run. -/
theorem State.raiseFrom_reacts (c : BitVec 16) (i k a : Nat) (p : Payload) (g : Nat) (d : Bool) (h : 3 ≤ s.classOf c k a) :
    (s.raiseFrom c i k a p g d).reacts =
      s.reacts ++ [{ code := c, inst := BitVec.ofNat 8 i, cls := s.classOf c k a, assign := a, stamp := s.clave, cyc := s.cyc }] := by
  have : ¬ s.classOf c k a < 3 := by omega
  simp only [State.raiseFrom, this, if_false]
  split <;> simp

/-! ### Counting an event -/

@[simp] theorem State.pmcFold_clave (l : List (Nat × PmcCyc)) : (s.pmcFold l).clave = s.clave := by
  induction l generalizing s with
  | nil => rfl
  | cons p t ih => simp [State.pmcFold, ih]
@[simp] theorem State.pmcSync_clave : s.pmcSync.clave = s.clave := by
  unfold State.pmcSync; split <;> simp
@[simp] theorem State.pmcAdd_clave (n : Nat) (c : PmcCyc) : (s.pmcAdd n c).1.clave = s.clave := by
  simp [State.pmcAdd]
@[simp] theorem State.pmcWrap_clave (n : Nat) : (s.pmcWrap n).clave = s.clave := by
  simp [State.pmcWrap]
@[simp] theorem State.count_clave (n c : Nat) : (s.count n c).clave = s.clave := by
  simp only [State.count]; repeat' split
  all_goals simp
@[simp] theorem State.pmcFold_time (l : List (Nat × PmcCyc)) : (s.pmcFold l).time = s.time := by
  induction l generalizing s with
  | nil => rfl
  | cons p t ih => simp [State.pmcFold, ih]
@[simp] theorem State.pmcSync_time : s.pmcSync.time = s.time := by
  unfold State.pmcSync; split <;> simp
@[simp] theorem State.pmcAdd_time (n : Nat) (c : PmcCyc) : (s.pmcAdd n c).1.time = s.time := by
  simp [State.pmcAdd]
@[simp] theorem State.pmcWrap_time (n : Nat) : (s.pmcWrap n).time = s.time := by
  simp [State.pmcWrap]
@[simp] theorem State.count_time (n c : Nat) : (s.count n c).time = s.time := by
  simp only [State.count]; repeat' split
  all_goals simp
@[simp] theorem State.pmcFold_mem (l : List (Nat × PmcCyc)) : (s.pmcFold l).mem = s.mem := by
  induction l generalizing s with
  | nil => rfl
  | cons p t ih => simp [State.pmcFold, ih]
@[simp] theorem State.pmcSync_mem : s.pmcSync.mem = s.mem := by
  unfold State.pmcSync; split <;> simp
@[simp] theorem State.pmcAdd_mem (n : Nat) (c : PmcCyc) : (s.pmcAdd n c).1.mem = s.mem := by
  simp [State.pmcAdd]
@[simp] theorem State.pmcWrap_mem (n : Nat) : (s.pmcWrap n).mem = s.mem := by
  simp [State.pmcWrap]
@[simp] theorem State.count_mem (n c : Nat) : (s.count n c).mem = s.mem := by
  simp only [State.count]; repeat' split
  all_goals simp
@[simp] theorem State.pmcFold_sig (l : List (Nat × PmcCyc)) : (s.pmcFold l).sig = s.sig := by
  induction l generalizing s with
  | nil => rfl
  | cons p t ih => simp [State.pmcFold, ih]
@[simp] theorem State.pmcSync_sig : s.pmcSync.sig = s.sig := by
  unfold State.pmcSync; split <;> simp
@[simp] theorem State.pmcAdd_sig (n : Nat) (c : PmcCyc) : (s.pmcAdd n c).1.sig = s.sig := by
  simp [State.pmcAdd]
@[simp] theorem State.pmcWrap_sig (n : Nat) : (s.pmcWrap n).sig = s.sig := by
  simp [State.pmcWrap]
@[simp] theorem State.count_sig (n c : Nat) : (s.count n c).sig = s.sig := by
  simp only [State.count]; repeat' split
  all_goals simp
@[simp] theorem State.pmcFold_bus (l : List (Nat × PmcCyc)) : (s.pmcFold l).bus = s.bus := by
  induction l generalizing s with
  | nil => rfl
  | cons p t ih => simp [State.pmcFold, ih]
@[simp] theorem State.pmcFold_writes (l : List (Nat × PmcCyc)) : (s.pmcFold l).writes = s.writes := by
  induction l generalizing s with
  | nil => rfl
  | cons p t ih => simp [State.pmcFold, ih]
@[simp] theorem State.pmcSync_bus : s.pmcSync.bus = s.bus := by
  unfold State.pmcSync; split <;> simp
@[simp] theorem State.pmcSync_writes : s.pmcSync.writes = s.writes := by
  unfold State.pmcSync; split <;> simp
@[simp] theorem State.pmcAdd_bus (n : Nat) (c : PmcCyc) : (s.pmcAdd n c).1.bus = s.bus := by
  simp [State.pmcAdd]
@[simp] theorem State.pmcAdd_writes (n : Nat) (c : PmcCyc) : (s.pmcAdd n c).1.writes = s.writes := by
  simp [State.pmcAdd]
@[simp] theorem State.pmcWrap_bus (n : Nat) : (s.pmcWrap n).bus = s.bus := by
  simp [State.pmcWrap]
@[simp] theorem State.pmcWrap_writes (n : Nat) : (s.pmcWrap n).writes = s.writes := by
  simp [State.pmcWrap]
@[simp] theorem State.count_bus (n c : Nat) : (s.count n c).bus = s.bus := by
  simp only [State.count]; repeat' split
  all_goals simp
@[simp] theorem State.count_writes (n c : Nat) : (s.count n c).writes = s.writes := by
  simp only [State.count]; repeat' split
  all_goals simp
@[simp] theorem State.pmcFold_free (l : List (Nat × PmcCyc)) : (s.pmcFold l).free = s.free := by
  induction l generalizing s with
  | nil => rfl
  | cons p t ih => simp [State.pmcFold, ih]
@[simp] theorem State.pmcSync_free : s.pmcSync.free = s.free := by
  unfold State.pmcSync; split <;> simp
@[simp] theorem State.pmcAdd_free (n : Nat) (c : PmcCyc) : (s.pmcAdd n c).1.free = s.free := by
  simp [State.pmcAdd]
@[simp] theorem State.pmcWrap_free (n : Nat) : (s.pmcWrap n).free = s.free := by
  simp [State.pmcWrap]
@[simp] theorem State.count_free (n c : Nat) : (s.count n c).free = s.free := by
  simp only [State.count]; repeat' split
  all_goals simp
@[simp] theorem State.pmcFold_clocks (l : List (Nat × PmcCyc)) : (s.pmcFold l).clocks = s.clocks := by
  induction l generalizing s with
  | nil => rfl
  | cons p t ih => simp [State.pmcFold, ih]
@[simp] theorem State.pmcSync_clocks : s.pmcSync.clocks = s.clocks := by
  unfold State.pmcSync; split <;> simp
@[simp] theorem State.pmcAdd_clocks (n : Nat) (c : PmcCyc) : (s.pmcAdd n c).1.clocks = s.clocks := by
  simp [State.pmcAdd]
@[simp] theorem State.pmcWrap_clocks (n : Nat) : (s.pmcWrap n).clocks = s.clocks := by
  simp [State.pmcWrap]
@[simp] theorem State.count_clocks (n c : Nat) : (s.count n c).clocks = s.clocks := by
  simp only [State.count]; repeat' split
  all_goals simp
@[simp] theorem State.pmcFold_idl (l : List (Nat × PmcCyc)) : (s.pmcFold l).idl = s.idl := by
  induction l generalizing s with
  | nil => rfl
  | cons p t ih => simp [State.pmcFold, ih]
@[simp] theorem State.pmcSync_idl : s.pmcSync.idl = s.idl := by
  unfold State.pmcSync; split <;> simp
@[simp] theorem State.pmcAdd_idl (n : Nat) (c : PmcCyc) : (s.pmcAdd n c).1.idl = s.idl := by
  simp [State.pmcAdd]
@[simp] theorem State.pmcWrap_idl (n : Nat) : (s.pmcWrap n).idl = s.idl := by
  simp [State.pmcWrap]
@[simp] theorem State.count_idl (n c : Nat) : (s.count n c).idl = s.idl := by
  simp only [State.count]; repeat' split
  all_goals simp
@[simp] theorem State.pmcFold_clv (l : List (Nat × PmcCyc)) : (s.pmcFold l).clv = s.clv := by
  induction l generalizing s with
  | nil => rfl
  | cons p t ih => simp [State.pmcFold, ih]
@[simp] theorem State.pmcSync_clv : s.pmcSync.clv = s.clv := by
  unfold State.pmcSync; split <;> simp
@[simp] theorem State.pmcAdd_clv (n : Nat) (c : PmcCyc) : (s.pmcAdd n c).1.clv = s.clv := by
  simp [State.pmcAdd]
@[simp] theorem State.pmcWrap_clv (n : Nat) : (s.pmcWrap n).clv = s.clv := by
  simp [State.pmcWrap]
@[simp] theorem State.count_clv (n c : Nat) : (s.count n c).clv = s.clv := by
  simp only [State.count]; repeat' split
  all_goals simp
@[simp] theorem State.pmcFold_cle (l : List (Nat × PmcCyc)) : (s.pmcFold l).cle = s.cle := by
  induction l generalizing s with
  | nil => rfl
  | cons p t ih => simp [State.pmcFold, ih]
@[simp] theorem State.pmcSync_cle : s.pmcSync.cle = s.cle := by
  unfold State.pmcSync; split <;> simp
@[simp] theorem State.pmcAdd_cle (n : Nat) (c : PmcCyc) : (s.pmcAdd n c).1.cle = s.cle := by
  simp [State.pmcAdd]
@[simp] theorem State.pmcWrap_cle (n : Nat) : (s.pmcWrap n).cle = s.cle := by
  simp [State.pmcWrap]
@[simp] theorem State.count_cle (n c : Nat) : (s.count n c).cle = s.cle := by
  simp only [State.count]; repeat' split
  all_goals simp
@[simp] theorem State.pmcFold_pwm (l : List (Nat × PmcCyc)) : (s.pmcFold l).pwm = s.pwm := by
  induction l generalizing s with
  | nil => rfl
  | cons p t ih => simp [State.pmcFold, ih]
@[simp] theorem State.pmcSync_pwm : s.pmcSync.pwm = s.pwm := by
  unfold State.pmcSync; split <;> simp
@[simp] theorem State.pmcAdd_pwm (n : Nat) (c : PmcCyc) : (s.pmcAdd n c).1.pwm = s.pwm := by
  simp [State.pmcAdd]
@[simp] theorem State.pmcWrap_pwm (n : Nat) : (s.pmcWrap n).pwm = s.pwm := by
  simp [State.pmcWrap]
@[simp] theorem State.count_pwm (n c : Nat) : (s.count n c).pwm = s.pwm := by
  simp only [State.count]; repeat' split
  all_goals simp
@[simp] theorem State.pmcFold_adc (l : List (Nat × PmcCyc)) : (s.pmcFold l).adc = s.adc := by
  induction l generalizing s with
  | nil => rfl
  | cons p t ih => simp [State.pmcFold, ih]
@[simp] theorem State.pmcSync_adc : s.pmcSync.adc = s.adc := by
  unfold State.pmcSync; split <;> simp
@[simp] theorem State.pmcAdd_adc (n : Nat) (c : PmcCyc) : (s.pmcAdd n c).1.adc = s.adc := by
  simp [State.pmcAdd]
@[simp] theorem State.pmcWrap_adc (n : Nat) : (s.pmcWrap n).adc = s.adc := by
  simp [State.pmcWrap]
@[simp] theorem State.count_adc (n c : Nat) : (s.count n c).adc = s.adc := by
  simp only [State.count]; repeat' split
  all_goals simp
@[simp] theorem State.pmcFold_tmu (l : List (Nat × PmcCyc)) : (s.pmcFold l).tmu = s.tmu := by
  induction l generalizing s with
  | nil => rfl
  | cons p t ih => simp [State.pmcFold, ih]
@[simp] theorem State.pmcSync_tmu : s.pmcSync.tmu = s.tmu := by
  unfold State.pmcSync; split <;> simp
@[simp] theorem State.pmcAdd_tmu (n : Nat) (c : PmcCyc) : (s.pmcAdd n c).1.tmu = s.tmu := by
  simp [State.pmcAdd]
@[simp] theorem State.pmcWrap_tmu (n : Nat) : (s.pmcWrap n).tmu = s.tmu := by
  simp [State.pmcWrap]
@[simp] theorem State.count_tmu (n c : Nat) : (s.count n c).tmu = s.tmu := by
  simp only [State.count]; repeat' split
  all_goals simp
@[simp] theorem State.pmcFold_lvc (l : List (Nat × PmcCyc)) : (s.pmcFold l).lvc = s.lvc := by
  induction l generalizing s with
  | nil => rfl
  | cons p t ih => simp [State.pmcFold, ih]
@[simp] theorem State.pmcSync_lvc : s.pmcSync.lvc = s.lvc := by
  unfold State.pmcSync; split <;> simp
@[simp] theorem State.pmcAdd_lvc (n : Nat) (c : PmcCyc) : (s.pmcAdd n c).1.lvc = s.lvc := by
  simp [State.pmcAdd]
@[simp] theorem State.pmcWrap_lvc (n : Nat) : (s.pmcWrap n).lvc = s.lvc := by
  simp [State.pmcWrap]
@[simp] theorem State.count_lvc (n c : Nat) : (s.count n c).lvc = s.lvc := by
  simp only [State.count]; repeat' split
  all_goals simp
@[simp] theorem State.pmcFold_chg (l : List (Nat × PmcCyc)) : (s.pmcFold l).chg = s.chg := by
  induction l generalizing s with
  | nil => rfl
  | cons p t ih => simp [State.pmcFold, ih]
@[simp] theorem State.pmcSync_chg : s.pmcSync.chg = s.chg := by
  unfold State.pmcSync; split <;> simp
@[simp] theorem State.pmcAdd_chg (n : Nat) (c : PmcCyc) : (s.pmcAdd n c).1.chg = s.chg := by
  simp [State.pmcAdd]
@[simp] theorem State.pmcWrap_chg (n : Nat) : (s.pmcWrap n).chg = s.chg := by
  simp [State.pmcWrap]
@[simp] theorem State.count_chg (n c : Nat) : (s.count n c).chg = s.chg := by
  simp only [State.count]; repeat' split
  all_goals simp
@[simp] theorem State.pmcFold_pfb (l : List (Nat × PmcCyc)) : (s.pmcFold l).pfb = s.pfb := by
  induction l generalizing s with
  | nil => rfl
  | cons p t ih => simp [State.pmcFold, ih]
@[simp] theorem State.pmcSync_pfb : s.pmcSync.pfb = s.pfb := by
  unfold State.pmcSync; split <;> simp
@[simp] theorem State.pmcAdd_pfb (n : Nat) (c : PmcCyc) : (s.pmcAdd n c).1.pfb = s.pfb := by
  simp [State.pmcAdd]
@[simp] theorem State.pmcWrap_pfb (n : Nat) : (s.pmcWrap n).pfb = s.pfb := by
  simp [State.pmcWrap]
@[simp] theorem State.count_pfb (n c : Nat) : (s.count n c).pfb = s.pfb := by
  simp only [State.count]; repeat' split
  all_goals simp
@[simp] theorem State.pmcFold_lks (l : List (Nat × PmcCyc)) : (s.pmcFold l).lks = s.lks := by
  induction l generalizing s with
  | nil => rfl
  | cons p t ih => simp [State.pmcFold, ih]
@[simp] theorem State.pmcSync_lks : s.pmcSync.lks = s.lks := by
  unfold State.pmcSync; split <;> simp
@[simp] theorem State.pmcAdd_lks (n : Nat) (c : PmcCyc) : (s.pmcAdd n c).1.lks = s.lks := by
  simp [State.pmcAdd]
@[simp] theorem State.pmcWrap_lks (n : Nat) : (s.pmcWrap n).lks = s.lks := by
  simp [State.pmcWrap]
@[simp] theorem State.count_lks (n c : Nat) : (s.count n c).lks = s.lks := by
  simp only [State.count]; repeat' split
  all_goals simp
@[simp] theorem State.pmcFold_act (l : List (Nat × PmcCyc)) : (s.pmcFold l).act = s.act := by
  induction l generalizing s with
  | nil => rfl
  | cons p t ih => simp [State.pmcFold, ih]
@[simp] theorem State.pmcSync_act : s.pmcSync.act = s.act := by
  unfold State.pmcSync; split <;> simp
@[simp] theorem State.pmcAdd_act (n : Nat) (c : PmcCyc) : (s.pmcAdd n c).1.act = s.act := by
  simp [State.pmcAdd]
@[simp] theorem State.pmcWrap_act (n : Nat) : (s.pmcWrap n).act = s.act := by
  simp [State.pmcWrap]
@[simp] theorem State.count_act (n c : Nat) : (s.count n c).act = s.act := by
  simp only [State.count]; repeat' split
  all_goals simp
@[simp] theorem State.pmcFold_safe (l : List (Nat × PmcCyc)) : (s.pmcFold l).safe = s.safe := by
  induction l generalizing s with
  | nil => rfl
  | cons p t ih => simp [State.pmcFold, ih]
@[simp] theorem State.pmcSync_safe : s.pmcSync.safe = s.safe := by
  unfold State.pmcSync; split <;> simp
@[simp] theorem State.pmcAdd_safe (n : Nat) (c : PmcCyc) : (s.pmcAdd n c).1.safe = s.safe := by
  simp [State.pmcAdd]
@[simp] theorem State.pmcWrap_safe (n : Nat) : (s.pmcWrap n).safe = s.safe := by
  simp [State.pmcWrap]
@[simp] theorem State.count_safe (n c : Nat) : (s.count n c).safe = s.safe := by
  simp only [State.count]; repeat' split
  all_goals simp
@[simp] theorem State.pmcFold_thm (l : List (Nat × PmcCyc)) : (s.pmcFold l).thm = s.thm := by
  induction l generalizing s with
  | nil => rfl
  | cons p t ih => simp [State.pmcFold, ih]
@[simp] theorem State.pmcSync_thm : s.pmcSync.thm = s.thm := by
  unfold State.pmcSync; split <;> simp
@[simp] theorem State.pmcAdd_thm (n : Nat) (c : PmcCyc) : (s.pmcAdd n c).1.thm = s.thm := by
  simp [State.pmcAdd]
@[simp] theorem State.pmcWrap_thm (n : Nat) : (s.pmcWrap n).thm = s.thm := by
  simp [State.pmcWrap]
@[simp] theorem State.count_thm (n c : Nat) : (s.count n c).thm = s.thm := by
  simp only [State.count]; repeat' split
  all_goals simp
@[simp] theorem State.pmcFold_hif (l : List (Nat × PmcCyc)) : (s.pmcFold l).hif = s.hif := by
  induction l generalizing s with
  | nil => rfl
  | cons p t ih => simp [State.pmcFold, ih]
@[simp] theorem State.pmcSync_hif : s.pmcSync.hif = s.hif := by
  unfold State.pmcSync; split <;> simp
@[simp] theorem State.pmcAdd_hif (n : Nat) (c : PmcCyc) : (s.pmcAdd n c).1.hif = s.hif := by
  simp [State.pmcAdd]
@[simp] theorem State.pmcWrap_hif (n : Nat) : (s.pmcWrap n).hif = s.hif := by
  simp [State.pmcWrap]
@[simp] theorem State.count_hif (n c : Nat) : (s.count n c).hif = s.hif := by
  simp only [State.count]; repeat' split
  all_goals simp
@[simp] theorem State.pmcFold_olk (l : List (Nat × PmcCyc)) : (s.pmcFold l).olk = s.olk := by
  induction l generalizing s with
  | nil => rfl
  | cons p t ih => simp [State.pmcFold, ih]
@[simp] theorem State.pmcSync_olk : s.pmcSync.olk = s.olk := by
  unfold State.pmcSync; split <;> simp
@[simp] theorem State.pmcAdd_olk (n : Nat) (c : PmcCyc) : (s.pmcAdd n c).1.olk = s.olk := by
  simp [State.pmcAdd]
@[simp] theorem State.pmcWrap_olk (n : Nat) : (s.pmcWrap n).olk = s.olk := by
  simp [State.pmcWrap]
@[simp] theorem State.count_olk (n c : Nat) : (s.count n c).olk = s.olk := by
  simp only [State.count]; repeat' split
  all_goals simp
@[simp] theorem State.pmcFold_nvm (l : List (Nat × PmcCyc)) : (s.pmcFold l).nvm = s.nvm := by
  induction l generalizing s with
  | nil => rfl
  | cons p t ih => simp [State.pmcFold, ih]
@[simp] theorem State.pmcSync_nvm : s.pmcSync.nvm = s.nvm := by
  unfold State.pmcSync; split <;> simp
@[simp] theorem State.pmcAdd_nvm (n : Nat) (c : PmcCyc) : (s.pmcAdd n c).1.nvm = s.nvm := by
  simp [State.pmcAdd]
@[simp] theorem State.pmcWrap_nvm (n : Nat) : (s.pmcWrap n).nvm = s.nvm := by
  simp [State.pmcWrap]
@[simp] theorem State.count_nvm (n c : Nat) : (s.count n c).nvm = s.nvm := by
  simp only [State.count]; repeat' split
  all_goals simp
@[simp] theorem State.pmcFold_upd (l : List (Nat × PmcCyc)) : (s.pmcFold l).upd = s.upd := by
  induction l generalizing s with
  | nil => rfl
  | cons p t ih => simp [State.pmcFold, ih]
@[simp] theorem State.pmcSync_upd : s.pmcSync.upd = s.upd := by
  unfold State.pmcSync; split <;> simp
@[simp] theorem State.pmcAdd_upd (n : Nat) (c : PmcCyc) : (s.pmcAdd n c).1.upd = s.upd := by
  simp [State.pmcAdd]
@[simp] theorem State.pmcWrap_upd (n : Nat) : (s.pmcWrap n).upd = s.upd := by
  simp [State.pmcWrap]
@[simp] theorem State.count_upd (n c : Nat) : (s.count n c).upd = s.upd := by
  simp only [State.count]; repeat' split
  all_goals simp
@[simp] theorem State.pmcFold_gong (l : List (Nat × PmcCyc)) : (s.pmcFold l).gong = s.gong := by
  induction l generalizing s with
  | nil => rfl
  | cons p t ih => simp [State.pmcFold, ih]
@[simp] theorem State.pmcSync_gong : s.pmcSync.gong = s.gong := by
  unfold State.pmcSync; split <;> simp
@[simp] theorem State.pmcAdd_gong (n : Nat) (c : PmcCyc) : (s.pmcAdd n c).1.gong = s.gong := by
  simp [State.pmcAdd]
@[simp] theorem State.pmcWrap_gong (n : Nat) : (s.pmcWrap n).gong = s.gong := by
  simp [State.pmcWrap]
@[simp] theorem State.count_gong (n c : Nat) : (s.count n c).gong = s.gong := by
  simp only [State.count]; repeat' split
  all_goals simp
@[simp] theorem State.pmcFold_rtl (l : List (Nat × PmcCyc)) : (s.pmcFold l).rtl = s.rtl := by
  induction l generalizing s with
  | nil => rfl
  | cons p t ih => simp [State.pmcFold, ih]
@[simp] theorem State.pmcSync_rtl : s.pmcSync.rtl = s.rtl := by
  unfold State.pmcSync; split <;> simp
@[simp] theorem State.pmcAdd_rtl (n : Nat) (c : PmcCyc) : (s.pmcAdd n c).1.rtl = s.rtl := by
  simp [State.pmcAdd]
@[simp] theorem State.pmcWrap_rtl (n : Nat) : (s.pmcWrap n).rtl = s.rtl := by
  simp [State.pmcWrap]
@[simp] theorem State.count_rtl (n c : Nat) : (s.count n c).rtl = s.rtl := by
  simp only [State.count]; repeat' split
  all_goals simp
@[simp] theorem State.pmcFold_jtag (l : List (Nat × PmcCyc)) : (s.pmcFold l).jtag = s.jtag := by
  induction l generalizing s with
  | nil => rfl
  | cons p t ih => simp [State.pmcFold, ih]
@[simp] theorem State.pmcSync_jtag : s.pmcSync.jtag = s.jtag := by
  unfold State.pmcSync; split <;> simp
@[simp] theorem State.pmcAdd_jtag (n : Nat) (c : PmcCyc) : (s.pmcAdd n c).1.jtag = s.jtag := by
  simp [State.pmcAdd]
@[simp] theorem State.pmcWrap_jtag (n : Nat) : (s.pmcWrap n).jtag = s.jtag := by
  simp [State.pmcWrap]
@[simp] theorem State.count_jtag (n c : Nat) : (s.count n c).jtag = s.jtag := by
  simp only [State.count]; repeat' split
  all_goals simp
@[simp] theorem State.pmcFold_pending (l : List (Nat × PmcCyc)) : (s.pmcFold l).pending = s.pending := by
  induction l generalizing s with
  | nil => rfl
  | cons p t ih => simp [State.pmcFold, ih]
@[simp] theorem State.pmcSync_pending : s.pmcSync.pending = s.pending := by
  unfold State.pmcSync; split <;> simp
@[simp] theorem State.pmcAdd_pending (n : Nat) (c : PmcCyc) : (s.pmcAdd n c).1.pending = s.pending := by
  simp [State.pmcAdd]
@[simp] theorem State.pmcWrap_pending (n : Nat) : (s.pmcWrap n).pending = s.pending := by
  simp [State.pmcWrap]
@[simp] theorem State.count_pending (n c : Nat) : (s.count n c).pending = s.pending := by
  simp only [State.count]; repeat' split
  all_goals simp

end Sys2Proof.Machine
end

