-- ==== Sys2Proof/Laws/Bus.lean ====
section
/-! SUPPORT. A bus access: what its gate, its answer and its side effects leave alone, and what a granted write comes to. -/

namespace Sys2Proof.Machine

variable (s : State)

/-! ### spend -/

@[simp] theorem State.spend_clave (m : Master) : (s.spend m).clave = s.clave := by
  unfold State.spend; repeat' split
  all_goals rfl
@[simp] theorem State.spend_time (m : Master) : (s.spend m).time = s.time := by
  unfold State.spend; repeat' split
  all_goals rfl
@[simp] theorem State.spend_regs (m : Master) : (s.spend m).regs = s.regs := by
  unfold State.spend; repeat' split
  all_goals rfl
@[simp] theorem State.spend_mem (m : Master) : (s.spend m).mem = s.mem := by
  unfold State.spend; repeat' split
  all_goals rfl
@[simp] theorem State.spend_sig (m : Master) : (s.spend m).sig = s.sig := by
  unfold State.spend; repeat' split
  all_goals rfl
@[simp] theorem State.spend_bus (m : Master) : (s.spend m).bus = s.bus := by
  unfold State.spend; repeat' split
  all_goals rfl
@[simp] theorem State.spend_free (m : Master) : (s.spend m).free = s.free := by
  unfold State.spend; repeat' split
  all_goals rfl
@[simp] theorem State.spend_irqs (m : Master) : (s.spend m).irqs = s.irqs := by
  unfold State.spend; repeat' split
  all_goals rfl
@[simp] theorem State.spend_reacts (m : Master) : (s.spend m).reacts = s.reacts := by
  unfold State.spend; repeat' split
  all_goals rfl
@[simp] theorem State.spend_clocks (m : Master) : (s.spend m).clocks = s.clocks := by
  unfold State.spend; repeat' split
  all_goals rfl
@[simp] theorem State.spend_idl (m : Master) : (s.spend m).idl = s.idl := by
  unfold State.spend; repeat' split
  all_goals rfl
@[simp] theorem State.spend_clv (m : Master) : (s.spend m).clv = s.clv := by
  unfold State.spend; repeat' split
  all_goals rfl
@[simp] theorem State.spend_jrn (m : Master) : (s.spend m).jrn = s.jrn := by
  unfold State.spend; repeat' split
  all_goals rfl
@[simp] theorem State.spend_seq (m : Master) : (s.spend m).seq = s.seq := by
  unfold State.spend; repeat' split
  all_goals rfl
@[simp] theorem State.spend_cle (m : Master) : (s.spend m).cle = s.cle := by
  unfold State.spend; repeat' split
  all_goals rfl
@[simp] theorem State.spend_pwm (m : Master) : (s.spend m).pwm = s.pwm := by
  unfold State.spend; repeat' split
  all_goals rfl
@[simp] theorem State.spend_adc (m : Master) : (s.spend m).adc = s.adc := by
  unfold State.spend; repeat' split
  all_goals rfl
@[simp] theorem State.spend_tmu (m : Master) : (s.spend m).tmu = s.tmu := by
  unfold State.spend; repeat' split
  all_goals rfl
@[simp] theorem State.spend_lvc (m : Master) : (s.spend m).lvc = s.lvc := by
  unfold State.spend; repeat' split
  all_goals rfl
@[simp] theorem State.spend_chg (m : Master) : (s.spend m).chg = s.chg := by
  unfold State.spend; repeat' split
  all_goals rfl
@[simp] theorem State.spend_pfb (m : Master) : (s.spend m).pfb = s.pfb := by
  unfold State.spend; repeat' split
  all_goals rfl
@[simp] theorem State.spend_lks (m : Master) : (s.spend m).lks = s.lks := by
  unfold State.spend; repeat' split
  all_goals rfl
@[simp] theorem State.spend_act (m : Master) : (s.spend m).act = s.act := by
  unfold State.spend; repeat' split
  all_goals rfl
@[simp] theorem State.spend_safe (m : Master) : (s.spend m).safe = s.safe := by
  unfold State.spend; repeat' split
  all_goals rfl
@[simp] theorem State.spend_thm (m : Master) : (s.spend m).thm = s.thm := by
  unfold State.spend; repeat' split
  all_goals rfl
@[simp] theorem State.spend_hif (m : Master) : (s.spend m).hif = s.hif := by
  unfold State.spend; repeat' split
  all_goals rfl
@[simp] theorem State.spend_olk (m : Master) : (s.spend m).olk = s.olk := by
  unfold State.spend; repeat' split
  all_goals rfl
@[simp] theorem State.spend_nvm (m : Master) : (s.spend m).nvm = s.nvm := by
  unfold State.spend; repeat' split
  all_goals rfl
@[simp] theorem State.spend_upd (m : Master) : (s.spend m).upd = s.upd := by
  unfold State.spend; repeat' split
  all_goals rfl
@[simp] theorem State.spend_pmc (m : Master) : (s.spend m).pmc = s.pmc := by
  unfold State.spend; repeat' split
  all_goals rfl
@[simp] theorem State.spend_gong (m : Master) : (s.spend m).gong = s.gong := by
  unfold State.spend; repeat' split
  all_goals rfl
@[simp] theorem State.spend_rtl (m : Master) : (s.spend m).rtl = s.rtl := by
  unfold State.spend; repeat' split
  all_goals rfl
@[simp] theorem State.spend_pending (m : Master) : (s.spend m).pending = s.pending := by
  unfold State.spend; repeat' split
  all_goals rfl
@[simp] theorem State.spend_rd (m : Master) (b : Nat) : (s.spend m).rd b = s.rd b := by
  simp [State.rd]
@[simp] theorem State.spend_fget (m : Master) (f : Fld) : (s.spend m).fget f = s.fget f := by
  simp [State.fget]
@[simp] theorem State.spend_fbit (m : Master) (f : Fld) : (s.spend m).fbit f = s.fbit f := by
  simp [State.fbit]
@[simp] theorem State.spend_mget (m : Master) (b : Nat) : (s.spend m).mget b = s.mget b := by
  simp [State.mget]
@[simp] theorem State.spend_sget (m : Master) (b : Nat) : (s.spend m).sget b = s.sget b := by
  simp [State.sget]

/-! ### sealBreak -/

@[simp] theorem State.sealBreak_clave  : (s.sealBreak).clave = s.clave := by
  unfold State.sealBreak; split <;> rfl
@[simp] theorem State.sealBreak_time  : (s.sealBreak).time = s.time := by
  unfold State.sealBreak; split <;> rfl
@[simp] theorem State.sealBreak_regs  : (s.sealBreak).regs = s.regs := by
  unfold State.sealBreak; split <;> rfl
@[simp] theorem State.sealBreak_mem  : (s.sealBreak).mem = s.mem := by
  unfold State.sealBreak; split <;> rfl
@[simp] theorem State.sealBreak_sig  : (s.sealBreak).sig = s.sig := by
  unfold State.sealBreak; split <;> rfl
@[simp] theorem State.sealBreak_bus  : (s.sealBreak).bus = s.bus := by
  unfold State.sealBreak; split <;> rfl
@[simp] theorem State.sealBreak_free  : (s.sealBreak).free = s.free := by
  unfold State.sealBreak; split <;> rfl
@[simp] theorem State.sealBreak_irqs  : (s.sealBreak).irqs = s.irqs := by
  unfold State.sealBreak; split <;> rfl
@[simp] theorem State.sealBreak_reacts  : (s.sealBreak).reacts = s.reacts := by
  unfold State.sealBreak; split <;> rfl
@[simp] theorem State.sealBreak_clocks  : (s.sealBreak).clocks = s.clocks := by
  unfold State.sealBreak; split <;> rfl
@[simp] theorem State.sealBreak_idl  : (s.sealBreak).idl = s.idl := by
  unfold State.sealBreak; split <;> rfl
@[simp] theorem State.sealBreak_clv  : (s.sealBreak).clv = s.clv := by
  unfold State.sealBreak; split <;> rfl
@[simp] theorem State.sealBreak_jrn  : (s.sealBreak).jrn = s.jrn := by
  unfold State.sealBreak; split <;> rfl
@[simp] theorem State.sealBreak_seq  : (s.sealBreak).seq = s.seq := by
  unfold State.sealBreak; split <;> rfl
@[simp] theorem State.sealBreak_cle  : (s.sealBreak).cle = s.cle := by
  unfold State.sealBreak; split <;> rfl
@[simp] theorem State.sealBreak_pwm  : (s.sealBreak).pwm = s.pwm := by
  unfold State.sealBreak; split <;> rfl
@[simp] theorem State.sealBreak_adc  : (s.sealBreak).adc = s.adc := by
  unfold State.sealBreak; split <;> rfl
@[simp] theorem State.sealBreak_tmu  : (s.sealBreak).tmu = s.tmu := by
  unfold State.sealBreak; split <;> rfl
@[simp] theorem State.sealBreak_lvc  : (s.sealBreak).lvc = s.lvc := by
  unfold State.sealBreak; split <;> rfl
@[simp] theorem State.sealBreak_chg  : (s.sealBreak).chg = s.chg := by
  unfold State.sealBreak; split <;> rfl
@[simp] theorem State.sealBreak_pfb  : (s.sealBreak).pfb = s.pfb := by
  unfold State.sealBreak; split <;> rfl
@[simp] theorem State.sealBreak_lks  : (s.sealBreak).lks = s.lks := by
  unfold State.sealBreak; split <;> rfl
@[simp] theorem State.sealBreak_act  : (s.sealBreak).act = s.act := by
  unfold State.sealBreak; split <;> rfl
@[simp] theorem State.sealBreak_thm  : (s.sealBreak).thm = s.thm := by
  unfold State.sealBreak; split <;> rfl
@[simp] theorem State.sealBreak_hif  : (s.sealBreak).hif = s.hif := by
  unfold State.sealBreak; split <;> rfl
@[simp] theorem State.sealBreak_olk  : (s.sealBreak).olk = s.olk := by
  unfold State.sealBreak; split <;> rfl
@[simp] theorem State.sealBreak_nvm  : (s.sealBreak).nvm = s.nvm := by
  unfold State.sealBreak; split <;> rfl
@[simp] theorem State.sealBreak_upd  : (s.sealBreak).upd = s.upd := by
  unfold State.sealBreak; split <;> rfl
@[simp] theorem State.sealBreak_pmc  : (s.sealBreak).pmc = s.pmc := by
  unfold State.sealBreak; split <;> rfl
@[simp] theorem State.sealBreak_gong  : (s.sealBreak).gong = s.gong := by
  unfold State.sealBreak; split <;> rfl
@[simp] theorem State.sealBreak_rtl  : (s.sealBreak).rtl = s.rtl := by
  unfold State.sealBreak; split <;> rfl
@[simp] theorem State.sealBreak_jtag  : (s.sealBreak).jtag = s.jtag := by
  unfold State.sealBreak; split <;> rfl
@[simp] theorem State.sealBreak_pending  : (s.sealBreak).pending = s.pending := by
  unfold State.sealBreak; split <;> rfl
@[simp] theorem State.sealBreak_rd  (b : Nat) : (s.sealBreak).rd b = s.rd b := by
  simp [State.rd]
@[simp] theorem State.sealBreak_fget  (f : Fld) : (s.sealBreak).fget f = s.fget f := by
  simp [State.fget]
@[simp] theorem State.sealBreak_fbit  (f : Fld) : (s.sealBreak).fbit f = s.fbit f := by
  simp [State.fbit]
@[simp] theorem State.sealBreak_mget  (b : Nat) : (s.sealBreak).mget b = s.mget b := by
  simp [State.mget]
@[simp] theorem State.sealBreak_sget  (b : Nat) : (s.sealBreak).sget b = s.sget b := by
  simp [State.sget]

/-! ### accessed -/

@[simp] theorem State.accessed_clave (a : Nat) (w : Bool) : (s.accessed a w).clave = s.clave := by
  simp only [State.accessed, apply_ite State.clave, State.sealBreak_clave, ite_self]
@[simp] theorem State.accessed_time (a : Nat) (w : Bool) : (s.accessed a w).time = s.time := by
  simp only [State.accessed, apply_ite State.time, State.sealBreak_time, ite_self]
@[simp] theorem State.accessed_regs (a : Nat) (w : Bool) : (s.accessed a w).regs = s.regs := by
  simp only [State.accessed, apply_ite State.regs, State.sealBreak_regs, ite_self]
@[simp] theorem State.accessed_mem (a : Nat) (w : Bool) : (s.accessed a w).mem = s.mem := by
  simp only [State.accessed, apply_ite State.mem, State.sealBreak_mem, ite_self]
@[simp] theorem State.accessed_sig (a : Nat) (w : Bool) : (s.accessed a w).sig = s.sig := by
  simp only [State.accessed, apply_ite State.sig, State.sealBreak_sig, ite_self]
@[simp] theorem State.accessed_bus (a : Nat) (w : Bool) : (s.accessed a w).bus = s.bus := by
  simp only [State.accessed, apply_ite State.bus, State.sealBreak_bus, ite_self]
@[simp] theorem State.accessed_free (a : Nat) (w : Bool) : (s.accessed a w).free = s.free := by
  simp only [State.accessed, apply_ite State.free, State.sealBreak_free, ite_self]
@[simp] theorem State.accessed_irqs (a : Nat) (w : Bool) : (s.accessed a w).irqs = s.irqs := by
  simp only [State.accessed, apply_ite State.irqs, State.sealBreak_irqs, ite_self]
@[simp] theorem State.accessed_reacts (a : Nat) (w : Bool) : (s.accessed a w).reacts = s.reacts := by
  simp only [State.accessed, apply_ite State.reacts, State.sealBreak_reacts, ite_self]
@[simp] theorem State.accessed_clocks (a : Nat) (w : Bool) : (s.accessed a w).clocks = s.clocks := by
  simp only [State.accessed, apply_ite State.clocks, State.sealBreak_clocks, ite_self]
@[simp] theorem State.accessed_idl (a : Nat) (w : Bool) : (s.accessed a w).idl = s.idl := by
  simp only [State.accessed, apply_ite State.idl, State.sealBreak_idl, ite_self]
@[simp] theorem State.accessed_clv (a : Nat) (w : Bool) : (s.accessed a w).clv = s.clv := by
  simp only [State.accessed, apply_ite State.clv, State.sealBreak_clv, ite_self]
@[simp] theorem State.accessed_jrn (a : Nat) (w : Bool) : (s.accessed a w).jrn = s.jrn := by
  simp only [State.accessed, apply_ite State.jrn, State.sealBreak_jrn, ite_self]
@[simp] theorem State.accessed_seq (a : Nat) (w : Bool) : (s.accessed a w).seq = s.seq := by
  simp only [State.accessed, apply_ite State.seq, State.sealBreak_seq, ite_self]
@[simp] theorem State.accessed_cle (a : Nat) (w : Bool) : (s.accessed a w).cle = s.cle := by
  simp only [State.accessed, apply_ite State.cle, State.sealBreak_cle, ite_self]
@[simp] theorem State.accessed_pwm (a : Nat) (w : Bool) : (s.accessed a w).pwm = s.pwm := by
  simp only [State.accessed, apply_ite State.pwm, State.sealBreak_pwm, ite_self]
@[simp] theorem State.accessed_adc (a : Nat) (w : Bool) : (s.accessed a w).adc = s.adc := by
  simp only [State.accessed, apply_ite State.adc, State.sealBreak_adc, ite_self]
@[simp] theorem State.accessed_tmu (a : Nat) (w : Bool) : (s.accessed a w).tmu = s.tmu := by
  simp only [State.accessed, apply_ite State.tmu, State.sealBreak_tmu, ite_self]
@[simp] theorem State.accessed_lvc (a : Nat) (w : Bool) : (s.accessed a w).lvc = s.lvc := by
  simp only [State.accessed, apply_ite State.lvc, State.sealBreak_lvc, ite_self]
@[simp] theorem State.accessed_chg (a : Nat) (w : Bool) : (s.accessed a w).chg = s.chg := by
  simp only [State.accessed, apply_ite State.chg, State.sealBreak_chg, ite_self]
@[simp] theorem State.accessed_pfb (a : Nat) (w : Bool) : (s.accessed a w).pfb = s.pfb := by
  simp only [State.accessed, apply_ite State.pfb, State.sealBreak_pfb, ite_self]
@[simp] theorem State.accessed_lks (a : Nat) (w : Bool) : (s.accessed a w).lks = s.lks := by
  simp only [State.accessed, apply_ite State.lks, State.sealBreak_lks, ite_self]
@[simp] theorem State.accessed_act (a : Nat) (w : Bool) : (s.accessed a w).act = s.act := by
  simp only [State.accessed, apply_ite State.act, State.sealBreak_act, ite_self]
@[simp] theorem State.accessed_thm (a : Nat) (w : Bool) : (s.accessed a w).thm = s.thm := by
  simp only [State.accessed, apply_ite State.thm, State.sealBreak_thm, ite_self]
@[simp] theorem State.accessed_hif (a : Nat) (w : Bool) : (s.accessed a w).hif = s.hif := by
  simp only [State.accessed, apply_ite State.hif, State.sealBreak_hif, ite_self]
@[simp] theorem State.accessed_olk (a : Nat) (w : Bool) : (s.accessed a w).olk = s.olk := by
  simp only [State.accessed, apply_ite State.olk, State.sealBreak_olk, ite_self]
@[simp] theorem State.accessed_nvm (a : Nat) (w : Bool) : (s.accessed a w).nvm = s.nvm := by
  simp only [State.accessed, apply_ite State.nvm, State.sealBreak_nvm, ite_self]
@[simp] theorem State.accessed_upd (a : Nat) (w : Bool) : (s.accessed a w).upd = s.upd := by
  simp only [State.accessed, apply_ite State.upd, State.sealBreak_upd, ite_self]
@[simp] theorem State.accessed_pmc (a : Nat) (w : Bool) : (s.accessed a w).pmc = s.pmc := by
  simp only [State.accessed, apply_ite State.pmc, State.sealBreak_pmc, ite_self]
@[simp] theorem State.accessed_gong (a : Nat) (w : Bool) : (s.accessed a w).gong = s.gong := by
  simp only [State.accessed, apply_ite State.gong, State.sealBreak_gong, ite_self]
@[simp] theorem State.accessed_jtag (a : Nat) (w : Bool) : (s.accessed a w).jtag = s.jtag := by
  simp only [State.accessed, apply_ite State.jtag, State.sealBreak_jtag, ite_self]
@[simp] theorem State.accessed_pending (a : Nat) (w : Bool) : (s.accessed a w).pending = s.pending := by
  simp only [State.accessed, apply_ite State.pending, State.sealBreak_pending, ite_self]
@[simp] theorem State.accessed_rd (a : Nat) (w : Bool) (b : Nat) : (s.accessed a w).rd b = s.rd b := by
  simp [State.rd]
@[simp] theorem State.accessed_fget (a : Nat) (w : Bool) (f : Fld) : (s.accessed a w).fget f = s.fget f := by
  simp [State.fget]
@[simp] theorem State.accessed_fbit (a : Nat) (w : Bool) (f : Fld) : (s.accessed a w).fbit f = s.fbit f := by
  simp [State.fbit]
@[simp] theorem State.accessed_mget (a : Nat) (w : Bool) (b : Nat) : (s.accessed a w).mget b = s.mget b := by
  simp [State.mget]
@[simp] theorem State.accessed_sget (a : Nat) (w : Bool) (b : Nat) : (s.accessed a w).sget b = s.sget b := by
  simp [State.sget]

/-! ### busOk -/

@[simp] theorem State.busOk_clave (d : Word) : (s.busOk d).clave = s.clave := by
  rfl
@[simp] theorem State.busOk_time (d : Word) : (s.busOk d).time = s.time := by
  rfl
@[simp] theorem State.busOk_regs (d : Word) : (s.busOk d).regs = s.regs := by
  rfl
@[simp] theorem State.busOk_mem (d : Word) : (s.busOk d).mem = s.mem := by
  rfl
@[simp] theorem State.busOk_sig (d : Word) : (s.busOk d).sig = s.sig := by
  rfl
@[simp] theorem State.busOk_free (d : Word) : (s.busOk d).free = s.free := by
  rfl
@[simp] theorem State.busOk_irqs (d : Word) : (s.busOk d).irqs = s.irqs := by
  rfl
@[simp] theorem State.busOk_reacts (d : Word) : (s.busOk d).reacts = s.reacts := by
  rfl
@[simp] theorem State.busOk_clocks (d : Word) : (s.busOk d).clocks = s.clocks := by
  rfl
@[simp] theorem State.busOk_idl (d : Word) : (s.busOk d).idl = s.idl := by
  rfl
@[simp] theorem State.busOk_clv (d : Word) : (s.busOk d).clv = s.clv := by
  rfl
@[simp] theorem State.busOk_jrn (d : Word) : (s.busOk d).jrn = s.jrn := by
  rfl
@[simp] theorem State.busOk_seq (d : Word) : (s.busOk d).seq = s.seq := by
  rfl
@[simp] theorem State.busOk_cle (d : Word) : (s.busOk d).cle = s.cle := by
  rfl
@[simp] theorem State.busOk_pwm (d : Word) : (s.busOk d).pwm = s.pwm := by
  rfl
@[simp] theorem State.busOk_adc (d : Word) : (s.busOk d).adc = s.adc := by
  rfl
@[simp] theorem State.busOk_tmu (d : Word) : (s.busOk d).tmu = s.tmu := by
  rfl
@[simp] theorem State.busOk_lvc (d : Word) : (s.busOk d).lvc = s.lvc := by
  rfl
@[simp] theorem State.busOk_chg (d : Word) : (s.busOk d).chg = s.chg := by
  rfl
@[simp] theorem State.busOk_pfb (d : Word) : (s.busOk d).pfb = s.pfb := by
  rfl
@[simp] theorem State.busOk_lks (d : Word) : (s.busOk d).lks = s.lks := by
  rfl
@[simp] theorem State.busOk_act (d : Word) : (s.busOk d).act = s.act := by
  rfl
@[simp] theorem State.busOk_safe (d : Word) : (s.busOk d).safe = s.safe := by
  rfl
@[simp] theorem State.busOk_thm (d : Word) : (s.busOk d).thm = s.thm := by
  rfl
@[simp] theorem State.busOk_hif (d : Word) : (s.busOk d).hif = s.hif := by
  rfl
@[simp] theorem State.busOk_olk (d : Word) : (s.busOk d).olk = s.olk := by
  rfl
@[simp] theorem State.busOk_nvm (d : Word) : (s.busOk d).nvm = s.nvm := by
  rfl
@[simp] theorem State.busOk_upd (d : Word) : (s.busOk d).upd = s.upd := by
  rfl
@[simp] theorem State.busOk_pmc (d : Word) : (s.busOk d).pmc = s.pmc := by
  rfl
@[simp] theorem State.busOk_gong (d : Word) : (s.busOk d).gong = s.gong := by
  rfl
@[simp] theorem State.busOk_rtl (d : Word) : (s.busOk d).rtl = s.rtl := by
  rfl
@[simp] theorem State.busOk_jtag (d : Word) : (s.busOk d).jtag = s.jtag := by
  rfl
@[simp] theorem State.busOk_pending (d : Word) : (s.busOk d).pending = s.pending := by
  rfl
@[simp] theorem State.busOk_rd (d : Word) (b : Nat) : (s.busOk d).rd b = s.rd b := by
  simp [State.rd]
@[simp] theorem State.busOk_fget (d : Word) (f : Fld) : (s.busOk d).fget f = s.fget f := by
  simp [State.fget]
@[simp] theorem State.busOk_fbit (d : Word) (f : Fld) : (s.busOk d).fbit f = s.fbit f := by
  simp [State.fbit]
@[simp] theorem State.busOk_mget (d : Word) (b : Nat) : (s.busOk d).mget b = s.mget b := by
  simp [State.mget]
@[simp] theorem State.busOk_sget (d : Word) (b : Nat) : (s.busOk d).sget b = s.sget b := by
  simp [State.sget]

/-! ### busErr -/

@[simp] theorem State.busErr_clave  : (s.busErr).clave = s.clave := by
  rfl
@[simp] theorem State.busErr_time  : (s.busErr).time = s.time := by
  rfl
@[simp] theorem State.busErr_regs  : (s.busErr).regs = s.regs := by
  rfl
@[simp] theorem State.busErr_mem  : (s.busErr).mem = s.mem := by
  rfl
@[simp] theorem State.busErr_sig  : (s.busErr).sig = s.sig := by
  rfl
@[simp] theorem State.busErr_free  : (s.busErr).free = s.free := by
  rfl
@[simp] theorem State.busErr_irqs  : (s.busErr).irqs = s.irqs := by
  rfl
@[simp] theorem State.busErr_reacts  : (s.busErr).reacts = s.reacts := by
  rfl
@[simp] theorem State.busErr_clocks  : (s.busErr).clocks = s.clocks := by
  rfl
@[simp] theorem State.busErr_idl  : (s.busErr).idl = s.idl := by
  rfl
@[simp] theorem State.busErr_clv  : (s.busErr).clv = s.clv := by
  rfl
@[simp] theorem State.busErr_jrn  : (s.busErr).jrn = s.jrn := by
  rfl
@[simp] theorem State.busErr_seq  : (s.busErr).seq = s.seq := by
  rfl
@[simp] theorem State.busErr_cle  : (s.busErr).cle = s.cle := by
  rfl
@[simp] theorem State.busErr_pwm  : (s.busErr).pwm = s.pwm := by
  rfl
@[simp] theorem State.busErr_adc  : (s.busErr).adc = s.adc := by
  rfl
@[simp] theorem State.busErr_tmu  : (s.busErr).tmu = s.tmu := by
  rfl
@[simp] theorem State.busErr_lvc  : (s.busErr).lvc = s.lvc := by
  rfl
@[simp] theorem State.busErr_chg  : (s.busErr).chg = s.chg := by
  rfl
@[simp] theorem State.busErr_pfb  : (s.busErr).pfb = s.pfb := by
  rfl
@[simp] theorem State.busErr_lks  : (s.busErr).lks = s.lks := by
  rfl
@[simp] theorem State.busErr_act  : (s.busErr).act = s.act := by
  rfl
@[simp] theorem State.busErr_safe  : (s.busErr).safe = s.safe := by
  rfl
@[simp] theorem State.busErr_thm  : (s.busErr).thm = s.thm := by
  rfl
@[simp] theorem State.busErr_hif  : (s.busErr).hif = s.hif := by
  rfl
@[simp] theorem State.busErr_olk  : (s.busErr).olk = s.olk := by
  rfl
@[simp] theorem State.busErr_nvm  : (s.busErr).nvm = s.nvm := by
  rfl
@[simp] theorem State.busErr_upd  : (s.busErr).upd = s.upd := by
  rfl
@[simp] theorem State.busErr_pmc  : (s.busErr).pmc = s.pmc := by
  rfl
@[simp] theorem State.busErr_gong  : (s.busErr).gong = s.gong := by
  rfl
@[simp] theorem State.busErr_rtl  : (s.busErr).rtl = s.rtl := by
  rfl
@[simp] theorem State.busErr_jtag  : (s.busErr).jtag = s.jtag := by
  rfl
@[simp] theorem State.busErr_pending  : (s.busErr).pending = s.pending := by
  rfl
@[simp] theorem State.busErr_rd  (b : Nat) : (s.busErr).rd b = s.rd b := by
  simp [State.rd]
@[simp] theorem State.busErr_fget  (f : Fld) : (s.busErr).fget f = s.fget f := by
  simp [State.fget]
@[simp] theorem State.busErr_fbit  (f : Fld) : (s.busErr).fbit f = s.fbit f := by
  simp [State.fbit]
@[simp] theorem State.busErr_mget  (b : Nat) : (s.busErr).mget b = s.mget b := by
  simp [State.mget]
@[simp] theorem State.busErr_sget  (b : Nat) : (s.busErr).sget b = s.sget b := by
  simp [State.sget]


theorem State.spend_eq (m : Master) : ∃ j, s.spend m = { s with jtag := j } := by
  unfold State.spend
  repeat' split
  · exact ⟨s.jtag, rfl⟩
  · exact ⟨_, rfl⟩
  · exact ⟨s.jtag, rfl⟩

@[simp] theorem State.spend_roles (m n : Master) : (s.spend m).roles n = s.roles n := by
  obtain ⟨j, h⟩ := s.spend_eq m
  rw [h]; rfl

@[simp] theorem State.spend_owns (m : Master) (ps : List Nat) (a k : Nat) : (s.spend m).owns ps a k = s.owns ps a k := by
  simp [State.owns]

@[simp] theorem State.spend_blockOpen (m : Master) (ps : List Nat) (k : Nat) : (s.spend m).blockOpen ps k = s.blockOpen ps k := by
  simp [State.blockOpen, State.rbit]

@[simp] theorem State.spend_mayWrite (m n : Master) (a : Nat) : (s.spend m).mayWrite n a = s.mayWrite n a := by
  simp only [State.mayWrite, State.spend_roles, State.spend_owns, State.spend_blockOpen]

@[simp] theorem State.spend_mayStore (m n : Master) (a : Nat) : (s.spend m).mayStore n a = s.mayStore n a := by
  simp only [State.mayStore, State.spend_roles]

@[simp] theorem State.spend_masterNum (m n : Master) : (s.spend m).masterNum n = s.masterNum n := by
  obtain ⟨j, h⟩ := s.spend_eq m
  rw [h]; rfl

@[simp] theorem State.spend_masterPair (m n : Master) : (s.spend m).masterPair n = s.masterPair n := by
  obtain ⟨j, h⟩ := s.spend_eq m
  rw [h]; rfl

@[simp] theorem State.spend_writer (m n : Master) (v : Word) : (s.spend m).writer n v = s.writer n v := by
  obtain ⟨j, h⟩ := s.spend_eq m
  rw [h]; rfl

@[simp] theorem State.spend_commitBad (m : Master) (c a : Nat) : (s.spend m).commitBad c a = s.commitBad c a := by
  obtain ⟨j, h⟩ := s.spend_eq m
  rw [h]; rfl

/-- A granted write of a whole register is its effect in the block it reaches, a good answer, and its place among the writes of its cycle. -/
theorem State.put_granted {m : Master} {a : Nat} {v : Word} (h : s.grants m a) :
    ∃ w, s.put m a v = { (((s.spend m).accessed a true).route (s.writer m 0) a v).busOk 0 with writes := w } := by
  obtain ⟨h1, h2, h3, h4, h5, h6, h7, h8⟩ := h
  have h4' : RegMap.find a ≠ none := by simpa using Option.isSome_iff_ne_none.mp h4
  have hb : (s.spend m).barred m a = false := by simp [State.barred, h6]
  have e : (s.spend m).storeOnce m a .word v 0 = (((s.spend m).accessed a true).route (s.writer m 0) a v).busOk 0 := by
    simp [State.storeOnce, h2, h3, hb, State.storeReg, h4', h5, h7]
  simp only [State.put, State.store, h1, e]
  cases m with
  | core p x y => exact ⟨s.writesNow ++ [{ cyc := s.busCyc, master := .core p x y, addr := a, size := .word, value := v }], by simp [h5, State.inPairOrder, h8, State.busOk]⟩
  | dma d => exact ⟨_, by simp; rfl⟩
  | bootRom => exact ⟨_, by simp; rfl⟩

/-- The same for a write whose effect has operands of its own. -/
theorem State.writeAs_granted {m : Master} {a : Nat} {eff : State → State} (h : s.grants m a) :
    s.writeAs m a eff = (eff ((s.spend m).accessed a true)).busOk 0 := by
  obtain ⟨h1, _, _, h4, _, h6, _⟩ := h
  have h4' : RegMap.find a ≠ none := by simpa using Option.isSome_iff_ne_none.mp h4
  have hb : (s.spend m).barred m a = false := by simp [State.barred, h6]
  simp [State.writeAs, h1, h4', hb]

end Sys2Proof.Machine
end

