-- ==== Sys2Proof/Laws/Journal.lean ====
section
/-! SUPPORT. What waits for the journal: a record that joins the queue is counted once, whatever the order of the stamps, and a queue with room loses none. -/

namespace Sys2Proof.Machine

/-- Joining the queue adds one record, for every property that does not look at stamps. -/
theorem JRec.join_hits (P : JRec → Bool) (hP : ∀ (r : JRec) t, P { r with stamp := t } = P r) (r : JRec) (q : List JRec) :
    ((r.join q).filter P).length = (q.filter P).length + (if P r then 1 else 0) := by
  induction q generalizing r with
  | nil => simp [JRec.join, List.filter_cons]; split <;> rfl
  | cons x t ih =>
    simp only [JRec.join]
    split
    · simp only [List.filter_cons, hP]
      have := ih { x with stamp := r.stamp }
      rw [hP] at this
      split <;> split <;> simp_all
    · simp only [List.filter_cons]
      split
      · simp [ih]; omega
      · simp [ih]

/-- One hardware record more waits after it has joined. -/
theorem hwWaiting_join (r : JRec) (q : List JRec) : hwWaiting (r.join q) = hwWaiting q + (if r.fw then 0 else 1) := by
  unfold hwWaiting
  rw [JRec.join_hits (fun r => !r.fw) (fun _ _ => rfl)]
  cases r.fw <;> rfl

/-- What raising a code adds to the records that wait, where they have room. -/
theorem State.noted_raiseFrom (s : State) (c : BitVec 16) (i k a : Nat) (p : Payload) (g : Nat) (d : Bool) (h : s.room 1)
    (code : BitVec 16) (inst : BitVec 8) (q : Payload) :
    (s.raiseFrom c i k a p g d).noted code inst q =
      s.noted code inst q + (if c = code ∧ BitVec.ofNat 8 i = inst ∧ p = q then 1 else 0) := by
  obtain ⟨r, hw, hc, hi, hp, -, hf⟩ := s.raiseFrom_waiting c i k a p g d (by unfold State.room at h; omega)
  unfold State.noted
  rw [hw, JRec.join_hits _ (fun _ _ => rfl)]
  simp [hc, hi, hp, hf, and_assoc]

/-- A raised code is journalled, where the records that wait have room (R63). -/
theorem State.journaled_raiseFrom (s : State) (c : Code) (i k a : Nat) (p : Payload) (g : Nat) (d : Bool) (h : s.room 1) :
    Journaled s (s.raiseFrom c.code i k a p g d) c i p :=
  ⟨by simp [s.noted_raiseFrom c.code i k a p g d h], fun code inst q => by simp [s.noted_raiseFrom c.code i k a p g d h]⟩

/-- The same for a code with the class of its table. -/
theorem State.journaled_raise (s : State) (c : Code) (i : Nat) (p : Payload) (h : s.room 1) : Journaled s (s.raise c i p) c i p :=
  s.journaled_raiseFrom c i c.cls 0 p 0 false h

/-- A raised code takes one place of the queue. -/
theorem State.room_raiseFrom (s : State) (c : BitVec 16) (i k a n : Nat) (p : Payload) (g : Nat) (d : Bool) (h : s.room (n + 1)) :
    (s.raiseFrom c i k a p g d).room n := by
  unfold State.room at h ⊢
  obtain ⟨r, hw, -, -, -, -, hf⟩ := s.raiseFrom_waiting c i k a p g d (by omega)
  rw [hw, hwWaiting_join, hf]
  simp only [Bool.false_eq_true, if_false]
  omega

/-- Nothing that waits is lost on the way, and what was journalled stays journalled. -/
theorem Journaled.mono {s t u : State} {c : Code} {i : Nat} {p : Payload} (h : Journaled s t c i p)
    (k : ∀ code inst q, t.noted code inst q ≤ u.noted code inst q) : Journaled s u c i p :=
  ⟨Nat.lt_of_lt_of_le h.1 (k _ _ _), fun code inst q => Nat.le_trans (h.2 code inst q) (k code inst q)⟩

end Sys2Proof.Machine
end

