-- ==== Sys2Proof/Tests/Slice0.lean ====
section
/-! SUPPORT. A state and operands that meet the hypotheses of every clause of every statement; an ill-formed command for every check; check values and worked examples of the spec. -/

namespace Sys2Proof.Machine

/-- `s` at time `n`. -/
def State.atTime (s : State) (n : Nat) : State := { s with time := n }

/-- `s` in a mode. -/
def State.withMode (s : State) (m : Mode) : State := { s with seq := { s.seq with mode := m } }

/-- `s` with its mode sequencer changed. -/
def State.withSeq (s : State) (f : ModeSeq → ModeSeq) : State := { s with seq := f s.seq }

/-- `s` with SMON-A changed. -/
def State.withSmonA (s : State) (f : Smon → Smon) : State := { s with safe := { s.safe with a := f s.safe.a } }

/-- `s` with SMON-B changed. -/
def State.withSmonB (s : State) (f : Smon → Smon) : State := { s with safe := { s.safe with b := f s.safe.b } }

/-- Both channels have passed their open-once test and seal check. -/
def State.channelsDone (s : State) : State := (s.withSmonA fun a => { a with sealRes := 1, oo := .done }).withSmonB fun a => { a with sealRes := 1, oo := .done }

/-- `s` with a CLE context changed. -/
def State.withCtx (s : State) (n : Nat) (f : CleCtx → CleCtx) : State := { s with cle := { s.cle with ctxs := SMap.set (fun _ => {}) s.cle.ctxs n (f (s.ctx n)) } }

/-- `s` with an ADC sequence changed. -/
def State.withAdcSeq (s : State) (n : Nat) (f : AdcSeq → AdcSeq) : State := { s with adc := { s.adc with seqs := SMap.set (fun _ => {}) s.adc.seqs n (f (s.aseq n)) } }

/-- `s` with a traction system changed. -/
def State.withTmuSys (s : State) (k : Nat) (f : TmuSys → TmuSys) : State := s.setTsys k (f (s.tsys k))

/-- `s` with a timer group changed. -/
def State.withGrp (s : State) (k : Nat) (f : PwmGrp → PwmGrp) : State := s.setGrp k (f (s.grp k))

/-- `s` with the position feedback changed. -/
def State.withPfb (s : State) (f : Pfb → Pfb) : State := { s with pfb := f s.pfb }

/-- `s` with a gate channel changed. -/
def State.withChan (s : State) (k : Nat) (f : GateChan → GateChan) : State := s.setChan k (f (s.chan k))

/-- `s` with the LV converter changed. -/
def State.withLvc (s : State) (f : Lvc → Lvc) : State := { s with lvc := f s.lvc }

/-- `s` with a lockstep unit changed. -/
def State.withLks (s : State) (p : Nat) (f : LksP → LksP) : State := s.setLksP p (f (s.lksP p))

/-- `s` with a watch on. -/
def State.withWatch (s : State) (c : Chan) (p : Nat) : State := s.setWdog c p { on := true }

/-- `s` with context `n` configured for a role of the charger. -/
def State.withRole (s : State) (n src sel meas sgrp kind idx : Nat) : State := (((((((s.fset (F.CLE_CTX_TRIG_SRC n) src).fset (F.CLE_CTX_TRIG_SEL n) sel).fset (F.CLE_CTX_MSEL_SIG n) meas).fset (F.CLE_CTX_CTRL_SGRP n) sgrp).fset (F.CLE_CTX_DST_KIND n) kind).fset (F.CLE_CTX_DST_INDEX n) idx).fput (F.CLE_CTX_CTRL_ZERO_ON_EN n) true).wr (R.CLE_CTX_CHAIN n) 0x1000

/-- `s` with the set-point of context `n` from a signal. -/
def State.withRoleSp (s : State) (n sig : Nat) : State := (s.fput (F.CLE_CTX_SSEL_SRC n) true).fset (F.CLE_CTX_SSEL_SIG n) sig

/-- `s` with OmterLink port 1 changed. -/
def State.withPort1 (s : State) (f : OlkPort → OlkPort) : State := { s with olk := { s.olk with p1 := f s.olk.p1 } }

/-- `s` with the update of pair 1 changed. -/
def State.withUpd1 (s : State) (f : UpdPair → UpdPair) : State := { s with upd := { s.upd with u1 := f s.upd.u1 } }

/-- `s` with an NVC command of pair 1 in progress. -/
def State.withNvcOp (s : State) (o : NvcOp) : State := { s with nvm := { s.nvm with op1 := some o } }

/-- `s` with the test port changed. -/
def State.withJtag (s : State) (f : Jtag → Jtag) : State := { s with jtag := f s.jtag }

end Sys2Proof.Machine

namespace Sys2Proof.Tests

open Sys2Proof.Machine

set_option Elab.async false
set_option linter.unusedVariables false

/-- The state after reset. -/
def z : State := State.reset

/-- What the boot finds in the flash. -/
def fb : FlashBoot := { size := 64, slow := none }

/-- A state in which torque may start. -/
def zt : State := ((((((((z.withMode .drive).fset F.SYS_EN_STAT_STATE_A 2).fset F.SYS_EN_STAT_STATE_B 2).fput F.PFB_STAT_VALID true).withPfb fun p => { p with validSince := some 0 }).withGrp 0 fun g => { g with running := true }).withGrp 1 fun g => { g with running := true }).fput F.TMU_CFG_EN true).atTime 8000000

/-- A snapshot of a control loop. -/
def sn0 : CleSnap := { meas := 0, tgt := 0, gain := 0x3F800000, ff := 0x40000000, hi := 0x3FC00000, lo := 0xBFC00000, rampRate := 0, feLimit := 0, freezeEn := false, rampEn := false, errMode := true, secs := [], states := [], feTime := 0, feReact := 0, feClass := 0, sgrp := 15, kind := 0, index := 0 }

/-- A state in which pair 0 has every write right. -/
def zo : State := ((((((((((((z.wr (R.SYS_FW_BLK_WR 0) 0x3FFFFFF).wr (R.SYS_FW_CLE_OWN 0) 0).wr (R.SYS_FW_CLE_OWN 1) 0).wr (R.SYS_FW_CLE_OWN 2) 0).wr (R.SYS_FW_CLE_OWN 3) 0).wr (R.SYS_FW_CLE_OWN 4) 0).wr (R.SYS_FW_CLE_OWN 5) 0).wr (R.SYS_FW_CLE_OWN 6) 0).wr (R.SYS_FW_CLE_OWN 7) 0).wr R.SYS_FW_COEF_OWN 0).wr R.SYS_FW_TG_OWN 0))

/-- A state in which the LV converter may start. -/
def zl : State := ((((((((((((((((((((((((((zo.withMode .drive).fset F.LVC_CFG_COMP_CTX 7).fset (F.CLE_CTX_TRIG_SRC 7) 2).fset (F.CLE_CTX_TRIG_SEL 7) (zo.fget F.LVC_CFG_SEQ)).fset (F.CLE_CTX_MSEL_SIG 7) 0x145).fput (F.CLE_CTX_SSEL_SRC 7) true).fset (F.CLE_CTX_SSEL_SIG 7) 0x148).fput (F.CLE_CTX_CTRL_RAMP_EN 7) true).wr (R.CLE_CTX_RAMP_RATE 7) 0x3F800000).wr (R.CLE_CTX_CHAIN 7) 0x1000).wr (R.CLE_COEF_FLAGS 0) 0xFF).fput (F.CLE_CTX_LIMSEL_HI_SIG_EN 7) true).fset (F.CLE_CTX_LIMSEL_HI_SIG 7) 0x146).wr (R.CLE_CTX_LIM_LO 7) 0).fset (F.CLE_CTX_DST_KIND 7) 3).fset (F.CLE_CTX_CTRL_SGRP 7) 6).wr (R.PWM_GRP_PER 5) 16000).wr (R.PWM_GRP_PER 6) 12800).fset (F.PWM_GRP_CFG_UPD 6) 0).wr R.LVC_VSET 0x41400000).wr R.LVC_OV_THR 0x41800000).fset F.LVC_CFG_NPH 2).fset F.LVC_CFG_NMIN 1).wr (R.LVC_SHED_DN 0) 0x3F800000).wr (R.LVC_SHED_UP 0) 0x40000000)).atTime 80000000

/-- The charger plugged in. -/
def zg : State := ((((((((((((((zo.withMode .charge).fset F.CHG_PILOT_STATE 1).fset F.CHG_PILOT_ILIM 16).fset F.CHG_PP_STATE 1).fset (F.PWM_GRP_PER_PER 3) 40000).fset (F.PWM_GRP_PER_PER 4) 20000).fset (F.PWM_GRP_CFG_UPD 3) 0).fset (F.PWM_GRP_CFG_UPD 4) 0).fset F.CHG_CTX0_BUS 10).fset F.CHG_CTX0_PLL 11).fset F.CHG_CTX0_CUR_D 12).fset F.CHG_CTX0_CUR_Q 13).fset F.CHG_CTX1_PWR 14).fset F.CHG_CTX1_BAT 15).wr (R.CLE_COEF_FLAGS 0) 0xFF

/-- Its front-end contexts. -/
def zg2 : State := ((((((zg.withRole 12 2 (zg.fget F.CHG_CFG_FSEQ) 0x150 3 3 0x10).withRoleSp 12 0x18A).withRole 13 2 (zg.fget F.CHG_CFG_FSEQ) 0x151 3 3 0x11).withRoleSp 13 0x15A).withRole 11 2 (zg.fget F.CHG_CFG_FSEQ) 0x153 3 3 0x12).fput (F.CLE_CTX_CTRL_ERR_MODE 11) true |>.fset (F.CLE_CTX_FFSEL_MODE 11) 2 |>.fset (F.CLE_CTX_FFSEL_SIG 11) 0x15B).withRole 10 5 12 0x155 3 0 0 |>.fput (F.CLE_CTX_CTRL_RAMP_EN 10) true |>.wr (R.CLE_CTX_RAMP_RATE 10) 0 |>.fput (F.CLE_CTX_LIMSEL_LO_MIRROR 10) true |>.wr (R.CLE_CTX_LIM_HI 10) 0

/-- Its battery contexts. -/
def zg3 : State := ((zg2.withRole 14 2 (zg.fget F.CHG_CFG_DSEQ) 0x158 4 3 0x13).withRoleSp 14 0x159 |>.withRole 15 5 14 0x156 4 0 0).withRoleSp 15 0x15C |>.fput (F.CLE_CTX_CTRL_RAMP_EN 15) true |>.wr (R.CLE_CTX_RAMP_RATE 15) 0 |>.fput (F.CLE_CTX_LIMSEL_HI_SIG_EN 15) true |>.fset (F.CLE_CTX_LIMSEL_HI_SIG 15) 0x15D |>.fput (F.CLE_CTX_LIMSEL_LO_SIG_EN 15) true |>.fset (F.CLE_CTX_LIMSEL_LO_SIG 15) 0x15E |>.atTime 77

/-- Sealed parameters. -/
def par : Params := { xover := 3000, maxRpm := 10000, plRpm := 5, policy := 0, ovB := 0x43C80000, scaleB := List.replicate 7 0x3F800000, ofsB := List.replicate 7 0, rpole := 4, nomPer := 0x42C80000, ampLo := 0x3F800000, ampHi := 0x40000000, hallMap := 0x546231, engBack := false, rws := [] }

/-- Both channels with parameters. -/
def zp : State := (zo.withSmonA fun a => { a with params := some par }).withSmonB fun a => { a with params := some par }

/-- A safety pod. -/
def pod1 : SafetyPod := { crc := 7, good := true, sets := [(3, par)] }

/-- A safety ADC reading. -/
def sadc : SadcIn := { res := .taken 0x3F800000 0x3F800000 false 1600 8000, vdc := 300, ph := [1, 2, 3, 4, 5, 6], hall := 3, stable := 9 }

/-- A verified state. -/
def vf : Verified := { pc := 0x1000, count := 5, file := [1, 2] }

/-- Triangle mode. -/
def ztri : State := zo.fset F.LKS_CFG_MODE 1

/-- An ACP frame of `len` payload bytes with a good CRC. -/
def af (ty : Nat) (path : Fin 3) (len seq : Nat) (pl : List Byte) : AcpFrame :=
  let f : AcpFrame := { path := path, fd := true, flags := 0, seq := BitVec.ofNat 16 seq, ack := 0, len := BitVec.ofNat 16 len, crc := 0, payload := pl, udp := { src := 0, dst := 0, srcPort := 7, dstPort := 40620, fragment := false, head := [] }, age := 3 }
  { f with crc := z.acpCrc ty (frameHead f ty) (frameBody f) }

/-- The host interface on. -/
def hz : State := ((z.fput F.HIF_CTRL_EN true).fset F.HIF_CFG_PATH 0).fset F.HIF_RXQ_CFG_LOG2 4

/-- The host interface on, with every write right. -/
def ho : State := ((zo.fput F.HIF_CTRL_EN true).fset F.HIF_CFG_PATH 0).fset F.HIF_RXQ_CFG_LOG2 4

/-- OmterLink on as unit 2 of 4. -/
def oz : State := (((zo.fput F.OLK_CTRL_EN true).fset F.OLK_CFG_PORT_EN 3).fset F.OLK_CFG_UNIT 2).fset F.OLK_CFG_NM1 3

/-- A frame of unit 3. -/
def orx : OlkRx := { port := 1, hop := 1, src := 3, seq := 9, payload := [] }

/-- A frame that waits for its acknowledgement. -/
def ow (ty : Nat) : OlkWait := { frame := { type := ty, seq := some 5 }, endAt := 0 }

/-- A boot header. -/
def hdr1 : BootHeader := { slotA := { state := 2, bank := 0, tag := 5, bankGen := 1, version := 9 }, slotB := { state := 4, bank := 1, tag := 6, bankGen := 2 }, pairSlot := 7 }

/-- Flash with two banks and two slots. -/
def nz : State := { zo with nvm := { zo.nvm with header := some hdr1, bank0 := { gen := some 1 }, bank1 := { gen := some 2 } } }

/-- SERVICE, perturbation unlocked. -/
def ez : State := (zo.withMode .service).fput F.RTL_STAT_UNLOCKED true

/-- The time information of unit 1. -/
def ti : TimeInfo := { unit := 1, hops := 0, role := 1, locked := true, master := 1 }

/-- A record of class 2. -/
def rec1 : JRec := { stamp := 7, code := 0x0123, inst := 5, cls := 2, payload := { w0 := 1, w1 := 2, w2 := 3, w3 := 4 } }

/-- A record of class 4. -/
def rec4 : JRec := { rec1 with cls := 4 }

/-- Pair 0 in Machine mode. -/
def M0 : Master := .core 0 .leading true

/-- Pair 1 in Machine mode. -/
def M1 : Master := .core 1 .leading true

/-- Pair 2 in Machine mode. -/
def M2 : Master := .core 2 .leading true

/-! ### Witnesses: for every clause of a statement a state and operands that meet its hypotheses -/

theorem witness_StepRunsTheFrontCommand :
    (∃ (c : Instr) (rest : List Instr) (s : State), s.pending = c :: rest) :=
  ⟨.jrnInsert, [], { z with pending := [.jrnInsert] }, by decide +kernel⟩

theorem witness_IdleStepIsATick :
    (∃ (s : State), s.pending = [] ∧ s.coarse = false ∧ s.rateNow = 0 ∧ s.time % 2 = 0) :=
  ⟨z, by decide +kernel⟩

theorem witness_RegisterWrites :
    (∃ (s : State) (m : Master) (addr : Word) (z : AccSize) (v : Word) (hw : Word), s.issues m = true ∧ placeOf addr.toNat ≠ .hole ∧ placeOf addr.toNat ≠ .rom ∧ placeOf addr.toNat ≠ .peripheral ∧ addr.toNat % AccSize.bytes z = 0 ∧ s.mayStore m addr.toNat = true ∧ s.laterWrites m = []) ∧
    (∃ (s : State) (p : Fin 3) (q : Fin 3) (h : Half) (k : Half) (x : Bool) (y : Bool) (addr : Word) (v : Word) (hw : Word) (w : Word), s.issues (.core p h x) = true ∧ placeOf addr.toNat = .shared ∧ addr.toNat % 4 = 0 ∧ s.masterPair (.core p h x) < s.masterPair (.core q k y) ∧ s.writesNow = [{ cyc := s.busCyc, master := .core q k y, addr := addr.toNat, size := .word, value := w }]) ∧
    (∃ (s : State) (m : Master) (v : Word) (hw : Word) (a : Word), a.toNat ∈ [R.UPD_BLK_ADDR, R.CLV_PTP_BASE_CLV_LO, R.CLV_PTP_BASE_NS_LO, R.SYS_WAKE_EN] ∧ s.grants m a.toNat) ∧
    (∃ (s : State) (m : Master) (addr : Word) (v : Word) (hw : Word) (z : AccSize), s.issues m = true ∧ ((placeOf addr.toNat = .peripheral ∧ s.barred m addr.toNat = true) ∨ (placeOf addr.toNat = .rom ∧ m ≠ .bootRom) ∨ (placeOf addr.toNat ∈ [.pair 0, .pair 1, .pair 2, .shared, .retained, .journal] ∧ s.mayStore m addr.toNat = false)) ∧ s.room 4) ∧
    (∃ (s : State) (m : Master) (addr : Word) (v : Word) (hw : Word) (z : AccSize), s.issues m = true ∧ (placeOf addr.toNat = .hole ∨ (placeOf addr.toNat = .peripheral ∧ s.barred m addr.toNat = false ∧ (z ≠ .word ∨ addr.toNat % 4 ≠ 0 ∨ RegMap.find addr.toNat = none)))) :=
  ⟨⟨z, M0, 0x10000004, AccSize.half, 0x12345678, 0, by decide +kernel⟩,
   ⟨{ z with writes := [{ cyc := z.busCyc, master := M1, addr := 0x10A00000, size := .word, value := 9 }] }, 0, 1, .leading, .leading, true, true, 0x10A00000, 5, 0, 9, by decide +kernel⟩,
   ⟨zo, M0, 0xFFFFFFFF, 0, w32 R.UPD_BLK_ADDR, by unfold State.grants; decide +kernel⟩,
   ⟨z, M1, 0x20010000, 5, 0, .byte, by unfold State.room; decide +kernel⟩,
   ⟨z, M0, 0x20000102, 1, 0, AccSize.word, by decide +kernel⟩⟩

theorem witness_ReadSideEffects :
    (∃ (s : State) (m : Master) (n : Fin 16) (a : Word) (added : Word) (ecc : Bool) (tag : BitVec 64), a.toNat = R.CLV_PER_CTRL n.val ∧ s.reads m (R.CLV_PER_CTRL n.val)) ∧
    (∃ (s : State) (m : Master) (tag : BitVec 64), s.reads m R.CLV_NOW_LO) ∧
    (∃ (s : State) (m : Master) (n : Fin 512) (tag : BitVec 64), s.reads m (R.PMC_CNT_LO n.val)) :=
  ⟨⟨z.fset (F.CLV_PER_CTRL_MISSED 15) 9, M0, 15, w32 (R.CLV_PER_CTRL 15), w32 (3 * 2^16), false, 5, by unfold State.reads; decide +kernel⟩,
   ⟨{ z with clave := 0x123456789ABCDEF0 }, M0, 7, by unfold State.reads; decide +kernel⟩,
   ⟨z, M0, 511, 9, by unfold State.reads; decide +kernel⟩⟩

theorem witness_DDieAccesses :
    (∃ (s : State) (m : Master) (addr : Word) (v : Word) (hw : Word) (tag : BitVec 64), s.issues m = true ∧ placeOf addr.toNat = .peripheral ∧ readable m addr.toNat = true ∧ RegMap.dDie addr.toNat = true ∧ s.replayed m = true) ∧
    (∃ (s : State) (m : Master) (addr : Word) (v : Word) (hw : Word) (tag : BitVec 64), s.issues m = true ∧ placeOf addr.toNat = .peripheral ∧ addr.toNat % 4 = 0 ∧ RegMap.dDie addr.toNat = true ∧ s.mayWrite m addr.toNat = true) ∧
    (∃ (s : State) (x : DAccess) (rest : List DAccess), s.idl.accesses = x :: rest ∧ s.lDead = false ∧ (s.idl.lane0.down && s.idl.lane1.down) = false ∧ x.write = false ∧ x.tag = none ∧ x.addr = w32 R.SMB_STAT) ∧
    (∃ (s : State) (x : DAccess) (rest : List DAccess), s.idl.accesses = x :: rest ∧ x.start + 3200 ≤ s.time ∧ s.idl.lane0.down = true ∧ s.idl.lane1.down = true ∧ s.lDead = false ∧ s.room 4) :=
  ⟨⟨z, M0, w32 R.SMB_STAT, 0, 0, 7, by decide +kernel⟩,
   ⟨zo, M0, w32 (R.GDR_LGB_REFRESH 3), 0, 5, 7, by decide +kernel⟩,
   ⟨{ z with idl := { z.idl with accesses := [{ master := M0, addr := w32 R.SMB_STAT, write := false, value := 0, start := 0 }] } }, { master := M0, addr := w32 R.SMB_STAT, write := false, value := 0, start := 0 }, [], by decide +kernel⟩,
   ⟨({ z with idl := { z.idl with lane0 := { down := true }, lane1 := { down := true }, accesses := [{ master := M0, addr := w32 R.SMB_STAT, write := false, value := 0, start := 0 }] } }).atTime 3200, { master := M0, addr := w32 R.SMB_STAT, write := false, value := 0, start := 0 }, [], by unfold State.room; decide +kernel⟩⟩

theorem witness_InterDieLink :
    (∃ (s : State), s.pending = [] ∧ s.lDead = false ∧ (s.time + 1) % 128 = 0) ∧
    (∃ (s : State) (f : BitVec 48), s.lDead = false ∧ s.idl.lane0.down = false ∧ s.idl.lane1.down = false) ∧
    (∃ (s : State) (f : BitVec 48) (g : BitVec 48), s.lDead = false ∧ s.idl.lane0.down = false ∧ s.idl.lane1.down = false ∧ s.room 4) ∧
    (∃ (s : State) (l : Fin 2), (s.idlLane l.val).down = false ∧ s.lDead = false ∧ s.room 4) ∧
    (∃ (s : State) (l : Fin 2), (s.idlLane l.val).down = true ∧ s.lDead = false ∧ (s.idlLane l.val).since + 8000000 ≤ s.time) ∧
    (∃ (s : State) (l : Fin 2), (s.idlLane l.val).down = true ∧ (s.idlLane l.val).training = true ∧ (s.idlLane l.val).good = 1000) ∧
    (∃ (s : State), s.lDead = false ∧ s.idl.lost = false) :=
  ⟨⟨z.atTime 127, by decide +kernel⟩,
   ⟨z, 5, by decide +kernel⟩,
   ⟨z, 5, 6, by unfold State.room; decide +kernel⟩,
   ⟨z.atTime 9, 1, by unfold State.room; decide +kernel⟩,
   ⟨({ z with idl := { z.idl with lane1 := { down := true } } }).atTime 8000000, 1, by decide +kernel⟩,
   ⟨{ z with idl := { z.idl with lane1 := { down := true, training := true, good := 1000 } } }, 1, by decide +kernel⟩,
   ⟨z, by decide +kernel⟩⟩

theorem witness_ClockMonitors :
    (∃ (s : State), s.clocks.pllA = false ∧ s.lDead = false ∧ s.room 4) ∧
    (∃ (s : State), s.clocks.pllB = false ∧ s.lDead = false ∧ s.room 4) ∧
    (∃ (s : State), s.lDead = false) ∧
    (∃ (s : State), s.clocks.xtal25 = false ∧ s.lDead = false) ∧
    (∃ (s : State), s.clocks.xtal32 = false ∧ s.room 4) :=
  ⟨⟨z, by unfold State.room; decide +kernel⟩,
   ⟨z, by unfold State.room; decide +kernel⟩,
   ⟨z, by decide +kernel⟩,
   ⟨z, by decide +kernel⟩,
   ⟨z, by unfold State.room; decide +kernel⟩⟩

theorem witness_ClaveEvents :
    (∃ (s : State), s.fbit F.CLV_ALARM_CTRL_EN = true ∧ s.clv.alarmArmed = true ∧ s.clv.alarm.toNat ≤ s.now ∧ s.seq.mode = .dormant ∧ s.seq.entry = .off ∧ s.wakeEnabled .alarm = true) ∧
    (∃ (s : State), s.fbit F.CLV_ALARM_CTRL_EN = true ∧ s.clv.alarmArmed = true ∧ s.clv.alarm.toNat ≤ s.now ∧ ((s.seq.mode ≠ .dormant ∧ s.seq.waking = false) ∨ s.wakeEnabled .alarm = false)) ∧
    (∃ (s : State) (m : Master) (v : Word), s.grants m R.CLV_ALARM_HI) ∧
    (∃ (s : State) (m : Master) (v : Word), s.grants m R.CLV_ALARM_CTRL ∧ s.fbit F.CLV_ALARM_CTRL_EN = false ∧ v.getLsbD 0 = true) ∧
    (∃ (s : State) (n : Fin 16) (p : Fin 3), s.fbit (F.CLV_PER_CTRL_EN n.val) = true ∧ s.fget (F.CLV_PER_CTRL_TARGET n.val) = p.val ∧ 0 < (s.rd (R.CLV_PER_PERIOD n.val)).toNat ∧ s.lDead = false ∧ SMap.get (fun _ => 0) s.clv.perLast n.val ≤ dueAt s.now (s.rd (R.CLV_PER_PERIOD n.val)).toNat) ∧
    (∃ (s : State) (m : Master) (n : Fin 16) (v : Word), s.grants m (R.CLV_PER_PERIOD n.val)) ∧
    (∃ (s : State), s.fbit F.CLV_STATUS_LOCKED = true ∧ s.clv.lastDone + 4000000 ≤ s.time ∧ s.room 4) ∧
    (∃ (s : State) (d : Word), s.fget F.CLV_STATUS_ROLE = 2 ∧ (500000 < d.toInt ∨ d.toInt < -500000) ∧ s.room 4) ∧
    (∃ (s : State) (m : Master) (v : Word), s.grants m R.CLV_PTP_RATE) :=
  ⟨⟨{ ((z.fput F.CLV_ALARM_CTRL_EN true).fput F.CLV_ALARM_CTRL_WAKE true |>.wr R.SYS_WAKE_EN 0xFFFFFFFF).withSeq (fun q => { q with mode := .dormant, entry := .off }) with clv := { z.clv with alarmArmed := true, alarm := 5 }, clave := 5 }, by decide +kernel⟩,
   ⟨{ z.fput F.CLV_ALARM_CTRL_EN true with clv := { z.clv with alarmArmed := true, alarm := 5 }, clave := 5 }, by decide +kernel⟩,
   ⟨zo, M0, 7, by unfold State.grants; decide +kernel⟩,
   ⟨zo, M0, 1, by unfold State.grants; decide +kernel⟩,
   ⟨({ ((z.fput (F.CLV_PER_CTRL_EN 15) true).fset (F.CLV_PER_CTRL_TARGET 15) 1).wr (R.CLV_PER_PERIOD 15) 40000 with clave := 80001 }), 15, 1, by decide +kernel⟩,
   ⟨zo, M0, 3, 7, by unfold State.grants; decide +kernel⟩,
   ⟨(z.fput F.CLV_STATUS_LOCKED true).atTime 4000000, by unfold State.room; decide +kernel⟩,
   ⟨zo.fset F.CLV_STATUS_ROLE 2, 500001, by unfold State.room; decide +kernel⟩,
   ⟨zo, M0, 9, by unfold State.grants; decide +kernel⟩⟩

theorem witness_JournalWriter :
    (∃ (s : State) (r : JRec), s.jrn.startDue = false ∧ s.lDead = false ∧ s.jrn.waiting[nextServed s.jrn.waiting]? = some r ∧ r.cls < 4 ∧ r.stamp.toNat + 1600 < s.now ∧ s.room 4) ∧
    (∃ (s : State) (r : JRec), s.jrn.startDue = false ∧ s.lDead = false ∧ s.jrn.waiting[nextServed s.jrn.waiting]? = some r ∧ r.cls < 4 ∧ s.now ≤ r.stamp.toNat + 1600 ∧ s.room 4) ∧
    (∃ (s : State) (r : JRec) (k : Nat), s.jrn.startDue = false ∧ s.lDead = false ∧ s.jrn.waiting[nextServed s.jrn.waiting]? = some r ∧ freePin s.jrn.pins = some k) ∧
    (∃ (s : State) (m : Master) (v : Word), s.grants m R.JRN_PIN_RELEASE ∧ 0 ∈ s.roles m) ∧
    (∃ (s : State), s.jrn.startDue = false ∧ s.lDead = false ∧ s.room 4) ∧
    (∃ (s : State) (k : Nat) (o : Overrun) (rest : SMap Overrun), s.jrn.waiting = [] ∧ s.jrn.overrun = (k, o) :: rest ∧ s.jrn.startDue = false ∧ s.lDead = false) ∧
    (∃ (s : State), s.jrn.startDue = true ∧ s.lDead = false ∧ s.room 4) ∧
    (∃ (s : State) (m : Master) (c : Fin 6), s.grants m (R.JRN_FW_COMMIT c.val) ∧ s.masterNum m = c.val) :=
  ⟨⟨{ z with jrn := { z.jrn with startDue := false, waiting := [rec1] }, clave := 1608 }, rec1, by unfold State.room; decide +kernel⟩,
   ⟨{ z with jrn := { z.jrn with startDue := false, waiting := [rec1] } }, rec1, by unfold State.room; decide +kernel⟩,
   ⟨{ z with jrn := { z.jrn with startDue := false, waiting := [rec1, rec4] } }, rec4, 0, by decide +kernel⟩,
   ⟨{ z with jrn := { z.jrn with pins := [⟨0, 4⟩, ⟨1, 9⟩] } }, M0, 4, by unfold State.grants; decide +kernel⟩,
   ⟨({ z with jrn := { z.jrn with startDue := false, waiting := [rec1, rec4] }, clave := 5000 }), by unfold State.room; decide +kernel⟩,
   ⟨{ z with jrn := { z.jrn with startDue := false, overrun := [(3, { code := 5, count := 2 })] } }, 3, { code := 5, count := 2 }, [], by decide +kernel⟩,
   ⟨z, by unfold State.room; decide +kernel⟩,
   ⟨z.fset (F.JRN_FW_HDR_CODE 0) 0x0501, M0, 0, by unfold State.grants; decide +kernel⟩⟩

theorem witness_ModeRequests :
    (∃ (s : State) (m : Master), s.grants m R.SYS_MODE_REQ ∧ s.safeDue = false ∧ s.seq.mode = .service) ∧
    (∃ (s : State) (m : Master), s.grants m R.SYS_MODE_REQ ∧ s.safeDue = false ∧ s.seq.mode = .arming ∧ s.seq.stepsDone = true ∧ s.sealOk = true ∧ s.openOnceDone = true ∧ s.lksSt 1 ≠ 3 ∧ (∀ c ∈ s.seq.causes, c.cls ≠ 3)) ∧
    (∃ (s : State) (m : Master), s.grants m R.SYS_MODE_REQ ∧ s.safeDue = false ∧ s.seq.mode = .arming ∧ s.seq.stepsDone = true ∧ s.parkEngaged = true) ∧
    (∃ (s : State) (m : Master), s.grants m R.SYS_MODE_REQ ∧ s.safeDue = false ∧ s.seq.mode = .arming ∧ s.seq.stepsDone = true) ∧
    (∃ (s : State) (m : Master), s.grants m R.SYS_MODE_REQ ∧ s.safeDue = false ∧ s.seq.mode = .arming ∧ s.sleepFail = none) ∧
    (∃ (s : State) (m : Master), s.grants m R.SYS_MODE_REQ ∧ s.safeDue = false ∧ s.seq.mode = .safeHold ∧ s.openOnceDone = true ∧ (∀ c ∈ s.seq.causes, c.cls ≠ 4)) ∧
    (∃ (s : State) (m : Master), s.grants m R.SYS_MODE_REQ ∧ s.safeDue = false ∧ s.seq.mode = .drive ∧ (∀ c ∈ s.seq.causes, c.cls ≠ 3)) ∧
    (∃ (s : State) (m : Master), s.grants m R.SYS_MODE_REQ ∧ s.safeDue = false ∧ s.seq.mode = .arming ∧ s.lksSt 1 = 3 ∧ s.room 4) ∧
    (∃ (s : State) (m : Master), s.grants m R.SYS_MODE_REQ ∧ s.safeDue = false ∧ s.seq.mode = .drive ∧ s.room 4) ∧
    (∃ (s : State) (m : Master) (v : BitVec 4), s.grants m R.SYS_MODE_REQ ∧ listedRequest v.toNat = false ∧ s.seq.request = none ∧ s.room 4) :=
  ⟨⟨zo.withMode .service, M0, by unfold State.grants; decide +kernel⟩,
   ⟨(zo.channelsDone.withSeq fun q => { q with stepsDone := true }), M0, by unfold State.grants; decide +kernel⟩,
   ⟨(zo.withSeq fun q => { q with stepsDone := true }).fset F.ACT_PL_STAT_STATE 1, M0, by unfold State.grants; decide +kernel⟩,
   ⟨(zo.withSeq fun q => { q with stepsDone := true }), M0, by unfold State.grants; decide +kernel⟩,
   ⟨(zo.fput F.PFB_STAT_VALID true).fset F.ACT_PL_SEAL_PL_RPM 20, M0, by unfold State.grants; decide +kernel⟩,
   ⟨(zo.channelsDone.withMode .safeHold).withSeq fun q => { q with safeLatch := true }, M0, by unfold State.grants; decide +kernel⟩,
   ⟨(zo.withMode .drive).withSeq fun q => { q with sub := .halfA, redPend := true, causes := [⟨5, 0, 4, 0⟩] }, M0, by unfold State.grants; decide +kernel⟩,
   ⟨zo.setLksSt 1 3, M0, by unfold State.grants State.room; decide +kernel⟩,
   ⟨zo.withMode .drive, M0, by unfold State.grants State.room; decide +kernel⟩,
   ⟨zo.withMode .charge, M0, 7, by unfold State.grants State.room; decide +kernel⟩⟩

theorem witness_SleepAndWake :
    (∃ (s : State), s.seq.mode = .arming ∧ 0 < s.fget F.SYS_SLEEP_CFG_TMO ∧ s.seq.sleepDue = false ∧ s.lDead = false ∧ s.seq.sleepStart + 800000000 * s.fget F.SYS_SLEEP_CFG_TMO ≤ s.time) ∧
    (∃ (s : State), s.seq.mode = .arming ∧ s.seq.sleepDue = true ∧ s.sleepFail = none ∧ s.lDead = false) ∧
    (∃ (s : State), s.seq.entry = .nvmWait ∧ s.nvmBusy = false) ∧
    (∃ (s : State), s.seq.entry = .lvcRamp ∧ s.lvcSt ≠ 4) ∧
    (∃ (s : State) (f : FlashBoot), s.seq.entry = .off ∧ s.seq.mode = .dormant ∧ s.seq.wakeDue = true) ∧
    (∃ (s : State) (w : WakeSrc) (f : FlashBoot), s.wakeEnabled w = true ∧ s.seq.mode = .dormant ∧ s.seq.entry = .off ∧ (w = .alarm → s.fbit F.CLV_ALARM_CTRL_EN = true ∧ s.clv.alarmArmed = true ∧ s.clv.alarm.toNat ≤ s.now)) ∧
    (∃ (s : State) (w : WakeSrc) (f : FlashBoot), s.wakeEnabled w = true ∧ s.seq.mode = .dormant ∧ s.seq.entry ≠ .off ∧ (w = .alarm → s.fbit F.CLV_ALARM_CTRL_EN = true ∧ s.clv.alarmArmed = true ∧ s.clv.alarm.toNat ≤ s.now)) :=
  ⟨⟨(z.fset F.SYS_SLEEP_CFG_TMO 2).atTime 1600000000, by decide +kernel⟩,
   ⟨((z.withSeq fun q => { q with sleepDue := true }).fput F.PFB_STAT_VALID true).fset F.ACT_PL_SEAL_PL_RPM 20, by decide +kernel⟩,
   ⟨z.withSeq fun q => { q with mode := .dormant, entry := .nvmWait }, by decide +kernel⟩,
   ⟨z.withSeq fun q => { q with mode := .dormant, entry := .lvcRamp }, by decide +kernel⟩,
   ⟨z.withSeq fun q => { q with mode := .dormant, entry := .off, wakeDue := true }, fb, by decide +kernel⟩,
   ⟨z.withSeq fun q => { q with mode := .dormant, entry := .off }, .pilot, fb, by decide +kernel⟩,
   ⟨z.withSeq fun q => { q with mode := .dormant, entry := .lvcRamp }, .can, fb, by decide +kernel⟩⟩

theorem witness_ReactionsAndArmingEnds :
    (∃ (s : State) (r : React) (rest : List React), takeReact 4 s.reacts = some (r, rest) ∧ s.seq.mode ≠ .dormant ∧ s.seq.mode ≠ .safeHold) ∧
    (∃ (s : State) (r : React) (rest : List React) (x : Sub × Bool), takeReact 3 s.reacts = some (r, rest) ∧ s.seq.mode = .drive ∧ degNext s.seq.sub s.seq.redPend r.assign = some x) ∧
    (∃ (s : State), s.seq.mode = .arming ∧ s.seq.stepsDone = false ∧ s.armingPassed = true ∧ s.seq.held = .no) ∧
    (∃ (s : State), s.seq.mode = .arming ∧ s.seq.stepsDone = false ∧ s.seq.timedOut = false ∧ s.seq.since + 800000000 ≤ s.time ∧ s.lDead = false ∧ s.room 4) :=
  ⟨⟨{ z.withMode .drive with reacts := [⟨0x0123, 2, 4, 0, 9, 0⟩] }, ⟨0x0123, 2, 4, 0, 9, 0⟩, [], by decide +kernel⟩,
   ⟨{ z.withMode .drive with reacts := [⟨0x0123, 2, 4, 0, 9, 0⟩, ⟨0x0124, 2, 3, 2, 9, 0⟩] }, ⟨0x0124, 2, 3, 2, 9, 0⟩, [⟨0x0123, 2, 4, 0, 9, 0⟩], (.halfA, false), by decide +kernel⟩,
   ⟨z.fset F.SYS_ARM_STAT_DONE 0x3F, by decide +kernel⟩,
   ⟨z.atTime 800000000, by unfold State.room; decide +kernel⟩⟩

theorem witness_EnableChain :
    (∃ (s : State) (c : Chan), (s.smon c).oo = .lowOk ∧ (s.smon c).en = some (false, false)) ∧
    (∃ (s : State) (c : Chan) (a : Bool) (b : Bool), (s.smon c).oo = .done ∧ (a && b) = false) ∧
    (∃ (s : State) (c : Chan) (t0 : Nat), (s.smon c).oo = .notDone ∧ (s.smon c).lowSince = some t0 ∧ t0 + 7760000 ≤ s.time) ∧
    (∃ (s : State) (t0 : Nat) (a : Bool) (b : Bool), s.safe.a.diffRep = false ∧ s.safe.a.diffSince = some t0 ∧ t0 + 15760000 ≤ s.time ∧ s.safe.a.en = some (a, b) ∧ s.room 4) ∧
    (∃ (s : State) (t0 : Nat), s.safe.b.diffRep = false ∧ s.safe.b.diffSince = some t0 ∧ t0 + 15760000 ≤ s.time) ∧
    (∃ (s : State) (c : Chan), (s.smon c).started = false ∧ (c = .smonB → s.safe.bOff = false)) :=
  ⟨⟨z.withSmonA fun a => { a with oo := .lowOk, en := some (false, false) }, .smonA, by decide +kernel⟩,
   ⟨z.withSmonB fun a => { a with oo := .done, en := some (true, true) }, .smonB, true, false, by decide +kernel⟩,
   ⟨(z.withSmonA fun a => { a with lowSince := some 5 }).atTime 7760005, .smonA, 5, by decide +kernel⟩,
   ⟨(z.withSmonA fun a => { a with diffSince := some 5, en := some (true, false) }).atTime 15760005, 5, true, false, by unfold State.room; decide +kernel⟩,
   ⟨(z.withSmonB fun a => { a with diffSince := some 5, en := some (true, false) }).atTime 15760005, 5, by decide +kernel⟩,
   ⟨z, .smonB, by decide +kernel⟩⟩

theorem witness_BootSteps :
    (∃ (s : State), s.bootAt .logicBist = true) ∧
    (∃ (s : State) (p : Fin 3) (chain : Word), s.bootAt .logicBist = true ∧ s.room 4) ∧
    (∃ (s : State), s.bootAt .memoryBist = true) ∧
    (∃ (s : State), s.bootAt .imageLoad = true ∧ s.rd R.SYS_RESET_CAUSE ≠ 4) ∧
    (∃ (s : State) (y : SystemPod) (z : SafetyPod) (fm : Byte) (q : Pod), s.bootAt .podRead = true ∧ ((s.bank (s.bankOf 0 false)).current 1).isSome = true ∧ (s.bank (s.bankOf 0 false)).current 2 = some q) ∧
    (∃ (s : State), s.bootAt .sealCheck = true ∧ s.unsealed = true ∧ s.safe.podA = none ∧ s.safe.a.params = none) ∧
    (∃ (s : State), s.bootAt .firmware = true ∧ s.rd R.SYS_RESET_CAUSE ≠ 4 ∧ s.thm.cut = none) :=
  ⟨⟨z, by decide +kernel⟩,
   ⟨z, 2, 77, by unfold State.room; decide +kernel⟩,
   ⟨(z.mput 0x10000000 3).withSeq fun q => { q with boot := .memoryBist }, by decide +kernel⟩,
   ⟨z.withSeq fun q => { q with boot := .imageLoad }, by decide +kernel⟩,
   ⟨({ z with nvm := { z.nvm with bank0 := { gen := some 1, pods := [{ type := 1, fmt := 1, seq := 1, payload := [1], good := true }, { type := 2, fmt := 1, seq := 1, payload := [2], good := true }] } } }).withSeq fun q => { q with boot := .podRead }, { loads := [], memBist := false }, { crc := 5, good := true, sets := [] }, 0, { type := 2, fmt := 1, seq := 1, payload := [2], good := true }, by decide +kernel⟩,
   ⟨z.withSeq fun q => { q with boot := .sealCheck }, by decide +kernel⟩,
   ⟨z.withSeq fun q => { q with boot := .firmware }, by decide +kernel⟩⟩

theorem witness_TestRequests :
    (∃ (s : State) (m : Master), s.grants m R.SYS_TEST_REQ ∧ s.noTest ∧ (s.fget F.SYS_TEST_QUEUE_Q).testBit 0 = false ∧ (s.seq.mode = .arming ∨ s.seq.mode = .service)) ∧
    (∃ (s : State) (m : Master), s.grants m R.SYS_TEST_REQ ∧ s.noTest ∧ (s.fget F.SYS_TEST_QUEUE_Q).testBit 1 = false ∧ (s.seq.mode = .arming ∨ s.seq.mode = .service)) ∧
    (∃ (s : State) (m : Master), s.grants m R.SYS_TEST_REQ ∧ s.noTest ∧ (s.fget F.SYS_TEST_QUEUE_Q).testBit 2 = false ∧ (s.seq.mode = .arming ∨ s.seq.mode = .service)) ∧
    (∃ (s : State) (m : Master), s.grants m R.SYS_TEST_REQ ∧ s.noTest ∧ (s.fget F.SYS_TEST_QUEUE_Q).testBit 3 = false ∧ (s.seq.mode = .arming ∨ s.seq.mode = .service)) ∧
    (∃ (s : State) (m : Master), s.grants m R.SYS_TEST_REQ ∧ s.noTest ∧ (s.fget F.SYS_TEST_QUEUE_Q).testBit 0 = false ∧ s.seq.mode = .drive ∧ s.room 4) ∧
    (∃ (s : State) (m : Master) (c : Instr) (k : Nat) (r : Fin 4), IsTestRequest c m k ∧ s.grants m R.SYS_TEST_REQ ∧ s.testOn r.val = true ∧ k ≠ r.val) ∧
    (∃ (s : State) (m : Master) (c : Instr) (k : Nat), IsTestRequest c m k ∧ s.grants m R.SYS_TEST_REQ ∧ (∀ r : Fin 4, r.val ≠ k → s.testOn r.val = false) ∧ (s.fget F.SYS_TEST_QUEUE_Q).testBit k = true) :=
  ⟨⟨zo, M0, by unfold State.noTest State.grants; decide +kernel⟩,
   ⟨zo.withMode .service, M0, by unfold State.noTest State.grants; decide +kernel⟩,
   ⟨zo, M0, by unfold State.noTest State.grants; decide +kernel⟩,
   ⟨zo, M0, by unfold State.noTest State.grants; decide +kernel⟩,
   ⟨zo.withMode .drive, M0, by unfold State.noTest State.grants State.room; decide +kernel⟩,
   ⟨zo.withSeq fun q => { q with test := some 0 }, M0, .testReqBrakeChopper M0, 3, 0, by unfold State.grants; decide +kernel⟩,
   ⟨zo.fset F.SYS_TEST_QUEUE_Q 2, M0, .testReqLogicBist M0, 1, by unfold State.grants; decide +kernel⟩⟩

theorem witness_LogicResets :
    (∃ (s : State) (f : FlashBoot), s.lDead = false) ∧
    (∃ (s : State) (f : FlashBoot), s.lDead = true) ∧
    (∃ (s : State) (m : Master) (v : Word) (f : FlashBoot), s.grants m R.SYS_RST ∧ v.getLsbD 0 = true ∧ (s.seq.mode = .arming ∨ s.seq.mode = .service ∨ s.seq.mode = .safeHold)) ∧
    (∃ (s : State) (m : Master) (v : Word) (f : FlashBoot), s.grants m R.SYS_RST ∧ v.getLsbD 0 = true ∧ s.seq.mode ≠ .arming ∧ s.seq.mode ≠ .service ∧ s.seq.mode ≠ .safeHold ∧ s.room 4) ∧
    (∃ (s : State) (f : FlashBoot) (t0 : Nat), s.gong.fatalAt = some t0 ∧ t0 + 4000000 ≤ s.time ∧ s.lDead = false) ∧
    (∃ (s : State) (f : FlashBoot) (t0 : Nat), s.gong.fatalAt = some t0 ∧ s.time < t0 + 4000000) :=
  ⟨⟨(z.mput 0x10000000 3).wr R.JRN_NEXT_SEQ 7, fb, by decide +kernel⟩,
   ⟨z.withSeq fun q => { q with held := .rail }, fb, by decide +kernel⟩,
   ⟨zo, M0, 1, fb, by unfold State.grants; decide +kernel⟩,
   ⟨zo.withMode .drive, M0, 1, fb, by unfold State.grants State.room; decide +kernel⟩,
   ⟨({ z.withMode .drive with gong := { z.gong with fatalAt := some 5 } }).atTime 4000005, fb, 5, by decide +kernel⟩,
   ⟨({ z.withMode .drive with gong := { z.gong with fatalAt := some 5 } }).atTime 4000004, fb, 5, by decide +kernel⟩⟩

theorem witness_CleReleases :
    (∃ (s : State) (m : Master) (n : Fin 128), s.grants m (R.CLE_CTX_SWTRIG n.val) ∧ s.fget (F.CLE_CTX_TRIG_SRC n.val) = 4 ∧ s.fbit F.CLE_GLB_CTRL_EN = true ∧ s.ctxOn n.val = true ∧ s.fbit (F.CLE_CTX_STAT_SUSP n.val) = false ∧ (s.ctx n.val).suspPend = none ∧ s.overridden (s.fget (F.CLE_CTX_CTRL_SGRP n.val)) = false ∧ s.fget (F.CLE_CTX_STAT_DIVCNT n.val) = 0 ∧ s.fbit (F.CLE_CTX_STAT_BUSY n.val) = false ∧ (s.ctx n.val).due = none ∧ (∀ i ∈ s.ctxSignals n.val, 0x180 ≤ i → i - 0x180 < n.val → s.fbit (F.CLE_CTX_STAT_BUSY (i - 0x180)) = false ∧ (s.ctx (i - 0x180)).due = none)) ∧
    (∃ (s : State) (m : Master) (n : Fin 128), s.grants m (R.CLE_CTX_SWTRIG n.val) ∧ s.fget (F.CLE_CTX_TRIG_SRC n.val) = 4 ∧ s.fbit F.CLE_GLB_CTRL_EN = true ∧ s.ctxOn n.val = true ∧ s.fbit (F.CLE_CTX_STAT_SUSP n.val) = false ∧ (s.ctx n.val).suspPend = none ∧ s.overridden (s.fget (F.CLE_CTX_CTRL_SGRP n.val)) = false ∧ s.fget (F.CLE_CTX_STAT_DIVCNT n.val) ≠ 0) ∧
    (∃ (s : State) (m : Master) (n : Fin 128), s.grants m (R.CLE_CTX_SWTRIG n.val) ∧ s.fget (F.CLE_CTX_TRIG_SRC n.val) = 4 ∧ s.fbit F.CLE_GLB_CTRL_EN = true ∧ s.ctxOn n.val = true ∧ s.fbit (F.CLE_CTX_STAT_SUSP n.val) = false ∧ (s.ctx n.val).suspPend = none ∧ s.overridden (s.fget (F.CLE_CTX_CTRL_SGRP n.val)) = false ∧ s.fget (F.CLE_CTX_STAT_DIVCNT n.val) = 0 ∧ s.fbit (F.CLE_CTX_STAT_BUSY n.val) = true ∧ s.fget (F.CLE_CTX_OVR_COUNT n.val) + 1 < 2 ^ 16) ∧
    (∃ (s : State) (g : Fin 8) (l : List ResPair), 0 < (s.rd (R.CLE_GLB_RATE g.val)).toNat ∧ SMap.get (fun _ => 0) s.cle.rateLast g.val ≤ dueAt s.now (s.rd (R.CLE_GLB_RATE g.val)).toNat) ∧
    (∃ (s : State) (g : Fin 8) (l : List ResPair) (n : Fin 128), 0 < (s.rd (R.CLE_GLB_RATE g.val)).toNat ∧ SMap.get (fun _ => 0) s.cle.rateLast g.val ≤ dueAt s.now (s.rd (R.CLE_GLB_RATE g.val)).toNat ∧ s.fbit F.PFB_RES_CTRL_EN = false ∧ s.fget (F.CLE_CTX_TRIG_SRC n.val) = 3 ∧ s.fget (F.CLE_CTX_TRIG_SEL n.val) = g.val ∧ s.fbit F.CLE_GLB_CTRL_EN = true ∧ s.ctxOn n.val = true ∧ s.fbit (F.CLE_CTX_STAT_SUSP n.val) = false ∧ (s.ctx n.val).suspPend = none ∧ s.overridden (s.fget (F.CLE_CTX_CTRL_SGRP n.val)) = false ∧ s.fget (F.CLE_CTX_STAT_DIVCNT n.val) = 0 ∧ s.fbit (F.CLE_CTX_STAT_BUSY n.val) = false ∧ (s.ctx n.val).due = none ∧ (∀ i ∈ s.ctxSignals n.val, i < 0x80)) ∧
    (∃ (s : State) (g : Fin 8) (l : List ResPair), s.rd (R.CLE_GLB_RATE g.val) = 0) :=
  ⟨⟨((zo.fset (F.CLE_CTX_TRIG_SRC 127) 4).fput F.CLE_GLB_CTRL_EN true).fput (F.CLE_CTX_CTRL_EN 127) true |>.fset (F.CLE_CTX_CTRL_SGRP 127) 15, M0, 127, by unfold State.grants; decide +kernel⟩,
   ⟨((zo.fset (F.CLE_CTX_TRIG_SRC 127) 4).fput F.CLE_GLB_CTRL_EN true).fput (F.CLE_CTX_CTRL_EN 127) true |>.fset (F.CLE_CTX_CTRL_SGRP 127) 15 |>.fset (F.CLE_CTX_STAT_DIVCNT 127) 3, M0, 127, by unfold State.grants; decide +kernel⟩,
   ⟨((zo.fset (F.CLE_CTX_TRIG_SRC 127) 4).fput F.CLE_GLB_CTRL_EN true).fput (F.CLE_CTX_CTRL_EN 127) true |>.fset (F.CLE_CTX_CTRL_SGRP 127) 15 |>.fput (F.CLE_CTX_STAT_BUSY 127) true, M0, 127, by unfold State.grants; decide +kernel⟩,
   ⟨{ z.wr (R.CLE_GLB_RATE 7) 1000 with clave := 5000 }, 7, [], by decide +kernel⟩,
   ⟨(({ z.wr (R.CLE_GLB_RATE 7) 1000 with clave := 5000 }).fset (F.CLE_CTX_TRIG_SRC 127) 3 |>.fset (F.CLE_CTX_TRIG_SEL 127) 7 |>.fput F.CLE_GLB_CTRL_EN true).fput (F.CLE_CTX_CTRL_EN 127) true |>.fset (F.CLE_CTX_CTRL_SGRP 127) 15, 7, [], 127, by decide +kernel⟩,
   ⟨z, 0, [], by decide +kernel⟩⟩

theorem witness_CleRuns :
    (∃ (s : State) (l : Fin 4) (n : Nat), s.laneIn l.val = true ∧ (s.lane l.val).run = none ∧ s.nextCtx l.val 128 = some n) ∧
    (∃ (s : State) (l : Fin 4) (n : Fin 128) (c0 : Nat) (c : CleSnap) (r : F32) (e : F32) (u : F32) (out : F32) (sat : Nat) (frz : Bool) (os : List SecOut), (s.lane l.val).run = some (n, c0) ∧ (s.ctx n.val).snap = some c ∧ c0 + 8 + 2 * c.secs.length ≤ s.cyc ∧ s.fbit (F.CLE_CTX_STAT_HELD n.val) = false ∧ (c.errMode = true ∨ fLt c.feLimit (fAbs (fSub r c.meas)) = false) ∧ runCompute c (!(s.ctx n.val).ran) (s.ctx n.val).r (if (s.ctx n.val).ran then fMul (fOfNat ((s.ctx n.val).rel - (s.ctx n.val).ref)) fCycle else 0) c.states = .ok r e u out sat frz os) ∧
    (∃ (s : State) (l : Fin 4) (n : Fin 128) (c0 : Nat) (c : CleSnap) (a : Word) (pos : Fin 8), (s.lane l.val).run = some (n, c0) ∧ (s.ctx n.val).snap = some c ∧ c0 + 8 + 2 * c.secs.length ≤ s.cyc ∧ (s.ctx n.val).suspPend = none ∧ (s.ctx n.val).due = none) ∧
    (∃ (s : State) (l : Fin 4) (n : Fin 128) (c0 : Nat) (c : CleSnap) (errs : List CleError), (s.lane l.val).run = some (n, c0) ∧ (s.ctx n.val).snap = some c ∧ s.cyc < c0 + 8 + 2 * c.secs.length) :=
  ⟨⟨(z.withCtx 5 fun c => { c with waiting := true }).fset F.CLE_GLB_CTRL_LANE_EN 8 |>.fset F.CLE_GLB_CTRL_RSV 0 |>.fput F.CLE_GLB_CTRL_EN true |>.fput (F.CLE_CTX_CTRL_EN 5) true, 3, 5, by decide +kernel⟩,
   ⟨({ (z.withCtx 127 fun c => { c with snap := some sn0 }) with cle := { (z.withCtx 127 fun c => { c with snap := some sn0 }).cle with lane2 := { run := some (127, 0) } } }).atTime 16, 2, 127, 0, sn0, 0, 0, 0x40000000, 0x3FC00000, 1, false, [], by decide +kernel⟩,
   ⟨({ (z.withCtx 127 fun c => { c with snap := some sn0 }) with cle := { (z.withCtx 127 fun c => { c with snap := some sn0 }).cle with lane2 := { run := some (127, 0) } } }).atTime 16, 2, 127, 0, sn0, 3, 1, by decide +kernel⟩,
   ⟨({ (z.withCtx 127 fun c => { c with snap := some sn0 }) with cle := { (z.withCtx 127 fun c => { c with snap := some sn0 }).cle with lane2 := { run := some (127, 0) } } }).atTime 14, 2, 127, 0, sn0, [], by decide +kernel⟩⟩

theorem witness_CleDelivery :
    (∃ (s : State) (o : CleOut) (rest : List CleOut), s.cle.outs = o :: rest) ∧
    (∃ (s : State) (o : CleOut) (rest : List CleOut), s.cle.outs = o :: rest ∧ o.kind = 0) ∧
    (∃ (s : State) (o : CleOut) (rest : List CleOut), s.cle.outs = o :: rest ∧ o.kind = 1 ∧ dstValid 1 o.index = true ∧ o.index % 16 < 4 ∧ fIsNaN o.value = false) ∧
    (∃ (s : State), s.cle.outs = []) :=
  ⟨⟨({ z with cle := { z.cle with outs := [{ ctx := 7, kind := 0, index := 0, value := 0x40000000, rel := 1 }] } }).atTime 40, { ctx := 7, kind := 0, index := 0, value := 0x40000000, rel := 1 }, [], by decide +kernel⟩,
   ⟨({ z with cle := { z.cle with outs := [{ ctx := 7, kind := 0, index := 0, value := 0x40000000, rel := 1 }] } }).atTime 40, { ctx := 7, kind := 0, index := 0, value := 0x40000000, rel := 1 }, [], by decide +kernel⟩,
   ⟨({ z with cle := { z.cle with outs := [{ ctx := 7, kind := 1, index := 0, value := 0x40000000, rel := 1 }] } }).atTime 40, { ctx := 7, kind := 1, index := 0, value := 0x40000000, rel := 1 }, [], by decide +kernel⟩,
   ⟨z, by decide +kernel⟩⟩

theorem witness_CleEnableBanksAndChains :
    (∃ (s : State) (m : Master) (n : Fin 128) (v : Word), s.grants m (R.CLE_CTX_CTRL n.val) ∧ s.ctxOn n.val = false ∧ s.ctxInvalid n.val = none) ∧
    (∃ (s : State) (m : Master) (n : Fin 128) (v : Word) (off : Nat) (why : Nat), s.grants m (R.CLE_CTX_CTRL n.val) ∧ s.ctxOn n.val = false ∧ s.ctxInvalid n.val = some (off, why) ∧ s.room 4) ∧
    (∃ (s : State) (m : Master) (n : Fin 128) (v : Word), s.grants m (R.CLE_CTX_CTRL n.val) ∧ s.ctxOn n.val = true) ∧
    (∃ (s : State) (m : Master) (n : Fin 128) (v : Word), s.grants m (R.CLE_CTX_CTRL n.val) ∧ s.ctxOn n.val = false ∧ v.getLsbD 0 = false) ∧
    (∃ (s : State) (m : Master) (n : Fin 128) (v : Word), s.grants m (R.CLE_CTX_CTRL n.val) ∧ s.ctxOn n.val = true ∧ v.getLsbD 0 = true) ∧
    (∃ (s : State) (m : Master) (n : Fin 128) (v : Word), s.grants m (R.CLE_CTX_CHAIN n.val) ∧ s.ctxOn n.val = false ∧ s.swapPend n.val = false ∧ chainValid (chainOf v 0) = true ∧ chainValid (chainOf v 1) = true) :=
  ⟨⟨zo.fset (F.CLE_CTX_TRIG_SRC 3) 4, M0, 3, 1, by unfold State.grants; decide +kernel⟩,
   ⟨zo.wr (R.CLE_CTX_CHAIN 3) 0x9000 |>.fset (F.CLE_CTX_TRIG_SRC 3) 4, M0, 3, 1, 0x01C, 1, by unfold State.grants State.room; decide +kernel⟩,
   ⟨(zo.fput (F.CLE_CTX_CTRL_EN 3) true).withCtx 3 fun c => { c with waiting := true }, M0, 3, 0, by unfold State.grants; decide +kernel⟩,
   ⟨zo, M0, 3, 0xFFFFFFFE, by unfold State.grants; decide +kernel⟩,
   ⟨zo.fput (F.CLE_CTX_CTRL_EN 3) true, M0, 3, 0xFFFFFFFF, by unfold State.grants; decide +kernel⟩,
   ⟨zo, M0, 3, 0x02000100, by unfold State.grants; decide +kernel⟩⟩

theorem witness_CleStatesCoefficientsAndReservations :
    (∃ (s : State) (m : Master) (n : Fin 128) (i : Fin 8) (two : Bool) (v : Word), s.grants m (R.CLE_CTX_CTRL n.val + 0x80 + 8 * i.val + 4 * b2n two) ∧ s.ctxOn n.val = false ∧ fIsNaN v = false) ∧
    (∃ (s : State) (m : Master) (n : Fin 128) (i : Fin 8) (two : Bool) (v : Word), s.grants m (R.CLE_CTX_CTRL n.val + 0x80 + 8 * i.val + 4 * b2n two) ∧ s.ctxOn n.val = true ∧ s.room 4) ∧
    (∃ (s : State) (m : Master) (c : Fin 1024) (w : Fin 7) (v : Word), s.grants m (R.CLE_COEF c.val w.val) ∧ s.secInUse c.val 128 = false) ∧
    (∃ (s : State) (m : Master) (c : Fin 1024) (w : Fin 7) (v : Word), s.grants m (R.CLE_COEF c.val w.val) ∧ s.secInUse c.val 128 = true ∧ s.room 4) ∧
    (∃ (s : State) (m : Master) (v : Word) (l : Fin 4), s.grants m R.CLE_GLB_CTRL ∧ s.laneIn l.val = true ∧ (fldOf F.CLE_GLB_CTRL_RSV v).testBit l.val = false) ∧
    (∃ (s : State) (m : Master) (v : Word), s.grants m R.CLE_GLB_CTRL ∧ (∃ l : Fin 4, s.laneIn l.val = true) ∧ (∀ l : Fin 4, s.laneIn l.val = true → (fldOf F.CLE_GLB_CTRL_RSV v).testBit l.val = true) ∧ s.room 4) ∧
    (∃ (s : State) (w : Fin 8192), s.rd R.CLE_GLB_ECC_CNT ≠ 0xFFFFFFFF ∧ s.room 4) :=
  ⟨⟨zo, M0, 127, 7, true, 0x7F800000, by unfold State.grants; decide +kernel⟩,
   ⟨zo.fput (F.CLE_CTX_CTRL_EN 127) true, M0, 127, 7, true, 0x7F800000, by unfold State.grants State.room; decide +kernel⟩,
   ⟨zo, M0, 1023, 5, 0x12, by unfold State.grants; decide +kernel⟩,
   ⟨((zo.fput (F.CLE_CTX_CTRL_EN 0) true).wr (R.CLE_CTX_CHAIN 0) 0x5000), M0, 2, 5, 0x12, by unfold State.grants State.room; decide +kernel⟩,
   ⟨zo.fset F.CLE_GLB_CTRL_LANE_EN 15, M0, 0, 3, by unfold State.grants; decide +kernel⟩,
   ⟨zo.fset F.CLE_GLB_CTRL_LANE_EN 3, M0, 0xFFFFFFFF, by unfold State.grants State.room; decide +kernel⟩,
   ⟨z, 8191, by unfold State.room; decide +kernel⟩⟩

theorem witness_AdcSequencesAndCores :
    (∃ (s : State) (m : Master) (q : Fin 32), s.grants m (R.ADC_SEQ_SWTRIG q.val) ∧ s.fget (F.ADC_SEQ_CTRL_SRC q.val) = 4 ∧ s.fbit F.ADC_CTRL_EN = true ∧ s.fbit (F.ADC_SEQ_CTRL_EN q.val) = true ∧ s.nslot q.val ≠ 0 ∧ (s.aseq q.val).waiting = none ∧ (s.aseq q.val).hold = none) ∧
    (∃ (s : State) (q : Nat) (t0 : Nat), q < 32 ∧ s.firstWaiting 32 = some (q, t0) ∧ (s.rd (R.ADC_SEQ_LATE q)).toNat + 1 < 2 ^ 32) ∧
    (∃ (s : State) (q : Fin 32) (t0 : Nat) (code : BitVec 16), (s.aseq q.val).hold = some t0 ∧ t0 + s.convTicks q.val ≤ s.time ∧ s.nslot q.val = 1 ∧ s.slotAin q.val 0 < 96) ∧
    (∃ (s : State) (q : Fin 32), s.fget (F.ADC_SEQ_CTRL_SRC q.val) = 3 ∧ (s.aseq q.val).lastTrig + 2 * (s.rd (R.ADC_SEQ_INTV q.val)).toNat ≤ s.time ∧ s.fbit F.ADC_CTRL_EN = true ∧ s.fbit (F.ADC_SEQ_CTRL_EN q.val) = true ∧ s.nslot q.val ≠ 0 ∧ (s.aseq q.val).waiting = none ∧ (s.aseq q.val).hold = none ∧ s.adcFree q.val s.time = true) ∧
    (∃ (s : State), s.adc.hasSpare = true ∧ s.adc.spareCal = true ∧ s.adc.calNow = true) ∧
    (∃ (s : State) (dev : BitVec 16), s.adc.hasSpare = true ∧ s.adc.spareCal = false ∧ dev.toNat ≤ 4) ∧
    (∃ (s : State) (dev : BitVec 16), s.adc.hasSpare = true ∧ s.adc.spareCal = false ∧ 4 < dev.toNat ∧ s.room 4) ∧
    (∃ (s : State) (k : Fin 16) (dev : BitVec 16), 16 < dev.toNat ∧ (s.fget F.ADC_STAT_RETIRED).testBit k.val = false ∧ s.adc.hasSpare = false ∧ s.room 4) ∧
    (∃ (s : State) (k : Fin 16) (dev : BitVec 16), 16 < dev.toNat ∧ (s.fget F.ADC_STAT_RETIRED).testBit k.val = false ∧ s.adc.hasSpare = true ∧ s.fget F.ADC_STAT_SPARE ≠ k.val ∧ s.room 5) ∧
    (∃ (s : State) (m : Master) (v : Word), s.grants m R.ADC_CTRL) :=
  ⟨⟨(zo.fset (F.ADC_SEQ_CTRL_SRC 31) 4).fput F.ADC_CTRL_EN true |>.fput (F.ADC_SEQ_CTRL_EN 31) true |>.fset (F.ADC_SEQ_CTRL_NSLOT 31) 3, M0, 31, by unfold State.grants; decide +kernel⟩,
   ⟨(z.fput F.ADC_CTRL_EN true |>.fput (F.ADC_SEQ_CTRL_EN 31) true |>.fset (F.ADC_SEQ_CTRL_NSLOT 31) 3).withAdcSeq 31 (fun a => { a with waiting := some 2 }) |>.atTime 50, 31, 2, by decide +kernel⟩,
   ⟨(z.fput F.ADC_CTRL_EN true |>.fput (F.ADC_SEQ_CTRL_EN 31) true |>.fset (F.ADC_SEQ_CTRL_NSLOT 31) 1).withAdcSeq 31 (fun a => { a with hold := some 2 }) |>.atTime 5000, 31, 2, 77, by decide +kernel⟩,
   ⟨(z.fset (F.ADC_SEQ_CTRL_SRC 31) 3).fput F.ADC_CTRL_EN true |>.fput (F.ADC_SEQ_CTRL_EN 31) true |>.fset (F.ADC_SEQ_CTRL_NSLOT 31) 3 |>.atTime 99999, 31, by decide +kernel⟩,
   ⟨{ z with adc := { z.adc with spareCal := true, calNow := true } }, by decide +kernel⟩,
   ⟨z, 4, by decide +kernel⟩,
   ⟨z, 5, by unfold State.room; decide +kernel⟩,
   ⟨{ z with adc := { z.adc with hasSpare := false } }, 15, 17, by unfold State.room; decide +kernel⟩,
   ⟨{ z with adc := { z.adc with spareCal := true } }, 3, 17, by unfold State.room; decide +kernel⟩,
   ⟨zo, M0, 1, by unfold State.grants; decide +kernel⟩⟩

theorem witness_AdcComparatorsAndSigmaDelta :
    (∃ (s : State) (k : Fin 16) (above : Bool) (below : Bool), s.fbit (F.ADC_WC_CTRL_EN k.val) = true ∧ s.seq.mode ≠ .dormant ∧ s.fget (F.ADC_WC_CTRL_ACTION k.val) = 0 ∧ s.fbit (F.ADC_WC_CTRL_TRIP k.val) = false ∧ (above || below) = true ∧ s.room 4) ∧
    (∃ (s : State) (n : Fin 8) (y : F32), s.fbit (F.ADC_SD_CFG_EN n.val) = true) ∧
    (∃ (s : State) (n : Fin 8) (v : F32), s.fbit (F.ADC_SD_CFG_EN n.val) = true ∧ s.fbit (F.ADC_SD_CMP_CTRL_EN n.val) = true ∧ s.fbit (F.ADC_SD_CMP_CTRL_TRIP n.val) = false ∧ fLt (s.rd (R.ADC_SD_CMP_HI n.val)) v = true ∧ s.fget (F.ADC_SD_CMP_CTRL_ACTION n.val) = 0 ∧ s.room 4) ∧
    (∃ (s : State) (n : Fin 8) (data : Bool), s.fbit (F.ADC_SD_CFG_EN n.val) = true ∧ s.adc.sdLost.getLsbD n.val = false ∧ s.room 4) ∧
    (∃ (s : State) (n : Fin 8) (data : Bool), s.fbit (F.ADC_SD_CFG_EN n.val) = true ∧ s.adc.sdLost.getLsbD n.val = true) :=
  ⟨⟨z.fput (F.ADC_WC_CTRL_EN 15) true, 15, false, true, by unfold State.room; decide +kernel⟩,
   ⟨z.fput (F.ADC_SD_CFG_EN 7) true, 7, 0x40000000, by decide +kernel⟩,
   ⟨z.fput (F.ADC_SD_CFG_EN 7) true |>.fput (F.ADC_SD_CMP_CTRL_EN 7) true |>.wr (R.ADC_SD_CMP_HI 7) 0x3F800000, 7, 0x40000000, by unfold State.room; decide +kernel⟩,
   ⟨z.fput (F.ADC_SD_CFG_EN 7) true |>.fset (F.TMU_SYS_ISEL_IU_SIG 0) 3 |>.fset (F.TMU_SYS_ISEL_IV_SIG 0) 4 |>.fset (F.TMU_SYS_ISEL_IU_SIG 1) 5 |>.fset (F.TMU_SYS_ISEL_IV_SIG 1) 6, 7, true, by unfold State.room; decide +kernel⟩,
   ⟨{ z.fput (F.ADC_SD_CFG_EN 7) true with adc := { z.adc with sdLost := 0xFF } }, 7, true, by decide +kernel⟩⟩

theorem witness_TorqueCalibrationAndEnable :
    (∃ (s : State) (m : Master) (k : Fin 2) (v : Word), s.grants m (R.TMU_SYS_CAL k.val) ∧ v.getLsbD 0 = true ∧ (s.mach = 2 → k = 0)) ∧
    (∃ (s : State) (k : Fin 2), (s.tsys k.val).cal = some 1024 ∧ fLt (s.rd (R.TMU_SYS_IOFS_MAX k.val)) (fAbs (fMul (s.tsys k.val).sumU fPer1024)) = false ∧ fLt (s.rd (R.TMU_SYS_IOFS_MAX k.val)) (fAbs (fMul (s.tsys k.val).sumV fPer1024)) = false) ∧
    (∃ (s : State) (k : Fin 2), (s.tsys k.val).cal = some 1024 ∧ fLt (s.rd (R.TMU_SYS_IOFS_MAX k.val)) (fAbs (fMul (s.tsys k.val).sumU fPer1024)) = true ∧ s.room 4) ∧
    (∃ (s : State) (m : Master) (v : Word), s.grants m R.TMU_CFG ∧ s.fbit F.TMU_CFG_EN = false ∧ fldOf F.TMU_CFG_MACH v ≤ 2 ∧ fldOf F.TMU_CFG_MOD v ≤ 1 ∧ s.room 4) ∧
    (∃ (s : State) (m : Master) (v : Word), s.grants m R.TMU_CFG ∧ s.fbit F.TMU_CFG_EN = true) :=
  ⟨⟨zo, M0, 1, 1, by unfold State.grants; decide +kernel⟩,
   ⟨(z.wr (R.TMU_SYS_IOFS_MAX 1) 0x40A00000).withTmuSys 1 fun t => { t with cal := some 1024, sumU := 0x44800000, sumV := 0x45000000 }, 1, by decide +kernel⟩,
   ⟨(z.wr (R.TMU_SYS_IOFS_MAX 1) 0).withTmuSys 1 fun t => { t with cal := some 1024, sumU := 0x44800000, sumV := 0x45000000 }, 1, by unfold State.room; decide +kernel⟩,
   ⟨zo, M0, 0x00010006, by unfold State.grants State.room; decide +kernel⟩,
   ⟨((zo.fput F.TMU_CFG_EN true).withGrp 0 fun g => { g with running := true }).withGrp 1 fun g => { g with running := true }, M0, 0, by unfold State.grants; decide +kernel⟩⟩

theorem witness_TorqueStartsAndBrakeChopper :
    (∃ (s : State), s.mayStart s.planeAsked = true ∧ s.fbit F.TMU_STAT_POS_HOLD = false ∧ s.preloadFail s.planeAsked = none ∧ (planeSystems s.mach s.planeAsked).all (fun k => s.sysState k == 1) = false ∧ s.managedRun s.planeAsked = false) ∧
    (∃ (s : State) (n : Nat) (why : Nat), s.mayStart s.planeAsked = true ∧ s.fbit F.TMU_STAT_POS_HOLD = false ∧ s.preloadFail s.planeAsked = some (n, why) ∧ (planeSystems s.mach s.planeAsked).all (fun k => s.sysState k == 1) = false ∧ s.room 4) ∧
    (∃ (s : State), s.mayStart s.planeAsked = true ∧ s.fbit F.TMU_STAT_POS_HOLD = true ∧ s.preloadFail s.planeAsked = none ∧ s.managedRun s.planeAsked = false) ∧
    (∃ (s : State), s.planeAsked ≠ s.plane ∧ s.mach ≠ 2 ∧ s.mayStart s.planeAsked = true ∧ s.preloadFail s.planeAsked = none ∧ s.managedRun s.planeAsked = false) ∧
    (∃ (s : State), s.fget F.TMU_BC_MAXON_MAXON ≠ 0 ∧ s.fget F.TMU_BC_MAXON_MAXON ≤ s.bcUsed ∧ s.fbit F.TMU_STAT_BC_BUDGET = false ∧ s.room 4) ∧
    (∃ (s : State), s.fbit F.TMU_STAT_BC_BUDGET = true ∧ 2 * s.bcUsed < s.fget F.TMU_BC_MAXON_MAXON) ∧
    (∃ (s : State) (v0 : F32) (v1 : F32) (t0 : Nat), s.tmu.bcTest = some t0 ∧ t0 + 8000000 ≤ s.time ∧ (fLe 0x42480000 v0 && fLt (fSub v0 v1) (s.rd R.TMU_BC_TEST_DV)) = false) ∧
    (∃ (s : State) (k : Fin 100) (v0 : F32) (v1 : F32) (t0 : Nat), s.tmu.bcTest = some t0 ∧ t0 + 8000000 ≤ s.time) :=
  ⟨⟨zt, by decide +kernel⟩,
   ⟨(zt.fput F.TMU_PCTX_D_USE true).fset F.TMU_PCTX_D 5 |>.fset F.TMU_CFG_MOD 1 |>.fset (F.TMU_SYS_CTX_D 0) 5 |>.fput (F.TMU_SYS_CTX_D_USE 0) true, 5, 1, by unfold State.room; decide +kernel⟩,
   ⟨zt.fput F.TMU_STAT_POS_HOLD true, by decide +kernel⟩,
   ⟨zt.fset F.TMU_STAT_PLANE 1, by decide +kernel⟩,
   ⟨({ z.fset F.TMU_BC_MAXON_MAXON 10 with tmu := { z.tmu with bc := { since := some 5 } } }).atTime 8005, by unfold State.room; decide +kernel⟩,
   ⟨(z.fset F.TMU_BC_MAXON_MAXON 10).fput F.TMU_STAT_BC_BUDGET true, by decide +kernel⟩,
   ⟨({ z with tmu := { z.tmu with bcTest := some 5 } }).atTime 8000005, 0x42C80000, 0x42C00000, 5, by decide +kernel⟩,
   ⟨({ z with tmu := { z.tmu with bcTest := some 5 } }).atTime 8000005, 99, 0x42C80000, 0x42C00000, 5, by decide +kernel⟩⟩

theorem witness_Resolver :
    (∃ (s : State) (m : Master) (v : Word), s.grants m R.PFB_CFG ∧ s.fbit F.PFB_CFG_EN = false ∧ v.getLsbD 31 = true ∧ 1 ≤ fldOf F.PFB_CFG_POLE v ∧ fldOf F.PFB_CFG_POLE v ≤ 16 ∧ 1 ≤ fldOf F.PFB_CFG_RPOLE v ∧ fldOf F.PFB_CFG_RPOLE v ≤ 8 ∧ fldOf F.PFB_CFG_SRC v ≤ 1) ∧
    (∃ (s : State) (m : Master) (v : Word), s.grants m R.PFB_RES_CTRL ∧ s.fbit F.PFB_RES_CTRL_EN = false ∧ v.getLsbD 0 = true ∧ s.resPerOk (fldOf F.PFB_RES_CTRL_GEN v) = true) ∧
    (∃ (s : State), s.pfb.stage = .second) ∧
    (∃ (s : State), s.fbit F.PFB_RES_CTRL_EN = true ∧ s.pfb.stage = .track ∧ 32 ≤ s.pfb.locks ∧ s.fbit F.PFB_STAT_LOCK = false ∧ s.trkOk = true) ∧
    (∃ (s : State) (c : ResCond) (k : Nat), s.fbit F.PFB_RES_CTRL_EN = true ∧ s.pfb.exc = true ∧ s.pfb.lossOn = false ∧ ((∃ x, c = .samples [x] ∧ k = 1 ∧ (s.pairIn x).pfb.ampBad = 3) ∨ (∃ x, c = .samples [x] ∧ k = 2 ∧ (s.pairIn x).pfb.ampBad ≠ 3 ∧ (s.pairIn x).pfb.excBad = 3) ∨ (s.pfb.ampBad ≠ 3 ∧ s.pfb.excBad ≠ 3 ∧ ((∃ n, c = .current n ∧ k = 2 ∧ 800 ≤ n) ∨ (s.pfb.curLim = false ∧ ((c = .tracking ∧ k = 3 ∧ s.pfb.trkBad = true) ∨ (s.pfb.trkBad = false ∧ ∃ cosine dev, c = .converter cosine dev ∧ k = 4 ∧ 16 < dev.toInt.natAbs))))))) ∧
    (∃ (s : State) (l : List (F32 × F32)), s.pfb.revDone = some l ∧ s.fbit F.PFB_RES_CTRL_CAL_EN = true ∧ s.fbit F.PFB_STAT_VALID = true ∧ fLe (s.rd R.PFB_RES_CAL_WMIN) (fAbs s.wHat) = true ∧ fLe (fAbs s.wHat) (s.rd R.PFB_RES_CAL_WMAX) = true ∧ s.room 4) ∧
    (∃ (s : State) (g : Fin 8) (p : List ResPair) (l : List (F32 × F32)), 0 < (s.rd (R.CLE_GLB_RATE g.val)).toNat ∧ SMap.get (fun _ => 0) s.cle.rateLast g.val ≤ dueAt s.now (s.rd (R.CLE_GLB_RATE g.val)).toNat ∧ s.fbit F.PFB_RES_CTRL_EN = true ∧ s.pfb.exc = true ∧ s.fget F.PFB_RES_CTRL_GEN = g.val ∧ s.pfb.taken = 8 ∧ s.pfb.lossHolds = false ∧ s.pfb.fitDue = some l) ∧
    (∃ (s : State), s.inMode .arming = true ∧ s.lasted s.pfb.validSince 8000000 = true ∧ s.seq.resOk = false) ∧
    (∃ (s : State), s.inMode .arming = true ∧ s.fbit F.PFB_RES_CTRL_EN = true ∧ s.pfb.excStart + 80000000 ≤ s.time ∧ s.seq.resOk = false ∧ s.pfb.chkFail = false ∧ s.heldInTime = false ∧ s.room 4) :=
  ⟨⟨zo, M0, w32 (2^31) ||| (putBits (putBits 0 F.PFB_CFG_POLE.hi F.PFB_CFG_POLE.lo 16) F.PFB_CFG_RPOLE.hi F.PFB_CFG_RPOLE.lo 3), by unfold State.grants; decide +kernel⟩,
   ⟨zo.wr (R.CLE_GLB_RATE 0) 8000, M0, 1, by unfold State.grants; decide +kernel⟩,
   ⟨z.withPfb fun p => { p with stage := .second }, by decide +kernel⟩,
   ⟨(((((((((((z.withPfb fun p => { p with stage := .track, locks := 32 }).fput F.PFB_RES_CTRL_EN true).fset F.PFB_RES_CTRL_TRK_CTX 7).fput (F.CLE_CTX_CTRL_EN 7) true).fset (F.CLE_CTX_TRIG_SRC 7) 3).fset (F.CLE_CTX_MSEL_SIG 7) 0x105).fput (F.CLE_CTX_CTRL_ERR_MODE 7) true).fset (F.CLE_CTX_FFSEL_MODE 7) 2).fset (F.CLE_CTX_FFSEL_SIG 7) 0x107).fput (F.CLE_CTX_CTRL_ZERO_ON_EN 7) true).wr (R.CLE_CTX_CHAIN 7) 0x1000).wr (R.CLE_COEF_FLAGS 0) 0xFF |>.fput F.PFB_CFG_EN true, by decide +kernel⟩,
   ⟨(z.withPfb fun p => { p with exc := true }).fput F.PFB_RES_CTRL_EN true, .converter true 17, 4, by decide +kernel, by decide +kernel, by decide +kernel, .inr (.inr ⟨by decide +kernel, by decide +kernel, .inr ⟨by decide +kernel, .inr ⟨by decide +kernel, _, _, rfl, rfl, by decide⟩⟩⟩)⟩,
   ⟨(((z.fput F.PFB_RES_CTRL_CAL_EN true).fput F.PFB_STAT_VALID true).sput 0x180 0x42C80000).wr R.PFB_RES_CAL_WMAX 0x43C80000 |>.withPfb fun p => { p with revDone := some [(1, 2)] }, [(1, 2)], by unfold State.room; decide +kernel⟩,
   ⟨({ z.wr (R.CLE_GLB_RATE 7) 1000 with clave := 5000 }).fput F.PFB_RES_CTRL_EN true |>.fset F.PFB_RES_CTRL_GEN 7 |>.withPfb fun p => { p with exc := true, taken := 8, fitDue := some [(1, 2)] }, 7, [], [(1, 2)], by decide +kernel⟩,
   ⟨((z.withPfb fun p => { p with validSince := some 0 }).withSeq fun q => { q with diagOk := true }).atTime 8000000, by decide +kernel⟩,
   ⟨(z.fput F.PFB_RES_CTRL_EN true).atTime 80000000, by unfold State.room; decide +kernel⟩⟩

theorem witness_EncoderHallAndCompare :
    (∃ (s : State) (a : Bool) (b : Bool) (na : Nat) (nb : Nat), s.fbit F.PFB_ENC_CFG_EN = true ∧ s.encStable na = true ∧ s.encStable nb = true ∧ (a != s.pfb.encA) = (b == s.pfb.encB) ∧ s.pfb.encCyc ≠ s.cyc + 1 ∧ s.pfb.encQerr ≠ s.cyc + 1) ∧
    (∃ (s : State) (a : Bool) (b : Bool) (na : Nat) (nb : Nat), s.fbit F.PFB_ENC_CFG_EN = true ∧ s.encStable na = false ∧ s.encStable nb = false) ∧
    (∃ (s : State) (a : Bool) (b : Bool) (na : Nat) (nb : Nat), s.fbit F.PFB_ENC_CFG_EN = true ∧ s.encStable na = true ∧ s.encStable nb = true ∧ a ≠ s.pfb.encA ∧ b ≠ s.pfb.encB ∧ s.pfb.encCyc ≠ s.cyc + 1 ∧ s.pfb.encIdx = none) ∧
    (∃ (s : State) (a : Bool) (b : Bool) (na : Nat) (nb : Nat), s.fbit F.PFB_ENC_CFG_EN = true ∧ s.encStable na = true ∧ s.encStable nb = true ∧ (a != s.pfb.encA) = (b == s.pfb.encB) ∧ s.pfb.encCyc = s.cyc + 1 ∧ s.pfb.encIdx = none) ∧
    (∃ (s : State) (a : Bool) (b : Bool) (na : Nat) (nb : Nat) (x : EncTaken), s.fbit F.PFB_ENC_CFG_EN = true ∧ s.encStable na = true ∧ s.encStable nb = true ∧ a ≠ s.pfb.encA ∧ b ≠ s.pfb.encB ∧ s.pfb.encCyc ≠ s.cyc + 1 ∧ s.pfb.encIdx = some x ∧ x.cyc = s.cyc) ∧
    (∃ (s : State) (n : Nat), s.fbit F.PFB_ENC_CFG_EN = true ∧ s.encStable n = true ∧ (s.fbit F.PFB_ENC_CFG_ZQUAL = true → s.pfb.encA = true ∧ s.pfb.encB = true) ∧ s.pfb.encQerr ≠ s.cyc + 1 ∧ (s.fbit F.PFB_STAT_ENC_REF = false ∨ s.pfb.encInval = true)) ∧
    (∃ (s : State) (n : Nat), s.fbit F.PFB_ENC_CFG_EN = true ∧ s.encStable n = true ∧ (s.fbit F.PFB_ENC_CFG_ZQUAL = true → s.pfb.encA = true ∧ s.pfb.encB = true) ∧ s.pfb.encQerr ≠ s.cyc + 1 ∧ s.fbit F.PFB_STAT_ENC_REF = true ∧ s.pfb.encInval = false) ∧
    (∃ (s : State), s.fbit F.PFB_ENC_CFG_EN = true ∧ s.past s.pfb.encLast (800 * s.fget F.PFB_ENC_TMO_TMO) = true) ∧
    (∃ (s : State) (m : Fin 3) (c : Fin 8) (n : Nat) (j : Fin 33), s.fbit (F.PFB_HALL_CFG_EN m.val) = true ∧ c.val ≠ s.fget (F.PFB_HALL_STAT_CODE m.val) ∧ s.hallStable m.val n = true) ∧
    (∃ (s : State) (m : Fin 3) (c : Fin 8) (n : Nat) (j : Fin 33), s.hallStable m.val n = false) ∧
    (∃ (s : State) (m : Fin 3), (s.hallAt m.val).last ≠ 0 ∧ s.past ((s.hallAt m.val).last - 1) (800 * (s.rd (R.PFB_HALL_TMO m.val)).toNat) = true) ∧
    (∃ (s : State) (m : Master) (c : Fin 8) (v : Word), s.grants m (R.PFB_CMP_VAL c.val) ∧ (5 ≤ c.val → s.actEn (c.val - 5) = false)) :=
  ⟨⟨z.fput F.PFB_ENC_CFG_EN true, true, false, 9, 9, by decide +kernel⟩,
   ⟨z.fput F.PFB_ENC_CFG_EN true, true, false, 0, 0, by decide +kernel⟩,
   ⟨(z.fput F.PFB_ENC_CFG_EN true).fset F.PFB_CFG_SRC 1, true, true, 9, 9, by decide +kernel⟩,
   ⟨((z.fput F.PFB_ENC_CFG_EN true).fset F.PFB_CFG_SRC 1).withPfb fun p => { p with encCyc := 1, encWas := 7 }, true, false, 9, 9, by decide +kernel⟩,
   ⟨(z.fput F.PFB_ENC_CFG_EN true).withPfb fun p => { p with encIdx := some { cyc := 0, count := 5, dev := 0, ref := true, inval := false } }, true, true, 9, 9, { cyc := 0, count := 5, dev := 0, ref := true, inval := false }, by decide +kernel⟩,
   ⟨(z.fput F.PFB_ENC_CFG_EN true).wr R.PFB_ENC_CPR 400 |>.wr R.PFB_ENC_IDX_POS 7 |>.atTime 8, 9, by decide +kernel⟩,
   ⟨((z.fput F.PFB_ENC_CFG_EN true).wr R.PFB_ENC_CPR 400 |>.wr R.PFB_ENC_IDX_POS 7 |>.wr R.PFB_ENC_COUNT 5 |>.atTime 8).fput F.PFB_STAT_ENC_REF true, 9, by decide +kernel⟩,
   ⟨(z.fput F.PFB_ENC_CFG_EN true).atTime 99999999, by decide +kernel⟩,
   ⟨(z.atTime 9999999).fput (F.PFB_HALL_CFG_EN 2) true |>.wr (R.PFB_HALL_MAP 2) 0x654321 |>.fset (F.PFB_HALL_STAT_LAST 2) 2 |>.fset (F.PFB_HALL_STAT_SECTOR 2) 2, 2, 3, 999, 5, by decide +kernel⟩,
   ⟨(z.fput (F.PFB_HALL_CFG_EN 2) true).fset (F.PFB_HALL_CFG_N 2) 8, 2, 3, 0, 5, by decide +kernel⟩,
   ⟨(z.withPfb fun p => { p with halls := [(2, { last := 5 })] }).wr (R.PFB_HALL_TMO 2) 3 |>.atTime 999999, 2, by decide +kernel⟩,
   ⟨zo.fput (F.PFB_CMP_CTRL_EN 4) true |>.fset (F.PFB_CMP_CTRL_DIR 4) 1, M0, 4, 7, by unfold State.grants; decide +kernel⟩⟩

theorem witness_TimerGroupsAndSwitches :
    (∃ (s : State) (m : Master) (g : Fin 12) (v : Word), s.grants m (R.PWM_GRP_CTRL g.val) ∧ s.fbit (F.PWM_GRP_CTRL_RUN g.val) = false ∧ s.lvcHolds g.val = false ∧ s.fget (F.PWM_GRP_CFG_START_MODE g.val) ≠ 2 ∧ s.room 4) ∧
    (∃ (s : State) (g : Fin 12), s.startDue g.val = true) ∧
    (∃ (s : State) (m : Master) (g : Fin 12) (v : Word), s.grants m (R.PWM_GRP_CTRL g.val) ∧ s.fbit (F.PWM_GRP_CTRL_RUN g.val) = true ∧ s.lvcHolds g.val = false) ∧
    (∃ (s : State) (g : Fin 12), (s.grp g.val).running = true ∧ (s.grp g.val).centres < s.centresDue g.val) ∧
    (∃ (s : State) (g : Fin 12), (s.grp g.val).running = true ∧ (s.grp g.val).peaks < s.peaksDue g.val) ∧
    (∃ (s : State) (g : Fin 12), (s.grp g.val).running = true ∧ (s.grp g.val).updates < s.updatesDue g.val) ∧
    (∃ (s : State) (g : Fin 12), (s.patternAsked g.val).1 ≠ 0 ∧ (s.patternAsked g.val).1 ≠ (s.grp g.val).pat) ∧
    (∃ (s : State) (g : Fin 12), s.fbit F.PWM_GLB_STAT_GD = true ∧ (s.grp g.val).gd = false) ∧
    (∃ (s : State) (ch : Fin 69) (conf : Bool) (boot : Bool), s.mayTurnOn ch.val conf boot = true) ∧
    (∃ (s : State) (ch : Fin 69) (conf : Bool), s.needsBoot ch.val = true) ∧
    (∃ (s : State) (t : State) (ch : Fin 69) (conf : Bool) (boot : Bool), exec (.gateTurnOn ch conf boot) s = .next t ∧ (legOf ch.val).1 ≠ 2 ∧ (s.chan ch.val).on = false ∧ (t.chan ch.val).on = true) :=
  ⟨⟨(zo.fset (F.PWM_GRP_PER_PER 11) 6400).atTime 9, M0, 11, 1, by unfold State.grants State.room; decide +kernel⟩,
   ⟨(z.withGrp 11 fun g => { g with starting := some 0 }).atTime 5, 11, by decide +kernel⟩,
   ⟨zo.fput (F.PWM_GRP_CTRL_RUN 11) true, M0, 11, 0, by unfold State.grants; decide +kernel⟩,
   ⟨{ (((z.fset (F.PWM_GRP_PER_PER 11) 6400).withGrp 11 fun g => { g with running := true }).atTime 99999) with clave := 0x123456789A }, 11, by decide +kernel⟩,
   ⟨(((z.fset (F.PWM_GRP_PER_PER 3) 6400).withGrp 3 fun g => { g with running := true }).atTime 99999), 3, by decide +kernel⟩,
   ⟨((((z.fset (F.PWM_GRP_PER_PER 8) 6400).withGrp 8 fun g => { g with running := true }).atTime 99999)).wr (R.PWM_GRP_DUTY 8 2) 0x3F000000, 8, by decide +kernel⟩,
   ⟨z.wr R.PWM_GLB_SAFE 8, 1, by decide +kernel⟩,
   ⟨z.fput F.PWM_GLB_STAT_GD true, 11, by decide +kernel⟩,
   ⟨((z.fput (F.GDR_GC_CFG_USED 1) true).wr R.PWM_GLB_SAFE 2).withGrp 0 (fun g => { g with pat := 2 }) |>.atTime 9999, 1, true, true, by decide +kernel⟩,
   ⟨z, 31, true, by decide +kernel⟩,
   ⟨((z.fput (F.GDR_GC_CFG_USED 1) true).wr R.PWM_GLB_SAFE 2).withGrp 0 (fun g => { g with pat := 2 }) |>.atTime 9999, _, 1, true, true, rfl, by decide +kernel, by decide +kernel, by decide +kernel⟩⟩

theorem witness_LegLatches :
    (∃ (s : State) (ch : Fin 69), (legOf ch.val).1 ≠ 2 ∧ s.waitedOut ch.val = true ∧ (s.chan (oppositeOf ch.val)).cmd = false ∧ s.unused (oppositeOf ch.val) = false ∧ s.gateCodesOff (legOf ch.val).1 = false) ∧
    (∃ (s : State) (n : Fin 31) (low : Nat) (high : Nat), 40 ≤ low ∧ s.confirmedOff n.val low high = true ∧ (legOf n.val).1 ≠ 2 ∧ (s.chan n.val).cmd = false ∧ (s.chan n.val).on = false ∧ s.unused n.val = false ∧ s.gateCodesOff (legOf n.val).1 = false) ∧
    (∃ (s : State) (n : Fin 31) (low : Nat) (high : Nat), (low < 40 ∨ s.confirmedOff n.val low high = false)) ∧
    (∃ (s : State) (ch : Fin 69), (legOf ch.val).1 ≠ 2 ∧ (s.chan ch.val).on = true ∧ s.unused ch.val = false ∧ (31 ≤ ch.val ∨ s.past (s.chan ch.val).onAt (16 * s.fget (F.GDR_GC_CFG_GS_ON_TMO ch.val)) = true)) ∧
    (∃ (s : State) (n : Fin 31) (low : Nat), 40 ≤ low ∧ s.unused n.val = false) ∧
    (∃ (s : State) (k : Fin 38), (legOf (31 + k.val)).2.2 = 0 ∧ s.fbit (F.GDR_LGB_CFG_HS_SUP (lgBridge k.val)) = false ∧ s.waitedOut (31 + k.val) = true) ∧
    (∃ (s : State) (k : Fin 38), (legOf (31 + k.val)).2.2 = 0 ∧ s.fbit (F.GDR_LGB_CFG_HS_SUP (lgBridge k.val)) = true ∧ (s.chan (31 + k.val)).on = true) ∧
    (∃ (s : State) (k : Fin 38), (s.chan (31 + k.val)).on = true ∧ s.fbit (F.GDR_LGB_CFG_EN (lgBridge k.val)) = true ∧ s.past (s.chan (31 + k.val)).onAt (200 * s.fget (F.GDR_LGB_CFG_TBLANK (lgBridge k.val))) = true) ∧
    (∃ (s : State) (b : Fin 12), s.fbit (F.GDR_LGB_CFG_CC_EN b.val) = true) :=
  ⟨⟨(((z.fput (F.GDR_GC_CFG_USED 1) true).fput (F.GDR_GC_CFG_USED 0) true).withGrp 0 (fun g => { g with pat := 2 })).withChan 1 (fun x => { x with cmd := true }) |>.atTime 99999 |>.withSmonA (fun a => { a with code := 0 }) |>.withSmonB (fun a => { a with code := 0 }), 1, by decide +kernel⟩,
   ⟨(z.atTime 99999).fput (F.GDR_GC_CFG_USED 30) true, 30, 40, 8, by decide +kernel⟩,
   ⟨z, 30, 39, 8, by decide +kernel⟩,
   ⟨(z.fput (F.GDR_GC_CFG_USED 30) true).withChan 30 (fun x => { x with on := true }) |>.atTime 99999, 30, by decide +kernel⟩,
   ⟨z.fput (F.GDR_GC_CFG_USED 30) true |>.fput (F.GDR_GC_CFG_GF_EN 30) true, 30, 40, by decide +kernel⟩,
   ⟨((((((z.withMode .drive).fput (F.GDR_LGB_CFG_EN (lgBridge 36)) true).wr (R.PWM_GRP_LEGMODE 10) 0x04000400).wr (R.PWM_GRP_DUTY_ACT 10 2) 0x3F800000 |>.fset (F.PWM_GRP_PER_PER 10) 6400).withChan 67 fun x => { x with cmd := true }).withGrp 10 fun g => { g with running := true }).atTime 99999, 36, by decide +kernel⟩,
   ⟨((z.fput (F.GDR_LGB_CFG_HS_SUP (lgBridge 36)) true).withChan 67 fun x => { x with cmd := true, on := true }).atTime 99999, 36, by decide +kernel⟩,
   ⟨((z.fput (F.GDR_LGB_CFG_EN (lgBridge 36)) true).withChan 67 fun x => { x with cmd := true, on := true }).atTime 99999, 36, by decide +kernel⟩,
   ⟨z.fput (F.GDR_LGB_CFG_EN 11) true |>.fput (F.GDR_LGB_CFG_CC_EN 11) true, 11, by decide +kernel⟩⟩

theorem witness_LatchClearDiagnosticsAndBrake :
    (∃ (s : State) (m : Master) (w : Fin 3) (n : Nat) (gs : BitVec 31) (gf : BitVec 31) (off : BitVec 38) (clr : BitVec 38), s.grants m (if w.val = 0 then R.GDR_LATCH_GC else if w.val = 1 then R.GDR_LATCH_LG_LO else R.GDR_LATCH_LG_HI) ∧ n < (latchSpan w.val).2 ∧ s.latched ((latchSpan w.val).1 + n) = true) ∧
    (∃ (s : State) (legs : List DiagLeg) (vbat : BitVec 12) (vo : BitVec 16), s.seq.test = some 0 ∧ s.inMode .arming = false) ∧
    (∃ (s : State) (legs : List DiagLeg) (vbat : BitVec 12) (vo : BitVec 16), s.inMode .arming = true ∧ s.seq.boot = .running ∧ s.seq.diagOk = false ∧ s.seq.diagBad = false) ∧
    (∃ (s : State) (legs : List DiagLeg) (vbat : BitVec 12) (vo : BitVec 16), s.testOn 0 = false) ∧
    (∃ (s : State) (mv : BitVec 16), 100 * s.fget F.GDR_ABC_ON_V < mv.toNat) ∧
    (∃ (s : State) (mv : BitVec 16), mv.toNat ≤ 100 * s.fget F.GDR_ABC_ON_V ∧ mv.toNat < 100 * s.fget F.GDR_ABC_OFF_V) ∧
    (∃ (s : State), s.fbit F.GDR_ABC_STAT_BUDGET = false ∧ s.pwm.abc.since.isSome = true ∧ s.fget F.GDR_ABC_MAXON_US ≤ s.abcUsed ∧ s.room 4) ∧
    (∃ (s : State), s.fbit F.GDR_ABC_STAT_BUDGET = true ∧ 2 * s.abcUsed < s.fget F.GDR_ABC_MAXON_US) :=
  ⟨⟨zo.putLatch 10 2 true, M0, 2, 4, 0, 0, 0, 0, by unfold State.grants; decide +kernel⟩,
   ⟨((z.withMode .drive).withSeq fun q => { q with test := some 0 }).fput (F.GDR_LGB_CFG_EN 0) true, [⟨100,100,200,false⟩], 600, 5, by decide +kernel⟩,
   ⟨z.withSeq fun q => { q with boot := .running }, [], 600, 5, by decide +kernel⟩,
   ⟨z.withMode .drive, [], 600, 5, by decide +kernel⟩,
   ⟨z.fset F.GDR_ABC_ON_V 5 |>.fput F.GDR_ABC_CFG_EN true, 0x7FFF, by decide +kernel⟩,
   ⟨(z.fset F.GDR_ABC_ON_V 500).fset F.GDR_ABC_OFF_V 400 |>.fput F.GDR_ABC_CFG_EN true, 1, by decide +kernel⟩,
   ⟨({ z with pwm := { z.pwm with abc := { since := some 5 } } }).atTime 90000000, by unfold State.room; decide +kernel⟩,
   ⟨(z.fput F.GDR_ABC_STAT_BUDGET true).fset F.GDR_ABC_MAXON_US 5, by decide +kernel⟩⟩

theorem witness_LvNetworkConverter :
    (∃ (s : State) (m : Master) (v : Word), s.grants m R.LVC_CTRL ∧ s.fbit F.LVC_CTRL_EN = false ∧ v.getLsbD 1 = s.fbit F.LVC_CTRL_RANGE ∧ s.lvcRefuse = none ∧ s.lvcVinLow = false ∧ s.fget (F.PWM_GRP_CFG_START_MODE 5) ≠ 2) ∧
    (∃ (s : State) (m : Master) (v : Word) (r : Nat), s.grants m R.LVC_CTRL ∧ s.fbit F.LVC_CTRL_EN = false ∧ v.getLsbD 1 = s.fbit F.LVC_CTRL_RANGE ∧ s.lvcRefuse = some r ∧ r < 5 ∧ s.room 4) ∧
    (∃ (s : State) (m : Master) (v : Word), s.grants m R.LVC_CTRL ∧ s.fbit F.LVC_CTRL_EN = false ∧ s.lvcVinLow = true ∧ s.room 4) ∧
    (∃ (s : State), s.lvcSt = 1 ∧ s.lvc.window = false ∧ s.past s.lvc.t0 (800 * s.fget F.LVC_DCX_SS_US) = true) ∧
    (∃ (s : State) (b : Nat), s.lvcSt = 1 ∧ s.lvc.window = true ∧ s.lvc.busOk = some b ∧ b + 800000 ≤ s.time) ∧
    (∃ (s : State), s.lvcSt = 1 ∧ s.lvc.window = true ∧ s.lvc.t0 + 4000000 ≤ s.time) ∧
    (∃ (s : State), s.lvcSt = 2 ∧ s.lvc.rampDone = true ∧ s.fget F.LVC_CFG_NPH ≤ 8) ∧
    (∃ (s : State) (m : Master) (v : Word), s.grants m R.LVC_CTRL ∧ s.fbit F.LVC_CTRL_EN = true) ∧
    (∃ (s : State), s.lvcSt = 4 ∧ s.past s.lvc.t0 (800 * s.fget F.LVC_STOP_T_US) = true) ∧
    (∃ (s : State), s.lvcOn = true ∧ s.lasted s.lvc.vin 800000 = true) ∧
    (∃ (s : State) (l : Nat), s.fbit F.LVC_CTRL_SHED_EN = true ∧ s.lvcSt = 3 ∧ s.fbit F.LVC_STAT_SHED_PEND = false ∧ s.fget F.LVC_CFG_NMIN < s.lvcActive.length ∧ s.fget F.LVC_CFG_NPH ≤ 8 ∧ s.lvc.low = some l ∧ s.past l (800000 * s.fget F.LVC_SHED_HOLD_MS) = true ∧ s.past s.lvc.hold (800000 * s.fget F.LVC_SHED_HOLD_MS) = true) ∧
    (∃ (s : State), s.lasted s.lvc.uv 800000 = true ∧ s.lvc.uvRep = false ∧ s.room 4) ∧
    (∃ (s : State), s.lasted s.lvc.head 800000 = true ∧ s.lvc.headRep = false ∧ s.room 4) ∧
    (∃ (s : State), s.lasted s.lvc.ilim 8000000 = true ∧ s.lvc.ilimRep = false ∧ s.room 4) ∧
    (∃ (s : State) (m : Master) (v : Word), s.grants m R.LVC_CTRL ∧ v.getLsbD 0 = s.fbit F.LVC_CTRL_EN) :=
  ⟨⟨zl, M0, 1, by unfold State.grants; decide +kernel⟩,
   ⟨zl.wr (R.PWM_GRP_PER 5) 1600, M0, 1, 2, by unfold State.grants State.room; decide +kernel⟩,
   ⟨zl.wr R.LVC_VIN_MIN 0x44000000, M0, 1, by unfold State.grants State.room; decide +kernel⟩,
   ⟨zl.fset F.LVC_STAT_STATE 1, by decide +kernel⟩,
   ⟨(zl.fset F.LVC_STAT_STATE 1).withLvc fun l => { l with window := true, busOk := some 5 }, 5, by decide +kernel⟩,
   ⟨(zl.fset F.LVC_STAT_STATE 1).withLvc fun l => { l with window := true }, by decide +kernel⟩,
   ⟨(zl.fset F.LVC_STAT_STATE 2).withLvc fun l => { l with rampDone := true }, by decide +kernel⟩,
   ⟨(zl.fset F.LVC_STAT_STATE 3).fput F.LVC_CTRL_EN true, M0, 0, by unfold State.grants; decide +kernel⟩,
   ⟨zl.fset F.LVC_STAT_STATE 4, by decide +kernel⟩,
   ⟨(zl.fset F.LVC_STAT_STATE 2).withLvc fun l => { l with vin := some 5 }, by decide +kernel⟩,
   ⟨(zl.fset F.LVC_STAT_STATE 3).fput F.LVC_CTRL_SHED_EN true |>.fset F.LVC_STAT_PH_ACT 3 |>.withLvc fun l => { l with low := some 5 }, 5, by decide +kernel⟩,
   ⟨zl.withLvc fun l => { l with uv := some 5 }, by unfold State.room; decide +kernel⟩,
   ⟨zl.withLvc fun l => { l with head := some 5 }, by unfold State.room; decide +kernel⟩,
   ⟨zl.withLvc fun l => { l with ilim := some 5 }, by unfold State.room; decide +kernel⟩,
   ⟨zl.fput F.LVC_CTRL_EN true, M0, 17, by unfold State.grants; decide +kernel⟩⟩

theorem witness_OnBoardCharger :
    (∃ (s : State) (m : Master) (v : Word), s.grants m R.CHG_CTRL ∧ s.fbit F.CHG_CTRL_EN = false ∧ v.getLsbD 1 = s.fbit F.CHG_CTRL_DIR ∧ s.chgRefuse = none) ∧
    (∃ (s : State) (m : Master) (v : Word) (o : Nat) (r : Nat), s.grants m R.CHG_CTRL ∧ s.fbit F.CHG_CTRL_EN = false ∧ v.getLsbD 1 = s.fbit F.CHG_CTRL_DIR ∧ s.chgRefuse = some (o, r) ∧ s.room 4) ∧
    (∃ (s : State), s.chgSt = 1 ∧ s.chgGridOk = true) ∧
    (∃ (s : State), s.chgSt = 1 ∧ s.chg.t0 + 4000000000 ≤ s.time) ∧
    (∃ (s : State) (m : Master) (v : Word), s.grants m R.CHG_CTRL ∧ s.fbit F.CHG_CTRL_EN = true) ∧
    (∃ (s : State), s.chgSt = 5 ∧ s.past s.chg.t0 (800 * s.fget F.CHG_STOP_T_US) = true) ∧
    (∃ (s : State), s.chgSt = 4 ∧ s.lasted s.chg.vg 8000000 = true) ∧
    (∃ (s : State), s.chgSt = 4 ∧ s.lasted s.chg.fr 80000000 = true) ∧
    (∃ (s : State), s.fbit F.CHG_STAT_PLL_LOCK = true ∧ s.lasted s.chg.unlock 1600000 = true) ∧
    (∃ (s : State) (p : PilotMeas), s.inMode .dormant = false) ∧
    (∃ (s : State) (r : BitVec 24), s.inMode .dormant = false) :=
  ⟨⟨zg3, M0, 1, by unfold State.grants; decide +kernel⟩,
   ⟨(((((((((zo.withMode .charge).fset F.CHG_PILOT_STATE 1).fset F.CHG_PILOT_ILIM 16).fset F.CHG_PP_STATE 1).fset (F.PWM_GRP_PER_PER 3) 40000).fset (F.PWM_GRP_PER_PER 4) 20000).fset (F.PWM_GRP_CFG_UPD 3) 0).fset (F.PWM_GRP_CFG_UPD 4) 0 |>.atTime 5000000000)).wr R.CHG_DAB_D1 0x3F800000, M0, 1, 0xA0, 3, by unfold State.grants State.room; decide +kernel⟩,
   ⟨(((((((((((zo.withMode .charge).fset F.CHG_PILOT_STATE 1).fset F.CHG_PILOT_ILIM 16).fset F.CHG_PP_STATE 1).fset (F.PWM_GRP_PER_PER 3) 40000).fset (F.PWM_GRP_PER_PER 4) 20000).fset (F.PWM_GRP_CFG_UPD 3) 0).fset (F.PWM_GRP_CFG_UPD 4) 0 |>.atTime 5000000000)).fset F.CHG_STAT_STATE 1).fset F.CHG_PILOT_STATE 2).fput F.CHG_STAT_PLL_LOCK true |>.wr R.CHG_VG_MIN 0 |> fun s => { s with chg := { s.chg with lock := some 0 } }, by decide +kernel⟩,
   ⟨(((((((((zo.withMode .charge).fset F.CHG_PILOT_STATE 1).fset F.CHG_PILOT_ILIM 16).fset F.CHG_PP_STATE 1).fset (F.PWM_GRP_PER_PER 3) 40000).fset (F.PWM_GRP_PER_PER 4) 20000).fset (F.PWM_GRP_CFG_UPD 3) 0).fset (F.PWM_GRP_CFG_UPD 4) 0 |>.atTime 5000000000)).fset F.CHG_STAT_STATE 1, by decide +kernel⟩,
   ⟨((((((((((zo.withMode .charge).fset F.CHG_PILOT_STATE 1).fset F.CHG_PILOT_ILIM 16).fset F.CHG_PP_STATE 1).fset (F.PWM_GRP_PER_PER 3) 40000).fset (F.PWM_GRP_PER_PER 4) 20000).fset (F.PWM_GRP_CFG_UPD 3) 0).fset (F.PWM_GRP_CFG_UPD 4) 0 |>.atTime 5000000000)).fset F.CHG_STAT_STATE 4).fput F.CHG_CTRL_EN true, M0, 0, by unfold State.grants; decide +kernel⟩,
   ⟨(((((((((zo.withMode .charge).fset F.CHG_PILOT_STATE 1).fset F.CHG_PILOT_ILIM 16).fset F.CHG_PP_STATE 1).fset (F.PWM_GRP_PER_PER 3) 40000).fset (F.PWM_GRP_PER_PER 4) 20000).fset (F.PWM_GRP_CFG_UPD 3) 0).fset (F.PWM_GRP_CFG_UPD 4) 0 |>.atTime 5000000000)).fset F.CHG_STAT_STATE 5, by decide +kernel⟩,
   ⟨(((((((((zo.withMode .charge).fset F.CHG_PILOT_STATE 1).fset F.CHG_PILOT_ILIM 16).fset F.CHG_PP_STATE 1).fset (F.PWM_GRP_PER_PER 3) 40000).fset (F.PWM_GRP_PER_PER 4) 20000).fset (F.PWM_GRP_CFG_UPD 3) 0).fset (F.PWM_GRP_CFG_UPD 4) 0 |>.atTime 5000000000)).fset F.CHG_STAT_STATE 4 |> fun s => { s with chg := { s.chg with vg := some 0 } }, by decide +kernel⟩,
   ⟨(((((((((zo.withMode .charge).fset F.CHG_PILOT_STATE 1).fset F.CHG_PILOT_ILIM 16).fset F.CHG_PP_STATE 1).fset (F.PWM_GRP_PER_PER 3) 40000).fset (F.PWM_GRP_PER_PER 4) 20000).fset (F.PWM_GRP_CFG_UPD 3) 0).fset (F.PWM_GRP_CFG_UPD 4) 0 |>.atTime 5000000000)).fset F.CHG_STAT_STATE 4 |> fun s => { s with chg := { s.chg with fr := some 0 } }, by decide +kernel⟩,
   ⟨((((((((((zo.withMode .charge).fset F.CHG_PILOT_STATE 1).fset F.CHG_PILOT_ILIM 16).fset F.CHG_PP_STATE 1).fset (F.PWM_GRP_PER_PER 3) 40000).fset (F.PWM_GRP_PER_PER 4) 20000).fset (F.PWM_GRP_CFG_UPD 3) 0).fset (F.PWM_GRP_CFG_UPD 4) 0 |>.atTime 5000000000)).fset F.CHG_STAT_STATE 4 |>.fput F.CHG_STAT_PLL_LOCK true) |> fun s => { s with chg := { s.chg with unlock := some 0 } }, by decide +kernel⟩,
   ⟨(((((((((zo.withMode .charge).fset F.CHG_PILOT_STATE 1).fset F.CHG_PILOT_ILIM 16).fset F.CHG_PP_STATE 1).fset (F.PWM_GRP_PER_PER 3) 40000).fset (F.PWM_GRP_PER_PER 4) 20000).fset (F.PWM_GRP_CFG_UPD 3) 0).fset (F.PWM_GRP_CFG_UPD 4) 0 |>.atTime 5000000000)).fset F.CHG_STAT_STATE 4, .quiet 1 2 3, by decide +kernel⟩,
   ⟨(((((((((zo.withMode .charge).fset F.CHG_PILOT_STATE 1).fset F.CHG_PILOT_ILIM 16).fset F.CHG_PP_STATE 1).fset (F.PWM_GRP_PER_PER 3) 40000).fset (F.PWM_GRP_PER_PER 4) 20000).fset (F.PWM_GRP_CFG_UPD 3) 0).fset (F.PWM_GRP_CFG_UPD 4) 0 |>.atTime 5000000000)).fset F.CHG_STAT_STATE 4, 1000000, by decide +kernel⟩⟩

theorem witness_GearboxActuators :
    (∃ (s : State) (m : Master) (a : Fin 3) (v : Word), s.grants m (R.ACT_CFG a.val) ∧ s.actEn a.val = false ∧ v.getLsbD 0 = true ∧ s.actCtxOk a.val (bits v 14 8) = true ∧ (a = 1 → v.getLsbD 1 = false ∧ (v.getLsbD 2 = true → s.fbit (F.GDR_LGB_CFG_HS_SUP 10) = true) ∧ s.plMapOk = true)) ∧
    (∃ (s : State) (m : Master) (a : Fin 3) (v : Word), s.grants m (R.ACT_CFG a.val) ∧ s.actEn a.val = false ∧ v.getLsbD 0 = true ∧ s.actCtxOk a.val (bits v 14 8) = false ∧ s.room 4) ∧
    (∃ (s : State) (m : Master) (a : Fin 3) (v : Word), s.grants m (R.ACT_CMD a.val) ∧ v.getLsbD 1 = false ∧ s.actEn a.val = true ∧ s.actRefuse a.val = none ∧ s.actHot = false ∧ (s.actm a.val).stopCyc ≠ s.cyc + 1) ∧
    (∃ (s : State) (m : Master) (a : Fin 3) (v : Word) (r : Nat), s.grants m (R.ACT_CMD a.val) ∧ v.getLsbD 1 = false ∧ s.actEn a.val = true ∧ s.actRefuse a.val = some r ∧ (s.actm a.val).stopCyc ≠ s.cyc + 1 ∧ s.room 4) ∧
    (∃ (s : State) (m : Master) (a : Fin 3) (v : Word), s.grants m (R.ACT_CMD a.val) ∧ s.actEn a.val = true) ∧
    (∃ (s : State) (m : Master) (v : Word), s.grants m R.ACT_PL_CTRL ∧ v.getLsbD 0 = true ∧ s.actEn 1 = false) ∧
    (∃ (s : State) (a : Fin 3), s.actStillNow a.val = true ∧ s.actEn a.val = true ∧ s.actSt a.val = 1 ∧ s.fbit (F.ACT_STAT_PEND a.val) = false) ∧
    (∃ (s : State) (a : Fin 3) (t0 : Nat), s.actEn a.val = true ∧ 2 ≤ s.actSt a.val ∧ s.actSt a.val ≤ 3 ∧ s.actStillNow a.val = true ∧ (s.actm a.val).stillSince = some t0 ∧ s.past (max (t0 + 800 * s.fget (F.ACT_STILL_T_US a.val)) (s.actm a.val).runAt) (800000 * s.fget (F.ACT_STALL_T_MS a.val)) = true) ∧
    (∃ (s : State) (a : Fin 3), s.actEn a.val = true ∧ s.actMoving a.val = true ∧ s.lasted (s.actm a.val).goAt (800000 * s.fget (F.ACT_MOVE_TMO_MS a.val)) = true) ∧
    (∃ (s : State) (a : Fin 3), s.actEn a.val = true ∧ s.actMoving a.val = true ∧ s.lasted s.act.low 800000 = true) :=
  ⟨⟨((((((((((((((((((zo.withMode .drive).fset (F.CLE_CTX_TRIG_SRC 7) 1).fset (F.CLE_CTX_TRIG_SEL 7) (4 * (8 + 2) + 1)).fset (F.CLE_CTX_MSEL_SIG 7) (0x170 + 4 * 2)).fput (F.CLE_CTX_SSEL_SRC 7) true).fset (F.CLE_CTX_SSEL_SIG 7) (0x171+4*2)).fput (F.CLE_CTX_CTRL_ZERO_ON_EN 7) true).wr (R.CLE_CTX_CHAIN 7) 0x1000).wr (R.CLE_COEF_FLAGS 0) 0xFF).fput (F.CLE_CTX_LIMSEL_HI_SIG_EN 7) true).fset (F.CLE_CTX_LIMSEL_HI_SIG 7) (0x172+4*2)).fput (F.CLE_CTX_LIMSEL_LO_MIRROR 7) true).fset (F.CLE_CTX_DST_KIND 7) 3).fset (F.CLE_CTX_DST_INDEX 7) (0x20 + 2)).fset (F.CLE_CTX_CTRL_SGRP 7) (8+2)).fset (F.ACT_CFG_CTX 2) 7).wr R.ACT_VMIN 0).atTime 80000000000), M0, 2, 0x701, by unfold State.grants; decide +kernel⟩,
   ⟨zo, M0, 1, 0x701, by unfold State.grants State.room; decide +kernel⟩,
   ⟨((((((((((((((((((((zo.withMode .drive).fset (F.CLE_CTX_TRIG_SRC 7) 1).fset (F.CLE_CTX_TRIG_SEL 7) (4 * (8 + 2) + 1)).fset (F.CLE_CTX_MSEL_SIG 7) (0x170 + 4 * 2)).fput (F.CLE_CTX_SSEL_SRC 7) true).fset (F.CLE_CTX_SSEL_SIG 7) (0x171+4*2)).fput (F.CLE_CTX_CTRL_ZERO_ON_EN 7) true).wr (R.CLE_CTX_CHAIN 7) 0x1000).wr (R.CLE_COEF_FLAGS 0) 0xFF).fput (F.CLE_CTX_LIMSEL_HI_SIG_EN 7) true).fset (F.CLE_CTX_LIMSEL_HI_SIG 7) (0x172+4*2)).fput (F.CLE_CTX_LIMSEL_LO_MIRROR 7) true).fset (F.CLE_CTX_DST_KIND 7) 3).fset (F.CLE_CTX_DST_INDEX 7) (0x20 + 2)).fset (F.CLE_CTX_CTRL_SGRP 7) (8+2)).fset (F.ACT_CFG_CTX 2) 7).wr R.ACT_VMIN 0).atTime 80000000000)).fput (F.ACT_CFG_EN 2) true |>.fset (F.ACT_STAT_STATE 2) 0).wr (R.ACT_TARGET 2) 9, M0, 2, 1, by unfold State.grants; decide +kernel⟩,
   ⟨((((((((((((((((((((zo.withMode .drive).fset (F.CLE_CTX_TRIG_SRC 7) 1).fset (F.CLE_CTX_TRIG_SEL 7) (4 * (8 + 2) + 1)).fset (F.CLE_CTX_MSEL_SIG 7) (0x170 + 4 * 2)).fput (F.CLE_CTX_SSEL_SRC 7) true).fset (F.CLE_CTX_SSEL_SIG 7) (0x171+4*2)).fput (F.CLE_CTX_CTRL_ZERO_ON_EN 7) true).wr (R.CLE_CTX_CHAIN 7) 0x1000).wr (R.CLE_COEF_FLAGS 0) 0xFF).fput (F.CLE_CTX_LIMSEL_HI_SIG_EN 7) true).fset (F.CLE_CTX_LIMSEL_HI_SIG 7) (0x172+4*2)).fput (F.CLE_CTX_LIMSEL_LO_MIRROR 7) true).fset (F.CLE_CTX_DST_KIND 7) 3).fset (F.CLE_CTX_DST_INDEX 7) (0x20 + 2)).fset (F.CLE_CTX_CTRL_SGRP 7) (8+2)).fset (F.ACT_CFG_CTX 2) 7).wr R.ACT_VMIN 0).atTime 80000000000)).fput (F.ACT_CFG_EN 2) true |>.fset (F.ACT_STAT_STATE 2) 0).withMode .safeHold, M0, 2, 1, 0, by unfold State.grants State.room; decide +kernel⟩,
   ⟨((((((((((((((((((((zo.withMode .drive).fset (F.CLE_CTX_TRIG_SRC 7) 1).fset (F.CLE_CTX_TRIG_SEL 7) (4 * (8 + 2) + 1)).fset (F.CLE_CTX_MSEL_SIG 7) (0x170 + 4 * 2)).fput (F.CLE_CTX_SSEL_SRC 7) true).fset (F.CLE_CTX_SSEL_SIG 7) (0x171+4*2)).fput (F.CLE_CTX_CTRL_ZERO_ON_EN 7) true).wr (R.CLE_CTX_CHAIN 7) 0x1000).wr (R.CLE_COEF_FLAGS 0) 0xFF).fput (F.CLE_CTX_LIMSEL_HI_SIG_EN 7) true).fset (F.CLE_CTX_LIMSEL_HI_SIG 7) (0x172+4*2)).fput (F.CLE_CTX_LIMSEL_LO_MIRROR 7) true).fset (F.CLE_CTX_DST_KIND 7) 3).fset (F.CLE_CTX_DST_INDEX 7) (0x20 + 2)).fset (F.CLE_CTX_CTRL_SGRP 7) (8+2)).fset (F.ACT_CFG_CTX 2) 7).wr R.ACT_VMIN 0).atTime 80000000000)).fput (F.ACT_CFG_EN 2) true |>.fset (F.ACT_STAT_STATE 2) 0), M0, 2, 2, by unfold State.grants; decide +kernel⟩,
   ⟨zo, M0, 1, by unfold State.grants; decide +kernel⟩,
   ⟨((((((((((((((((((((zo.withMode .drive).fset (F.CLE_CTX_TRIG_SRC 7) 1).fset (F.CLE_CTX_TRIG_SEL 7) (4 * (8 + 0) + 1)).fset (F.CLE_CTX_MSEL_SIG 7) (0x170 + 4 * 0)).fput (F.CLE_CTX_SSEL_SRC 7) true).fset (F.CLE_CTX_SSEL_SIG 7) (0x171+4*0)).fput (F.CLE_CTX_CTRL_ZERO_ON_EN 7) true).wr (R.CLE_CTX_CHAIN 7) 0x1000).wr (R.CLE_COEF_FLAGS 0) 0xFF).fput (F.CLE_CTX_LIMSEL_HI_SIG_EN 7) true).fset (F.CLE_CTX_LIMSEL_HI_SIG 7) (0x172+4*0)).fput (F.CLE_CTX_LIMSEL_LO_MIRROR 7) true).fset (F.CLE_CTX_DST_KIND 7) 3).fset (F.CLE_CTX_DST_INDEX 7) (0x20 + 0)).fset (F.CLE_CTX_CTRL_SGRP 7) (8+0)).fset (F.ACT_CFG_CTX 0) 7).wr R.ACT_VMIN 0).atTime 80000000000)).fput (F.ACT_CFG_EN 0) true |>.fset (F.ACT_STAT_STATE 0) 1), 0, by decide +kernel⟩,
   ⟨((((((((((((((((((((zo.withMode .drive).fset (F.CLE_CTX_TRIG_SRC 7) 1).fset (F.CLE_CTX_TRIG_SEL 7) (4 * (8 + 0) + 1)).fset (F.CLE_CTX_MSEL_SIG 7) (0x170 + 4 * 0)).fput (F.CLE_CTX_SSEL_SRC 7) true).fset (F.CLE_CTX_SSEL_SIG 7) (0x171+4*0)).fput (F.CLE_CTX_CTRL_ZERO_ON_EN 7) true).wr (R.CLE_CTX_CHAIN 7) 0x1000).wr (R.CLE_COEF_FLAGS 0) 0xFF).fput (F.CLE_CTX_LIMSEL_HI_SIG_EN 7) true).fset (F.CLE_CTX_LIMSEL_HI_SIG 7) (0x172+4*0)).fput (F.CLE_CTX_LIMSEL_LO_MIRROR 7) true).fset (F.CLE_CTX_DST_KIND 7) 3).fset (F.CLE_CTX_DST_INDEX 7) (0x20 + 0)).fset (F.CLE_CTX_CTRL_SGRP 7) (8+0)).fset (F.ACT_CFG_CTX 0) 7).wr R.ACT_VMIN 0).atTime 80000000000)).fput (F.ACT_CFG_EN 0) true |>.fset (F.ACT_STAT_STATE 0) 2), 0, 0, by decide +kernel⟩,
   ⟨((((((((((((((((((((zo.withMode .drive).fset (F.CLE_CTX_TRIG_SRC 7) 1).fset (F.CLE_CTX_TRIG_SEL 7) (4 * (8 + 2) + 1)).fset (F.CLE_CTX_MSEL_SIG 7) (0x170 + 4 * 2)).fput (F.CLE_CTX_SSEL_SRC 7) true).fset (F.CLE_CTX_SSEL_SIG 7) (0x171+4*2)).fput (F.CLE_CTX_CTRL_ZERO_ON_EN 7) true).wr (R.CLE_CTX_CHAIN 7) 0x1000).wr (R.CLE_COEF_FLAGS 0) 0xFF).fput (F.CLE_CTX_LIMSEL_HI_SIG_EN 7) true).fset (F.CLE_CTX_LIMSEL_HI_SIG 7) (0x172+4*2)).fput (F.CLE_CTX_LIMSEL_LO_MIRROR 7) true).fset (F.CLE_CTX_DST_KIND 7) 3).fset (F.CLE_CTX_DST_INDEX 7) (0x20 + 2)).fset (F.CLE_CTX_CTRL_SGRP 7) (8+2)).fset (F.ACT_CFG_CTX 2) 7).wr R.ACT_VMIN 0).atTime 80000000000)).fput (F.ACT_CFG_EN 2) true |>.fset (F.ACT_STAT_STATE 2) 3).setActm 2 { goAt := some 5 }, 2, by decide +kernel⟩,
   ⟨(((((((((((((((((((((zo.withMode .drive).fset (F.CLE_CTX_TRIG_SRC 7) 1).fset (F.CLE_CTX_TRIG_SEL 7) (4 * (8 + 0) + 1)).fset (F.CLE_CTX_MSEL_SIG 7) (0x170 + 4 * 0)).fput (F.CLE_CTX_SSEL_SRC 7) true).fset (F.CLE_CTX_SSEL_SIG 7) (0x171+4*0)).fput (F.CLE_CTX_CTRL_ZERO_ON_EN 7) true).wr (R.CLE_CTX_CHAIN 7) 0x1000).wr (R.CLE_COEF_FLAGS 0) 0xFF).fput (F.CLE_CTX_LIMSEL_HI_SIG_EN 7) true).fset (F.CLE_CTX_LIMSEL_HI_SIG 7) (0x172+4*0)).fput (F.CLE_CTX_LIMSEL_LO_MIRROR 7) true).fset (F.CLE_CTX_DST_KIND 7) 3).fset (F.CLE_CTX_DST_INDEX 7) (0x20 + 0)).fset (F.CLE_CTX_CTRL_SGRP 7) (8+0)).fset (F.ACT_CFG_CTX 0) 7).wr R.ACT_VMIN 0).atTime 80000000000)).fput (F.ACT_CFG_EN 0) true |>.fset (F.ACT_STAT_STATE 0) 2)) |> fun (s : State) => ({ s with act := { s.act with low := some 0 } } : State), 0, by decide +kernel⟩⟩

theorem witness_SafetyEvaluationAndDecisions :
    (∃ (s : State) (i : SadcIn), s.safe.a.started = true) ∧
    (∃ (s : State) (i : SadcIn) (p : Params) (sn : F32) (cs : F32) (neg : Bool) (per : BitVec 32) (clk : BitVec 32), s.safe.b.started = true ∧ s.safe.b.params = some p ∧ i.res = .taken sn cs neg per clk) ∧
    (∃ (s : State) (i : SadcIn) (p : Params), s.safe.b.started = true ∧ s.safe.b.params = some p ∧ i.res = .missed ∧ 1 ≤ s.safe.b.missed) ∧
    (∃ (s : State) (c : Chan), (s.smon c).inh = true ∧ (s.smon c).plCut = false ∧ s.plEngaging c = true) ∧
    (∃ (s : State) (c : Chan), (s.smon c).plCut = true ∧ (((s.inhibitStep c).smon c).inh = false ∨ (s.inhibitStep c).plEngaging c = false)) ∧
    (∃ (s : State) (p : Params), s.safe.b.params = some p ∧ s.lastedB s.safe.b.ovSince 16000 = true ∧ s.room 8) ∧
    (∃ (s : State), s.safe.b.overRun = 2 ∧ s.room 8) ∧
    (∃ (s : State) (i : BitVec 8), s.room 8) ∧
    (∃ (s : State) (ph : Fin 6), s.lastedB (nth none (s.safe.b.imp.drop ph.val) 0) 16000 = true ∧ s.safe.b.code = 2) ∧
    (∃ (s : State) (ph : Fin 6), s.lastedB (nth none (s.safe.b.imp.drop ph.val) 0) 16000 = true ∧ s.safe.b.code = 3) ∧
    (∃ (s : State) (back : BitVec 2), s.safe.a.code ≠ back.toNat ∧ s.room 4) ∧
    (∃ (s : State) (back : BitVec 2), s.safe.b.code ≠ back.toNat ∧ s.room 8) ∧
    (∃ (s : State), s.safe.cut = true ∧ s.safe.cutReset = true ∧ s.idl.lost = false ∧ (s.idl.lane0.down && s.idl.lane1.down) = false ∧ s.lDead = false ∧ s.clocks.xtal25 = false ∧ s.safe.a.params.isSome = true ∧ s.lastedB s.safe.okSince 800000 = true) ∧
    (∃ (s : State) (p : SafetyPod), s.safe.podA = some p ∧ s.idl.lost = false) :=
  ⟨⟨z.withSmonA fun a => { a with started := true }, sadc, by decide +kernel⟩,
   ⟨zp.withSmonB fun b => { b with started := true }, sadc, par, 0x3F800000, 0x3F800000, false, 1600, 8000, by decide +kernel⟩,
   ⟨zp.withSmonB fun b => { b with started := true, missed := 1 }, { sadc with res := .missed }, par, by decide +kernel⟩,
   ⟨(z.fput (F.GDR_LGB_CFG_EN 9) true).fput (F.GDR_LGB_CFG_EN 10) true |>.wr (R.PWM_GRP_LEGMODE 9) 0x00540000, .smonA, by decide +kernel⟩,
   ⟨((zp.withSmonB fun b => { b with plCut := true, speedOk := true, inh := false })).atTime 999999999, .smonB, by decide +kernel⟩,
   ⟨(zp.withSmonB fun b => { b with vdc := 0x44000000, ovSince := some 5 }).atTime 99999, par, by unfold State.room; decide +kernel⟩,
   ⟨zp.withSmonB fun b => { b with overRun := 2 }, by unfold State.room; decide +kernel⟩,
   ⟨zp, 9, by unfold State.room; decide +kernel⟩,
   ⟨(zp.withSmonB fun b => { b with code := 2, imp := [none, none, none, none, none, some 7] }).atTime 99999, 5, by decide +kernel⟩,
   ⟨(zp.withSmonB fun b => { b with code := 3, imp := [some 7] }).atTime 99999, 0, by decide +kernel⟩,
   ⟨z, 3, by unfold State.room; decide +kernel⟩,
   ⟨z, 3, by unfold State.room; decide +kernel⟩,
   ⟨({ zp with safe := { zp.safe with cut := true, cutReset := true, okSince := some 0 } }).atTime 9999999, by decide +kernel⟩,
   ⟨{ zp with safe := { zp.safe with podA := some pod1 } }, pod1, by decide +kernel⟩⟩

theorem witness_WatchdogsAndComparison :
    (∃ (s : State) (c : Chan) (p : Fin 3), (s.wdog c p.val).on = true ∧ s.wdDue c p.val = true) ∧
    (∃ (s : State) (b : BitVec 32) (a : WdAns) (rest : List WdAns), s.safe.answers = a :: rest ∧ s.idl.lost = false) ∧
    (∃ (s : State) (p : Fin 3), (s.wdog .smonA p.val).on = true ∧ (s.wdog .smonA p.val).holdRep = false ∧ s.past (s.wdog .smonA p.val).hold (800000 * s.fget (F.SMA_WD_CFG_HOLD_MAX p.val)) = true) ∧
    (∃ (s : State) (m : Master) (p : Fin 3) (v : Word), s.grants m (R.SMA_WD_PAUSE p.val) ∧ (p ≠ 0 ∨ s.inMode .arming = true ∨ s.inMode .service = true) ∧ (s.wdog .smonA p.val).on = true) ∧
    (∃ (s : State), s.xcmpRuns = true ∧ s.safe.bOff = false ∧ s.safe.xLast < s.now / 80000) ∧
    (∃ (s : State), s.xcmpRuns = true ∧ s.fbit F.SMA_XCMP_STAT_LOST = false ∧ s.past s.safe.xTime 240000 = true) :=
  ⟨⟨((zp.withWatch .smonA 1).withWatch .smonB 1).atTime 9999999999 |> fun (s : State) => ({ s with clave := 9999999999 } : State), .smonB, 1, by decide +kernel⟩,
   ⟨let s0 : State := ((zp.withWatch .smonA 1).withWatch .smonB 1).atTime 9999999999 |> fun (s : State) => ({ s with clave := 9999999999 } : State); { s0 with safe := { s0.safe with answers := [⟨1, .leading, 99999999, s0.wdExpected .smonA 1, s0.wdExpected .smonB 1⟩] } }, 0x7FFFFFFF, ⟨1, .leading, 99999999, (((zp.withWatch .smonA 1).withWatch .smonB 1).atTime 9999999999 |> fun (s : State) => ({ s with clave := 9999999999 } : State)).wdExpected .smonA 1, (((zp.withWatch .smonA 1).withWatch .smonB 1).atTime 9999999999 |> fun (s : State) => ({ s with clave := 9999999999 } : State)).wdExpected .smonB 1⟩, [], by decide +kernel⟩,
   ⟨((zp.withWatch .smonA 1).withWatch .smonB 1).atTime 9999999999 |> fun (s : State) => ({ s with clave := 9999999999 } : State), 1, by decide +kernel⟩,
   ⟨((zp.withWatch .smonA 1).withWatch .smonB 1).atTime 9999999999 |> fun (s : State) => ({ s with clave := 9999999999 } : State), M0, 1, 0, by unfold State.grants; decide +kernel⟩,
   ⟨((zp.withSmonA fun a => { a with started := true }).withSmonB fun a => { a with started := true }).atTime 9999999 |> fun s => { s with clave := 9999999 }, by decide +kernel⟩,
   ⟨((zp.withSmonA fun a => { a with started := true }).withSmonB fun a => { a with started := true }).atTime 9999999 |> fun s => { s with clave := 9999999 }, by decide +kernel⟩⟩

theorem witness_Seal :
    (∃ (s : State) (c : Chan) (a : BitVec 8), (s.smon c).strapCnt = 2 ∧ (s.smon c).strapVal = a ∧ s.pastBy c (s.smon c).strapAt 800000 = true) ∧
    (∃ (s : State) (c : Chan) (a : BitVec 8) (b : BitVec 8), b ≠ ~~~ a) ∧
    (∃ (s : State) (m : Master) (v : Word), s.grants m R.SMA_SEAL_KEY) ∧
    (∃ (s : State) (m : Master) (v : Word) (k : Nat) (a : SafetyPod) (b : SafetyPod), s.grants m R.SMA_SEAL_PROG ∧ v.getLsbD 0 = true ∧ s.safe.prog = none ∧ s.safe.keyStep = 2 ∧ ([0, 1, 2, 3].find? fun k => !s.fbit (F.SMA_SEAL_SLOT_LO_BLOWN k)) = some k ∧ s.inMode .service = true ∧ (validStrap s.safe.a).isSome = true ∧ s.safe.podA = some a ∧ s.safe.podB = some b ∧ a.crc = b.crc) ∧
    (∃ (s : State) (m : Master) (v : Word) (k : Nat) (x : Bool) (y : Bool), s.grants m R.SMA_SEAL_PROG ∧ v.getLsbD 0 = true ∧ s.safe.prog = none ∧ s.safe.keyStep ≠ 2 ∧ ([0, 1, 2, 3].find? fun k => !s.fbit (F.SMA_SEAL_SLOT_LO_BLOWN k)) = some k ∧ s.room 4) ∧
    (∃ (s : State) (k : Fin 4) (v : BitVec 8) (q : SafetyPod), s.safe.prog = some k.val ∧ s.safe.a.strap = some v ∧ s.safe.podA = some q ∧ s.room 4) :=
  ⟨⟨(z.withSmonA fun a => { a with strapCnt := 2, strapVal := 0xA5 }).atTime 9999999, .smonA, 0xA5, by decide +kernel⟩,
   ⟨z.withSmonB fun a => { a with strapCnt := 2, strapVal := 0xA5 }, .smonB, 0xA5, 0x5B, by decide +kernel⟩,
   ⟨{ zo with safe := { zo.safe with keyStep := 1 } }, M0, 0x0C1D, by unfold State.grants; decide +kernel⟩,
   ⟨({ zp with safe := { zp.safe with keyStep := 2, podA := some pod1, podB := some pod1, a := { zp.safe.a with strap := some 9, strapCnt := 3 } } }).withMode .service, M0, 1, 0, pod1, pod1, by unfold State.grants; decide +kernel⟩,
   ⟨zo, M0, 1, 0, true, true, by unfold State.grants State.room; decide +kernel⟩,
   ⟨{ ({ zp with safe := { zp.safe with keyStep := 2, podA := some pod1, podB := some pod1, a := { zp.safe.a with strap := some 9, strapCnt := 3 } } }) with safe := { ({ zp with safe := { zp.safe with keyStep := 2, podA := some pod1, podB := some pod1, a := { zp.safe.a with strap := some 9, strapCnt := 3 } } }).safe with prog := some 3 } }, 3, 9, pod1, by unfold State.room; decide +kernel⟩⟩

theorem witness_PairRecovery :
    (∃ (s : State) (p : Fin 3) (item : LksItem) (v : Verified) (e : Option VrfErr), s.triangle = false ∧ (s.lksSt p.val = 0 ∨ s.lksSt p.val = 2)) ∧
    (∃ (s : State) (p : Fin 3), (s.lksSt (s.unitOf p.val) = 1 ∨ s.lksSt (s.unitOf p.val) = 4) ∧ (s.lksP (s.unitOf p.val)).vrfBad = false ∧ s.draining (s.unitOf p.val) = false) ∧
    (∃ (s : State) (p : Fin 3) (a : Bool) (b : Bool), (s.lksSt (s.unitOf p.val) = 1 ∨ s.lksSt (s.unitOf p.val) = 4) ∧ (s.lksP (s.unitOf p.val)).vrfBad = false ∧ s.draining (s.unitOf p.val) = false ∧ (a && b) = false) ∧
    (∃ (s : State) (p : Fin 3) (addr : Word) (tag : BitVec 64) (x : Iau) (rest : List Iau), (s.triangle = false ∨ p ≠ 1) ∧ s.issues (.core p .leading true) = true ∧ placeOf addr.toNat = .peripheral ∧ (s.lksP (s.unitOfCore p.val .leading)).replay = x :: rest ∧ x.tag = tag) ∧
    (∃ (s : State) (p : Fin 3) (tag : BitVec 64), (s.triangle = false ∨ p ≠ 1) ∧ s.issues (.core p .leading true) = true ∧ (s.lksP (s.unitOfCore p.val .leading)).replay = [] ∧ s.lksSt (s.unitOfCore p.val .leading) ≠ 3) ∧
    (∃ (s : State) (p : Fin 3) (addr : Word) (z : AccSize) (tag : BitVec 64), (s.triangle = false ∨ p ≠ 1) ∧ s.issues (.core p .leading true) = true ∧ placeOf addr.toNat = .peripheral ∧ z ≠ .word) ∧
    (∃ (s : State) (a : BitVec 3) (b : BitVec 3), s.past s.lks.lastTest (80000 * s.fget F.LKS_TEST_PER) = true ∧ s.triangle = false) ∧
    (∃ (s : State) (p : Fin 3) (r : VrfErr), s.untrusted p.val = false ∧ (s.lksP (s.unitOf p.val)).vrfBad = false ∧ s.room 4) :=
  ⟨⟨z, 1, .branch, vf, none, by decide +kernel⟩,
   ⟨(z.setLksSt 2 1).withLks 2 fun r => { r with redo := true }, 2, by decide +kernel⟩,
   ⟨z.setLksSt 2 4, 2, true, false, by decide +kernel⟩,
   ⟨(z.withLks 1 fun r => { r with replay := [⟨5,77⟩] }).withSeq fun q => { q with boot := .running }, 1, w32 R.LKS_CFG, 5, ⟨5,77⟩, [], by decide +kernel⟩,
   ⟨z.withSeq fun q => { q with boot := .running }, 1, 9, by decide +kernel⟩,
   ⟨z.withSeq fun q => { q with boot := .running }, 1, w32 R.LKS_CFG, .half, 9, by decide +kernel⟩,
   ⟨z.atTime 99999999999, 2, 4, by decide +kernel⟩,
   ⟨z, 2, ⟨5,true⟩, by unfold State.room; decide +kernel⟩⟩

theorem witness_TakeoverSplitAndRejoin :
    (∃ (s : State) (p : Fin 3) (q : Nat), s.standby p.val = some q ∧ s.lksSt p.val = 5 ∧ s.fbit (F.LKS_PAIR_STAT_TAKEN p.val) = false ∧ s.lksSt q = 0 ∧ (s.lksP q).pend ≠ 3) ∧
    (∃ (s : State) (q : Fin 3), (s.lksP (s.unitOf q.val)).pend = 3 ∧ s.lksSt (s.unitOf q.val) = 0 ∧ s.fget (F.LKS_PAIR_STAT_FOR_P (s.unitOf q.val)) ≤ 2 ∧ s.room 4) ∧
    (∃ (s : State) (m : Master) (p : Fin 3) (v : Word), s.grants m (R.LKS_PAIR_CTRL p.val) ∧ v.getLsbD 1 = false ∧ s.triangle = false ∧ s.lksSt p.val = 0 ∧ (s.lksP p.val).pend ≠ 3 ∧ s.fget (F.LKS_PAIR_STAT_FOR_P p.val) = 3 ∧ p ≠ 0 ∧ (p = 1 → s.inMode .drive = false)) ∧
    (∃ (s : State) (m : Master) (v : Word), s.grants m (R.LKS_PAIR_CTRL 0) ∧ v.getLsbD 1 = false ∧ s.triangle = false ∧ s.lksSt 0 ≠ 3 ∧ s.room 4) ∧
    (∃ (s : State) (p : Fin 3), s.triangle = false ∧ (s.lksP p.val).pend = 1 ∧ s.lksSt p.val = 0) ∧
    (∃ (s : State) (p : Fin 3), s.triangle = false ∧ s.lksSt p.val = 2 ∧ s.draining p.val = false ∧ s.room 4) ∧
    (∃ (s : State) (m : Master) (p : Fin 3) (v : Word), s.grants m (R.LKS_PAIR_CTRL p.val) ∧ v.getLsbD 0 = false ∧ s.triangle = false ∧ s.lksSt p.val = 3) ∧
    (∃ (s : State) (p : Fin 3) (h : Half) (v : Verified), s.triangle = false ∧ s.lksSt p.val = 3 ∧ (s.lksP p.val).pend = 2) ∧
    (∃ (s : State) (p : Fin 3) (v : Verified), s.triangle = false ∧ s.past (s.lksP p.val).hoAt (800000 * s.fget (F.LKS_PAIR_CTRL_HO_TMO p.val)) = true) :=
  ⟨⟨((z.fput F.LKS_STBY_SB1 true).setLksSt 1 5), 1, 2, by decide +kernel⟩,
   ⟨(((z.fput F.LKS_STBY_SB1 true).setLksSt 1 5).withLks 2 fun r => { r with pend := 3 }).fset (F.LKS_PAIR_STAT_FOR_P 2) 1, 2, by unfold State.room; decide +kernel⟩,
   ⟨zo.fset (F.LKS_PAIR_STAT_FOR_P 2) 3, M0, 2, 1, by unfold State.grants; decide +kernel⟩,
   ⟨zo, M0, 1, by unfold State.grants State.room; decide +kernel⟩,
   ⟨z.withLks 1 fun r => { r with pend := 1 }, 1, by decide +kernel⟩,
   ⟨(z.setLksSt 1 2).withLks 1 fun r => { r with pend := 1 }, 1, by unfold State.room; decide +kernel⟩,
   ⟨zo.setLksSt 1 3, M0, 1, 2, by unfold State.grants; decide +kernel⟩,
   ⟨(z.setLksSt 1 3).withLks 1 fun r => { r with pend := 2, readyT := true }, 1, .leading, vf, by decide +kernel⟩,
   ⟨((z.setLksSt 1 3).withLks 1 fun r => { r with pend := 2, readyL := true }).atTime 99999999, 1, vf, by decide +kernel⟩⟩

theorem witness_Triads :
    (∃ (s : State) (t : Fin 2) (k : Fin 3) (item : LksItem), s.triangle = true ∧ s.lksSt (unitOfTriad t.val) = 0 ∧ s.fget (F.LKS_TRI_STAT_RETIRED t.val) = 0 ∧ s.fget (F.LKS_TRI_STAT_MASKED t.val) = 0 ∧ s.room 4) ∧
    (∃ (s : State) (t : Fin 2), s.triangle = true) ∧
    (∃ (s : State) (t : Fin 2) (item : LksItem) (v : Verified) (e : Option VrfErr), s.triangle = true ∧ s.lksSt (unitOfTriad t.val) = 0) :=
  ⟨⟨ztri, 1, 2, .parity, by unfold State.room; decide +kernel⟩,
   ⟨ztri.fset (F.LKS_TRI_STAT_MASKED 1) 2, 1, by decide +kernel⟩,
   ⟨ztri, 1, .bus, vf, none, by decide +kernel⟩⟩

theorem witness_ThermalAndSupplies :
    (∃ (s : State) (z : Fin 16) (reads : List SensRead), s.fbit F.THM_CTRL_EN = true ∧ s.inMode .dormant = false ∧ s.lDead = false ∧ s.zoneDue z.val = true ∧ s.zoneSens z.val ≠ []) ∧
    (∃ (s : State) (m : Master) (v : Word), s.grants m R.THM_SENS_BROKEN) ∧
    (∃ (s : State) (k : Fin 8), s.lDead = false) ∧
    (∃ (s : State) (f : FlashBoot), s.seq.held = .hardCut) ∧
    (∃ (s : State) (v : F32), s.lDead = false ∧ fLe v 0x40BB3333 = true ∧ s.room 4) ∧
    (∃ (s : State) (v : F32), s.lDead = false ∧ fLe 0x4195999A v = true ∧ s.room 4) ∧
    (∃ (s : State) (h : Bool) (v : F32), (if h then fLe 0x417B3333 v else fLe v 0x4124CCCD) = true) ∧
    (∃ (s : State) (rail : Fin 4) (h : Bool), s.lDead = false) ∧
    (∃ (s : State) (h : Bool), s.lDead = false ∧ s.room 4) ∧
    (∃ (s : State) (f : FlashBoot), s.seq.held = .rail) :=
  ⟨⟨(z.fput F.THM_CTRL_EN true).fset (F.THM_SENS_CFG_ZONE 4) 15 |>.atTime 9, 15, [⟨4, 2048, 0⟩], by decide +kernel⟩,
   ⟨(zo.wr R.THM_SENS_BROKEN 0xFFFFFF), M0, 0xFFFFFFFF, by unfold State.grants; decide +kernel⟩,
   ⟨z, 7, by decide +kernel⟩,
   ⟨z.withSeq fun q => { q with held := .hardCut }, fb, by decide +kernel⟩,
   ⟨z, 0x40A00000, by unfold State.room; decide +kernel⟩,
   ⟨z, 0x42000000, by unfold State.room; decide +kernel⟩,
   ⟨(z.fput (F.GDR_LGB_CFG_EN 3) true), true, 0x41800000, by decide +kernel⟩,
   ⟨z, 3, true, by decide +kernel⟩,
   ⟨z, false, by unfold State.room; decide +kernel⟩,
   ⟨(z.withSeq fun q => { q with held := .rail }) |> fun s => { s with thm := { s.thm with out := 0x1FF } }, fb, by decide +kernel⟩⟩

theorem witness_HostFrames :
    (∃ (s : State) (c : Instr) (ty : Nat) (f : AcpFrame), ((c, ty) ∈ [(Instr.acpCommand f, 1), (.acpUpdateBlock f, 5), (.acpActivate f, 6), (.acpConfirm f, 7)] ∨ (∃ k : Fin 64, c = .acpFwDefined k f ∧ ty = 0x40 + k.val)) ∧ s.hears ty f ∧ s.inOrder f ∧ acpLenOk ty f.path.val f.len.toNat = some true ∧ s.rxqFull = false) ∧
    (∃ (s : State) (f : AcpFrame), s.hears 2 f ∧ s.inOrder f ∧ f.len = 0) ∧
    (∃ (s : State) (f : AcpFrame) (b0 : Byte) (b1 : Byte) (b2 : Byte) (b3 : Byte) (b4 : Byte) (b5 : Byte), s.hears 4 f ∧ s.inOrder f ∧ f.len = 6 ∧ frameBody f = [b0, b1, b2, b3, b4, b5]) ∧
    (∃ (s : State) (ty : Byte) (f : AcpFrame), s.hears ty.toNat f ∧ s.inOrder f ∧ acpLenOk ty.toNat f.path.val f.len.toNat = none) ∧
    (∃ (s : State) (f : AcpFrame), s.hears 3 f ∧ f.len = 0) ∧
    (∃ (s : State) (f : AcpFrame), s.hifOn = true ∧ s.acpTakes f = true ∧ s.busOff f.path.val = false ∧ frameFormOk f = true ∧ s.acpCrc 1 (frameHead f 1) (frameBody f) ≠ f.crc) ∧
    (∃ (s : State) (f : AcpFrame), s.hears 2 f ∧ f.len = 0 ∧ s.fbit F.HIF_STAT_RX_SYNC = true ∧ (s.ahead f = 0 ∨ 32768 ≤ s.ahead f) ∧ (f.path ≠ 0 ∨ s.hif.can1.1 ≠ s.cyc + 1)) ∧
    (∃ (s : State) (f : AcpFrame), s.hears 1 f ∧ f.len = 16 ∧ s.rxqFull = true) :=
  ⟨⟨hz, .acpFwDefined 63 (af 0x7F 0 3 9 [1,2,3]), 0x7F, af 0x7F 0 3 9 [1,2,3], by unfold State.hears State.inOrder; decide +kernel⟩,
   ⟨hz, af 2 0 0 9 [], by unfold State.hears State.inOrder; decide +kernel⟩,
   ⟨hz.wr R.JRN_NEXT_SEQ 100, af 4 0 6 9 [1,0,0,0,200,0], 1, 0, 0, 0, 200, 0, by unfold State.hears State.inOrder; decide +kernel⟩,
   ⟨hz, 0x3F, af 0x3F 0 0 9 [], by unfold State.hears State.inOrder; decide +kernel⟩,
   ⟨hz, af 3 0 0 9 [], by unfold State.hears; decide +kernel⟩,
   ⟨hz, { af 1 0 16 9 (List.replicate 16 1) with crc := 0 }, by decide +kernel⟩,
   ⟨(hz.fput F.HIF_STAT_RX_SYNC true).fset F.HIF_SEQ_LAST_RX 10, af 2 0 0 9 [], by unfold State.hears; decide +kernel⟩,
   ⟨hz.wr R.HIF_RXQ_RD 1, af 1 0 16 9 (List.replicate 16 1), by unfold State.hears; decide +kernel⟩⟩

theorem witness_HostLinks :
    (∃ (s : State) (c : Fin 2) (ide : Bool) (id : BitVec 29) (data : List Byte) (age : Nat), s.hifOn = true ∧ s.busOff c.val = false ∧ s.acpId c.val ide id.toNat = false ∧ s.canFilter c.val ide id.toNat = true ∧ s.rxqFull = false) ∧
    (∃ (s : State) (data : List Byte) (age : Nat), s.hifOn = true ∧ s.rxqFull = false) ∧
    (∃ (s : State) (data : List Byte) (age : Nat), s.hifOn = true ∧ s.rxqFull = true ∧ s.room 4) ∧
    (∃ (s : State) (c : Fin 2) (tec : Byte), s.hifOn = true ∧ s.busOff c.val = false ∧ s.room 4) ∧
    (∃ (s : State) (c : Fin 2), s.hifOn = true) ∧
    (∃ (s : State), s.lDead = false) ∧
    (∃ (s : State), s.lDead = false ∧ s.fbit F.HIF_STAT_ETH_UP = true ∧ s.room 4) ∧
    (∃ (s : State), s.hifOn = true ∧ s.fbit F.HIF_STAT_HOST_LOST = false ∧ s.past s.hif.hostAt (msTicks (s.fget F.HIF_HOST_TMO_MS)) = true ∧ s.room 6) ∧
    (∃ (s : State), s.hifOn = true ∧ s.fget F.HIF_STAT_PER_MS ≠ 0 ∧ s.past s.hif.statAt (msTicks (s.fget F.HIF_STAT_PER_MS)) = true) ∧
    (∃ (s : State) (n : Fin 32), s.hifOn = true ∧ s.txLink = true ∧ s.hif.evHi = [] ∧ s.hif.nacks = [] ∧ s.hif.status = true) ∧
    (∃ (s : State) (m : Master) (v : Word), s.grants m R.HIF_TXQ_WR) :=
  ⟨⟨((hz.fput (F.HIF_CAN_FILT_ID_EN 1 7) true).fset (F.HIF_CAN_FILT_ID_ID 1 7) 0x123).fset (F.HIF_CAN_FILT_MASK_MASK 1 7) 0x7FF, 1, false, 0x123, [1,2,3], 3, by decide +kernel⟩,
   ⟨hz, [1,2], 3, by decide +kernel⟩,
   ⟨hz.wr R.HIF_RXQ_RD 1, [1,2], 3, by unfold State.room; decide +kernel⟩,
   ⟨hz, 1, 255, by unfold State.room; decide +kernel⟩,
   ⟨hz.fput F.HIF_STAT_BUSOFF1 true, 1, by decide +kernel⟩,
   ⟨hz, by decide +kernel⟩,
   ⟨hz.fput F.HIF_STAT_ETH_UP true, by unfold State.room; decide +kernel⟩,
   ⟨(hz.wr R.TMU_TQ_REF 9).atTime 99999999999, by unfold State.room; decide +kernel⟩,
   ⟨(hz.fset F.HIF_STAT_PER_MS 100).atTime 99999999999, by decide +kernel⟩,
   ⟨hz |> fun s => { s with hif := { s.hif with status := true } }, 0, by decide +kernel⟩,
   ⟨ho, M0, 5, by unfold State.grants; decide +kernel⟩⟩

theorem witness_OmterLinkFramesAndAcknowledges :
    (∃ (s : State) (p : Fin 2), s.portOn p.val = true) ∧
    (∃ (s : State) (c : Instr) (ty : Nat) (f : OlkRx), (c, ty) ∈ [(Instr.olkStatus f, 1), (.olkFault f, 2), (.olkActivate f, 5), (.olkUpdateReverted f, 6), (.olkApp f, 7)] ∧ s.portOn f.port.val = true ∧ f.payload.length ≤ 64 ∧ f.src.val = s.olkUnit ∧ s.room 4) ∧
    (∃ (s : State) (c : Instr) (ty : Nat) (f : OlkRx), (c, ty) ∈ [(Instr.olkStatus f, 1), (.olkFault f, 2), (.olkActivate f, 5), (.olkUpdateReverted f, 6), (.olkApp f, 7)] ∧ s.portOn f.port.val = true ∧ f.payload.length ≤ 64 ∧ f.src.val ≠ s.olkUnit ∧ s.fresher f = false) ∧
    (∃ (s : State) (c : Instr) (ty : Nat) (f : OlkRx), (c, ty) ∈ [(Instr.olkStatus f, 1), (.olkFault f, 2), (.olkActivate f, 5), (.olkUpdateReverted f, 6), (.olkApp f, 7)] ∧ s.portOn f.port.val = true ∧ f.payload.length ≤ 64 ∧ f.src.val ≠ s.olkUnit ∧ s.fresher f = true ∧ (s.ringOk = true → f.port = 1) ∧ s.olkNoRoom ty f.port.val f.payload = false) ∧
    (∃ (s : State) (c : Instr) (ty : Nat) (f : OlkRx), (c, ty) ∈ [(Instr.olkFwSeg f, 3), (.olkFwBlockEnd f, 4)] ∧ s.portOn f.port.val = true ∧ f.payload.length ≤ 64 ∧ s.olkNoRoom ty f.port.val f.payload = false) ∧
    (∃ (s : State) (c : Instr) (ty : Nat) (f : OlkRx), (c, ty) ∈ [(Instr.olkStatus f, 1), (.olkFault f, 2), (.olkActivate f, 5), (.olkUpdateReverted f, 6), (.olkApp f, 7), (.olkFwSeg f, 3), (.olkFwBlockEnd f, 4)] ∧ s.portOn f.port.val = true ∧ f.payload.length ≤ 64 ∧ (chainType ty = true → f.src.val ≠ s.olkUnit ∧ s.fresher f = true ∧ (s.ringOk = true → f.port = 1)) ∧ s.olkNoRoom ty f.port.val f.payload = true) ∧
    (∃ (s : State) (p : Fin 2) (sym : Byte) (w : OlkWait), s.portOn p.val = true ∧ s.portUp p.val = true ∧ (s.olkPort p.val).wait = some w ∧ w.named sym = true) ∧
    (∃ (s : State) (p : Fin 2) (sym : Byte) (w : OlkWait), s.portOn p.val = true ∧ s.portUp p.val = false ∧ (s.olkPort p.val).wait = some w ∧ w.named sym = true ∧ w.frame.type = 0x83 ∧ (s.olkPort p.val).probes < 7) ∧
    (∃ (s : State) (p : Fin 2) (sym : Byte) (w : OlkWait), s.portOn p.val = true ∧ s.portUp p.val = false ∧ (s.olkPort p.val).wait = some w ∧ w.named sym = true ∧ w.frame.type = 0x83 ∧ (s.olkPort p.val).probes = 7) ∧
    (∃ (s : State) (p : Fin 2) (sym : Byte) (w : OlkWait), s.portOn p.val = true ∧ (s.olkPort p.val).wait = some w ∧ w.named sym = true) ∧
    (∃ (s : State) (p : Fin 2) (w : OlkWait) (a : Nat) (b : Nat), s.portOn p.val = true ∧ (s.olkPort p.val).faultWait = none ∧ (s.olkPort p.val).wait = some w ∧ w.nakAt = some a ∧ w.nakFirst = some b ∧ s.past a 1600 = true ∧ s.past b 800000 = false) ∧
    (∃ (s : State) (p : Fin 2) (w : OlkWait), s.portOn p.val = true ∧ s.portUp p.val = true ∧ (s.olkPort p.val).wait = some w ∧ w.nakAt = none ∧ s.past w.endAt 1600 = true ∧ (s.olkPort p.val).fails = 0) ∧
    (∃ (s : State) (p : Fin 2) (w : OlkWait), s.portOn p.val = true ∧ s.portUp p.val = true ∧ (s.olkPort p.val).wait = some w ∧ w.nakAt = none ∧ s.past w.endAt 1600 = true ∧ 2 ≤ (s.olkPort p.val).fails ∧ s.room 8) ∧
    (∃ (s : State) (p : Fin 2), s.portOn p.val = true ∧ s.portUp p.val = false ∧ (s.olkPort p.val).wait = none ∧ s.past (s.olkPort p.val).lastProbe 800000 = true) ∧
    (∃ (s : State) (p : Fin 2) (seq : Byte), s.portOn p.val = true) :=
  ⟨⟨oz, 1, by decide +kernel⟩,
   ⟨oz, .olkApp { orx with src := 2 }, 7, { orx with src := 2 }, by unfold State.room; decide +kernel⟩,
   ⟨(oz.rput R.OLK_STAT 19 true).fset (F.OLK_PEER_SEQ_SEQ 3) 9, .olkApp orx, 7, orx, by decide +kernel⟩,
   ⟨oz, .olkStatus { orx with payload := List.replicate 24 1 }, 1, { orx with payload := List.replicate 24 1 }, by decide +kernel⟩,
   ⟨oz, .olkFwBlockEnd { orx with payload := List.replicate 24 1 }, 4, { orx with payload := List.replicate 24 1 }, by decide +kernel⟩,
   ⟨((oz.rput R.OLK_RX_FILT 7 true).wr R.OLK_RXQ_RD 1).fset F.OLK_RXQ_CFG_LOG2 0, .olkApp orx, 7, orx, by decide +kernel⟩,
   ⟨(oz.fput F.OLK_STAT_UP1 true).withPort1 fun o => { o with wait := some (ow 1), fails := 2 }, 1, 5, ow 1, by decide +kernel⟩,
   ⟨oz.withPort1 fun o => { o with wait := some (ow 0x83), probes := 6 }, 1, 5, ow 0x83, by decide +kernel⟩,
   ⟨oz.withPort1 fun o => { o with wait := some (ow 0x83), probes := 7 }, 1, 5, ow 0x83, by decide +kernel⟩,
   ⟨oz.withPort1 fun o => { o with wait := some (ow 1), probes := 7 }, 1, 5, ow 1, by decide +kernel⟩,
   ⟨(oz.withPort1 fun o => { o with wait := some { ow 1 with nakFirst := some 50, nakAt := some 100 } }).atTime 1700, 1, { ow 1 with nakFirst := some 50, nakAt := some 100 }, 100, 50, by decide +kernel⟩,
   ⟨((oz.withPort1 fun o => { o with wait := some (ow 1) }).fput F.OLK_STAT_UP1 true).atTime 1700, 1, ow 1, by decide +kernel⟩,
   ⟨((oz.withPort1 fun o => { o with wait := some (ow 1), fails := 2 }).fput F.OLK_STAT_UP1 true).atTime 1700, 1, ow 1, by unfold State.room; decide +kernel⟩,
   ⟨oz.atTime 1700000, 1, by decide +kernel⟩,
   ⟨oz, 1, 77, by decide +kernel⟩⟩

theorem witness_OmterLinkTimeAndChain :
    (∃ (s : State), s.olkOn = true ∧ s.fget F.CLV_CTRL_SRC ≠ 1 ∧ s.timeMaster ≠ s.olkUnit ∧ (s.wayTo s.timeMaster).1 < 2 ∧ s.portUp (s.wayTo s.timeMaster).1 = true ∧ s.past s.clv.lastStart 800000 = true) ∧
    (∃ (s : State) (p : Fin 2) (seq : Byte) (i : TimeInfo), s.portOn p.val = true) ∧
    (∃ (s : State) (p : Fin 2) (seq : Byte) (t2 : BitVec 64) (t3 : BitVec 64) (i : TimeInfo), s.portOn p.val = true ∧ s.clv.exchange = none) ∧
    (∃ (s : State) (p : Fin 2) (seq : Byte) (t2 : BitVec 64) (t3 : BitVec 64) (i : TimeInfo) (t1 : Nat) (d : Int), s.portOn p.val = true ∧ s.clv.exchange = some t1 ∧ s.fget F.CLV_STATUS_PORT = p.val ∧ d = (Int.ofNat t2.toNat - Int.ofNat t1) - (Int.ofNat (s.now - 576) - Int.ofNat t3.toNat) ∧ -(2 ^ 28) ≤ d ∧ d < 2 ^ 28) ∧
    (∃ (s : State), s.olkOn = true ∧ s.past s.olk.statAt (800 * (100 * s.fget F.OLK_STAT_PER_PER)) = true) ∧
    (∃ (s : State) (u : Fin 8), s.olkOn = true ∧ s.heard u.val = true ∧ s.past (s.peer u.val).heard (msTicks (s.fget F.OLK_PEER_TMO_MS)) = true ∧ s.room 6) ∧
    (∃ (s : State), s.ringCond = true ∧ s.ringOk = false ∧ s.lasted s.olk.ringSince 80000000 = true ∧ s.room 4) ∧
    (∃ (s : State) (p : Fin 2) (b : List Byte), s.olk.faultDue = some b ∧ s.olkOn = true ∧ s.portUp p.val = true ∧ (s.olkPort p.val).faultWait = none ∧ (∀ g ∈ (s.olkPort p.val).queue, g.type ≠ 2)) ∧
    (∃ (s : State) (m : Master) (v : Word), s.grants m R.OLK_TXQ_WR) ∧
    (∃ (s : State) (m : Master) (v : Word), s.grants m R.OLK_FWB_REL) ∧
    (∃ (s : State) (m : Master) (v : Word), s.grants m R.OLK_WAKE) :=
  ⟨⟨((oz.fset F.OLK_STAT_PEERS 255).fput F.OLK_STAT_UP0 true).fput F.OLK_STAT_UP1 true |>.fset F.CLV_CTRL_MASTER_ID 1 |>.atTime 99999999999, by decide +kernel⟩,
   ⟨((oz.fset F.OLK_STAT_PEERS 255).fput F.OLK_STAT_UP0 true).fput F.OLK_STAT_UP1 true |>.fset F.CLV_CTRL_MASTER_ID 1 |>.atTime 99999999999, 1, 5, ti, by decide +kernel⟩,
   ⟨((oz.fset F.OLK_STAT_PEERS 255).fput F.OLK_STAT_UP0 true).fput F.OLK_STAT_UP1 true |>.fset F.CLV_CTRL_MASTER_ID 1 |>.atTime 99999999999, 1, 5, 3, 4, ti, by decide +kernel⟩,
   ⟨{ (((oz.fset F.OLK_STAT_PEERS 255).fput F.OLK_STAT_UP0 true).fput F.OLK_STAT_UP1 true |>.fset F.CLV_CTRL_MASTER_ID 1 |>.atTime 99999999999).fset F.CLV_STATUS_PORT 1 with clv := { (((oz.fset F.OLK_STAT_PEERS 255).fput F.OLK_STAT_UP0 true).fput F.OLK_STAT_UP1 true |>.fset F.CLV_CTRL_MASTER_ID 1 |>.atTime 99999999999).clv with exchange := some 100 }, clave := 1000 }, 1, 5, 300, 310, ti, 100, 86, by decide +kernel⟩,
   ⟨((oz.fset F.OLK_STAT_PEERS 255).fput F.OLK_STAT_UP0 true).fput F.OLK_STAT_UP1 true |>.fset F.CLV_CTRL_MASTER_ID 1 |>.atTime 99999999999, by decide +kernel⟩,
   ⟨((oz.fset F.OLK_STAT_PEERS 255).fput F.OLK_STAT_UP0 true).fput F.OLK_STAT_UP1 true |>.fset F.CLV_CTRL_MASTER_ID 1 |>.atTime 99999999999, 3, by unfold State.room; decide +kernel⟩,
   ⟨((({ z with olk := { z.olk with ringSince := some 0, peers := [(1, { up0 := true, up1 := true })] } }.fput F.OLK_CTRL_EN true).fset F.OLK_CFG_NM1 1).fput F.OLK_CFG_TOPO true |>.fset F.OLK_STAT_PEERS 2 |>.fput F.OLK_STAT_UP0 true |>.fput F.OLK_STAT_UP1 true).atTime 99999999, by unfold State.room; decide +kernel⟩,
   ⟨{ (((oz.fset F.OLK_STAT_PEERS 255).fput F.OLK_STAT_UP0 true).fput F.OLK_STAT_UP1 true |>.fset F.CLV_CTRL_MASTER_ID 1 |>.atTime 99999999999) with olk := { (((oz.fset F.OLK_STAT_PEERS 255).fput F.OLK_STAT_UP0 true).fput F.OLK_STAT_UP1 true |>.fset F.CLV_CTRL_MASTER_ID 1 |>.atTime 99999999999).olk with faultDue := some [1,2] } }, 1, [1,2], by decide +kernel⟩,
   ⟨oz, M0, 5, by unfold State.grants; decide +kernel⟩,
   ⟨oz.wr R.OLK_FWB_STAT 0x3F, M0, 0xF, by unfold State.grants; decide +kernel⟩,
   ⟨oz, M0, 1, by unfold State.grants; decide +kernel⟩⟩

theorem witness_NvmCommands :
    (∃ (s : State) (m : Master) (p : Fin 3) (v : Word) (op : Nat) (c : Instr), (c, op) ∈ [(Instr.nvcFindPod m p v, 1), (.nvcAppendPod m p v, 2), (.nvcAppendLog m p v, 3), (.nvcRead m p v, 4), (.nvcProgram m p v, 5), (.nvcErase m p v, 6), (.nvcCompact m p v, 7)] ∧ s.grants m (R.NVC_CMD p.val) ∧ (s.roles m).contains p.val = true ∧ s.nvcOp p.val = none ∧ s.nvcRefuse p.val (s.nvcArgs p.val op v) = none) ∧
    (∃ (s : State) (m : Master) (p : Fin 3) (v : Word) (op : Nat) (r : Nat) (c : Instr), (c, op) ∈ [(Instr.nvcFindPod m p v, 1), (.nvcAppendPod m p v, 2), (.nvcAppendLog m p v, 3), (.nvcRead m p v, 4), (.nvcProgram m p v, 5), (.nvcErase m p v, 6), (.nvcCompact m p v, 7)] ∧ s.grants m (R.NVC_CMD p.val) ∧ (s.roles m).contains p.val = true ∧ s.nvcOp p.val = none ∧ s.nvcRefuse p.val (s.nvcArgs p.val op v) = some r) ∧
    (∃ (s : State) (p : Fin 3) (o : NvcOp), s.lDead = false ∧ s.nvcOp p.val = some o ∧ o.op = 4 ∧ inRegion o.addr o.len 3 = true) ∧
    (∃ (s : State) (p : Fin 3) (o : NvcOp), s.lDead = false ∧ s.nvcOp p.val = some o ∧ o.op = 4 ∧ inRegion o.addr o.len 3 = false) ∧
    (∃ (s : State) (p : Fin 3) (o : NvcOp), s.lDead = false ∧ s.nvcOp p.val = some o ∧ o.op = 6) ∧
    (∃ (s : State) (p : Fin 3) (o : NvcOp), s.lDead = false ∧ s.nvcOp p.val = some o ∧ o.op = 1 ∧ (s.bank (s.bankOf p.val o.old)).current o.type = none) ∧
    (∃ (s : State) (p : Fin 3) (o : NvcOp), s.lDead = false ∧ s.nvcOp p.val = some o ∧ o.op = 2 ∧ (s.bank (s.bankOf p.val false)).used + podSize o.len ≤ bankRoom) ∧
    (∃ (s : State) (p : Fin 3) (o : NvcOp), s.lDead = false ∧ s.nvcOp p.val = some o ∧ o.op = 2 ∧ bankRoom < (s.bank (s.bankOf p.val false)).used + podSize o.len) :=
  ⟨⟨nz, M0, 0, 5, 1, .nvcFindPod M0 0 5, by unfold State.grants; decide +kernel⟩,
   ⟨nz, M0, 0, 7, 7, 6, .nvcCompact M0 0 7, by unfold State.grants; decide +kernel⟩,
   ⟨nz.withNvcOp { op := 4, old := false, type := 16, addr := 0x10A00010, len := 8, nor := 0x1000 }, 1, { op := 4, old := false, type := 16, addr := 0x10A00010, len := 8, nor := 0x1000 }, by decide +kernel⟩,
   ⟨nz.withNvcOp { op := 4, old := false, type := 16, addr := 0x10000000, len := 8, nor := 0x1000 }, 1, { op := 4, old := false, type := 16, addr := 0x10000000, len := 8, nor := 0x1000 }, by decide +kernel⟩,
   ⟨nz.withNvcOp { op := 6, old := false, type := 16, addr := 0x10000000, len := 8, nor := 0x1000 }, 1, { op := 6, old := false, type := 16, addr := 0x10000000, len := 8, nor := 0x1000 }, by decide +kernel⟩,
   ⟨nz.withNvcOp { op := 1, old := false, type := 16, addr := 0x10000000, len := 8, nor := 0x1000 }, 1, { op := 1, old := false, type := 16, addr := 0x10000000, len := 8, nor := 0x1000 }, by decide +kernel⟩,
   ⟨nz.withNvcOp { op := 2, old := false, type := 16, addr := 0x10000000, len := 8, nor := 0x1000 }, 1, { op := 2, old := false, type := 16, addr := 0x10000000, len := 8, nor := 0x1000 }, by decide +kernel⟩,
   ⟨({ nz with nvm := { nz.nvm with bank1 := { gen := some 2, used := bankRoom } } }.withNvcOp { op := 2, old := false, type := 16, addr := 0x10000000, len := 8, nor := 0x1000 }), 1, { op := 2, old := false, type := 16, addr := 0x10000000, len := 8, nor := 0x1000 }, by decide +kernel⟩⟩

/-- A slot being staged, with the block at the start of SRAM and a given CRC register. -/
def blockReady (v : Word) : State :=
  { nz with
    nvm := { nz.nvm with stage := some (5, 0), header := some { hdr1 with slotA := { state := 1, tag := 5 } } }
    regs := (nz.fset F.UPD_BLK_NUM_TAG 5 |>.wr R.UPD_BLK_ADDR 0x10000000).regs ++ [(R.UPD_BLK_CRC, v)] }

theorem blockReady_crc (v : Word) : (blockReady v).rd R.UPD_BLK_CRC = v := by rfl

theorem blockReady_addr (v : Word) : (blockReady v).rd R.UPD_BLK_ADDR = 0x10000000 := by rfl

theorem blockReady_mgets (v : Word) (a n : Nat) : (blockReady v).mgets a n = nz.mgets a n := by
  have h : ∀ b, (blockReady v).mget b = nz.mget b := by intro b; simp only [blockReady, State.mget]
  induction n generalizing a with
  | zero => simp only [State.mgets]
  | succ n ih => simp only [State.mgets, h, ih]

/-- The first clause of Staging: the CRC of the block's 4,096 bytes is not computed, both sides name it. -/
theorem witness_block : ∃ (s : State) (m : Master) (k : Nat) (tag : BitVec 16), s.grants m R.UPD_BLK_GO ∧ s.upd.blk = none ∧
    s.targetSlot = some k ∧ s.nvm.stage = some (tag, k) ∧ s.fget F.UPD_BLK_NUM_TAG = tag.toNat ∧ s.fget F.UPD_BLK_NUM_BLK < 4096 ∧
    s.fbit F.THM_STAT_NO_NVM = false ∧ crc32c (s.mgets (s.rd R.UPD_BLK_ADDR).toNat 4096) = s.rd R.UPD_BLK_CRC := by
  refine ⟨blockReady (crc32c (nz.mgets 0x10000000 4096)), M0, 0, 5, by unfold State.grants; decide +kernel, by decide +kernel,
    by decide +kernel, by decide +kernel, by decide +kernel, by decide +kernel, by decide +kernel, ?_⟩
  rw [blockReady_crc, blockReady_addr, blockReady_mgets, show (0x10000000 : Word).toNat = 0x10000000 from by decide]


theorem witness_Staging :
    (∃ (s : State) (m : Master) (k : Nat) (tag : BitVec 16), s.grants m R.UPD_BLK_GO ∧ s.upd.blk = none ∧ s.targetSlot = some k ∧ s.nvm.stage = some (tag, k) ∧ s.fget F.UPD_BLK_NUM_TAG = tag.toNat ∧ s.fget F.UPD_BLK_NUM_BLK < 4096 ∧ s.fbit F.THM_STAT_NO_NVM = false ∧ crc32c (s.mgets (s.rd R.UPD_BLK_ADDR).toNat 4096) = s.rd R.UPD_BLK_CRC) ∧
    (∃ (s : State) (m : Master), s.grants m R.UPD_BLK_GO ∧ s.upd.blk.isSome = true) ∧
    (∃ (s : State) (m : Master), s.grants m R.UPD_BLK_GO ∧ s.upd.blk = none ∧ s.targetSlot = none) ∧
    (∃ (s : State) (g : BlkGo) (tag : BitVec 16) (k : Nat), s.lDead = false ∧ s.upd.blk = some g ∧ s.nvm.stage = some (tag, k)) ∧
    (∃ (s : State) (g : BlkGo) (tag : BitVec 16) (k : Nat), s.lDead = false ∧ s.upd.blk = some g ∧ s.nvm.stage = some (tag, k) ∧ s.room 8) ∧
    (∃ (s : State) (m : Master) (v : Word) (tag : BitVec 16) (k : Nat), s.grants m R.UPD_STG_CTRL ∧ s.nvm.stage = some (tag, k) ∧ s.upd.blk = none ∧ (s.hdr.slot k).state = 2 ∧ s.hdr.inUse k = false ∧ s.upd.armed = none) ∧
    (∃ (s : State) (tag : BitVec 16) (k : Nat), s.lDead = false ∧ s.nvm.stage = some (tag, k) ∧ s.fget F.UPD_STAT_STAGE = 2 ∧ s.fbit F.THM_STAT_NO_NVM = false ∧ s.room 4) :=
  ⟨witness_block,
   ⟨{ nz with upd := { nz.upd with blk := some ⟨1,2,3,[]⟩ } }, M0, by unfold State.grants; decide +kernel⟩,
   ⟨{ nz with nvm := { nz.nvm with header := some { hdr1 with slotA := { state := 3 } } } }, M0, by unfold State.grants; decide +kernel⟩,
   ⟨{ (({ nz with nvm := { nz.nvm with stage := some (5, 0), header := some { hdr1 with slotA := { state := 1, tag := 5 } } } }).fset F.UPD_BLK_NUM_TAG 5) with upd := { nz.upd with blk := some ⟨1,5,3,[]⟩ } }, ⟨1,5,3,[]⟩, 5, 0, by decide +kernel⟩,
   ⟨{ (({ nz with nvm := { nz.nvm with stage := some (5, 0), header := some { hdr1 with slotA := { state := 1, tag := 5 } } } }).fset F.UPD_BLK_NUM_TAG 5) with upd := { nz.upd with blk := some ⟨1,5,3,[]⟩ } }, ⟨1,5,3,[]⟩, 5, 0, by unfold State.room; decide +kernel⟩,
   ⟨{ nz with nvm := { nz.nvm with stage := some (5, 0) } }, M0, 2, 5, 0, by unfold State.grants; decide +kernel⟩,
   ⟨(({ nz with nvm := { nz.nvm with stage := some (5, 0), header := some { hdr1 with slotA := { state := 1, tag := 5 } } } }).fset F.UPD_BLK_NUM_TAG 5).fset F.UPD_STAT_STAGE 2, 5, 0, by unfold State.room; decide +kernel⟩⟩

theorem witness_Activation :
    (∃ (s : State) (m : Master) (v : Word) (k : Nat), s.grants m R.UPD_ACT_CTRL ∧ v.getLsbD 1 = false ∧ s.actSlot (BitVec.ofNat 16 (s.fget F.UPD_ACT_TAG_TAG)) = some k ∧ s.now + msTicks 100 ≤ (tickOf (s.rd R.UPD_ACT_TIME_LO) (s.rd R.UPD_ACT_TIME_HI)).toNat ∧ (tickOf (s.rd R.UPD_ACT_TIME_LO) (s.rd R.UPD_ACT_TIME_HI)).toNat ≤ s.now + msTicks 3600000) ∧
    (∃ (s : State) (m : Master) (v : Word), s.grants m R.UPD_ACT_CTRL ∧ v.getLsbD 0 = false ∧ s.upd.fired = false) ∧
    (∃ (s : State) (a : Armed), s.upd.armed = some a ∧ a.at_.toNat ≤ s.now + msTicks (s.fget F.UPD_CFG_PRE_T) ∧ s.lDead = false) ∧
    (∃ (s : State) (p : Fin 3), (s.updP p.val).told = true ∧ s.pairFrozen p.val = false) ∧
    (∃ (s : State) (p : Fin 3) (a : Armed) (k : Nat), s.lDead = false ∧ s.upd.armed = some a ∧ s.upd.fired = false ∧ a.at_.toNat ≤ s.now ∧ a.mask = BitVec.ofNat 3 (2 ^ p.val) ∧ s.actSlot a.tag = some k ∧ (s.hdr.slot (s.hdr.runs p.val)).tag ≠ a.tag ∧ s.windowFail p.val = none) ∧
    (∃ (s : State) (p : Fin 3) (r : Restart), s.lDead = false ∧ (s.updP p.val).run = some r ∧ r.slot < 2 ∧ s.room 4 ∧ (((s.segs r.slot).filter fun g => g.owner == p.val).all fun g => s.segOk r.slot g) = true) :=
  ⟨⟨(nz.fset F.UPD_ACT_TAG_TAG 5).wr R.UPD_ACT_TIME_LO 800000000, M0, 1, 0, by unfold State.grants; decide +kernel⟩,
   ⟨({ nz with upd := { nz.upd with armed := some ⟨5, 2, 100⟩ }, clave := 200 }).fput F.UPD_ACT_STAT_ARMED true, M0, 2, by unfold State.grants; decide +kernel⟩,
   ⟨{ nz with upd := { nz.upd with armed := some ⟨5, 2, 100⟩ }, clave := 200 }, ⟨5, 2, 100⟩, by decide +kernel⟩,
   ⟨nz.withUpd1 fun u => { u with told := true }, 1, by decide +kernel⟩,
   ⟨({ nz with upd := { nz.upd with armed := some ⟨5, 2, 100⟩ }, clave := 200 }).withUpd1 fun u => { u with ready := true }, 1, ⟨5, 2, 100⟩, 0, by decide +kernel⟩,
   ⟨nz.withUpd1 fun u => { u with run := some ⟨0, 0, .activate⟩ }, 1, ⟨0, 0, .activate⟩, by unfold State.room; decide +kernel⟩⟩

theorem witness_MigrationAndConfirmation :
    (∃ (s : State) (p : Fin 3), (s.updP p.val).mig.isSome = true ∧ s.pairFrozen p.val = false ∧ s.restarting p.val = false ∧ s.room 4) ∧
    (∃ (s : State) (p : Fin 3) (c : Instr), (s.updP p.val).mig.isSome = true ∧ s.restarting p.val = false ∧ s.room 4 ∧ ((c = .updhoMigFail p ∧ s.pairFrozen p.val = false) ∨ (c = .updMigTimeout p ∧ s.lasted (s.updP p.val).mig (msTicks (100 * s.fget F.UPD_CFG_MIG_TMO)) = true))) ∧
    (∃ (s : State) (m : Master) (v : Word), s.grants m R.UPD_CMD ∧ s.confReady = none) ∧
    (∃ (s : State) (m : Master) (v : Word) (k : Nat), s.grants m R.UPD_CMD ∧ s.confReady = some k ∧ (s.hdr.slot k).tag.toNat = bits v 31 16 ∧ s.room 4) ∧
    (∃ (s : State) (k : Nat), s.confReady = some k ∧ s.confSteady = true ∧ s.fbit F.THM_STAT_NO_NVM = false ∧ s.lasted s.upd.confSince (msTicks (1000 * s.fget F.UPD_CFG_CONF_T)) = true ∧ s.room 4) :=
  ⟨⟨(nz.withUpd1 fun u => { u with mig := some 0 }).atTime 999999999999, 1, by unfold State.room; decide +kernel⟩,
   ⟨(nz.withUpd1 fun u => { u with mig := some 0 }).atTime 999999999999, 1, .updMigTimeout 1, by unfold State.room; decide +kernel⟩,
   ⟨nz, M0, 0x50002, by unfold State.grants; decide +kernel⟩,
   ⟨({ nz with nvm := { nz.nvm with header := some { hdr1 with slotA := { state := 3, bank := 0, tag := 5, migrated := 7 }, pairSlot := 0 } } }.atTime 99999999999999), M0, 0x50002, 0, by unfold State.grants State.room; decide +kernel⟩,
   ⟨{ ({ nz with nvm := { nz.nvm with header := some { hdr1 with slotA := { state := 3, bank := 0, tag := 5, migrated := 7 }, pairSlot := 0 } } }.atTime 99999999999999) with upd := { ({ nz with nvm := { nz.nvm with header := some { hdr1 with slotA := { state := 3, bank := 0, tag := 5, migrated := 7 }, pairSlot := 0 } } }.atTime 99999999999999).upd with confSince := some 0 } }, 0, by unfold State.room; decide +kernel⟩⟩

theorem witness_CountersAndGong :
    (∃ (s : State) (m : Master) (w : Fin 16) (v : Word), s.grants m (R.PMC_MODE w.val) ∧ s.pmc.cyc = s.cyc) ∧
    (∃ (s : State) (m : Master) (w : Fin 16) (v : Word), s.grants m (R.PMC_CLR w.val) ∧ s.pmc.cyc = s.cyc) ∧
    (∃ (s : State) (n : Fin 512) (c : Fin 4), s.lDead = false ∧ s.pmc.cyc = s.cyc ∧ s.pmcLevel n.val = false ∧ (s.pmcBase n.val).toNat + (s.pmcNow n.val).add + c.val < 2 ^ 48) ∧
    (∃ (s : State) (n : Fin 512) (c : Fin 4), s.lDead = false ∧ s.pmc.cyc = s.cyc ∧ s.pmcLevel n.val = false ∧ (s.pmcBase n.val).toNat + (s.pmcNow n.val).add < 2 ^ 48 ∧ 2 ^ 48 ≤ (s.pmcBase n.val).toNat + (s.pmcNow n.val).add + c.val ∧ s.room 4) ∧
    (∃ (s : State) (v0 : Verified) (v1 : Verified) (v2 : Verified) (r : React) (l : List React), takeReact 5 s.reacts = some (r, l) ∧ s.fbit F.PMC_GNG_STAT_FROZEN = false) ∧
    (∃ (s : State) (v0 : Verified) (v1 : Verified) (v2 : Verified) (r : React) (l : List React), takeReact 5 s.reacts = some (r, l) ∧ s.fbit F.PMC_GNG_STAT_FROZEN = true) ∧
    (∃ (s : State) (m : Master) (v : Word) (f : FlashBoot), s.grants m R.PMC_GNG_CTRL ∧ v.getLsbD 0 = true ∧ s.fbit F.PMC_GNG_STAT_FROZEN = true) ∧
    (∃ (s : State) (m : Master) (v : Word) (f : FlashBoot), s.grants m R.PMC_GNG_CTRL ∧ s.fbit F.PMC_GNG_STAT_FROZEN = false) :=
  ⟨⟨({ zo with pmc := { zo.pmc with cyc := zo.cyc } }), M0, 15, 0xF0F0, by unfold State.grants; decide +kernel⟩,
   ⟨({ zo with pmc := { zo.pmc with cyc := zo.cyc } }), M0, 0, 0xF0F0, by unfold State.grants; decide +kernel⟩,
   ⟨({ zo with pmc := { zo.pmc with cyc := zo.cyc } }), 511, 3, by decide +kernel⟩,
   ⟨({ zo with pmc := { zo.pmc with cyc := zo.cyc, cnt := [(300, 0xFFFFFFFFFFFF)] } }), 300, 3, by unfold State.room; decide +kernel⟩,
   ⟨{ z with reacts := [⟨0x0123, 2, 5, 0, 0x123456789A, 0⟩] }, vf, vf, vf, ⟨0x0123, 2, 5, 0, 0x123456789A, 0⟩, [], by decide +kernel⟩,
   ⟨({ z with reacts := [⟨0x0123, 2, 5, 0, 0x123456789A, 0⟩] }).fput F.PMC_GNG_STAT_FROZEN true, vf, vf, vf, ⟨0x0123, 2, 5, 0, 0x123456789A, 0⟩, [], by decide +kernel⟩,
   ⟨zo.fput F.PMC_GNG_STAT_FROZEN true, M0, 1, fb, by unfold State.grants; decide +kernel⟩,
   ⟨zo, M0, 1, fb, by unfold State.grants; decide +kernel⟩⟩

theorem witness_Rattle :
    (∃ (s : State) (m : Master), s.grants m R.RTL_KEY ∧ s.seq.mode = .service ∧ s.rtl.key = false) ∧
    (∃ (s : State) (m : Master), s.grants m R.RTL_KEY ∧ s.seq.mode = .service ∧ s.rtl.key = true ∧ s.room 4) ∧
    (∃ (s : State) (m : Master) (v : Word), s.grants m R.RTL_KEY ∧ s.inMode .service = false ∧ s.room 4) ∧
    (∃ (s : State) (m : Master) (v : Word) (w : Verified) (e : Option VrfErr), s.grants m R.RTL_MISM ∧ s.seq.mode = .service ∧ s.fbit F.RTL_STAT_UNLOCKED = false ∧ s.room 4) ∧
    (∃ (s : State) (m : Master) (v : Word) (w : Verified) (e : Option VrfErr), s.grants m R.RTL_MISM ∧ s.seq.mode = .service ∧ s.fbit F.RTL_STAT_UNLOCKED = true ∧ s.triangle = false ∧ bits v 1 0 < 3 ∧ bits v 5 4 < 3 ∧ bits v 10 8 < 4 ∧ s.lksSt (bits v 1 0) = 0 ∧ s.room 4) ∧
    (∃ (s : State) (m : Master) (d : Nat), s.grants m R.RTL_STEP_GO ∧ s.seq.mode = .service ∧ s.fbit F.RTL_STAT_UNLOCKED = true ∧ (tickOf (s.rd R.RTL_STEP_LO) (s.rd R.RTL_STEP_HI)).toNat = d ∧ 1 ≤ d ∧ d ≤ 2 ^ 40 ∧ s.room 4) ∧
    (∃ (s : State) (m : Master), s.grants m R.RTL_STEP_GO ∧ s.seq.mode = .service ∧ s.fbit F.RTL_STAT_UNLOCKED = true ∧ ((tickOf (s.rd R.RTL_STEP_LO) (s.rd R.RTL_STEP_HI)).toNat = 0 ∨ 2 ^ 40 < (tickOf (s.rd R.RTL_STEP_LO) (s.rd R.RTL_STEP_HI)).toNat) ∧ s.room 4) :=
  ⟨⟨zo.withMode .service, M0, by unfold State.grants; decide +kernel⟩,
   ⟨{ zo.withMode .service with rtl := { key := true } }, M0, by unfold State.grants State.room; decide +kernel⟩,
   ⟨zo, M0, 5, by unfold State.grants State.room; decide +kernel⟩,
   ⟨zo.withMode .service, M0, 1, vf, none, by unfold State.grants State.room; decide +kernel⟩,
   ⟨ez, M0, 0x1221, vf, none, by unfold State.grants State.room; decide +kernel⟩,
   ⟨(ez.wr R.RTL_STEP_HI 0x100), M0, 2^40, by unfold State.grants State.room; decide +kernel⟩,
   ⟨ez, M0, by unfold State.grants State.room; decide +kernel⟩⟩

theorem witness_TestPort :
    (∃ (s : State) (b : Byte) (c : Byte), s.lDead = false) ∧
    (∃ (s : State) (tdi : List Byte), s.lDead = false) ∧
    (∃ (s : State), s.lDead = false) ∧
    (∃ (s : State) (cells : List Bool), s.lDead = false) ∧
    (∃ (s : State), s.lDead = false) ∧
    (∃ (s : State) (sig : List Byte), s.lDead = false) ∧
    (∃ (s : State), s.lDead = false) ∧
    (∃ (s : State) (c : Fin 6), s.lDead = false) ∧
    (∃ (s : State) (c : Fin 6), s.lDead = false) ∧
    (∃ (s : State) (c : Fin 6), s.lDead = false) ∧
    (∃ (s : State) (f : FlashBoot), s.lDead = false ∧ s.jtag.unlocked = true) ∧
    (∃ (s : State) (f : FlashBoot), s.lDead = false ∧ s.jtag.unlocked = false) :=
  ⟨⟨z, 0x85, 0x7F, by decide +kernel⟩,
   ⟨z, [1,2,3], by decide +kernel⟩,
   ⟨z, by decide +kernel⟩,
   ⟨z, [true,false,true], by decide +kernel⟩,
   ⟨z, by decide +kernel⟩,
   ⟨z.withJtag fun j => { j with chal := some [1] }, [], by decide +kernel⟩,
   ⟨(z.withMode .service).withJtag fun j => { j with unlocked := true }, by decide +kernel⟩,
   ⟨z.withJtag fun j => { j with unlocked := true }, 5, by decide +kernel⟩,
   ⟨z.withJtag fun j => { j with unlocked := true, halted := 63 }, 5, by decide +kernel⟩,
   ⟨z.withJtag fun j => { j with unlocked := true, halted := 63 }, 5, by decide +kernel⟩,
   ⟨z.withJtag fun j => { j with unlocked := true, halted := 63 }, fb, by decide +kernel⟩,
   ⟨z, fb, by decide +kernel⟩⟩

theorem witness_ControlAndPowerFrames :
    (∃ (s : State) (c : Instr) (l : List Nat), controlFrame c = some l) ∧
    (∃ (s : State) (c : Instr) (l : List Nat), powerFrame c = some l) :=
  ⟨⟨State.reset, .adcSeqHold, fam 32 R.ADC_SEQ_LATE ++ fam 32 R.ADC_SEQ_STAMP_HI ++ fam 32 R.ADC_SEQ_STAMP_LO, by decide +kernel⟩,
   ⟨State.reset, .pwmPeakEvent 0, ctxRegs ++ triggerRegs ++ fam 12 R.PWM_GRP_STAT ++ fam 12 R.PWM_GRP_SWALLOW, by decide +kernel⟩⟩

theorem witness_SystemFrames :
    (∃ (s : State) (c : Instr) (l : List Nat), systemFrame c = some l) :=
  ⟨State.reset, .jrnInsert, [R.JRN_NEXT_SEQ, R.JRN_OLDEST_SEQ, R.PMC_GNG_SEQ], by decide +kernel⟩

theorem witness_MemoryFrame :
    (∃ (s : State) (c : Instr), c.wf = true) :=
  ⟨State.reset, .jrnInsert, by decide +kernel⟩

/-! ### Witnesses of the statements about every state -/

theorem witness_StepKeepsSoundness : ∃ s t : State, s.Inv ∧ step s = .next t :=
  ⟨z, _, by unfold State.Inv; decide +kernel, rfl⟩

theorem witness_AccessCodes : ∃ (a : Nat) (r : RegSpec) (f : RegField) (i : Nat), RegMap.find a = some r ∧ f ∈ r.fields ∧ f.lo ≤ i ∧ i ≤ f.hi ∧ i < 32 ∧
    ∀ g ∈ r.fields, g ≠ f → i < g.lo ∨ g.hi < i :=
  ⟨0x20000024, ⟨0x20000024, 1, 4, 1, 4, [⟨12, 8, .w1c, 0⟩, ⟨2, 0, .ro, 0⟩], false⟩, ⟨12, 8, .w1c, 0⟩, 12, by decide +kernel⟩

/-! ### Ill-formed commands, one for each check -/

theorem test_illFormed0 : Instr.wf (.loHiLatchRead M0 2 0) = false ∧
    Instr.wf (.modeReqInvalid M0 2) = false ∧
    Instr.wf (.cleRateGen 0 (List.replicate 9 ⟨0, 0, 0⟩)) = false ∧
    Instr.wf (.cleCtxEnable M0 0 0xFFFFFFFE) = false ∧
    Instr.wf (.cleCtxDisable M0 0 1) = false ∧
    Instr.wf (.adcSeqComplete 0 (List.replicate 33 0)) = false ∧
    Instr.wf (.tmuEnable M0 0xFFFFFFFE) = false ∧
    Instr.wf (.tmuDisable M0 1) = false ∧
    Instr.wf (.resLoss (.samples (List.replicate 9 ⟨0, 0, 0⟩))) = false ∧
    Instr.wf (.pwmRunStart M0 0 0xFFFFFFFE) = false ∧
    Instr.wf (.pwmRunStop M0 0 1) = false ∧
    Instr.wf (.lgDiagDone (List.replicate 18 ⟨0, 0, 0, false⟩) 0 0) = false := by decide +kernel

theorem test_illFormed1 : Instr.wf (.lvcEnable M0 0xFFFFFFFE) = false ∧
    Instr.wf (.lvcOrderlyStop M0 1) = false ∧
    Instr.wf (.lvcRsRetry M0 0xFFFFFFFD) = false ∧
    Instr.wf (.chgEnable M0 0xFFFFFFFE) = false ∧
    Instr.wf (.chgOrderlyStop M0 1) = false ∧
    Instr.wf (.actGo M0 0 0xFFFFFFFE) = false ∧
    Instr.wf (.actStop M0 0 0xFFFFFFFD) = false ∧
    Instr.wf (.lksSplitReq M0 0 0xFFFFFFFE) = false ∧
    Instr.wf (.lksRejoinReq M0 0 0xFFFFFFFD) = false ∧
    Instr.wf (.thmSample 0 (List.replicate 25 ⟨0, 0, 0⟩)) = false ∧
    Instr.wf (.acpCommand (af 1 0 16 9 (List.replicate 55 0))) = false ∧
    Instr.wf (.acpCommand (af 1 2 16 9 (List.replicate 1509 0))) = false := by decide +kernel

theorem test_illFormed2 : Instr.wf (.acpKeepalive (af 1 0 16 9 (List.replicate 55 0))) = false ∧
    Instr.wf (.acpKeepalive (af 1 2 16 9 (List.replicate 1509 0))) = false ∧
    Instr.wf (.acpStatusReq (af 1 0 16 9 (List.replicate 55 0))) = false ∧
    Instr.wf (.acpStatusReq (af 1 2 16 9 (List.replicate 1509 0))) = false ∧
    Instr.wf (.acpJournalReq (af 1 0 16 9 (List.replicate 55 0))) = false ∧
    Instr.wf (.acpJournalReq (af 1 2 16 9 (List.replicate 1509 0))) = false ∧
    Instr.wf (.acpUpdateBlock (af 1 0 16 9 (List.replicate 55 0))) = false ∧
    Instr.wf (.acpUpdateBlock (af 1 2 16 9 (List.replicate 1509 0))) = false ∧
    Instr.wf (.acpActivate (af 1 0 16 9 (List.replicate 55 0))) = false ∧
    Instr.wf (.acpActivate (af 1 2 16 9 (List.replicate 1509 0))) = false ∧
    Instr.wf (.acpConfirm (af 1 0 16 9 (List.replicate 55 0))) = false ∧
    Instr.wf (.acpConfirm (af 1 2 16 9 (List.replicate 1509 0))) = false := by decide +kernel

theorem test_illFormed3 : Instr.wf (.acpFwDefined 0 (af 1 0 16 9 (List.replicate 55 0))) = false ∧
    Instr.wf (.acpFwDefined 0 (af 1 2 16 9 (List.replicate 1509 0))) = false ∧
    Instr.wf (.acpFrameInvalid 0 (af 1 0 16 9 (List.replicate 55 0))) = false ∧
    Instr.wf (.acpFrameInvalid 0 (af 1 2 16 9 (List.replicate 1509 0))) = false ∧
    Instr.wf (.canRawFrame 0 true 1 (List.replicate 65 0) 0) = false ∧
    Instr.wf (.canRawFrame 0 false 2048 [] 0) = false ∧
    Instr.wf (.ethRawFrame (List.replicate 1519 0) 0) = false ∧
    Instr.wf (.olkStatus ({ orx with payload := List.replicate 256 0 })) = false ∧
    Instr.wf (.olkFault ({ orx with payload := List.replicate 256 0 })) = false ∧
    Instr.wf (.olkFwSeg ({ orx with payload := List.replicate 256 0 })) = false ∧
    Instr.wf (.olkFwBlockEnd ({ orx with payload := List.replicate 256 0 })) = false ∧
    Instr.wf (.olkActivate ({ orx with payload := List.replicate 256 0 })) = false := by decide +kernel

theorem test_illFormed4 : Instr.wf (.olkUpdateReverted ({ orx with payload := List.replicate 256 0 })) = false ∧
    Instr.wf (.olkApp ({ orx with payload := List.replicate 256 0 })) = false ∧
    Instr.wf (.podReadDone none (some { crc := 7, good := true, sets := [(3, { par with scaleB := [] })] }) 0) = false ∧
    Instr.wf (.nvcFindPod M0 0 0x18) = false ∧
    Instr.wf (.nvcAppendPod M0 0 0x18) = false ∧
    Instr.wf (.nvcAppendLog M0 0 0x18) = false ∧
    Instr.wf (.nvcRead M0 0 0x18) = false ∧
    Instr.wf (.nvcProgram M0 0 0x18) = false ∧
    Instr.wf (.nvcErase M0 0 0x18) = false ∧
    Instr.wf (.nvcCompact M0 0 0x18) = false ∧
    Instr.wf (.updStgAbandon M0 0xFFFFFFFE) = false ∧
    Instr.wf (.updActArm M0 0xFFFFFFFE) = false := by decide +kernel

theorem test_illFormed5 : Instr.wf (.updActCancel M0 0xFFFFFFFD) = false ∧
    Instr.wf (.updCmdConfirm M0 0xFFFFFFFE) = false ∧
    Instr.wf (.rtlMismGo M0 0x7FFFFFFF vf none) = false ∧
    Instr.wf (.jtagDbgResp []) = false := by decide +kernel


theorem test_wellFormed : Instr.wf (.pwmRunStart M0 1 1) = true ∧ Instr.wf (.nvcErase M0 0 6) = true ∧
    Instr.wf (.acpCommand (af 1 0 16 9 (List.replicate 54 0))) = true := by decide +kernel

/-! ### The table spells no command -/

theorem test_noWord (n w : Nat) : decodeTableWord n w = none := rfl

theorem test_noFetchWord (s : State) (n w : Nat) : s.withFetchWord n w = s := rfl

/-! ### Check values and worked examples of the spec -/

/-- "123456789" (spec/14). -/
def digits : List Byte := [0x31, 0x32, 0x33, 0x34, 0x35, 0x36, 0x37, 0x38, 0x39]

/-- spec/14: the check value of CRC-16/CCITT-FALSE. -/
theorem test_crc16 : crc16 digits 0xFFFF = 0x29B1 := by decide +kernel

/-- spec/14: the check value of CRC-32C. -/
theorem test_crc32c : crc32c digits = 0xE3069283 := by decide +kernel

/-- R58: the 32 bytes of a record. -/
theorem test_recordBytes : (JRec.bytes { stamp := 0x0807060504030201, code := 0x0123, inst := 5, cls := 2, payload := { w0 := 0x44332211, w1 := 2, w2 := 3, w3 := 4 } } 0x0C0B0A09 false) =
    [1, 2, 3, 4, 5, 6, 7, 8, 9, 10, 11, 12, 0x23, 0x01, 5, 2, 0x11, 0x22, 0x33, 0x44, 2, 0, 0, 0, 3, 0, 0, 0, 4, 0, 0, 0] := by decide +kernel

/-- R61: sequence 4,097 goes to the second slot of the ring. -/
theorem test_ringAddr : ringAddr 4097 = 0x10D00020 := by decide

/-- spec/04, the d-axis loop of RA-1 (R119): its section, b0 = 1.026180, b1 = a1 = -1. -/
def piSec : Sec := { b0 := 0x3F8359DE, b1 := 0xBF800000, b2 := 0, a1 := 0xBF800000, a2 := 0, slim := 0, integ := true, slimEn := false }

/-- Its snapshot: GAIN = 1.507964, e as given, ff = 40, limits plus and minus 461.88. -/
def piSnap (e : F32) : CleSnap where
  meas := e
  tgt := 0
  gain := 0x3FC104F7
  ff := 0x42200000
  hi := 0x43E6F0A4
  lo := 0xC3E6F0A4
  rampRate := 0
  feLimit := 0
  freezeEn := true
  rampEn := false
  errMode := true
  secs := [piSec]
  states := []
  feTime := 0
  feReact := 0
  feClass := 0
  sgrp := 15
  kind := 0
  index := 0

/-- `x` lies between two bounds. -/
def between (lo x hi : F32) : Bool := fLt lo x && fLt x hi

/-- spec/04: e = 60 A and s1 = 250 give y = 311.571, c1 = 251.571, u = 509.84 V; out is the limit, and s1 freezes. -/
theorem test_loopSaturates : (match runCompute (piSnap 0x42700000) false 0 0 [(0x437A0000, 0)] with
    | .ok _ _ u out sat frz [o] => between 0x439BC906 o.y 0x439BC927 && between 0x437B920C o.c1 0x437B924E && between 0x43FEEAE1 u 0x43FEEC29 && out == 0x43E6F0A4 && sat == 1 && frz
    | _ => false) = true := by decide +kernel

/-- spec/04: at e = 20 A the run gives y = 270.524, u = 447.94 V within the limits, and commits s1 = 250.524. -/
theorem test_loopLeavesSaturation : (match runCompute (piSnap 0x41A00000) false 0 0 [(0x437A0000, 0)] with
    | .ok _ _ u out sat frz [o] => between 0x43874302 o.y 0x43874323 && between 0x437A8604 o.c1 0x437A8646 && between 0x43DFF7AE u 0x43DFF8F6 && out == u && sat == 0 && !frz
    | _ => false) = true := by decide +kernel

/-- R402: 5 % is digital, 9 % 6 A, 50 % 30 A, 90 % 65 A, 98 % none. -/
theorem test_dutyLimit : [50, 90, 500, 900, 980].map (fun n => (dutyLimit n 1000).2) = [0xFE, 6, 30, 65, 0xFF] := by
  decide +kernel

/-- R403: 100 Ω is a 63 A cable, 150 Ω invalid, 5,000 Ω no cable. -/
theorem test_ppClass : [100, 150, 1500, 5000].map ppClass = [(1, 63), (2, 0), (1, 13), (0, 0)] := by decide

/-- R285: from sector 6 to 1 is one step forward, from 1 to 6 one back, from 2 to 5 three back. -/
theorem test_hallStep : hallStep 6 1 = 1 ∧ hallStep 1 6 = -1 ∧ hallStep 2 5 = -3 := by decide

/-- spec/17: IDCODE. -/
theorem test_idcode : (match execJtagIdcode z with
    | .next t => t.jtag.out
    | _ => []) = [0x4D, 0x05, 0x82, 0x16] := by decide +kernel

/-- R671: LO latches bits 47:32 and HI returns them although the counter has wrapped since (spec/16, the read pair). -/
theorem test_counterPair : (let s0 : State := ({ zo with pmc := { zo.pmc with cyc := zo.cyc, cnt := [(0x40, 0xFFFFFFFFFFFD)] } })
    match execLoHiLatchRead M0 (w32 (R.PMC_CNT_LO 0x40)) 7 s0 with
    | .next t =>
      let lo := t.bus.data
      match execLoHiLatchRead M0 (w32 (R.PMC_CNT_HI 0x40)) 8 { t with pmc := { t.pmc with cnt := [] } } with
      | .next u => (lo, u.bus.data)
      | _ => (0, 0)
    | _ => (0, 0)) = (0xFFFFFFFD, 0x0000FFFF) := by decide +kernel

/-- R84: a mode request with a value the table does not list is ignored and reported; ARMING goes on. -/
theorem test_modeReqInvalid : (match execModeReqInvalid M0 7 zo with
    | .next t => (decide (t.seq.mode = .arming), t.bus.err)
    | _ => (false, true)) = (true, false) := by decide +kernel

end Sys2Proof.Tests
end

/-! The access codes of R9, bit by bit: the bits of a field mask, the value a write leaves, and the register after the write. -/

namespace Sys2Proof.Machine

/-! ### The masks of a register's fields -/

/-- Bit `i` of the register lies in field `f` and in no other field. -/
structure RegSpec.OnlyField (r : RegSpec) (f : RegField) (i : Nat) : Prop where
  mem : f ∈ r.fields
  lo_le : f.lo ≤ i
  le_hi : i ≤ f.hi
  lt_width : i < 32
  others : ∀ g ∈ r.fields, g ≠ f → i < g.lo ∨ g.hi < i

/-- The fold that builds a mask sets the bits of the selected fields and keeps those it starts from. -/
theorem getLsbD_foldl_bitMask (p : Acc → Bool) (i : Nat) (fs : List RegField) (m : Word) :
    (fs.foldl (fun m f => if p f.acc then m ||| BitVec.ofNat 32 (bitMask f.hi f.lo) else m) m).getLsbD i =
      (m.getLsbD i || fs.any fun f => p f.acc && (w32 (bitMask f.hi f.lo)).getLsbD i) := by
  induction fs generalizing m with
  | nil => simp
  | cons f fs ih =>
    rw [List.foldl_cons, ih, List.any_cons]
    by_cases hp : p f.acc = true
    · simp [hp, w32, Bool.or_assoc]
    · simp [hp]

/-- A bit of a mask is set where a selected field covers it. -/
theorem RegSpec.getLsbD_mask (r : RegSpec) (p : Acc → Bool) (i : Nat) :
    (r.mask p).getLsbD i = r.fields.any fun f => p f.acc && (w32 (bitMask f.hi f.lo)).getLsbD i := by
  simp [RegSpec.mask, getLsbD_foldl_bitMask]

/-- The one field that covers a bit decides whether the mask has it. -/
theorem RegSpec.OnlyField.getLsbD_mask {r : RegSpec} {f : RegField} {i : Nat} (h : r.OnlyField f i) (p : Acc → Bool) :
    (r.mask p).getLsbD i = p f.acc := by
  obtain ⟨hf, hlo, hhi, hi, hother⟩ := h
  rw [RegSpec.getLsbD_mask, Bool.eq_iff_iff, List.any_eq_true]
  simp only [getLsbD_bitMask, Bool.and_eq_true, decide_eq_true_eq]
  constructor
  · rintro ⟨g, hg, hp, ⟨-, hglo⟩, hghi⟩
    have hgf : g = f := Decidable.byContradiction fun hne => by
      have := hother g hg hne
      omega
    exact hgf ▸ hp
  · exact fun hp => ⟨f, hf, hp, ⟨hi, hlo⟩, by omega⟩

/-! ### The value a write leaves -/

/-- The test of two access codes decides whether they are the same. -/
theorem Acc.beq_eq_decide (k l : Acc) : (k == l) = decide (k = l) := rfl

/-- A bit after a write, by the access code of the one field that covers it. Where hardware sets a W1C bit, it stays set (R10). -/
def Acc.writtenBit (k : Acc) (old v hw sealedOpen service : Bool) : Bool :=
  match k with
  | .rw => v
  | .w1c => (old && !v) || hw
  | .w1s => old || v
  | .rws => if sealedOpen then v else old
  | .rwm => if service then v else old
  | .ro | .wo | .rc => old

/-- The value a write leaves has, in a bit that one field alone covers, what that field's access code gives. -/
theorem RegSpec.OnlyField.getLsbD_written {r : RegSpec} {f : RegField} {i : Nat} (h : r.OnlyField f i) (old v hw : Word) (sealedOpen service : Bool) :
    (r.written old v hw sealedOpen service).getLsbD i =
      f.acc.writtenBit (old.getLsbD i) (v.getLsbD i) (hw.getLsbD i) sealedOpen service := by
  simp only [RegSpec.written, RegSpec.takes, BitVec.getLsbD_or, BitVec.getLsbD_and, BitVec.getLsbD_not, h.lt_width, decide_true,
    Bool.true_and, h.getLsbD_mask, Acc.beq_eq_decide]
  cases f.acc with
  | rw | ro | w1c | w1s | wo | rc => simp [Acc.writtenBit]
  | rws => cases sealedOpen <;> simp [Acc.writtenBit]
  | rwm => cases service <;> simp [Acc.writtenBit]

/-! ### The register after a write by its access codes -/

/-- A register implements the bits its fields cover (R7). -/
theorem RegSpec.OnlyField.getLsbD_impl {r : RegSpec} {f : RegField} {i a : Nat} (h : r.OnlyField f i) (hr : RegMap.find a = some r) :
    (RegMap.impl a).getLsbD i = true := by
  simp only [RegMap.impl, hr, h.getLsbD_mask]

/-- A write by the access codes stores in the register what they leave. -/
theorem State.plainWrite_eq (s : State) (w : WriteBy) {a : Nat} (v : Word) {r : RegSpec} (hr : RegMap.find a = some r) :
    s.plainWrite w a v = s.wr a (r.written (s.rd a) v w.hw (s.unsealed || w.boot) (s.inMode .service)) := by
  simp only [State.plainWrite, hr]

/-- A write by the access codes leaves every other register alone. -/
theorem State.rd_plainWrite_of_ne (s : State) (w : WriteBy) {a b : Nat} (v : Word) {r : RegSpec} (hr : RegMap.find a = some r) (h : b ≠ a) :
    (s.plainWrite w a v).rd b = s.rd b := by
  rw [s.plainWrite_eq w v hr, State.rd_wr_of_ne _ _ h]

/-- A bit of a register that one field alone covers, after a write of the register. -/
theorem State.getLsbD_rd_plainWrite (s : State) (w : WriteBy) {a i : Nat} (v : Word) {r : RegSpec} {f : RegField}
    (hr : RegMap.find a = some r) (h : r.OnlyField f i) :
    ((s.plainWrite w a v).rd a).getLsbD i =
      f.acc.writtenBit ((s.rd a).getLsbD i) (v.getLsbD i) (w.hw.getLsbD i) (s.unsealed || w.boot) (s.inMode .service) := by
  rw [s.plainWrite_eq w v hr, State.rd_wr_self, BitVec.getLsbD_and, h.getLsbD_impl hr, Bool.and_true, h.getLsbD_written]

/-- Settles O7: the bit after the write is the one its field's access code gives, and only the register written changes. -/
theorem accessCodes : Obligations.AccessCodes := by
  intro s w a v r hr
  refine ⟨fun b hb => s.rd_plainWrite_of_ne w v hr hb, fun f hf i hlo hhi hi hother => ?_⟩
  rw [s.getLsbD_rd_plainWrite w v hr ⟨hf, hlo, hhi, hi, hother⟩]
  cases f.acc <;> rfl

end Sys2Proof.Machine

/-! Fields as numbers, and what counting an event leaves of the registers: rules of the state that reads and Clave's events rest on. -/

namespace Sys2Proof.Machine

/-! ### Fields as numbers -/

/-- A field of a word depends on the field's bits alone. -/
theorem bits_congr {v w : Word} {hi lo : Nat} (h : ∀ i, lo ≤ i → i ≤ hi → v.getLsbD i = w.getLsbD i) : bits v hi lo = bits w hi lo := by
  refine Nat.eq_of_testBit_eq fun i => ?_
  simp only [bits, Nat.testBit_mod_two_pow, Nat.testBit_div_two_pow]
  by_cases hi' : i < hi + 1 - lo
  · have := h (i + lo) (by omega) (by omega)
    simpa [hi', BitVec.getLsbD] using this
  · simp [hi']

/-- A field that its register has holds the number written to it. -/
theorem State.fget_fset_self (s : State) (f : Fld) {n : Nat} (hn : n < 2 ^ (f.hi + 1 - f.lo)) (h32 : f.hi < 32)
    (himpl : ∀ i, f.lo ≤ i → i ≤ f.hi → (RegMap.impl f.addr).getLsbD i = true) : (s.fset f n).fget f = n := by
  refine Nat.eq_of_testBit_eq fun i => ?_
  simp only [State.fget, bits, Nat.testBit_mod_two_pow, Nat.testBit_div_two_pow, State.rd_fset, if_true]
  by_cases hi : i < f.hi + 1 - f.lo
  · have hput := getLsbD_putBits (s.rd f.addr) f.hi f.lo n (i + f.lo)
    have hm := himpl (i + f.lo) (by omega) (by omega)
    simp only [BitVec.getLsbD] at hput hm
    simp [hi, hput, hm, show i + f.lo ≤ f.hi by omega, show i + f.lo < 32 by omega]
  · have hlt : n < 2 ^ i := Nat.lt_of_lt_of_le hn (Nat.pow_le_pow_right (by decide) (by omega))
    simp [hi, Nat.testBit_lt_two_pow hlt]

/-! ### Counting an event -/

theorem State.pmcFold_regs (s : State) (l : List (Nat × PmcCyc)) : (s.pmcFold l).regs = s.regs := by
  induction l generalizing s with
  | nil => rfl
  | cons p t ih => simp [State.pmcFold, ih]

theorem State.pmcSync_regs (s : State) : s.pmcSync.regs = s.regs := by
  unfold State.pmcSync
  split
  · rfl
  · exact s.pmcFold_regs _

theorem State.pmcFold_seq (s : State) (l : List (Nat × PmcCyc)) : (s.pmcFold l).seq = s.seq := by
  induction l generalizing s with
  | nil => rfl
  | cons p t ih => simp [State.pmcFold, ih]

theorem State.pmcAdd_seq (s : State) (n : Nat) (c : PmcCyc) : (s.pmcAdd n c).1.seq = s.seq := by
  simp only [State.pmcAdd, State.pmcSync]
  split
  · rfl
  · exact s.pmcFold_seq _

/-- A gain of a counter keeps the registers. -/
theorem State.rd_pmcAdd (s : State) (n : Nat) (c : PmcCyc) (a : Nat) : (s.pmcAdd n c).1.rd a = s.rd a := by
  simp [State.pmcAdd, State.rd, State.pmcSync_regs]

/-- A counter that wraps shows in its PMC_OVF bit and in the journal. -/
theorem State.rd_pmcWrap (s : State) {n a : Nat} (hn : n < 512) (ha : a ∉ journalRegs) : (s.pmcWrap n).rd a = s.rd a := by
  simp only [journalRegs, List.mem_cons, List.mem_map, List.mem_range, not_or, not_exists, not_and] at ha
  obtain ⟨hjrn, hovf⟩ := ha
  rw [State.pmcWrap, State.rd_raise _ _ _ _ hjrn, State.rd_rput_of_ne _ _ _ _ fun h => hovf (n / 32) (by omega) h.symm]

/-- Counting an event changes no register but those of the counters and the journal. -/
theorem State.rd_count (s : State) {n a : Nat} (c : Nat) (hn : n < 512) (ha : a ∉ journalRegs) : (s.count n c).rd a = s.rd a := by
  simp only [State.count]
  repeat' split
  all_goals simp only [State.rd_pmcWrap _ (show (0x1F6 : Nat) < 512 by decide) ha, State.rd_pmcWrap _ hn ha, State.rd_pmcAdd]

theorem State.pmcFold_latch (s : State) (l : List (Nat × PmcCyc)) : (s.pmcFold l).pmc.latch = s.pmc.latch := by
  induction l generalizing s with
  | nil => rfl
  | cons p t ih => simp [State.pmcFold, ih]

theorem State.pmcAdd_latch (s : State) (n : Nat) (c : PmcCyc) : (s.pmcAdd n c).1.pmc.latch = s.pmc.latch := by
  simp only [State.pmcAdd, State.pmcSync]
  split
  · rfl
  · simp [State.pmcFold_latch]

/-- Counting an event keeps what reads of counters have latched (R671). -/
theorem State.count_latch (s : State) (n c : Nat) : (s.count n c).pmc.latch = s.pmc.latch := by
  simp only [State.count]
  repeat' split
  all_goals simp [State.pmcWrap, State.rput, State.raise, State.pmcAdd_latch]

end Sys2Proof.Machine

/-! A read of a peripheral register by a master that may read it: what it answers, and what it leaves. -/

namespace Sys2Proof.Machine

/-! ### The delivery to a pair (R498) -/

/-- Delivering a read's answer keeps the answer, every register but those of the counters and the journal, the memory, and what reads have latched. -/
structure State.DeliversTo (s t : State) : Prop where
  bus : t.bus = s.bus
  rd : ∀ a, a ∉ journalRegs → t.rd a = s.rd a
  mem : t.mem = s.mem
  latchHi : t.clv.latchHi = s.clv.latchHi
  latch : t.pmc.latch = s.pmc.latch

theorem State.DeliversTo.refl (s : State) : s.DeliversTo s := ⟨rfl, fun _ _ => rfl, rfl, rfl, rfl⟩

theorem State.DeliversTo.answered {s t : State} {d : Word} (h : (s.busOk d).DeliversTo t) : t.answered d := h.bus

theorem State.DeliversTo.sameMem {s t u : State} {d : Word} (h : (u.busOk d).DeliversTo t) (hu : u.mem = s.mem) : SameMem s t := fun a => by
  simp [State.mget, h.mem, hu]

theorem State.DeliversTo.sameRegs {s t u : State} {d : Word} {l : List Nat} (h : (u.busOk d).DeliversTo t)
    (hu : ∀ a, a ∉ l → u.rd a = s.rd a) : SameRegs s t l := fun a hl hj => by
  rw [h.rd a hj, State.busOk_rd, hu a hl]

theorem State.unitOfCore_lt (s : State) (p : Fin 3) (x : Half) : s.unitOfCore p.val x < 3 := by
  unfold State.unitOfCore
  repeat' split
  · decide
  · decide
  · exact p.isLt

/-- The input agreement unit takes the answer for the pair's other core, and the load is counted (R498). -/
theorem State.deliversTo_iauTake (s : State) {u : Nat} (hu : u < 3) (tag : BitVec 64) (v : Word) : s.DeliversTo (s.iauTake u tag v) := by
  have hn : 0x007 + 16 * u < 512 := by omega
  unfold State.iauTake
  generalize hl : s.setLksP u _ = t
  have ht : s.DeliversTo t := by
    subst hl
    unfold State.setLksP
    split <;> exact ⟨rfl, fun _ _ => rfl, rfl, rfl, rfl⟩
  exact ⟨by simp [ht.bus], fun a ha => by rw [t.rd_count 1 hn ha, ht.rd a ha], by simp [ht.mem], by simp [ht.latchHi],
    by rw [t.count_latch, ht.latch]⟩

/-- A delivery touches the input agreement unit of an unsplit pair alone. -/
theorem State.deliversTo_delivered (s : State) (m : Master) (tag : Option (BitVec 64)) (v : Word) : s.DeliversTo (s.delivered m tag v) := by
  cases m with
  | dma d => exact .refl s
  | bootRom => exact .refl s
  | core p x y =>
    cases tag with
    | none => exact .refl s
    | some t =>
      simp only [State.delivered]
      split
      · exact .refl s
      · exact s.deliversTo_iauTake (s.unitOfCore_lt p x) t v

/-! ### A read that is carried out -/

@[simp] theorem State.busOk_bus (s : State) (d : Word) : (s.busOk d).bus = { err := false, data := d } := rfl

/-- The state in which a read of the register at `a` takes effect. -/
abbrev State.atRead (s : State) (m : Master) (a : Nat) : State := (s.spend m).accessed a false

/-- Neither coefficient RAM nor a state word, no gate-driver level, no verified counter: a read of it has no effect of those (R129, R167, R495). -/
theorem State.verifiedRead_gateRead_eccRead (s : State) {a : Nat} (ecc : Bool) (h : a < 0x20030000 ∨ 0x20100000 ≤ a) :
    ((s.eccRead a ecc).gateRead a).verifiedRead a = s := by
  have hecc : eccWord a = none := by
    unfold eccWord
    rw [if_neg (by omega), if_neg (by omega)]
  have hgs : a ≠ R.GDR_GC_GS := by unfold R.GDR_GC_GS; omega
  have hgf : a ≠ R.GDR_GC_GF := by unfold R.GDR_GC_GF; omega
  have hlks : ([0, 1, 2].find? fun p => a == R.LKS_PAIR_VPC p || a == R.LKS_PAIR_VCNT_LO p || a == R.LKS_PAIR_VCNT_HI p) = none := by
    simp [R.LKS_PAIR_VPC, R.LKS_PAIR_VCNT_LO, R.LKS_PAIR_VCNT_HI]
    omega
  simp [State.eccRead, hecc, State.gateRead, hgs, hgf, State.verifiedRead, hlks]

/-- A read of a register of the L-die outside those fields delivers what `readReg` gives. -/
theorem State.load_of_reads {s u : State} {m : Master} {a : Nat} {added v : Word} (h : s.reads m a) (far : a < 0x20030000 ∨ 0x20100000 ≤ a)
    (hr : (s.atRead m a).readReg (s.masterNum m) a added = (v, u)) (ecc : Bool) (tag : BitVec 64) :
    (u.busOk v).DeliversTo (s.load m a .word added ecc tag) := by
  obtain ⟨hissue, hplace, hread, hdie, hreplay⟩ := h
  have hout (tg : Option (BitVec 64)) : (s.spend m).readOut m a added ecc tg = u.busOk v := by
    simp [State.readOut, hread, hdie, State.verifiedRead_gateRead_eccRead _ _ far, hr]
  cases m with
  | dma d => simp [State.load, hissue, hplace, State.loadPeriph, hout, State.DeliversTo.refl]
  | bootRom => simp [State.load, hissue, hplace, State.loadPeriph, hout, State.DeliversTo.refl]
  | core p x y =>
    have hnil : ((s.spend (.core p x y)).lksP ((s.spend (.core p x y)).unitOfCore p.val x)).replay = [] := by
      obtain ⟨j, hj⟩ := s.spend_eq (.core p x y)
      rw [hj]
      exact List.isEmpty_iff.mp hreplay
    simpa [State.load, hissue, hplace, State.loadPeriph, State.pairLoad, hnil, hout, hdie] using State.deliversTo_delivered ..

end Sys2Proof.Machine

/-! What reads clear and what they latch: CLV_PER_CTRL (R11), Clave's two words (R41), and the counters (R671). -/

namespace Sys2Proof.Machine

/-! ### Read-clear fields (R11) -/

/-- A read of CLV_PER_CTRL shows what is stored and clears its read-clear field. -/
theorem State.readReg_perCtrl (s : State) (m : Nat) (n : Fin 16) (added : Word) :
    s.readReg m (R.CLV_PER_CTRL n.val) added = (s.rd (R.CLV_PER_CTRL n.val), s.clearRead (R.CLV_PER_CTRL n.val) added) := by
  have hpmc : ¬ (R.PMC_CNT_LO 0 ≤ R.CLV_PER_CTRL n.val ∧ R.CLV_PER_CTRL n.val < R.PMC_MODE 0) := by
    simp only [R.PMC_CNT_LO, R.CLV_PER_CTRL, R.PMC_MODE]; omega
  have hblock : blockOf (R.CLV_PER_CTRL n.val) = 1 := by
    revert n; decide
  have hlo : isLo (R.CLV_PER_CTRL n.val) = false ∧ isLo (R.CLV_PER_CTRL n.val - 4) = false := by
    revert n; decide
  have hview : s.view (R.CLV_PER_CTRL n.val) = (s.rd (R.CLV_PER_CTRL n.val), s) := by
    have hne : ∀ a ∈ [R.SYS_MODE, R.SYS_EN_STAT, R.CLV_NOW_LO, R.CLV_NOW_HI, R.CLV_RATE, R.CLE_GLB_LANE_FLT, R.TMU_BC_USED,
        R.GDR_ABC_STAT, R.SUP_STAT, R.SUP_VBAT, R.SUP_VGD], R.CLV_PER_CTRL n.val ≠ a := by
      revert n; decide
    simp only [List.mem_cons, List.not_mem_nil, or_false, forall_eq_or_imp, forall_eq] at hne
    simp [State.view, hne, hblock]
  simp [State.readReg, hpmc, hview, State.readHalf, hlo]

/-- The fields of CLV_PER_CTRL (02, CLV registers). -/
def perCtrlSpec : RegSpec := ⟨R.CLV_PER_CTRL 0, 16, 8, 1, 4, [⟨23, 16, .rc, 0⟩, ⟨3, 3, .rw, 0⟩, ⟨2, 1, .rw, 0⟩, ⟨0, 0, .rw, 0⟩], false⟩

theorem RegMap.find_perCtrl (n : Fin 16) : RegMap.find (R.CLV_PER_CTRL n.val) = some perCtrlSpec := by
  revert n; decide +kernel

/-- MISSED covers its bits of CLV_PER_CTRL alone. -/
theorem perCtrlSpec_missed {i : Nat} (hlo : 16 ≤ i) (hhi : i ≤ 23) : perCtrlSpec.OnlyField ⟨23, 16, .rc, 0⟩ i :=
  ⟨by decide, hlo, hhi, by omega, by simp [perCtrlSpec]; omega⟩

/-- EN covers bit 0 of CLV_PER_CTRL alone. -/
theorem perCtrlSpec_en : perCtrlSpec.OnlyField ⟨0, 0, .rw, 0⟩ 0 := ⟨by decide, by decide, by decide, by decide, by decide⟩

/-- A bit that one field alone covers, after its register is read: a read-clear field takes what hardware adds, another keeps its value (R11). -/
theorem State.getLsbD_rd_clearRead (s : State) {a i : Nat} {r : RegSpec} {f : RegField} (hr : RegMap.find a = some r) (h : r.OnlyField f i)
    (added : Word) : ((s.clearRead a added).rd a).getLsbD i = if f.acc = .rc then added.getLsbD i else (s.rd a).getLsbD i := by
  have hk : (RegMap.rcMask a).getLsbD i = decide (f.acc = .rc) := by
    simp only [RegMap.rcMask, hr, h.getLsbD_mask, Acc.beq_eq_decide]
  unfold State.clearRead
  dsimp only
  split
  · next h0 =>
    have : f.acc ≠ .rc := by simpa [h0] using hk
    rw [if_neg this]
  · rw [State.rd_wr_self]
    simp only [BitVec.getLsbD_and, BitVec.getLsbD_or, BitVec.getLsbD_not, h.getLsbD_impl hr, hk, h.lt_width]
    by_cases hrc : f.acc = .rc <;> simp [hrc]

theorem State.rd_clearRead_of_ne (s : State) {a b : Nat} (added : Word) (h : b ≠ a) : (s.clearRead a added).rd b = s.rd b := by
  unfold State.clearRead
  dsimp only
  split
  · rfl
  · exact s.rd_wr_of_ne _ h

theorem State.clearRead_mem (s : State) (a : Nat) (added : Word) : (s.clearRead a added).mem = s.mem := by
  unfold State.clearRead
  dsimp only
  split <;> rfl

/-- MISSED of a periodic is left with what hardware adds in the cycle of the read. -/
theorem State.fget_missed_clearRead (s : State) (n : Fin 16) (added : Word) :
    (s.clearRead (R.CLV_PER_CTRL n.val) added).fget (F.CLV_PER_CTRL_MISSED n.val) = fldOf (F.CLV_PER_CTRL_MISSED n.val) added :=
  bits_congr fun _ hlo hhi => s.getLsbD_rd_clearRead (RegMap.find_perCtrl n) (perCtrlSpec_missed hlo hhi) added

/-- A read of a periodic's control keeps its EN. -/
theorem State.fbit_en_clearRead (s : State) (n : Fin 16) (added : Word) :
    (s.clearRead (R.CLV_PER_CTRL n.val) added).fbit (F.CLV_PER_CTRL_EN n.val) = s.fbit (F.CLV_PER_CTRL_EN n.val) :=
  s.getLsbD_rd_clearRead (RegMap.find_perCtrl n) perCtrlSpec_en added

/-- A read of a periodic's control answers its value and clears its MISSED. -/
theorem State.load_perCtrl {s : State} {m : Master} (n : Fin 16) (h : s.reads m (R.CLV_PER_CTRL n.val)) (added : Word) (ecc : Bool)
    (tag : BitVec 64) :
    (((s.atRead m (R.CLV_PER_CTRL n.val)).clearRead (R.CLV_PER_CTRL n.val) added).busOk (s.rd (R.CLV_PER_CTRL n.val))).DeliversTo
      (s.load m (R.CLV_PER_CTRL n.val) .word added ecc tag) :=
  State.load_of_reads h (.inl (by simp only [R.CLV_PER_CTRL]; omega)) (by simp [State.readReg_perCtrl]) ecc tag

theorem perCtrl_not_journalRegs (n : Fin 16) : R.CLV_PER_CTRL n.val ∉ journalRegs := by
  revert n; decide

/-! ### Latched halves of Clave (R41) -/

/-- The state with the upper half of the LO register at `lo` latched for master `m`. -/
def State.latchHalf (s : State) (m lo : Nat) (x : Word) : State :=
  { s with clv.latchHi := SMap.set (fun _ => none) s.clv.latchHi (latchKey m lo) (some x) }

/-- A read of CLV_NOW_LO shows the low word of Clave and latches the upper half for its master. -/
theorem State.readReg_nowLo (s : State) (m : Nat) (added : Word) :
    s.readReg m R.CLV_NOW_LO added = (loWord s.clave, s.latchHalf m R.CLV_NOW_LO (hiWord s.clave)) := by
  have hpmc : ¬ (R.PMC_CNT_LO 0 ≤ R.CLV_NOW_LO ∧ R.CLV_NOW_LO < R.PMC_MODE 0) := by decide
  have hlo : isLo R.CLV_NOW_LO = true := by decide
  have hview : s.view R.CLV_NOW_LO = (loWord s.clave, s) := rfl
  have hnext : s.view (R.CLV_NOW_LO + 4) = (hiWord s.clave, s) := rfl
  have hrc : RegMap.rcMask R.CLV_NOW_LO = 0 := by decide
  simp [State.readReg, hpmc, hview, State.readHalf, hlo, hnext, State.clearRead, hrc, State.latchHalf]

/-- A read of CLV_NOW_HI shows what the master's read of CLV_NOW_LO latched. -/
theorem State.readReg_nowHi (s : State) {m : Nat} {x : Word} (added : Word)
    (h : SMap.get (fun _ => none) s.clv.latchHi (latchKey m R.CLV_NOW_LO) = some x) : ∃ u, s.readReg m R.CLV_NOW_HI added = (x, u) := by
  have hpmc : ¬ (R.PMC_CNT_LO 0 ≤ R.CLV_NOW_HI ∧ R.CLV_NOW_HI < R.PMC_MODE 0) := by decide
  have hhi : isLo R.CLV_NOW_HI = false ∧ 4 ≤ R.CLV_NOW_HI ∧ isLo R.CLV_NOW_LO = true := by decide
  have hprev : R.CLV_NOW_HI - 4 = R.CLV_NOW_LO := rfl
  have hview : s.view R.CLV_NOW_HI = (hiWord s.clave, s) := rfl
  simp [State.readReg, hpmc, hview, State.readHalf, hhi, hprev, h]

theorem State.load_nowLo {s : State} {m : Master} (h : s.reads m R.CLV_NOW_LO) (tag : BitVec 64) :
    (((s.atRead m R.CLV_NOW_LO).latchHalf (s.masterNum m) R.CLV_NOW_LO (hiWord s.clave)).busOk (loWord s.clave)).DeliversTo
      (s.load m R.CLV_NOW_LO .word 0 false tag) :=
  State.load_of_reads h (.inl (by decide)) (by simp [State.readReg_nowLo]) false tag

/-- A read of CLV_NOW_HI answers the half latched for its master. -/
theorem State.load_nowHi {s : State} {m : Master} {x : Word} (h : s.reads m R.CLV_NOW_HI)
    (hx : SMap.get (fun _ => none) s.clv.latchHi (latchKey (s.masterNum m) R.CLV_NOW_LO) = some x) (tag : BitVec 64) :
    (s.load m R.CLV_NOW_HI .word 0 false tag).answered x := by
  obtain ⟨u, hu⟩ := (s.atRead m R.CLV_NOW_HI).readReg_nowHi 0 (m := s.masterNum m) (x := x) (by simpa using hx)
  exact (State.load_of_reads h (.inl (by decide)) hu false tag).answered

/-! ### Latched halves of a counter (R671) -/

/-- The state with bits 47:32 of counter `n` latched for master `m`. -/
def State.latchCounter (s : State) (m n : Nat) (v : BitVec 48) : State :=
  { s with pmc.latch := SMap.set (fun _ => (0, 0)) s.pmc.latch m (n + 1, (v >>> 32).setWidth 16) }

/-- A read of a counter's LO shows its low word and latches the upper half for its master. -/
theorem State.readReg_cntLo (s : State) (m : Nat) (n : Fin 512) (added : Word) :
    s.readReg m (R.PMC_CNT_LO n.val) added = ((s.pmcValue n.val).setWidth 32, s.latchCounter m n.val (s.pmcValue n.val)) := by
  have hpmc : R.PMC_CNT_LO 0 ≤ R.PMC_CNT_LO n.val ∧ R.PMC_CNT_LO n.val < R.PMC_MODE 0 := by
    simp only [R.PMC_CNT_LO, R.PMC_MODE]; omega
  have hcounter : offs (R.PMC_CNT_LO n.val) (R.PMC_CNT_LO 0) / 8 = n.val := by
    simp only [offs, R.PMC_CNT_LO]; omega
  have heven : R.PMC_CNT_LO n.val % 8 = 0 := by
    simp only [R.PMC_CNT_LO]; omega
  simp [State.readReg, hpmc, hcounter, heven, State.readCounter, State.latchCounter]

/-- What the counters come to depends on their records and the stored modes alone. -/
theorem State.pmcFold_congr {s t : State} (hp : s.pmc = t.pmc) (hr : s.regs = t.regs) (l : List (Nat × PmcCyc)) :
    (s.pmcFold l).pmc = (t.pmcFold l).pmc := by
  induction l generalizing s t with
  | nil => exact hp
  | cons p l ih =>
    refine ih ?_ hr
    simp only [State.pmcBase, State.pmcLevel, State.rd, hp, hr]

theorem State.pmcSync_congr {s t : State} (hp : s.pmc = t.pmc) (hr : s.regs = t.regs) (ht : s.time = t.time) : s.pmcSync.pmc = t.pmcSync.pmc := by
  have hcyc : s.cyc = t.cyc := by simp only [State.cyc, ht]
  by_cases h : t.pmc.cyc = t.cyc
  · simp [State.pmcSync, hp, hcyc, h]
  · simp [State.pmcSync, hp, hcyc, h, State.pmcFold_congr hp hr]

theorem State.pmcValue_congr {s t : State} (hp : s.pmc = t.pmc) (hr : s.regs = t.regs) (ht : s.time = t.time) (n : Nat) :
    s.pmcValue n = t.pmcValue n := by
  simp only [State.pmcValue, State.pmcBase, State.pmcSync_congr hp hr ht]

theorem State.load_cntLo {s : State} {m : Master} (n : Fin 512) (h : s.reads m (R.PMC_CNT_LO n.val)) (tag : BitVec 64) :
    (((s.atRead m (R.PMC_CNT_LO n.val)).latchCounter (s.masterNum m) n.val (s.pmcValue n.val)).busOk
      ((s.pmcValue n.val).setWidth 32)).DeliversTo (s.load m (R.PMC_CNT_LO n.val) .word 0 false tag) := by
  have hv : (s.atRead m (R.PMC_CNT_LO n.val)).pmcValue n.val = s.pmcValue n.val := State.pmcValue_congr (by simp) (by simp) (by simp) n.val
  exact State.load_of_reads h (.inr (by simp only [R.PMC_CNT_LO]; omega)) (by rw [State.readReg_cntLo, hv]) false tag

/-- Settles O9: each read by the equation of `readReg` for its register, carried to the end of the access by `State.load_of_reads`. -/
theorem readSideEffects : Obligations.ReadSideEffects := by
  refine ⟨fun s m n a added ecc tag ha hread => ?perCtrl, fun s m tag hread => ?nowLo, fun s m n tag hread => ?cntLo⟩
  case perCtrl =>
    have hend := State.load_perCtrl n hread added ecc tag
    have hreg := (hend.rd _ (perCtrl_not_journalRegs n)).trans (State.busOk_rd ..)
    refine ⟨s.load m (R.CLV_PER_CTRL n.val) .word added ecc tag, by rw [← ha]; rfl, hend.answered, ?_, ?_,
      hend.sameRegs fun b hb => ?_, hend.sameMem (by simp [State.clearRead_mem])⟩
    · exact (congrArg (bits · 23 16) hreg).trans (State.fget_missed_clearRead _ n added)
    · exact (congrArg (·.getLsbD 0) hreg).trans ((State.fbit_en_clearRead _ n added).trans ((State.accessed_fbit ..).trans (State.spend_fbit ..)))
    · rw [State.rd_clearRead_of_ne _ _ (by simpa using hb)]; simp
  case nowLo =>
    have hend := State.load_nowLo hread tag
    refine ⟨s.load m R.CLV_NOW_LO .word 0 false tag, rfl, hend.answered, hend.sameRegs fun b _ => ?_, hend.sameMem ?_,
      fun u tag' hlatch hm hread' => ⟨u.load m R.CLV_NOW_HI .word 0 false tag', rfl, State.load_nowHi hread' ?_ tag'⟩⟩
    · exact (State.accessed_rd ..).trans (State.spend_rd ..)
    · exact (State.accessed_mem ..).trans (State.spend_mem ..)
    · rw [hlatch, hend.latchHi, hm]
      simp [State.latchHalf]
  case cntLo =>
    have hend := State.load_cntLo n hread tag
    refine ⟨s.load m (R.PMC_CNT_LO n.val) .word 0 false tag, rfl, hend.answered, ?_, hend.sameRegs fun b _ => ?_, hend.sameMem ?_⟩
    · rw [hend.latch]
      simp [State.latchCounter]
    · exact (State.accessed_rd ..).trans (State.spend_rd ..)
    · exact (State.accessed_mem ..).trans (State.spend_mem ..)

end Sys2Proof.Machine

/-! Clave's registers and events: the alarm, the periodics, the lock, the rate limit and the gPTP mapping (spec/02). -/

namespace Sys2Proof.Machine

/-! ### Writes of Clave's registers -/

/-- The state in which a granted write of the register at `a` takes effect. -/
abbrev State.atWrite (s : State) (m : Master) (a : Nat) : State := (s.spend m).accessed a true

/-- A granted write whose effect in its block is `e` ends well, with Clave's records, the registers and the memory of `e`. -/
theorem State.wrote_granted {s e : State} {m : Master} {a : Nat} {v : Word} (h : s.grants m a)
    (he : (s.atWrite m a).route (s.writer m 0) a v = e) :
    ∃ t, s.wrote m a v = .next t ∧ t.answered 0 ∧ t.clv = e.clv ∧ (∀ b, t.rd b = e.rd b) ∧ ∀ b, t.mget b = e.mget b := by
  obtain ⟨w, hw⟩ := State.put_granted s (v := v) h
  rw [he] at hw
  exact ⟨{ e.busOk 0 with writes := w }, congrArg _ hw, rfl, rfl, fun _ => rfl, fun _ => rfl⟩

theorem State.rd_atWrite (s : State) (m : Master) (a b : Nat) : (s.atWrite m a).rd b = s.rd b := by simp

theorem State.mget_atWrite (s : State) (m : Master) (a b : Nat) : (s.atWrite m a).mget b = s.mget b := by simp

/-- A write of one register leaves the others as they were before the access. -/
theorem State.rd_wr_atWrite_of_ne (s : State) (m : Master) {a b : Nat} (v : Word) (h : b ≠ a) : ((s.atWrite m a).wr a v).rd b = s.rd b := by
  rw [State.rd_wr_of_ne _ _ h, State.rd_atWrite]

/-- A register of 32 writable bits holds what is stored in it. -/
theorem State.rd_wr_full (s : State) {a : Nat} (v : Word) (h : RegMap.impl a = BitVec.allOnes 32) : (s.wr a v).rd a = v := by
  rw [State.rd_wr_self, h, BitVec.and_allOnes]

theorem State.route_alarmHi (s : State) (w : WriteBy) (v : Word) : s.route w R.CLV_ALARM_HI v = s.writeAlarmHi v := rfl

theorem State.route_alarmCtrl (s : State) (w : WriteBy) (v : Word) : s.route w R.CLV_ALARM_CTRL v = s.writeAlarmCtrl w v := rfl

theorem State.route_ptpRate (s : State) (w : WriteBy) (v : Word) : s.route w R.CLV_PTP_RATE v = s.writePtpRate v := rfl

theorem State.route_perPeriod (s : State) (w : WriteBy) (n : Fin 16) (v : Word) :
    s.route w (R.CLV_PER_PERIOD n.val) v = s.writePerPeriod n.val v := by
  have hblock : blockOf (R.CLV_PER_PERIOD n.val) = 1 := by revert n; decide
  have hne : ∀ a ∈ [R.CLV_CTRL, R.CLV_ALARM_HI, R.CLV_ALARM_CTRL, R.CLV_PTP_RATE], R.CLV_PER_PERIOD n.val ≠ a := by
    revert n; decide
  have hslot : slotOf (R.CLV_PER_PERIOD 0) 8 16 (R.CLV_PER_PERIOD n.val) = some n.val := by revert n; decide
  simp only [List.mem_cons, List.not_mem_nil, or_false, forall_eq_or_imp, forall_eq] at hne
  simp [State.route, hblock, State.writeClv, hne, hslot]

/-- A periodic's period has all 32 bits. -/
theorem RegMap.impl_perPeriod (n : Fin 16) : RegMap.impl (R.CLV_PER_PERIOD n.val) = BitVec.allOnes 32 := by
  revert n; decide +kernel

/-- The fields of CLV_ALARM_CTRL (02, CLV registers). -/
def alarmCtrlSpec : RegSpec := ⟨R.CLV_ALARM_CTRL, 1, 4, 1, 4, [⟨2, 2, .w1c, 0⟩, ⟨1, 1, .rw, 0⟩, ⟨0, 0, .rw, 0⟩], false⟩

theorem RegMap.find_alarmCtrl : RegMap.find R.CLV_ALARM_CTRL = some alarmCtrlSpec := by decide

/-- EN covers bit 0 of CLV_ALARM_CTRL alone. -/
theorem alarmCtrlSpec_en : alarmCtrlSpec.OnlyField ⟨0, 0, .rw, 0⟩ 0 := ⟨by decide, by decide, by decide, by decide, by decide⟩

/-- A write of CLV_ALARM_CTRL with EN = 1 while it is 0 arms the alarm, and does to the registers what its access codes say. -/
theorem State.writeAlarmCtrl_arms {s : State} (w : WriteBy) {v : Word} (hen : s.fbit F.CLV_ALARM_CTRL_EN = false) (hv : v.getLsbD 0 = true) :
    s.writeAlarmCtrl w v =
      { s.plainWrite w R.CLV_ALARM_CTRL v with clv := { (s.plainWrite w R.CLV_ALARM_CTRL v).clv with alarmArmed := true } } := by
  simp [State.writeAlarmCtrl, hen, hv]

theorem State.plainWrite_mem (s : State) (w : WriteBy) (a : Nat) (v : Word) : (s.plainWrite w a v).mem = s.mem := by
  unfold State.plainWrite
  split <;> rfl

/-- A write of the alarm's upper half arms it with both halves (R45). -/
theorem clvAlarmRearm_hi {s : State} {m : Master} (v : Word) (h : s.grants m R.CLV_ALARM_HI) :
    ∃ t, exec (.clvAlarmRearm m true v) s = .next t ∧ t.answered 0 ∧ t.clv.alarm = tickOf (s.rd R.CLV_ALARM_LO) v ∧
      t.clv.alarmArmed = true ∧ t.rd R.CLV_ALARM_HI = v ∧ SameRegs s t [R.CLV_ALARM_HI] ∧ SameMem s t := by
  obtain ⟨t, ht, hans, hclv, hrd, hmem⟩ := State.wrote_granted (v := v) h (State.route_alarmHi ..)
  have hreg (b : Nat) : t.rd b = ((s.atWrite m R.CLV_ALARM_HI).wr R.CLV_ALARM_HI v).rd b := hrd b
  refine ⟨t, ht, hans, ?_, by rw [hclv]; rfl, ?_, fun b hb _ => ?_, fun b => (hmem b).trans (s.mget_atWrite m _ b)⟩
  · rw [hclv]
    exact congrArg (tickOf · v) (s.rd_wr_atWrite_of_ne m v (by decide))
  · rw [hreg, State.rd_wr_full _ v (by decide)]
  · rw [hreg, s.rd_wr_atWrite_of_ne m v (by simpa using hb)]

/-- EN going from 0 to 1 arms the alarm (R45). -/
theorem clvAlarmRearm_en {s : State} {m : Master} {v : Word} (h : s.grants m R.CLV_ALARM_CTRL) (hen : s.fbit F.CLV_ALARM_CTRL_EN = false)
    (hv : v.getLsbD 0 = true) :
    ∃ t, exec (.clvAlarmRearm m false v) s = .next t ∧ t.answered 0 ∧ t.clv.alarmArmed = true ∧
      t.fbit F.CLV_ALARM_CTRL_EN = true ∧ SameRegs s t [R.CLV_ALARM_CTRL] ∧ SameMem s t := by
  have hen' : (s.atWrite m R.CLV_ALARM_CTRL).fbit F.CLV_ALARM_CTRL_EN = false := by simpa using hen
  obtain ⟨t, ht, hans, hclv, hrd, hmem⟩ :=
    State.wrote_granted (v := v) h ((State.route_alarmCtrl ..).trans (State.writeAlarmCtrl_arms _ hen' hv))
  have hreg (b : Nat) : t.rd b = ((s.atWrite m R.CLV_ALARM_CTRL).plainWrite (s.writer m 0) R.CLV_ALARM_CTRL v).rd b := hrd b
  refine ⟨t, ht, hans, by rw [hclv], ?_, fun b hb _ => ?_, fun b => ?_⟩
  · exact (congrArg (·.getLsbD 0) (hreg _)).trans ((State.getLsbD_rd_plainWrite _ _ v RegMap.find_alarmCtrl alarmCtrlSpec_en).trans hv)
  · rw [hreg, State.rd_plainWrite_of_ne _ _ v RegMap.find_alarmCtrl (by simpa using hb), State.rd_atWrite]
  · exact (hmem b).trans ((congrArg (SMap.get memDefault · b) (State.plainWrite_mem ..)).trans (s.mget_atWrite m _ b))

/-- A period out of range is ignored while the periodic is enabled (R713). -/
theorem State.writePerPeriod_ignored {s : State} {n : Nat} {v : Word} (hen : s.fbit (F.CLV_PER_CTRL_EN n) = true)
    (hv : ¬ (40000 ≤ v.toNat ∧ v.toNat ≤ 80000000)) : s.writePerPeriod n v = s := by
  have hbad : perOk v = false := by simpa [perOk, within] using hv
  simp [State.writePerPeriod, hen, hbad]

/-- Any other period is stored, and the periodic goes on from the present Clave. -/
theorem State.writePerPeriod_stored {s : State} {n : Nat} {v : Word}
    (h : ¬ (s.fbit (F.CLV_PER_CTRL_EN n) = true ∧ ¬ (40000 ≤ v.toNat ∧ v.toNat ≤ 80000000))) :
    s.writePerPeriod n v = (s.wr (R.CLV_PER_PERIOD n) v).perFrom n :=
  if_neg (by simpa [perOk, within] using h)

/-- A periodic's period is stored, but for one out of range while the periodic is enabled (R713). -/
theorem clvPerPeriodWrite_stores {s : State} {m : Master} (n : Fin 16) (v : Word) (h : s.grants m (R.CLV_PER_PERIOD n.val)) :
    ∃ t, exec (.clvPerPeriodWrite m n v) s = .next t ∧ t.answered 0 ∧
      t.rd (R.CLV_PER_PERIOD n.val) = (if s.fbit (F.CLV_PER_CTRL_EN n.val) = true ∧ ¬ (40000 ≤ v.toNat ∧ v.toNat ≤ 80000000)
        then s.rd (R.CLV_PER_PERIOD n.val) else v) ∧
      SameRegs s t [R.CLV_PER_PERIOD n.val] ∧ SameMem s t := by
  have hroute := State.route_perPeriod (s.atWrite m (R.CLV_PER_PERIOD n.val)) (s.writer m 0) n v
  have hen : (s.atWrite m (R.CLV_PER_PERIOD n.val)).fbit (F.CLV_PER_CTRL_EN n.val) = s.fbit (F.CLV_PER_CTRL_EN n.val) := by simp
  by_cases hig : s.fbit (F.CLV_PER_CTRL_EN n.val) = true ∧ ¬ (40000 ≤ v.toNat ∧ v.toNat ≤ 80000000)
  · rw [State.writePerPeriod_ignored (hen.trans hig.1) hig.2] at hroute
    obtain ⟨t, ht, hans, -, hrd, hmem⟩ := State.wrote_granted h hroute
    exact ⟨t, ht, hans, by rw [if_pos hig, hrd, State.rd_atWrite], fun b _ _ => (hrd b).trans (s.rd_atWrite m _ b),
      fun b => (hmem b).trans (s.mget_atWrite m _ b)⟩
  · rw [State.writePerPeriod_stored (by rwa [hen])] at hroute
    obtain ⟨t, ht, hans, -, hrd, hmem⟩ := State.wrote_granted h hroute
    have hreg (b : Nat) : t.rd b = ((s.atWrite m (R.CLV_PER_PERIOD n.val)).wr (R.CLV_PER_PERIOD n.val) v).rd b := hrd b
    refine ⟨t, ht, hans, by rw [if_neg hig, hreg, State.rd_wr_full _ v (RegMap.impl_perPeriod n)], fun b hb _ => ?_,
      fun b => (hmem b).trans (s.mget_atWrite m _ b)⟩
    rw [hreg, s.rd_wr_atWrite_of_ne m v (by simpa using hb)]

/-- A write of CLV_PTP_RATE puts the mapping with the base values written before it in force (R55). -/
theorem clvPtpRateWrite_maps {s : State} {m : Master} (v : Word) (h : s.grants m R.CLV_PTP_RATE) :
    ∃ t, exec (.clvPtpRateWrite m v) s = .next t ∧ t.answered 0 ∧ t.rd R.CLV_PTP_RATE = v ∧ t.clv.ptpRate = v ∧
      t.clv.ptpClv = tickOf (s.rd R.CLV_PTP_BASE_CLV_LO) (s.rd R.CLV_PTP_BASE_CLV_HI) ∧
      t.clv.ptpNs = tickOf (s.rd R.CLV_PTP_BASE_NS_LO) (s.rd R.CLV_PTP_BASE_NS_HI) ∧
      SameRegs s t [R.CLV_PTP_RATE] ∧ SameMem s t := by
  obtain ⟨t, ht, hans, hclv, hrd, hmem⟩ := State.wrote_granted (v := v) h (State.route_ptpRate ..)
  have hreg (b : Nat) : t.rd b = ((s.atWrite m R.CLV_PTP_RATE).wr R.CLV_PTP_RATE v).rd b := hrd b
  have hold {b : Nat} (hb : b ≠ R.CLV_PTP_RATE) : ((s.atWrite m R.CLV_PTP_RATE).wr R.CLV_PTP_RATE v).rd b = s.rd b :=
    s.rd_wr_atWrite_of_ne m v hb
  refine ⟨t, ht, hans, by rw [hreg, State.rd_wr_full _ v (by decide)], by rw [hclv]; rfl, ?_, ?_,
    fun b hb _ => by rw [hreg, hold (by simpa using hb)], fun b => (hmem b).trans (s.mget_atWrite m _ b)⟩
  · rw [hclv, ← hold (b := R.CLV_PTP_BASE_CLV_LO) (by decide), ← hold (b := R.CLV_PTP_BASE_CLV_HI) (by decide)]; rfl
  · rw [hclv, ← hold (b := R.CLV_PTP_BASE_NS_LO) (by decide), ← hold (b := R.CLV_PTP_BASE_NS_HI) (by decide)]; rfl

/-! ### Periodics (R75) -/

/-- Raising a periodic with a target pair notes the multiple raised and interrupts that pair's leading core, or the half named where it is split. -/
theorem State.perRaise_eq {s : State} {n : Nat} {p : Fin 3} (due : Nat) (h : s.fget (F.CLV_PER_CTRL_TARGET n) = p.val) :
    s.perRaise n due = ({ s with clv.perLast := SMap.set (fun _ => 0) s.clv.perLast n (due + 1) } : State).irq p
      (if s.lksSt p.val = 3 && s.fbit (F.CLV_PER_CTRL_HALF n) then .trailing else .leading) (BitVec.ofNat 16 (0xFF00 + n)) 0 (BitVec.ofNat 64 due) := by
  match p with
  | 0 => simp [State.perRaise, h]
  | 1 => simp [State.perRaise, h]
  | 2 => simp [State.perRaise, h]

/-- A due periodic raises its interrupt for the multiple of its period reached, and notes it. -/
theorem clvPeriodic_raises {s : State} {n : Fin 16} {p : Fin 3} (hen : s.fbit (F.CLV_PER_CTRL_EN n.val) = true)
    (htarget : s.fget (F.CLV_PER_CTRL_TARGET n.val) = p.val) (hper : 0 < (s.rd (R.CLV_PER_PERIOD n.val)).toNat) (hlive : s.lDead = false)
    (hdue : SMap.get (fun _ => 0) s.clv.perLast n.val ≤ dueAt s.now (s.rd (R.CLV_PER_PERIOD n.val)).toNat) :
    ∃ t, exec (.clvPeriodic n) s = .next t ∧
      t.irqs = { pair := s.irqTarget p, half := if s.lksSt p.val = 3 && s.fbit (F.CLV_PER_CTRL_HALF n.val) then .trailing else .leading,
                 code := BitVec.ofNat 16 (0xFF00 + n.val), inst := 0,
                 value := BitVec.ofNat 64 (dueAt s.now (s.rd (R.CLV_PER_PERIOD n.val)).toNat) } :: s.irqs ∧
      SMap.get (fun _ => 0) t.clv.perLast n.val = dueAt s.now (s.rd (R.CLV_PER_PERIOD n.val)).toNat + 1 ∧
      (∀ a, t.rd a = s.rd a) ∧ SameMem s t := by
  have hexec : exec (.clvPeriodic n) s = .next (s.perRaise n.val (dueAt s.now (s.rd (R.CLV_PER_PERIOD n.val)).toNat)) := by
    change Host.Outcome.next (s.periodic n.val) = _
    simp [State.periodic, hen, hper, hlive, hdue]
  rw [State.perRaise_eq _ htarget] at hexec
  exact ⟨_, hexec, rfl, by simp, fun _ => rfl, fun _ => rfl⟩

/-! ### Lock and rate (R49, R52) -/

/-- A change that keeps what waits for the journal, followed by a raised code, journals that code. -/
theorem Journaled.of_raise {s u : State} {c : Code} {i : Nat} {p : Payload} (hu : u.jrn = s.jrn) (h : s.room 1) : Journaled s (u.raise c i p) c i p := by
  have hwait : u.room 1 := by simpa only [State.room, hu] using h
  obtain ⟨hnew, hold⟩ := u.journaled_raise c i p hwait
  simp only [State.noted, hu] at hnew hold
  exact ⟨hnew, hold⟩

theorem State.room.one {s : State} (h : s.room 4) : s.room 1 := by
  unfold State.room at *
  omega

/-- A register that neither journalling nor counting touches is not JRN_STATUS. -/
theorem ne_jrnStatus_of_not_journalRegs {a : Nat} (h : a ∉ journalRegs) : a ≠ R.JRN_STATUS := fun e => h (by simp [journalRegs, e])

/-- Five milliseconds without an exchange clear LOCKED (R49). -/
theorem clvSyncTimeout_unlocks {s : State} (hlocked : s.fbit F.CLV_STATUS_LOCKED = true) (hlate : s.clv.lastDone + 4000000 ≤ s.time) (hroom : s.room 4) :
    ∃ t, exec .clvSyncTimeout s = .next t ∧ t.fbit F.CLV_STATUS_LOCKED = false ∧ t.clv.goodRun = 0 ∧
      Journaled s t C.CLV_SYNC_LOST 0 { w0 := s.rd R.CLV_OFFSET, w1 := w32 (s.fget F.CLV_STATUS_HOPS) } ∧
      SameRegs s t [R.CLV_STATUS] ∧ SameMem s t := by
  have hexec : exec .clvSyncTimeout s = .next ((({ s with clv.goodRun := 0 }).fput F.CLV_STATUS_LOCKED false).raise C.CLV_SYNC_LOST 0
      { w0 := s.rd R.CLV_OFFSET, w1 := w32 (s.fget F.CLV_STATUS_HOPS) }) := by
    change Host.Outcome.next _ = _
    simp [hlocked, State.past, msTicks, hlate, State.syncLost]
  refine ⟨_, hexec, ?_, ?_, Journaled.of_raise rfl hroom.one, fun a ha hj => ?_, fun a => ?_⟩
  · rw [State.fbit, State.rd_raise _ _ _ _ (by decide)]
    exact State.fbit_fput _ _ _ (by decide) (by decide)
  · simp [State.raise]
  · rw [State.rd_raise _ _ _ _ (ne_jrnStatus_of_not_journalRegs hj)]
    exact State.rd_fput_of_ne _ F.CLV_STATUS_LOCKED _ (List.ne_of_not_mem_cons ha)
  · simp [State.mget, State.raise]

/-- A demand beyond 500 ppm is held at 500 ppm and journalled (R52). -/
theorem clvRateLimit_holds {s : State} {d : Word} (hrole : s.fget F.CLV_STATUS_ROLE = 2) (hover : 500000 < d.toInt ∨ d.toInt < -500000)
    (hroom : s.room 4) :
    ∃ t, exec (.clvRateLimit d) s = .next t ∧ t.rd R.CLV_RATE = (if d.toInt < 0 then BitVec.ofInt 32 (-500000) else 500000) ∧
      Journaled s t C.CLV_RATE_LIMIT 0 { w0 := d } ∧ SameRegs s t [R.CLV_RATE] ∧ SameMem s t := by
  have hexec : exec (.clvRateLimit d) s =
      .next ((s.wr R.CLV_RATE (if d.toInt < 0 then BitVec.ofInt 32 (-500000) else 500000)).raise C.CLV_RATE_LIMIT 0 { w0 := d }) := by
    have hneg : w32 (2 ^ 32 - 500000) = BitVec.ofInt 32 (-500000) := by decide
    have hlimit : (s.fget F.CLV_STATUS_ROLE = 2 && rateOver d) = true := by simp [rateOver, hrole, hover]
    change Host.Outcome.next (s.rateLimit d) = _
    rw [State.rateLimit, if_pos hlimit, hneg]
  refine ⟨_, hexec, ?_, Journaled.of_raise rfl hroom.one, fun a ha hj => ?_, fun a => ?_⟩
  · rw [State.rd_raise _ _ _ _ (by decide)]
    exact State.rd_wr_full _ _ (by decide)
  · rw [State.rd_raise _ _ _ _ (ne_jrnStatus_of_not_journalRegs hj)]
    exact State.rd_wr_of_ne _ _ (by simpa using ha)
  · simp [State.mget, State.raise]

end Sys2Proof.Machine

/-! A wake from DORMANT: what holds through the reset it makes (R29, R44, R116), and the alarm that starts it (R45). -/

namespace Sys2Proof.Machine

/-! ### What a reset lets rest -/

/-- The registers that hold through the rest of a reset: those always on but SYS_RESET_CAUSE, and LVC_STAT, from which the LV converter is off. -/
def restingReg (a : Nat) : Bool := (alwaysOn a && a != R.SYS_RESET_CAUSE) || a == R.LVC_STAT

/-- From `s` to `t` the resting registers, the memory, the count of Clave and the mode are as they were. -/
structure State.Rests (s t : State) : Prop where
  rd : ∀ a, restingReg a = true → t.rd a = s.rd a
  mem : t.mem = s.mem
  clave : t.clave = s.clave
  mode : t.seq.mode = s.seq.mode

/-- Above JRN_NEXT_SEQ only LVC_STAT rests. -/
theorem restingReg_of_gt {a : Nat} (h : R.JRN_NEXT_SEQ < a) (hl : a ≠ R.LVC_STAT) : restingReg a = false := by
  simp only [R.JRN_NEXT_SEQ] at h
  have hlow : ∀ b ∈ [R.SYS_WAKE_EN, R.SYS_WAKE_SRC, R.SYS_RESET_CAUSE, R.SYS_SLEEP_CFG, R.SYS_TEST_QUEUE, R.CLV_ALARM_LO, R.CLV_ALARM_HI,
      R.CLV_ALARM_CTRL, R.JRN_NEXT_SEQ], a ≠ b := by
    have : ∀ b ∈ [R.SYS_WAKE_EN, R.SYS_WAKE_SRC, R.SYS_RESET_CAUSE, R.SYS_SLEEP_CFG, R.SYS_TEST_QUEUE, R.CLV_ALARM_LO, R.CLV_ALARM_HI,
      R.CLV_ALARM_CTRL, R.JRN_NEXT_SEQ], b ≤ 0x20020000 := by decide
    intro b hb
    have := this b hb
    omega
  simp only [List.mem_cons, List.not_mem_nil, or_false, forall_eq_or_imp, forall_eq] at hlow
  simp [restingReg, alwaysOn, hlow, hl]

theorem restingReg_grpStat (g : Nat) : restingReg (R.PWM_GRP_STAT g) = false :=
  restingReg_of_gt (by simp only [R.JRN_NEXT_SEQ, R.PWM_GRP_STAT]; omega) (by simp only [R.LVC_STAT, R.PWM_GRP_STAT]; omega)

theorem restingReg_grpSwallow (g : Nat) : restingReg (R.PWM_GRP_SWALLOW g) = false :=
  restingReg_of_gt (by simp only [R.JRN_NEXT_SEQ, R.PWM_GRP_SWALLOW]; omega) (by simp only [R.LVC_STAT, R.PWM_GRP_SWALLOW]; omega)

theorem restingReg_pmcOvf (k : Nat) : restingReg (R.PMC_OVF k) = false :=
  restingReg_of_gt (by simp only [R.JRN_NEXT_SEQ, R.PMC_OVF]; omega) (by simp only [R.LVC_STAT, R.PMC_OVF]; omega)

namespace State.Rests

variable {s t : State}

theorem refl (s : State) : s.Rests s := ⟨fun _ _ => rfl, rfl, rfl, rfl⟩

theorem trans {u : State} (h : s.Rests t) (k : t.Rests u) : s.Rests u :=
  ⟨fun a ha => (k.rd a ha).trans (h.rd a ha), k.mem.trans h.mem, k.clave.trans h.clave, k.mode.trans h.mode⟩

theorem ite (p : Prop) [Decidable p] {u : State} (h : s.Rests t) (k : s.Rests u) : s.Rests (if p then t else u) := by
  split
  · exact h
  · exact k

/-! The operations of the state. -/

theorem wr (h : s.Rests t) (a : Nat) (v : Word) (ha : restingReg a = false) : s.Rests (t.wr a v) :=
  h.trans ⟨fun b hb => t.rd_wr_of_ne v fun e => by simp [e, ha] at hb, rfl, rfl, rfl⟩

theorem fset (h : s.Rests t) (f : Fld) (n : Nat) (hf : restingReg f.addr = false) : s.Rests (t.fset f n) := h.wr _ _ hf

theorem fput (h : s.Rests t) (f : Fld) (b : Bool) (hf : restingReg f.addr = false) : s.Rests (t.fput f b) := h.wr _ _ hf

theorem finc (h : s.Rests t) (f : Fld) (n : Nat) (hf : restingReg f.addr = false) : s.Rests (t.finc f n) := h.wr _ _ hf

theorem rput (h : s.Rests t) (a : Nat) (i : Nat) (b : Bool) (ha : restingReg a = false) : s.Rests (t.rput a i b) := h.wr _ _ ha

theorem fresh (h : s.Rests t) : s.Rests t.fresh.2 := h.trans ⟨fun _ _ => rfl, rfl, rfl, rfl⟩

theorem setGrp (h : s.Rests t) (g : Nat) (v : PwmGrp) : s.Rests (t.setGrp g v) := h.trans ⟨fun _ _ => rfl, rfl, rfl, rfl⟩

theorem setChan (h : s.Rests t) (c : Nat) (v : GateChan) : s.Rests (t.setChan c v) := h.trans ⟨fun _ _ => rfl, rfl, rfl, rfl⟩

theorem setLeg (h : s.Rests t) (g l : Nat) (v : LegRec) : s.Rests (t.setLeg g l v) := h.trans ⟨fun _ _ => rfl, rfl, rfl, rfl⟩

theorem setSmon (h : s.Rests t) (c : Chan) (v : Smon) : s.Rests (t.setSmon c v) := by
  cases c <;> exact h.trans ⟨fun _ _ => rfl, rfl, rfl, rfl⟩

theorem raiseAs (h : s.Rests t) (c : BitVec 16) (i k a : Nat) (p : Payload) (d : Bool) : s.Rests (t.raiseAs c i k a p d) := by
  refine h.trans ⟨fun b hb => t.rd_raiseAs c i k a p d fun e => ?_, by simp, by simp, by simp⟩
  rw [e] at hb
  exact absurd hb (by decide)

theorem raise (h : s.Rests t) (c : Code) (i : Nat) (p : Payload) : s.Rests (t.raise c i p) := h.raiseAs ..

theorem raiseD (h : s.Rests t) (c : Code) (i : Nat) (p : Payload) : s.Rests (t.raiseD c i p) := h.raiseAs ..

theorem pmcAdd (h : s.Rests t) (n : Nat) (c : PmcCyc) : s.Rests (t.pmcAdd n c).1 :=
  h.trans ⟨fun a _ => t.rd_pmcAdd n c a, by simp, by simp, congrArg ModeSeq.mode (t.pmcAdd_seq n c)⟩

theorem pmcWrap (h : s.Rests t) (n : Nat) : s.Rests (t.pmcWrap n) := .raise (.rput h (R.PMC_OVF (n / 32)) _ _ (restingReg_pmcOvf _)) ..

theorem count (h : s.Rests t) (n c : Nat) : s.Rests (t.count n c) := by
  unfold State.count
  dsimp only
  repeat' split
  · exact h
  · exact .pmcWrap (.pmcAdd (.pmcWrap (.pmcAdd h ..) n) ..) _
  · exact .pmcAdd (.pmcWrap (.pmcAdd h ..) n) ..
  · exact .pmcAdd h ..

/-! The channels of a timer group that follow their commands (R316 to R319). -/

theorem chanFollow (h : s.Rests t) (c : Nat) : s.Rests (t.chanFollow c) := by
  unfold State.chanFollow
  dsimp only
  repeat' split
  · exact h
  · exact .setChan h ..
  · exact .setChan h ..
  · exact .count (.finc (.setChan h ..) (F.PWM_GRP_SWALLOW_CNT (legOf c).1) 1 (restingReg_grpSwallow (legOf c).1)) ..

theorem legConflict (h : s.Rests t) (g l kept : Nat) : s.Rests (t.legConflict g l kept) := by
  have hcount : s.Rests ((t.rput (R.PWM_GRP_STAT g) (8 + l) true).count (0x0E3 + 8 * g) 1) := .count (.rput h (R.PWM_GRP_STAT g) _ _ (restingReg_grpStat g)) ..
  unfold State.legConflict
  dsimp only
  split
  · exact .raise (.setLeg hcount ..) ..
  · exact .setLeg hcount ..

theorem legFollow (h : s.Rests t) (g l : Nat) : s.Rests (t.legFollow g l) := by
  have hchans : s.Rests ((t.chanFollow (chanOf g l 0)).chanFollow (chanOf g l 1)) := (h.chanFollow _).chanFollow _
  unfold State.legFollow
  dsimp only
  generalize (t.chanFollow (chanOf g l 0)).chanFollow (chanOf g l 1) = u at hchans ⊢
  split
  · split
    · exact hchans
    · exact .legConflict hchans ..
  · split
    · exact .setLeg hchans ..
    · exact hchans

theorem legsFollow (h : s.Rests t) (g l : Nat) : s.Rests (t.legsFollow g l) := by
  induction l with
  | zero => exact h
  | succ l ih => exact ih.legFollow g l

theorem grpFollow (h : s.Rests t) (g : Nat) : s.Rests (t.grpFollow g) := by
  unfold State.grpFollow
  split
  · exact h.chanFollow 12
  · exact h.legsFollow g _

theorem lgFollow (h : s.Rests t) : s.Rests t.lgFollow :=
  (((((h.grpFollow 5).grpFollow 6).grpFollow 7).grpFollow 8).grpFollow 9).grpFollow 10

theorem showOverride (h : s.Rests t) (g : Nat) : s.Rests (t.showOverride g) := by
  unfold State.showOverride
  exact .fset (.fset h (F.PWM_GRP_STAT_OVR_CODE g) _ (restingReg_grpStat g)) (F.PWM_GRP_STAT_OVR_SRC g) _ (restingReg_grpStat g)

theorem removePattern (h : s.Rests t) (g : Nat) : s.Rests (t.removePattern g) := by
  unfold State.removePattern
  dsimp only
  generalize (if (t.patternAsked g).1 = 0 then 0 else (t.grp g).pat) = pat
  split
  · exact h
  · exact .showOverride (.setGrp h ..) g

theorem removeStopped (h : s.Rests t) (old : State) (g : Nat) : s.Rests (t.removeStopped old g) := by
  induction g with
  | zero => exact h
  | succ g ih =>
    unfold State.removeStopped
    dsimp only
    split
    · exact .grpFollow (.removePattern ih g) g
    · exact ih

/-! The safety channels (R459 to R469). -/

theorem showA (h : s.Rests t) : s.Rests t.showA :=
  .removeStopped (.fput (.wr (.wr (.wr (.wr h R.SMA_STAT _ (by decide)) R.SMA_SPEED _ (by decide)) R.SMA_VDC _ (by decide))
    R.PWM_GLB_SAFE _ (by decide)) F.PWM_GLB_STAT_GD _ (by decide)) ..

theorem showB (h : s.Rests t) : s.Rests t.showB :=
  .wr (.wr (.wr (.wr h R.SMB_STAT _ (by decide)) R.SMB_SPEED _ (by decide)) R.SMB_VDC _ (by decide)) R.SMB_AMP _ (by decide)

theorem showChan (h : s.Rests t) (c : Chan) : s.Rests (t.showChan c) := by
  cases c with
  | smonA => exact h.showA
  | smonB => exact h.showB

theorem reselect (h : s.Rests t) (c : Chan) : s.Rests (t.reselect c) := by
  unfold State.reselect
  exact .showChan (.ite _ (.setSmon h ..) (.raiseAs (.setSmon h ..) ..)) c

theorem lvcOn (h : s.Rests t) : t.lvcOn = s.lvcOn := by
  have hst : t.lvcSt = s.lvcSt := congrArg (bits · 2 0) (h.rd R.LVC_STAT (by decide))
  simp only [State.lvcOn, hst]

/-- With the LV converter off, a change of mode asks nothing of it. -/
theorem lvcMode (h : s.Rests t) (hoff : s.lvcOn = false) : s.Rests t.lvcMode := by
  simpa [State.lvcMode, h.lvcOn, hoff] using h

theorem withSafe (h : s.Rests t) (f : Safe) : s.Rests { t with safe := f } := h.trans ⟨fun _ _ => rfl, rfl, rfl, rfl⟩

theorem supplyCut (h : s.Rests t) (hoff : s.lvcOn = false) : s.Rests (t.supplyCut none) := by
  unfold State.supplyCut
  dsimp only
  split
  · exact .withSafe h _
  · exact .lvcMode (.lgFollow (.raiseD (.fresh (.fput (.fput (.withSafe h _) F.SMB_STAT_CCUT _ (by decide)) F.SMB_STAT_ACUT _ (by decide))) ..)) hoff

/-- What the boot ROM finds of the flash goes to the NVC's registers and the journal (R622). -/
theorem flashFound (h : s.Rests t) (f : FlashBoot) : s.Rests (t.flashFound f) := by
  have hstat : s.Rests ((t.fset F.NVC_STAT_SIZE f.size.toNat).wr R.NVC_LOG_HEAD (w32 (0x03400000 + t.nvm.logHead))) :=
    .wr (.fset h F.NVC_STAT_SIZE _ (by decide)) R.NVC_LOG_HEAD _ (by decide)
  unfold State.flashFound
  dsimp only
  split
  · exact hstat
  · exact .raise (.fput hstat F.NVC_STAT_SLOW _ (by decide)) ..

end State.Rests

/-! ### The reset of a wake -/

/-- A sparse map without the keys that a test rejects. -/
theorem SMap.get_filter {V : Type} (d : Nat → V) (q : Nat → Bool) (m : SMap V) (k : Nat) :
    SMap.get d (m.filter fun p => q p.1) k = if q k then SMap.get d m k else d k := by
  induction m with
  | nil => simp
  | cons p m ih =>
    obtain ⟨j, v⟩ := p
    by_cases hj : q j = true
    · rw [List.filter_cons_of_pos (p := fun p : Nat × V => q p.1) hj]
      by_cases hk : k = j
      · subst hk
        simp [SMap.get, hj]
      · simpa [SMap.get, hk] using ih
    · rw [List.filter_cons_of_neg (p := fun p : Nat × V => q p.1) hj, ih]
      by_cases hk : k = j
      · subst hk
        simp [hj]
      · simp [SMap.get, hk]

/-- A wake's reset keeps the registers of the always-on domain (R29). -/
theorem State.rd_lCleared_wake (s : State) {a : Nat} (h : alwaysOn a = true) : (s.lCleared .wake false).rd a = s.rd a := by
  have hkept : keptReg true true a = true := by simp [keptReg, h]
  exact (SMap.get_filter RegMap.reset (keptReg true true) s.regs a).trans (if_pos hkept)

/-- It keeps the retained SRAM (R29). -/
theorem State.mget_lCleared_wake (s : State) {a : Nat} (hlo : 0x10C00000 ≤ a) (hhi : a < 0x10C40000) :
    (s.lCleared .wake false).mget a = s.mget a := by
  have hkept : keptMem true a = true := by simp [keptMem, hlo, hhi]
  exact (SMap.get_filter memDefault (keptMem true) s.mem a).trans (if_pos hkept)

/-- The LV converter is off after it. -/
theorem State.lvcOn_lCleared_wake (s : State) : (s.lCleared .wake false).lvcOn = false := by
  have hreset : (s.lCleared .wake false).rd R.LVC_STAT = RegMap.reset R.LVC_STAT :=
    (SMap.get_filter RegMap.reset (keptReg true true) s.regs R.LVC_STAT).trans (if_neg (by decide))
  have hst : (s.lCleared .wake false).lvcSt = 0 := (congrArg (bits · 2 0) hreset).trans (by decide)
  simp only [State.lvcOn, hst]
  rfl

/-- What a change of the mode does: the mode, and the record of it. -/
theorem State.setMode_frame (s : State) (m : Mode) (sub : Sub) (why : BitVec 16) :
    (s.setMode m sub why).seq.mode = m ∧ (s.setMode m sub why).mem = s.mem ∧ (s.setMode m sub why).clave = s.clave ∧
      ∀ a, a ≠ R.JRN_STATUS → (s.setMode m sub why).rd a = s.rd a := by
  unfold State.setMode
  split
  · next h => exact ⟨h.1, rfl, rfl, fun _ _ => rfl⟩
  · exact ⟨by simp, by simp [State.raise], by simp [State.raise], fun a ha => State.rd_raise _ _ _ _ ha⟩

/-- The state of a wake's reset before the mode changes to ARMING. -/
def State.wakeCleared (s : State) : State :=
  let s1 := s.lCleared .wake false
  let s2 := (s1.wr R.JRN_OLDEST_SEQ (s1.rd R.JRN_NEXT_SEQ)).wr R.SYS_RESET_CAUSE (w32 (ResetKind.wake).num)
  let s3 := s2.fset F.JRN_STATUS_OVERRUN 0
  let s4 := ((s3.wr (R.SMB_WD_CHAL 0) 0).wr (R.SMB_WD_CHAL 1) 0).wr (R.SMB_WD_CHAL 2) 0
  let s5 := ((s4.wr (R.SMB_WD_STAT 0) 0).wr (R.SMB_WD_STAT 1) 0).wr (R.SMB_WD_STAT 2) 0
  if s.clocks.xtal32 then s5.fput F.CLV_STATUS_XTAL32_FB true else s5

/-- What the reset of a wake writes leaves the resting registers alone. -/
theorem State.rests_wakeCleared (s : State) : (s.lCleared .wake false).Rests s.wakeCleared := by
  have hcause := ((State.Rests.refl (s.lCleared .wake false)).wr R.JRN_OLDEST_SEQ ((s.lCleared .wake false).rd R.JRN_NEXT_SEQ) (by decide)).wr
    R.SYS_RESET_CAUSE (w32 (ResetKind.wake).num) (by decide)
  have hjrn := hcause.fset F.JRN_STATUS_OVERRUN 0 (by decide)
  have hchal := ((hjrn.wr (R.SMB_WD_CHAL 0) 0 (by decide)).wr (R.SMB_WD_CHAL 1) 0 (by decide)).wr (R.SMB_WD_CHAL 2) 0 (by decide)
  have hstat := ((hchal.wr (R.SMB_WD_STAT 0) 0 (by decide)).wr (R.SMB_WD_STAT 1) 0 (by decide)).wr (R.SMB_WD_STAT 2) 0 (by decide)
  exact .ite _ (hstat.fput F.CLV_STATUS_XTAL32_FB true (by decide)) hstat

theorem State.lPulse_wake (s : State) (f : FlashBoot) :
    s.lPulse .wake false f =
      ((((s.wakeCleared.setMode .arming .full 0).supplyCut none).showA.reselect .smonB).cutAfterReset).flashFound f := rfl

/-- A wake's reset ends in ARMING (R44, R116), with the always-on registers, the retained SRAM and Clave as they were. -/
theorem State.lPulse_wake_frame (s : State) (f : FlashBoot) :
    (s.lPulse .wake false f).seq.mode = .arming ∧ (s.lPulse .wake false f).clave = s.clave ∧
      (∀ a, alwaysOn a = true → a ≠ R.SYS_RESET_CAUSE → (s.lPulse .wake false f).rd a = s.rd a) ∧
      ∀ a, 0x10C00000 ≤ a → a < 0x10C40000 → (s.lPulse .wake false f).mget a = s.mget a := by
  obtain ⟨hmode, hmem, hclave, hrd⟩ := s.wakeCleared.setMode_frame .arming .full 0
  have hrd' {a : Nat} (ha : restingReg a = true) : (s.wakeCleared.setMode .arming .full 0).rd a = (s.lCleared .wake false).rd a := by
    rw [hrd a fun e => absurd (e ▸ ha) (by decide), s.rests_wakeCleared.rd a ha]
  have hoff : (s.wakeCleared.setMode .arming .full 0).lvcOn = false := by
    have hst : (s.wakeCleared.setMode .arming .full 0).lvcSt = (s.lCleared .wake false).lvcSt := congrArg (bits · 2 0) (hrd' (a := R.LVC_STAT) (by decide))
    rw [← s.lvcOn_lCleared_wake]
    simp only [State.lvcOn, hst]
  have hend : (s.wakeCleared.setMode .arming .full 0).Rests (s.lPulse .wake false f) := by
    rw [s.lPulse_wake f]
    exact .flashFound (.withSafe (.reselect (.showA (.supplyCut (.refl _) hoff)) .smonB) _) f
  refine ⟨hend.mode.trans hmode, ?_, fun a ha hne => ?_, fun a hlo hhi => ?_⟩
  · rw [hend.clave, hclave, s.rests_wakeCleared.clave]; rfl
  · have hrest : restingReg a = true := by simp [restingReg, ha, hne]
    rw [hend.rd a hrest, hrd' hrest, s.rd_lCleared_wake ha]
  · rw [← s.mget_lCleared_wake hlo hhi]
    simp only [State.mget, hend.mem, hmem, s.rests_wakeCleared.mem]

/-- A wake goes on from its reset, waking. -/
theorem State.wakeUp_frame (s : State) (f : FlashBoot) :
    (s.wakeUp f).seq.mode = .arming ∧ (s.wakeUp f).seq.waking = true ∧ (s.wakeUp f).clave = s.clave ∧
      (∀ a, alwaysOn a = true → a ≠ R.SYS_RESET_CAUSE → (s.wakeUp f).rd a = s.rd a) ∧
      ∀ a, 0x10C00000 ≤ a → a < 0x10C40000 → (s.wakeUp f).mget a = s.mget a := by
  obtain ⟨hmode, hclave, hrd, hmem⟩ := s.lPulse_wake_frame f
  unfold State.wakeUp
  dsimp only
  split
  · exact ⟨hmode, rfl, hclave, hrd, hmem⟩
  · exact ⟨hmode, rfl, hclave, hrd, hmem⟩

/-! ### The alarm (R45) -/

/-- The alarm has fired: FIRED is set, and it is no longer armed. -/
def State.alarmFired (s : State) : State := ({ s with clv.alarmArmed := false }).fput F.CLV_ALARM_CTRL_FIRED true

theorem State.alarmFire_reached {s : State} (f : FlashBoot) (hen : s.fbit F.CLV_ALARM_CTRL_EN = true) (harmed : s.clv.alarmArmed = true)
    (hreached : s.clv.alarm.toNat ≤ s.now) : s.alarmFire f = s.alarmFired.wakeBy .alarm f :=
  if_pos (by simp [hen, harmed, hreached])

theorem State.rd_alarmFired_of_ne (s : State) {a : Nat} (h : a ≠ R.CLV_ALARM_CTRL) : s.alarmFired.rd a = s.rd a :=
  State.rd_fput_of_ne _ F.CLV_ALARM_CTRL_FIRED _ h

theorem State.fbit_fired_alarmFired (s : State) : s.alarmFired.fbit F.CLV_ALARM_CTRL_FIRED = true :=
  State.fbit_fput _ _ _ (by decide) (by decide)

/-- Firing changes no enable of a wake. -/
theorem State.wakeEnabled_alarmFired (s : State) (w : WakeSrc) : s.alarmFired.wakeEnabled w = s.wakeEnabled w := by
  have hwake : s.alarmFired.fbit F.CLV_ALARM_CTRL_WAKE = s.fbit F.CLV_ALARM_CTRL_WAKE :=
    State.fbit_fset _ F.CLV_ALARM_CTRL_FIRED F.CLV_ALARM_CTRL_WAKE _ (by decide) (by decide)
  have hen : s.alarmFired.rd R.SYS_WAKE_EN = s.rd R.SYS_WAKE_EN := s.rd_alarmFired_of_ne (by decide)
  simp only [State.wakeEnabled, State.rbit, hwake, hen]

/-- A source of a wake is recorded in SYS_WAKE_SRC alone (R102). -/
theorem State.rd_wakeSeen_of_ne (s : State) (w : WakeSrc) (first : Bool) {a : Nat} (h : a ≠ R.SYS_WAKE_SRC) :
    (s.wakeSeen w first).rd a = s.rd a := by
  have hseen : (s.rput R.SYS_WAKE_SRC (8 + wakeBit w) true).rd a = s.rd a := State.rd_rput_of_ne _ _ _ _ h
  cases first with
  | false => exact hseen
  | true => exact (State.rd_fset_of_ne _ F.SYS_WAKE_SRC_FIRST _ h).trans hseen

/-- FIRST names the source that began the wake (R102). -/
theorem State.fget_first_wakeSeen (s : State) (w : WakeSrc) : (s.wakeSeen w true).fget F.SYS_WAKE_SRC_FIRST = wakeBit w + 1 := by
  have hcode : wakeBit w + 1 < 2 ^ 3 := by cases w <;> decide
  have hbits : ∀ i, i < 3 → (RegMap.impl R.SYS_WAKE_SRC).getLsbD i = true := by decide
  exact State.fget_fset_self _ F.SYS_WAKE_SRC_FIRST hcode (by decide) fun i _ hi => hbits i (Nat.lt_succ_of_le hi)

/-- In DORMANT with its rails off, an enabled source wakes (R101, R102). -/
theorem State.wakeBy_dormant {s : State} {w : WakeSrc} (f : FlashBoot) (hen : s.wakeEnabled w = true) (hmode : s.seq.mode = .dormant)
    (hentry : s.seq.entry = .off) : s.wakeBy w f = (s.wakeSeen w true).wakeUp f := by
  have hin : s.inMode .dormant = true := by rw [State.inMode, hmode]; rfl
  simp [State.wakeBy, hen, hin, hentry]

/-- Outside DORMANT and a wake, or not enabled, a source wakes nothing. -/
theorem State.wakeBy_idle {s : State} {w : WakeSrc} (f : FlashBoot) (h : (s.seq.mode ≠ .dormant ∧ s.seq.waking = false) ∨ s.wakeEnabled w = false) :
    s.wakeBy w f = s := by
  rcases h with ⟨hmode, hwaking⟩ | hen
  · have hin : s.inMode .dormant = false := by
      cases hm : s.seq.mode with
      | dormant => exact absurd hm hmode
      | arming | drive | charge | service | safeHold => rw [State.inMode, hm]; rfl
    simp [State.wakeBy, hin, hwaking]
  · simp [State.wakeBy, hen]

/-- The alarm reached in DORMANT wakes where its wake is enabled (R45). -/
theorem clvAlarmFire_wakes {s : State} (hen : s.fbit F.CLV_ALARM_CTRL_EN = true) (harmed : s.clv.alarmArmed = true)
    (hreached : s.clv.alarm.toNat ≤ s.now) (hmode : s.seq.mode = .dormant) (hentry : s.seq.entry = .off) (hwake : s.wakeEnabled .alarm = true) :
    ∃ t, exec .clvAlarmFire s = .next t ∧ t.seq.mode = .arming ∧ t.seq.waking = true ∧ t.fbit F.CLV_ALARM_CTRL_FIRED = true ∧
      t.fget F.SYS_WAKE_SRC_FIRST = 5 ∧ t.clave = s.clave ∧
      (∀ a, alwaysOn a = true → a ∉ [R.SYS_RESET_CAUSE, R.SYS_WAKE_SRC, R.CLV_ALARM_CTRL] → t.rd a = s.rd a) ∧
      ∀ a, 0x10C00000 ≤ a → a < 0x10C40000 → t.mget a = s.mget a := by
  let s1 := s.freeBoot.2
  let s2 := s1.alarmFired.wakeSeen .alarm true
  have hexec : exec .clvAlarmFire s = .next (s2.wakeUp s.freeBoot.1) := by
    change Host.Outcome.next (s1.alarmFire s.freeBoot.1) = _
    rw [State.alarmFire_reached (s := s1) _ hen harmed hreached,
      State.wakeBy_dormant (s := s1.alarmFired) _ ((s1.wakeEnabled_alarmFired .alarm).trans hwake) hmode hentry]
  obtain ⟨hmode', hwaking, hclave, hrd, hmem⟩ := s2.wakeUp_frame s.freeBoot.1
  refine ⟨_, hexec, hmode', hwaking, ?_, ?_, hclave, fun a ha hne => ?_, hmem⟩
  · have hctrl : (s2.wakeUp s.freeBoot.1).rd R.CLV_ALARM_CTRL = s1.alarmFired.rd R.CLV_ALARM_CTRL :=
      (hrd _ (by decide) (by decide)).trans (State.rd_wakeSeen_of_ne _ _ _ (by decide))
    exact (congrArg (·.getLsbD 2) hctrl).trans s1.fbit_fired_alarmFired
  · exact (congrArg (bits · 2 0) (hrd R.SYS_WAKE_SRC (by decide) (by decide))).trans (s1.alarmFired.fget_first_wakeSeen .alarm)
  · simp only [List.mem_cons, List.not_mem_nil, or_false, not_or] at hne
    obtain ⟨hcause, hsrc, hctrl⟩ := hne
    rw [hrd a ha hcause, State.rd_wakeSeen_of_ne _ _ _ hsrc, State.rd_alarmFired_of_ne _ hctrl]
    rfl

/-- The alarm reached fires once and shows FIRED (R45). -/
theorem clvAlarmFire_shows {s : State} (hen : s.fbit F.CLV_ALARM_CTRL_EN = true) (harmed : s.clv.alarmArmed = true)
    (hreached : s.clv.alarm.toNat ≤ s.now) (hidle : (s.seq.mode ≠ .dormant ∧ s.seq.waking = false) ∨ s.wakeEnabled .alarm = false) :
    ∃ t, exec .clvAlarmFire s = .next t ∧ t.fbit F.CLV_ALARM_CTRL_FIRED = true ∧ t.clv.alarmArmed = false ∧
      SameRegs s t [R.CLV_ALARM_CTRL] ∧ SameMem s t := by
  let s1 := s.freeBoot.2
  have hidle' : (s1.alarmFired.seq.mode ≠ .dormant ∧ s1.alarmFired.seq.waking = false) ∨ s1.alarmFired.wakeEnabled .alarm = false :=
    hidle.imp_right (s1.wakeEnabled_alarmFired .alarm).trans
  have hexec : exec .clvAlarmFire s = .next s1.alarmFired := by
    change Host.Outcome.next (s1.alarmFire s.freeBoot.1) = _
    rw [State.alarmFire_reached (s := s1) _ hen harmed hreached, State.wakeBy_idle _ hidle']
  exact ⟨_, hexec, s1.fbit_fired_alarmFired, rfl, fun a ha _ => s1.rd_alarmFired_of_ne (List.ne_of_not_mem_cons ha), fun _ => rfl⟩

/-- Settles O13: the alarm's two clauses, its two writes, a periodic and its period, the lock, the rate limit and the mapping, each a lemma above. -/
theorem claveEvents : Obligations.ClaveEvents :=
  ⟨fun _ hen harmed hreached hmode hentry hwake => clvAlarmFire_wakes hen harmed hreached hmode hentry hwake,
    fun _ hen harmed hreached hidle => clvAlarmFire_shows hen harmed hreached hidle,
    fun _ _ v h => clvAlarmRearm_hi v h,
    fun _ _ _ h hen hv => clvAlarmRearm_en h hen hv,
    fun _ _ _ hen htarget hper hlive hdue => clvPeriodic_raises hen htarget hper hlive hdue,
    fun _ _ n v h => clvPerPeriodWrite_stores n v h,
    fun _ hlocked hlate hroom => clvSyncTimeout_unlocks hlocked hlate hroom,
    fun _ _ hrole hover hroom => clvRateLimit_holds hrole hover hroom,
    fun _ _ v h => clvPtpRateWrite_maps v h⟩

end Sys2Proof.Machine

/-! Requests of the self-tests (R111 to R115): the branches of `testReq`, what each shows in SYS_TEST_STAT and SYS_TEST_QUEUE, and the write that carries a request there. -/

namespace Sys2Proof.Machine

/-! ### Fields of one register -/

/-- A field keeps its number when a field beside it in the register is written. -/
theorem State.fget_fset_of_disjoint (s : State) (f g : Fld) (n : Nat) (hdisj : g.hi < f.lo ∨ f.hi < g.lo)
    (himpl : ∀ i, g.lo ≤ i → i ≤ g.hi → (RegMap.impl g.addr).getLsbD i = true) : (s.fset f n).fget g = s.fget g := by
  refine bits_congr fun i hlo hhi => ?_
  rw [State.rd_fset]
  split
  · next ha =>
    have hout : ¬ (f.lo ≤ i ∧ i ≤ f.hi) := by omega
    have hm := himpl i hlo hhi
    rw [ha] at hm ⊢
    simp [getLsbD_putBits, hm]
    omega
  · rfl

/-- A bit that its register has holds what is stored in it. -/
theorem State.rbit_rput_self (s : State) {a i : Nat} (b : Bool) (himpl : (RegMap.impl a).getLsbD i = true) : (s.rput a i b).rbit a i = b :=
  s.fbit_fput ⟨a, i, i⟩ b rfl himpl

/-! ### The answer to a request (R112, R115) -/

section
variable (s : State) (k st : Nat) (b : Bool)

theorem State.fget_status_testStat {st : Nat} (h : st < 8) : (s.testStat k st).fget F.SYS_TEST_STAT_STATUS = st := by
  have hbits : ∀ i, i < 7 → 4 ≤ i → (RegMap.impl R.SYS_TEST_STAT).getLsbD i = true := by decide
  have himpl : ∀ i, F.SYS_TEST_STAT_STATUS.lo ≤ i → i ≤ F.SYS_TEST_STAT_STATUS.hi → (RegMap.impl F.SYS_TEST_STAT_STATUS.addr).getLsbD i = true :=
    fun i hlo hhi => hbits i (Nat.lt_succ_of_le hhi) hlo
  exact (State.fget_fset_of_disjoint _ F.SYS_TEST_STAT_TEST F.SYS_TEST_STAT_STATUS k (by decide) himpl).trans
    (s.fget_fset_self F.SYS_TEST_STAT_STATUS h (by decide) himpl)

theorem State.fget_test_testStat {k : Nat} (h : k < 4) : (s.testStat k st).fget F.SYS_TEST_STAT_TEST = k := by
  have hbits : ∀ i, i < 2 → (RegMap.impl R.SYS_TEST_STAT).getLsbD i = true := by decide
  exact State.fget_fset_self _ F.SYS_TEST_STAT_TEST h (by decide) fun i _ hhi => hbits i (Nat.lt_succ_of_le hhi)

theorem State.rd_testStat_of_ne {a : Nat} (h : a ≠ R.SYS_TEST_STAT) : (s.testStat k st).rd a = s.rd a :=
  (State.rd_fset_of_ne _ F.SYS_TEST_STAT_TEST _ h).trans (s.rd_fset_of_ne F.SYS_TEST_STAT_STATUS _ h)

@[simp] theorem State.testStat_jrn : (s.testStat k st).jrn = s.jrn := rfl

theorem State.rd_testQueue_of_ne {a : Nat} (h : a ≠ R.SYS_TEST_QUEUE) : (s.testQueue k b).rd a = s.rd a := s.rd_wr_of_ne _ h

/-- The queue has a bit for each test (R113). -/
theorem State.rbit_testQueue {k : Nat} (h : k < 4) : (s.testQueue k b).rbit R.SYS_TEST_QUEUE k = b := by
  have hbits : ∀ i, i < 4 → (RegMap.impl R.SYS_TEST_QUEUE).getLsbD i = true := by decide
  exact s.rbit_rput_self b (hbits k h)

/-- A test that runs at once is noted as the one that runs, the brake-chopper's with its start (R111, R244). -/
theorem State.testRun_frame : (∀ a, (s.testRun k).rd a = (s.testStat k 1).rd a) ∧ (s.testRun k).mem = s.mem ∧
    (s.testRun k).seq.test = some (if k = 3 then 3 else 0) ∧ (k = 3 → (s.testRun k).tmu.bcTest = some s.time) := by
  unfold State.testRun
  dsimp only
  split
  · exact ⟨fun _ => rfl, rfl, rfl, fun _ => rfl⟩
  · next hk => exact ⟨fun _ => rfl, rfl, rfl, fun h => absurd h hk⟩

end

/-! ### The branches of a request -/

section
variable {s : State} {k : Nat}

/-- A request while another test runs is answered BUSY (R115). -/
theorem State.testReq_busy {r : Fin 4} (hr : s.testOn r.val = true) (hk : k ≠ r.val) : s.testReq k = s.testStat k 5 := by
  have hother : ([0, 1, 2, 3].any fun r => r != k && s.testOn r) = true :=
    List.any_eq_true.mpr ⟨r.val, by have := r.isLt; simp; omega, by simp [hr, Ne.symm hk]⟩
  rw [State.testReq, if_pos hother]

/-- Where no other test runs, a request meets the conditions of R113 in their order. -/
theorem State.testReq_alone (h : ∀ r : Fin 4, r.val ≠ k → s.testOn r.val = false) :
    s.testReq k =
      if (s.fget F.SYS_TEST_QUEUE_Q).testBit k then s.testStat k 4
      else if s.testOn k then s.testStat k 1
      else if s.inMode .drive || s.inMode .charge || s.inMode .safeHold then
        ((s.testStat k 4).testQueue k true).raise C.TEST_REFUSED 0 { w0 := bytes4 k s.seq.mode.code 0 0 }
      else if k = 1 || k = 2 then (s.testStat k 6).testQueue k true
      else s.testRun k := by
  have hnone : ¬ ([0, 1, 2, 3].any fun r => r != k && s.testOn r) = true := by
    rw [List.any_eq_true]
    rintro ⟨r, hr, hon⟩
    have hlt : r < 4 := by simp at hr; omega
    simp only [Bool.and_eq_true, bne_iff_ne] at hon
    exact Bool.noConfusion ((h ⟨r, hlt⟩ hon.1).symm.trans hon.2)
  rw [State.testReq, if_neg hnone]

/-- One whose queue bit is set is refused and stays queued once (R113). -/
theorem State.testReq_queued (h : ∀ r : Fin 4, r.val ≠ k → s.testOn r.val = false) (hq : (s.fget F.SYS_TEST_QUEUE_Q).testBit k = true) :
    s.testReq k = s.testStat k 4 := by
  rw [State.testReq_alone h, if_pos hq]

variable (hk : k < 4) (hno : s.noTest) (hq : (s.fget F.SYS_TEST_QUEUE_Q).testBit k = false)
include hk hno hq

/-- With no test running and the queue bit clear, the mode decides, then the test. -/
theorem State.testReq_free :
    s.testReq k =
      if s.inMode .drive || s.inMode .charge || s.inMode .safeHold then
        ((s.testStat k 4).testQueue k true).raise C.TEST_REFUSED 0 { w0 := bytes4 k s.seq.mode.code 0 0 }
      else if k = 1 || k = 2 then (s.testStat k 6).testQueue k true
      else s.testRun k := by
  rw [State.testReq_alone fun r _ => hno r, if_neg (by simp [hq]), if_neg (by simp [hno ⟨k, hk⟩])]

/-- In DRIVE it is queued, refused and journalled (R113). -/
theorem State.testReq_drive (hm : s.seq.mode = .drive) :
    s.testReq k = ((s.testStat k 4).testQueue k true).raise C.TEST_REFUSED 0 { w0 := bytes4 k 2 0 0 } := by
  have hin : s.inMode .drive = true := by rw [State.inMode, hm]; rfl
  rw [State.testReq_free hk hno hq, if_pos (by simp [hin]), hm]
  rfl

/-- In ARMING and SERVICE tests 1 and 2 wait for the next boot, 0 and 3 run at once (R111). -/
theorem State.testReq_permitted (hm : s.seq.mode = .arming ∨ s.seq.mode = .service) :
    s.testReq k = if k = 1 || k = 2 then (s.testStat k 6).testQueue k true else s.testRun k := by
  have hout : ¬ (s.inMode .drive || s.inMode .charge || s.inMode .safeHold) = true := by
    rcases hm with hm | hm <;> simp [State.inMode, hm]
  rw [State.testReq_free hk hno hq, if_neg hout]

end

/-! ### The write of SYS_TEST_REQ -/

/-- The end of a granted write whose effect leaves `e`: a good answer, and its place among the writes `w` of its cycle. -/
def State.ended (e : State) (w : List BusWrite) : State := { e.busOk 0 with writes := w }

@[simp] theorem State.ended_seq (e : State) (w : List BusWrite) : (e.ended w).seq = e.seq := rfl
@[simp] theorem State.ended_tmu (e : State) (w : List BusWrite) : (e.ended w).tmu = e.tmu := rfl
@[simp] theorem State.ended_rbit (e : State) (w : List BusWrite) (a i : Nat) : (e.ended w).rbit a i = e.rbit a i := rfl

theorem Journaled.ended {s e : State} {c : Code} {i : Nat} {p : Payload} (h : Journaled s e c i p) (w : List BusWrite) :
    Journaled s (e.ended w) c i p := h

/-- A granted write ends well in the state its effect in the block leaves. -/
theorem State.wrote_granted_eq {s e : State} {m : Master} {a : Nat} {v : Word} (h : s.grants m a)
    (he : (s.atWrite m a).route (s.writer m 0) a v = e) : ∃ w, s.wrote m a v = .next (e.ended w) := by
  obtain ⟨w, hw⟩ := State.put_granted s (v := v) h
  rw [he] at hw
  exact ⟨w, congrArg _ hw⟩

/-- The state in which a request takes effect runs the same tests. -/
theorem State.testOn_atWrite (s : State) (m : Master) (a k : Nat) : (s.atWrite m a).testOn k = s.testOn k := by
  simp [State.testOn, State.diagRoutine, State.inMode]

theorem State.route_testReq (s : State) (w : WriteBy) (v : Word) : s.route w R.SYS_TEST_REQ v = s.testReq (bits v 1 0) := rfl

/-- A request that is granted ends well with what `testReq` does. -/
theorem exec_testRequest {s : State} {m : Master} {c : Instr} {k : Nat} (hc : IsTestRequest c m k) (h : s.grants m R.SYS_TEST_REQ) :
    ∃ w, exec c s = .next (((s.atWrite m R.SYS_TEST_REQ).testReq k).ended w) := by
  obtain ⟨rfl, rfl⟩ | ⟨rfl, rfl⟩ | ⟨rfl, rfl⟩ | ⟨rfl, rfl⟩ := hc
  · exact State.wrote_granted_eq h (State.route_testReq ..)
  · exact State.wrote_granted_eq h (State.route_testReq ..)
  · exact State.wrote_granted_eq h (State.route_testReq ..)
  · exact State.wrote_granted_eq h (State.route_testReq ..)

/-- The end of a request of test `k`: a good answer, `st` for it in SYS_TEST_STAT, and the registers outside `l` and the memory as they were. -/
structure State.AnswersTest (s t : State) (k st : Nat) (l : List Nat) : Prop where
  answered : t.answered 0
  status : t.fget F.SYS_TEST_STAT_STATUS = st
  test : t.fget F.SYS_TEST_STAT_TEST = k
  regs : SameRegs s t l
  mem : SameMem s t

/-- What shows a test's answer in SYS_TEST_STAT, and else changes only registers of `l`, answers a request of it. -/
theorem State.AnswersTest.of_testStat {s e : State} {m : Master} {k st : Nat} {l : List Nat} (w : List BusWrite) (hk : k < 4) (hst : st < 8)
    (hstat : R.SYS_TEST_STAT ∉ l) (hmem : e.mem = s.mem)
    (hrd : ∀ a, a ∉ l → a ≠ R.JRN_STATUS → e.rd a = ((s.atWrite m R.SYS_TEST_REQ).testStat k st).rd a) :
    s.AnswersTest (e.ended w) k st (R.SYS_TEST_STAT :: l) := by
  have hshown := hrd R.SYS_TEST_STAT hstat (by decide)
  refine ⟨rfl, (congrArg (bits · 6 4) hshown).trans (State.fget_status_testStat _ _ hst),
    (congrArg (bits · 1 0) hshown).trans (State.fget_test_testStat _ _ hk), fun a ha hj => ?_, fun a => congrArg (SMap.get memDefault · a) hmem⟩
  obtain ⟨hne, hl⟩ := List.ne_and_not_mem_of_not_mem_cons ha
  exact (hrd a hl (ne_jrnStatus_of_not_journalRegs hj)).trans ((State.rd_testStat_of_ne _ _ _ hne).trans (s.rd_atWrite ..))

theorem State.mem_atWrite (s : State) (m : Master) (a : Nat) : (s.atWrite m a).mem = s.mem := by simp

theorem State.seq_atWrite (s : State) (m : Master) (a : Nat) : (s.atWrite m a).seq = s.seq := by simp

theorem State.fget_atWrite (s : State) (m : Master) (a : Nat) (f : Fld) : (s.atWrite m a).fget f = s.fget f := by simp

theorem State.noTest.atWrite {s : State} (h : s.noTest) (m : Master) (a : Nat) : (s.atWrite m a).noTest :=
  fun r => (s.testOn_atWrite m a r.val).trans (h r)

theorem IsTestRequest.lt {m : Master} {c : Instr} {k : Nat} (hc : IsTestRequest c m k) : k < 4 := by
  obtain ⟨-, rfl⟩ | ⟨-, rfl⟩ | ⟨-, rfl⟩ | ⟨-, rfl⟩ := hc <;> decide

section
variable {s : State} {m : Master} {c : Instr} {k : Nat} (hc : IsTestRequest c m k) (h : s.grants m R.SYS_TEST_REQ)
include hc h

/-- A request that only shows its answer starts no test. -/
theorem testRequest_shown {st : Nat} (hst : st < 8)
    (he : (s.atWrite m R.SYS_TEST_REQ).testReq k = (s.atWrite m R.SYS_TEST_REQ).testStat k st) :
    ∃ t, exec c s = .next t ∧ t.answered 0 ∧ t.fget F.SYS_TEST_STAT_STATUS = st ∧ t.fget F.SYS_TEST_STAT_TEST = k ∧ t.seq.test = s.seq.test ∧
      SameRegs s t [R.SYS_TEST_STAT] ∧ SameMem s t := by
  obtain ⟨w, hexec⟩ := exec_testRequest hc h
  rw [he] at hexec
  obtain ⟨hans, hstatus, htest, hregs, hmem⟩ :=
    State.AnswersTest.of_testStat (e := (s.atWrite m R.SYS_TEST_REQ).testStat k st) (l := []) w hc.lt hst (by simp) (s.mem_atWrite m _)
      fun _ _ _ => rfl
  exact ⟨_, hexec, hans, hstatus, htest, congrArg ModeSeq.test (s.seq_atWrite m _), hregs, hmem⟩

/-- Another test runs: BUSY, and nothing is queued (R115). -/
theorem testRequest_busy {r : Fin 4} (hr : s.testOn r.val = true) (hk : k ≠ r.val) :
    ∃ t, exec c s = .next t ∧ t.answered 0 ∧ t.fget F.SYS_TEST_STAT_STATUS = 5 ∧ t.fget F.SYS_TEST_STAT_TEST = k ∧ t.seq.test = s.seq.test ∧
      SameRegs s t [R.SYS_TEST_STAT] ∧ SameMem s t :=
  testRequest_shown hc h (by decide) (State.testReq_busy ((s.testOn_atWrite ..).trans hr) hk)

/-- The test is queued already: refused, and queued once (R113). -/
theorem testRequest_queued (hno : ∀ r : Fin 4, r.val ≠ k → s.testOn r.val = false) (hq : (s.fget F.SYS_TEST_QUEUE_Q).testBit k = true) :
    ∃ t, exec c s = .next t ∧ t.answered 0 ∧ t.fget F.SYS_TEST_STAT_STATUS = 4 ∧ t.fget F.SYS_TEST_STAT_TEST = k ∧ t.seq.test = s.seq.test ∧
      SameRegs s t [R.SYS_TEST_STAT] ∧ SameMem s t :=
  testRequest_shown hc h (by decide)
    (State.testReq_queued (fun r hne => (s.testOn_atWrite ..).trans (hno r hne)) (by rwa [State.fget_atWrite]))

variable (hno : s.noTest) (hq : (s.fget F.SYS_TEST_QUEUE_Q).testBit k = false)
include hno hq

/-- Tests 1 and 2 wait for the next boot (R111). -/
theorem testRequest_waits (hk : k = 1 ∨ k = 2) (hm : s.seq.mode = .arming ∨ s.seq.mode = .service) :
    ∃ t, exec c s = .next t ∧ t.answered 0 ∧ t.rbit R.SYS_TEST_QUEUE k = true ∧ t.fget F.SYS_TEST_STAT_STATUS = 6 ∧
      t.fget F.SYS_TEST_STAT_TEST = k ∧ SameRegs s t [R.SYS_TEST_STAT, R.SYS_TEST_QUEUE] ∧ SameMem s t := by
  obtain ⟨w, hexec⟩ := exec_testRequest hc h
  rw [State.testReq_permitted hc.lt (hno.atWrite m _) (by rwa [State.fget_atWrite]) (by rwa [State.seq_atWrite]), if_pos (by simpa using hk)] at hexec
  obtain ⟨hans, hstatus, htest, hregs, hmem⟩ :=
    State.AnswersTest.of_testStat (e := ((s.atWrite m R.SYS_TEST_REQ).testStat k 6).testQueue k true) (l := [R.SYS_TEST_QUEUE]) w hc.lt
      (by decide) (by decide) (s.mem_atWrite m _) fun a ha _ => State.rd_testQueue_of_ne _ k true (List.ne_of_not_mem_cons ha)
  exact ⟨_, hexec, hans, (State.ended_rbit ..).trans (State.rbit_testQueue _ true hc.lt), hstatus, htest, hregs, hmem⟩

/-- Tests 0 and 3 run at once (R111). -/
theorem testRequest_runs (hk : k = 0 ∨ k = 3) (hm : s.seq.mode = .arming ∨ s.seq.mode = .service) :
    ∃ t, exec c s = .next t ∧ t.answered 0 ∧ t.seq.test = some (if k = 3 then 3 else 0) ∧ (k = 3 → t.tmu.bcTest = some s.time) ∧
      t.fget F.SYS_TEST_STAT_STATUS = 1 ∧ t.fget F.SYS_TEST_STAT_TEST = k ∧ SameRegs s t [R.SYS_TEST_STAT] ∧ SameMem s t := by
  obtain ⟨w, hexec⟩ := exec_testRequest hc h
  rw [State.testReq_permitted hc.lt (hno.atWrite m _) (by rwa [State.fget_atWrite]) (by rwa [State.seq_atWrite]),
    if_neg (by rcases hk with rfl | rfl <;> decide)] at hexec
  obtain ⟨hrd, hmem', htest', hbc⟩ := (s.atWrite m R.SYS_TEST_REQ).testRun_frame k
  obtain ⟨hans, hstatus, htest, hregs, hmem⟩ :=
    State.AnswersTest.of_testStat (e := (s.atWrite m R.SYS_TEST_REQ).testRun k) (l := []) w hc.lt (by decide) (by simp)
      (hmem'.trans (s.mem_atWrite m _)) fun a _ _ => hrd a
  exact ⟨_, hexec, hans, by rwa [State.ended_seq], fun hk => by simpa using hbc hk, hstatus, htest, hregs, hmem⟩

/-- In DRIVE a test is queued, refused and journalled (R113). -/
theorem testRequest_drive (hm : s.seq.mode = .drive) (hroom : s.room 4) :
    ∃ t, exec c s = .next t ∧ t.answered 0 ∧ t.seq.test = s.seq.test ∧ t.rbit R.SYS_TEST_QUEUE k = true ∧ t.fget F.SYS_TEST_STAT_STATUS = 4 ∧
      Journaled s t C.TEST_REFUSED 0 { w0 := bytes4 k 2 0 0 } ∧ SameRegs s t [R.SYS_TEST_STAT, R.SYS_TEST_QUEUE] ∧ SameMem s t := by
  let u := ((s.atWrite m R.SYS_TEST_REQ).testStat k 4).testQueue k true
  obtain ⟨w, hexec⟩ := exec_testRequest hc h
  rw [State.testReq_drive hc.lt (hno.atWrite m _) (by rwa [State.fget_atWrite]) (by rwa [State.seq_atWrite])] at hexec
  have hjrn : Journaled s (u.raise C.TEST_REFUSED 0 { w0 := bytes4 k 2 0 0 }) C.TEST_REFUSED 0 { w0 := bytes4 k 2 0 0 } :=
    Journaled.of_raise (by simp [u, State.testQueue, State.rput]) hroom.one
  obtain ⟨hans, hstatus, -, hregs, hmem⟩ :=
    State.AnswersTest.of_testStat (e := u.raise C.TEST_REFUSED 0 { w0 := bytes4 k 2 0 0 }) (l := [R.SYS_TEST_QUEUE]) w hc.lt (by decide)
      (by decide) ((State.raise_mem ..).trans (s.mem_atWrite m _)) fun a ha hj =>
        (u.rd_raise C.TEST_REFUSED 0 { w0 := bytes4 k 2 0 0 } hj).trans (State.rd_testQueue_of_ne _ k true (List.ne_of_not_mem_cons ha))
  have hqueue : (u.raise C.TEST_REFUSED 0 { w0 := bytes4 k 2 0 0 }).rbit R.SYS_TEST_QUEUE k = u.rbit R.SYS_TEST_QUEUE k :=
    congrArg (·.getLsbD k) (u.rd_raise _ _ _ (by decide))
  refine ⟨_, hexec, hans, ?_, ?_, hstatus, hjrn.ended w, hregs, hmem⟩
  · rw [State.ended_seq, State.raise_seq_test]
    exact congrArg ModeSeq.test (s.seq_atWrite m _)
  · rw [State.ended_rbit, hqueue, State.rbit_testQueue _ true hc.lt]

end

/-- Settles O20: run, waiting, refused in DRIVE, BUSY and queued already, each a lemma above for every test it concerns. -/
theorem testRequests : Obligations.TestRequests := by
  refine ⟨fun s m h hno hq hm => ?_, fun s m h hno hq hm => ?_, fun s m h hno hq hm => ?_, fun s m h hno hq hm => ?_,
    fun s m h hno hq hm hroom => ?_, fun s m c k r hc h hr hk => testRequest_busy hc h hr hk,
    fun s m c k hc h hno hq => testRequest_queued hc h hno hq⟩
  · obtain ⟨t, hexec, hans, htest, -, hend⟩ := testRequest_runs (.inl ⟨rfl, rfl⟩) h hno hq (.inl rfl) hm
    exact ⟨t, hexec, hans, htest, hend⟩
  · exact testRequest_waits (.inr (.inl ⟨rfl, rfl⟩)) h hno hq (.inl rfl) hm
  · exact testRequest_waits (.inr (.inr (.inl ⟨rfl, rfl⟩))) h hno hq (.inr rfl) hm
  · obtain ⟨t, hexec, hans, htest, hbc, hend⟩ := testRequest_runs (.inr (.inr (.inr ⟨rfl, rfl⟩))) h hno hq (.inr rfl) hm
    exact ⟨t, hexec, hans, htest, hbc rfl, hend⟩
  · exact testRequest_drive (.inl ⟨rfl, rfl⟩) h hno hq hm hroom

end Sys2Proof.Machine

/-! The resets of the L-die with its rails up (R116 to R118, R679): what holds through them and what they report. -/

namespace Sys2Proof.Machine

/-! ### What counting and journalling change -/

/-- Bringing counters up to a cycle changes the counters alone. -/
theorem State.pmcFold_eq (s : State) (l : List (Nat × PmcCyc)) : ∃ p, s.pmcFold l = { s with pmc := p } := by
  induction l generalizing s with
  | nil => exact ⟨s.pmc, rfl⟩
  | cons x l ih => exact ih _

/-- A gain of a counter changes the counters alone. -/
theorem State.pmcAdd_eq (s : State) (n : Nat) (c : PmcCyc) : ∃ p, (s.pmcAdd n c).1 = { s with pmc := p } := by
  obtain ⟨p, hp⟩ := s.pmcFold_eq s.pmc.now
  simp only [State.pmcAdd, State.pmcSync]
  split
  · exact ⟨_, rfl⟩
  · rw [hp]
    exact ⟨_, rfl⟩

theorem State.enqueue_pins (s : State) (r : JRec) : (s.enqueue r).jrn.pins = s.jrn.pins := by
  unfold State.enqueue
  repeat' split
  all_goals rfl

/-- Raising a code keeps the pinned area's list. -/
theorem State.raiseAs_pins (s : State) (c : BitVec 16) (i k a : Nat) (p : Payload) (d : Bool) :
    (s.raiseAs c i k a p d).jrn.pins = s.jrn.pins := by
  have hemit (g : Nat) : (s.emit c (BitVec.ofNat 8 i) (s.classOf c k a) p g d).jrn.pins = s.jrn.pins := State.enqueue_pins ..
  simp only [State.raiseAs, State.raiseFrom]
  repeat' split
  all_goals exact hemit _

/-! ### Readings that the gates, the safety channels and the journal leave as they are -/

/-- A reading of the state that depends neither on the gate outputs, the safety channels, the counters or what a raised code adds, nor on a
register above JRN_NEXT_SEQ. -/
structure Aloof {α : Type} (φ : State → α) : Prop where
  wr : ∀ (s : State) (a : Nat) (v : Word), R.JRN_NEXT_SEQ < a → φ (s.wr a v) = φ s
  raiseAs : ∀ (s : State) (c : BitVec 16) (i k a : Nat) (p : Payload) (d : Bool), φ (s.raiseAs c i k a p d) = φ s
  free : ∀ (s : State) (n : Nat), φ { s with free := n } = φ s
  pwm : ∀ (s : State) (x : Pwm), φ { s with pwm := x } = φ s
  safe : ∀ (s : State) (x : Safe), φ { s with safe := x } = φ s
  pmc : ∀ (s : State) (x : Pmc), φ { s with pmc := x } = φ s

/-- A register up to JRN_NEXT_SEQ is such a reading. -/
theorem Aloof.rd {b : Nat} (h : b ≤ R.JRN_NEXT_SEQ) : Aloof fun s => s.rd b where
  wr s a v ha := s.rd_wr_of_ne v (by omega)
  raiseAs s c i k a p d := s.rd_raiseAs c i k a p d (Nat.ne_of_lt (Nat.lt_of_le_of_lt h (by decide)))
  free _ _ := rfl
  pwm _ _ := rfl
  safe _ _ := rfl
  pmc _ _ := rfl

theorem Aloof.pins : Aloof fun s => s.jrn.pins where
  wr _ _ _ _ := rfl
  raiseAs s := s.raiseAs_pins
  free _ _ := rfl
  pwm _ _ := rfl
  safe _ _ := rfl
  pmc _ _ := rfl

theorem Aloof.safeLatch : Aloof fun s => s.seq.safeLatch where
  wr _ _ _ _ := rfl
  raiseAs s := s.raiseAs_seq_safeLatch
  free _ _ := rfl
  pwm _ _ := rfl
  safe _ _ := rfl
  pmc _ _ := rfl

theorem nextSeq_lt_grpStat (g : Nat) : R.JRN_NEXT_SEQ < R.PWM_GRP_STAT g := by simp only [R.JRN_NEXT_SEQ, R.PWM_GRP_STAT]; omega

theorem nextSeq_lt_grpSwallow (g : Nat) : R.JRN_NEXT_SEQ < R.PWM_GRP_SWALLOW g := by simp only [R.JRN_NEXT_SEQ, R.PWM_GRP_SWALLOW]; omega

theorem nextSeq_lt_pmcOvf (n : Nat) : R.JRN_NEXT_SEQ < R.PMC_OVF n := by simp only [R.JRN_NEXT_SEQ, R.PMC_OVF]; omega

namespace Aloof

variable {α : Type} {φ : State → α} (h : Aloof φ) (s : State)
include h

theorem fset (f : Fld) (n : Nat) (hf : R.JRN_NEXT_SEQ < f.addr) : φ (s.fset f n) = φ s := h.wr _ _ _ hf

theorem fput (f : Fld) (b : Bool) (hf : R.JRN_NEXT_SEQ < f.addr) : φ (s.fput f b) = φ s := h.wr _ _ _ hf

theorem finc (f : Fld) (n : Nat) (hf : R.JRN_NEXT_SEQ < f.addr) : φ (s.finc f n) = φ s := h.wr _ _ _ hf

theorem rput (a i : Nat) (b : Bool) (ha : R.JRN_NEXT_SEQ < a) : φ (s.rput a i b) = φ s := h.wr _ _ _ ha

theorem raise (c : Code) (i : Nat) (p : Payload) : φ (s.raise c i p) = φ s := h.raiseAs ..

theorem raiseD (c : Code) (i : Nat) (p : Payload) : φ (s.raiseD c i p) = φ s := h.raiseAs ..

theorem setGrp (g : Nat) (v : PwmGrp) : φ (s.setGrp g v) = φ s := h.pwm ..

theorem setChan (c : Nat) (v : GateChan) : φ (s.setChan c v) = φ s := h.pwm ..

theorem setLeg (g l : Nat) (v : LegRec) : φ (s.setLeg g l v) = φ s := h.pwm ..

theorem setSmon (c : Chan) (v : Smon) : φ (s.setSmon c v) = φ s := by
  cases c <;> exact h.safe ..

/-! Counting (R666, R669). -/

theorem pmcAdd (n : Nat) (c : PmcCyc) : φ (s.pmcAdd n c).1 = φ s := by
  obtain ⟨p, hp⟩ := s.pmcAdd_eq n c
  rw [hp, h.pmc]

theorem pmcWrap (n : Nat) : φ (s.pmcWrap n) = φ s := by
  rw [State.pmcWrap, h.raise, h.rput _ _ _ _ (nextSeq_lt_pmcOvf _)]

theorem count (n c : Nat) : φ (s.count n c) = φ s := by
  simp only [State.count]
  repeat' split
  all_goals simp only [h.pmcWrap, h.pmcAdd]

/-! The channels of a timer group that follow their commands (R316 to R319). -/

theorem chanFollow (c : Nat) : φ (s.chanFollow c) = φ s := by
  simp only [State.chanFollow]
  repeat' split
  all_goals simp only [h.count, h.finc _ (F.PWM_GRP_SWALLOW_CNT _) _ (nextSeq_lt_grpSwallow _), h.setChan]

theorem legConflict (g l kept : Nat) : φ (s.legConflict g l kept) = φ s := by
  simp only [State.legConflict]
  split <;> simp only [h.raise, h.setLeg, h.count, h.rput _ _ _ _ (nextSeq_lt_grpStat g)]

theorem legFollow (g l : Nat) : φ (s.legFollow g l) = φ s := by
  simp only [State.legFollow]
  repeat' split
  all_goals simp only [h.legConflict, h.setLeg, h.chanFollow]

theorem legsFollow (g l : Nat) : φ (s.legsFollow g l) = φ s := by
  induction l with
  | zero => rfl
  | succ l ih => rw [State.legsFollow, h.legFollow, ih]

theorem grpFollow (g : Nat) : φ (s.grpFollow g) = φ s := by
  unfold State.grpFollow
  split
  · exact h.chanFollow ..
  · exact h.legsFollow ..

theorem lgFollow : φ s.lgFollow = φ s := by
  simp only [State.lgFollow, h.grpFollow]

theorem showOverride (g : Nat) : φ (s.showOverride g) = φ s := by
  simp only [State.showOverride, h.fset _ (F.PWM_GRP_STAT_OVR_CODE g) _ (nextSeq_lt_grpStat g), h.fset _ (F.PWM_GRP_STAT_OVR_SRC g) _ (nextSeq_lt_grpStat g)]

theorem removePattern (g : Nat) : φ (s.removePattern g) = φ s := by
  unfold State.removePattern
  dsimp only
  generalize (if (s.patternAsked g).1 = 0 then 0 else (s.grp g).pat) = pat
  split
  · rfl
  · rw [h.showOverride, h.setGrp]

theorem removeStopped (old : State) (g : Nat) : φ (s.removeStopped old g) = φ s := by
  induction g with
  | zero => rfl
  | succ g ih =>
    simp only [State.removeStopped]
    split
    · rw [h.grpFollow, h.removePattern, ih]
    · exact ih

/-! The safety channels (R459 to R469). -/

theorem showA : φ s.showA = φ s := by
  simp only [State.showA, h.removeStopped, h.fput _ F.PWM_GLB_STAT_GD _ (by decide), h.wr _ R.PWM_GLB_SAFE _ (by decide),
    h.wr _ R.SMA_VDC _ (by decide), h.wr _ R.SMA_SPEED _ (by decide), h.wr _ R.SMA_STAT _ (by decide)]

theorem showB : φ s.showB = φ s := by
  simp only [State.showB, h.wr _ R.SMB_AMP _ (by decide), h.wr _ R.SMB_VDC _ (by decide), h.wr _ R.SMB_SPEED _ (by decide),
    h.wr _ R.SMB_STAT _ (by decide)]

theorem showChan (c : Chan) : φ (s.showChan c) = φ s := by
  cases c with
  | smonA => exact h.showA s
  | smonB => exact h.showB s

theorem reselect (c : Chan) : φ (s.reselect c) = φ s := by
  simp only [State.reselect, h.showChan, apply_ite φ, h.raiseAs, h.setSmon, ite_self]

/-- With the LV converter off, a supply cut asks nothing of it. -/
theorem supplyCut (hoff : s.lvcOn = false) : φ (s.supplyCut none) = φ s := by
  simp only [State.supplyCut]
  split
  · exact h.safe ..
  · generalize hcut : State.raiseD _ _ _ _ = u
    have hrests : s.Rests u := hcut ▸
      .raiseD (.fresh (.fput (.fput (.withSafe (.refl s) _) F.SMB_STAT_CCUT _ (by decide)) F.SMB_STAT_ACUT _ (by decide))) ..
    have hidle : u.lgFollow.lvcMode = u.lgFollow := by
      have hlvc : u.lgFollow.lvcOn = false := (State.Rests.lvcOn hrests.lgFollow).trans hoff
      simp [State.lvcMode, hlvc]
    rw [hidle, h.lgFollow, ← hcut, h.raiseD]
    exact (h.free ..).trans ((h.fput _ F.SMB_STAT_ACUT _ (by decide)).trans ((h.fput _ F.SMB_STAT_CCUT _ (by decide)).trans (h.safe ..)))

/-- What the boot ROM finds of the flash goes to the NVC's registers and the journal (R622). -/
theorem flashFound (f : FlashBoot) : φ (s.flashFound f) = φ s := by
  simp only [State.flashFound]
  split <;> simp only [h.raise, h.fput _ F.NVC_STAT_SLOW _ (by decide), h.wr _ R.NVC_LOG_HEAD _ (by decide), h.fset _ F.NVC_STAT_SIZE _ (by decide)]

end Aloof

/-! ### What a reset clears and what it keeps (R29, R116, R715) -/

/-- A reset keeps the registers of the always-on domain (R29). -/
theorem State.rd_lCleared_alwaysOn (s : State) (k : ResetKind) (hard : Bool) {a : Nat} (h : alwaysOn a = true) :
    (s.lCleared k hard).rd a = s.rd a := by
  have hkept : keptReg (k == .wake || hard) (k == .wake) a = true := by simp [keptReg, h]
  exact (SMap.get_filter RegMap.reset (keptReg (k == .wake || hard) (k == .wake)) s.regs a).trans (if_pos hkept)

/-- The LV converter is off after it. -/
theorem State.rd_lCleared_lvcStat (s : State) (k : ResetKind) (hard : Bool) : (s.lCleared k hard).rd R.LVC_STAT = RegMap.reset R.LVC_STAT := by
  have hkept : ∀ cold wake, keptReg cold wake R.LVC_STAT = false := by decide
  exact (SMap.get_filter RegMap.reset (keptReg (k == .wake || hard) (k == .wake)) s.regs R.LVC_STAT).trans (if_neg (by simp [hkept]))

/-- Memory that keeps its content through a reset with the rails up: SRAM, and the journal's pinned area (R29, R714, R715). -/
def warmMem (a : Nat) : Prop := a < 0x10C40000 ∨ (0x10D20000 ≤ a ∧ a < 0x10D22000)

/-- A reset other than a wake, with the rails up, finds the L-die warm. -/
theorem ResetKind.warm {k : ResetKind} (hk : k ≠ .wake) : (k == .wake || false) = false := by simpa using hk

theorem State.mget_lCleared_warm (s : State) {k : ResetKind} (hk : k ≠ .wake) {a : Nat} (h : warmMem a) :
    (s.lCleared k false).mget a = s.mget a := by
  have hkept : keptMem (k == .wake || false) a = true := by
    rw [ResetKind.warm hk]
    simp only [warmMem] at h
    simp [keptMem]
    omega
  exact (SMap.get_filter memDefault (keptMem (k == .wake || false)) s.mem a).trans (if_pos hkept)

/-! ### The course of a reset -/

/-- The state of a reset before the mode changes to ARMING: what it clears, and the registers it writes (R69, R102, R116, R118). -/
def State.resetCleared (s : State) (k : ResetKind) : State :=
  let s1 := s.lCleared k false
  let s2 := (s1.wr R.JRN_OLDEST_SEQ (s1.rd R.JRN_NEXT_SEQ)).wr R.SYS_RESET_CAUSE (w32 k.num)
  let s3 := s2.fset F.JRN_STATUS_OVERRUN 0
  let s4 := if k = .wake then s3 else s3.fset F.SYS_WAKE_SRC_FIRST 0
  let s5 := ((s4.wr (R.SMB_WD_CHAL 0) 0).wr (R.SMB_WD_CHAL 1) 0).wr (R.SMB_WD_CHAL 2) 0
  let s6 := ((s5.wr (R.SMB_WD_STAT 0) 0).wr (R.SMB_WD_STAT 1) 0).wr (R.SMB_WD_STAT 2) 0
  if s.clocks.xtal32 then s6.fput F.CLV_STATUS_XTAL32_FB true else s6

theorem State.lPulse_eq (s : State) (k : ResetKind) (f : FlashBoot) :
    s.lPulse k false f =
      (((((s.resetCleared k).setMode .arming .full 0).supplyCut none).showA.reselect .smonB).cutAfterReset).flashFound f := rfl

/-- The registers it writes after SYS_RESET_CAUSE. -/
def resetWrites : List Nat :=
  [R.JRN_STATUS, R.SYS_WAKE_SRC, R.SMB_WD_CHAL 0, R.SMB_WD_CHAL 1, R.SMB_WD_CHAL 2, R.SMB_WD_STAT 0, R.SMB_WD_STAT 1, R.SMB_WD_STAT 2, R.CLV_STATUS]

theorem State.rd_resetCleared (s : State) (k : ResetKind) {a : Nat} (h : a ∉ resetWrites) :
    (s.resetCleared k).rd a =
      (((s.lCleared k false).wr R.JRN_OLDEST_SEQ ((s.lCleared k false).rd R.JRN_NEXT_SEQ)).wr R.SYS_RESET_CAUSE (w32 k.num)).rd a := by
  simp only [resetWrites, List.mem_cons, List.not_mem_nil, or_false, not_or] at h
  simp only [State.resetCleared]
  repeat' split
  all_goals simp [State.fput, State.rd_fset, State.rd_wr, F.JRN_STATUS_OVERRUN, F.SYS_WAKE_SRC_FIRST, F.CLV_STATUS_XTAL32_FB, h]

/-- SYS_RESET_CAUSE names the reset (R118). -/
theorem State.rd_resetCause_resetCleared (s : State) (k : ResetKind) : (s.resetCleared k).rd R.SYS_RESET_CAUSE = w32 k.num := by
  rw [s.rd_resetCleared k (by decide), State.rd_wr_self]
  cases k <;> decide

/-- A register it does not write is as the reset has cleared it. -/
theorem State.rd_resetCleared_of_not_mem (s : State) (k : ResetKind) {a : Nat} (h : a ∉ R.SYS_RESET_CAUSE :: R.JRN_OLDEST_SEQ :: resetWrites) :
    (s.resetCleared k).rd a = (s.lCleared k false).rd a := by
  simp only [List.mem_cons, not_or] at h
  obtain ⟨hcause, holdest, hlater⟩ := h
  rw [s.rd_resetCleared k (by simpa using hlater), State.rd_wr_of_ne _ _ hcause, State.rd_wr_of_ne _ _ holdest]

/-- It changes registers alone. -/
theorem State.resetCleared_frame (s : State) (k : ResetKind) :
    (s.resetCleared k).clave = s.clave ∧ (s.resetCleared k).mem = (s.lCleared k false).mem ∧
      (s.resetCleared k).jrn = (s.lCleared k false).jrn ∧ (s.resetCleared k).seq = (s.lCleared k false).seq := by
  simp only [State.resetCleared, apply_ite State.clave, apply_ite State.mem, apply_ite State.jrn, apply_ite State.seq, ite_self,
    State.fput_clave, State.fput_mem, State.fput_jrn, State.fput_seq, State.wr_clave, State.wr_mem, State.wr_jrn, State.wr_seq,
    State.fset_clave, State.fset_mem, State.fset_jrn, State.fset_seq, and_self, and_true]
  rfl

/-- A change of the mode keeps what the journal has pinned, and SAFE_LATCH. -/
theorem State.setMode_pins_safeLatch (s : State) (m : Mode) (sub : Sub) (why : BitVec 16) :
    (s.setMode m sub why).jrn.pins = s.jrn.pins ∧ (s.setMode m sub why).seq.safeLatch = s.seq.safeLatch := by
  unfold State.setMode
  split
  · exact ⟨rfl, rfl⟩
  · exact ⟨State.raiseAs_pins .., State.raise_seq_safeLatch ..⟩

/-- From `s` to `t` the L-die has come through a reset of cause `k` with its rails up (R29, R116, R118, R679, R715). -/
structure State.Restarted (k : ResetKind) (s t : State) : Prop where
  clave : t.clave = s.clave
  mode : t.seq.mode = .arming
  safeLatch : t.seq.safeLatch = (s.seq.safeLatch || k == .fatal)
  cause : t.rd R.SYS_RESET_CAUSE = w32 k.num
  nextSeq : t.rd R.JRN_NEXT_SEQ = s.rd R.JRN_NEXT_SEQ
  pins : t.jrn.pins = s.jrn.pins
  mem : ∀ a, warmMem a → t.mget a = s.mget a

/-- The state of a reset once the mode is ARMING. -/
def State.resetArming (s : State) (k : ResetKind) : State := (s.resetCleared k).setMode .arming .full 0

theorem State.rd_resetArming (s : State) (k : ResetKind) {a : Nat} (h : a ∉ R.SYS_RESET_CAUSE :: R.JRN_OLDEST_SEQ :: resetWrites) :
    (s.resetArming k).rd a = (s.lCleared k false).rd a := by
  obtain ⟨-, -, -, hrd⟩ := (s.resetCleared k).setMode_frame .arming .full 0
  have hne : a ≠ R.JRN_STATUS := fun e => h (by simp [e, resetWrites])
  exact (hrd a hne).trans (s.rd_resetCleared_of_not_mem k h)

theorem State.lvcOn_resetArming (s : State) (k : ResetKind) : (s.resetArming k).lvcOn = false := by
  have hstat : (s.resetArming k).rd R.LVC_STAT = RegMap.reset R.LVC_STAT :=
    (s.rd_resetArming k (by decide)).trans (s.rd_lCleared_lvcStat k false)
  have hst : (s.resetArming k).lvcSt = 0 := (congrArg (bits · 2 0) hstat).trans (by decide)
  simp only [State.lvcOn, hst]
  rfl

theorem State.restarted_resetArming (s : State) {k : ResetKind} (hk : k ≠ .wake) : s.Restarted k (s.resetArming k) := by
  obtain ⟨hclave, hmem, hjrn, hseq⟩ := s.resetCleared_frame k
  obtain ⟨hmode', hmem', hclave', hrd'⟩ := (s.resetCleared k).setMode_frame .arming .full 0
  obtain ⟨hpins', hlatch'⟩ := (s.resetCleared k).setMode_pins_safeLatch .arming .full 0
  refine ⟨hclave'.trans hclave, hmode', ?_, ?_, ?_, ?_, fun a ha => ?_⟩
  · exact hlatch'.trans (congrArg ModeSeq.safeLatch hseq)
  · exact (hrd' _ (by decide)).trans (s.rd_resetCause_resetCleared k)
  · exact (s.rd_resetArming k (by decide)).trans (s.rd_lCleared_alwaysOn k false (by decide))
  · exact hpins'.trans ((congrArg Jrn.pins hjrn).trans (if_neg (by simp [ResetKind.warm hk])))
  · exact (congrArg (SMap.get memDefault · a) (hmem'.trans hmem)).trans (s.mget_lCleared_warm hk ha)

/-- The L-die restarts in ARMING, whatever the boot ROM finds of the flash. -/
theorem State.restarted_lPulse (s : State) {k : ResetKind} (hk : k ≠ .wake) (f : FlashBoot) : s.Restarted k (s.lPulse k false f) := by
  have hoff := s.lvcOn_resetArming k
  have hrests : (s.resetArming k).Rests (s.lPulse k false f) :=
    .flashFound (.withSafe (.reselect (.showA (.supplyCut (.refl (s.resetArming k)) hoff)) .smonB) _) f
  have haloof {α : Type} {φ : State → α} (h : Aloof φ) : φ (s.lPulse k false f) = φ (s.resetArming k) := by
    rw [s.lPulse_eq k f, h.flashFound]
    exact (h.safe ..).trans ((h.reselect ..).trans ((h.showA _).trans (h.supplyCut _ hoff)))
  obtain ⟨hclave, hmode, hlatch, hcause, hnext, hpins, hmem⟩ := s.restarted_resetArming hk
  exact {
    clave := hrests.clave.trans hclave
    mode := hrests.mode.trans hmode
    safeLatch := (haloof .safeLatch).trans hlatch
    cause := (haloof (.rd (by decide))).trans hcause
    nextSeq := (hrests.rd _ (by decide)).trans hnext
    pins := (haloof .pins).trans hpins
    mem := fun a ha => (congrArg (SMap.get memDefault · a) hrests.mem).trans (hmem a ha) }

/-! ### The commands -/

/-- A pin reset of an L-die with its rails up (R116). -/
theorem pinReset_restarts {s : State} (f : FlashBoot) (hlive : s.lDead = false) : ∃ t, exec (.pinReset f) s = .next t ∧ s.Restarted .pin t := by
  have hexec : exec (.pinReset f) s = .next (if s.lDead then s else s.lPulse .pin false f) := rfl
  rw [hlive] at hexec
  exact ⟨_, hexec, s.restarted_lPulse (by decide) f⟩

/-- While the L-die has no rails a pin reset changes nothing. -/
theorem pinReset_dead {s : State} (f : FlashBoot) (hdead : s.lDead = true) : exec (.pinReset f) s = .next s :=
  congrArg Host.Outcome.next (if_pos hdead)

/-- A FATAL reset falls due 5 ms after the FATAL stamp (R679). -/
theorem exec_fatalReset {s : State} (f : FlashBoot) {t0 : Nat} (hat : s.gong.fatalAt = some t0) :
    exec (.fatalReset f) s = .next (if s.past t0 (msTicks 5) && !s.lDead then s.lPulse .fatal false f else s) := by
  change execFatalReset f s = _
  simp only [execFatalReset, hat]

theorem fatalReset_restarts {s : State} (f : FlashBoot) {t0 : Nat} (hat : s.gong.fatalAt = some t0) (hdue : t0 + 4000000 ≤ s.time)
    (hlive : s.lDead = false) : ∃ t, exec (.fatalReset f) s = .next t ∧ s.Restarted .fatal t := by
  have hexec := exec_fatalReset f hat
  rw [if_pos (by simp [State.past, msTicks, hdue, hlive])] at hexec
  exact ⟨_, hexec, s.restarted_lPulse (by decide) f⟩

theorem fatalReset_early {s : State} (f : FlashBoot) {t0 : Nat} (hat : s.gong.fatalAt = some t0) (hearly : s.time < t0 + 4000000) :
    exec (.fatalReset f) s = .next s := by
  have hnot : s.past t0 (msTicks 5) = false := decide_eq_false (Nat.not_le.mpr hearly)
  rw [exec_fatalReset f hat, if_neg (by simp [hnot])]

section
variable {s : State} {m : Master} {v : Word} (f : FlashBoot) (h : s.grants m R.SYS_RST) (hv : v.getLsbD 0 = true)
include h hv

/-- A granted write of SYS_RST.SW = 1: the reset where the mode permits it, else the refusal (R117). -/
theorem exec_softwareReset :
    exec (.softwareReset m v f) s = .next
      ((if s.inMode .arming || s.inMode .service || s.inMode .safeHold then (s.atWrite m R.SYS_RST).lPulse .software false f
        else (s.atWrite m R.SYS_RST).modeRefused 0 6 1).busOk 0) := by
  change Host.Outcome.next (s.writeAs m R.SYS_RST fun s => s.softReset v f) = _
  have hin (x : Mode) : (s.atWrite m R.SYS_RST).inMode x = s.inMode x := by simp [State.inMode]
  simp only [s.writeAs_granted h, State.softReset, hv, hin, Bool.not_true, Bool.false_eq_true, if_false]

/-- In ARMING, SERVICE and SAFE-HOLD the L-die restarts (R117). -/
theorem softwareReset_restarts (hm : s.seq.mode = .arming ∨ s.seq.mode = .service ∨ s.seq.mode = .safeHold) :
    ∃ t, exec (.softwareReset m v f) s = .next t ∧ s.Restarted .software t := by
  have hexec := exec_softwareReset f h hv
  rw [if_pos (by rcases hm with hm | hm | hm <;> simp [State.inMode, hm])] at hexec
  obtain ⟨hclave, hmode, hlatch, hcause, hnext, hpins, hmem⟩ := (s.atWrite m R.SYS_RST).restarted_lPulse (k := .software) (by decide) f
  exact ⟨_, hexec, {
    clave := hclave.trans (by simp)
    mode := hmode
    safeLatch := hlatch.trans (by simp)
    cause := hcause
    nextSeq := hnext.trans (s.rd_atWrite m _ _)
    pins := hpins.trans (by simp)
    mem := fun a ha => (hmem a ha).trans (s.mget_atWrite m _ a) }⟩

/-- In another mode the write is ignored and journalled (R117). -/
theorem softwareReset_refused (harming : s.seq.mode ≠ .arming) (hservice : s.seq.mode ≠ .service) (hhold : s.seq.mode ≠ .safeHold)
    (hroom : s.room 4) :
    ∃ t, exec (.softwareReset m v f) s = .next t ∧ t.answered 0 ∧ t.seq.mode = s.seq.mode ∧
      Journaled s t C.MODE_REFUSED 0 { w0 := bytes4 0 6 s.seq.mode.code 1 } ∧ SameRegs s t [] ∧ SameMem s t := by
  have hexec := exec_softwareReset f h hv
  have hout : ¬ (s.inMode .arming || s.inMode .service || s.inMode .safeHold) = true := by
    simp [State.inMode, harming, hservice, hhold]
  have hpayload : (s.atWrite m R.SYS_RST).seq.mode.code = s.seq.mode.code := by simp
  rw [if_neg hout, State.modeRefused, hpayload] at hexec
  have hjrn : Journaled s ((s.atWrite m R.SYS_RST).raise C.MODE_REFUSED 0 { w0 := bytes4 0 6 s.seq.mode.code 1 }) C.MODE_REFUSED 0
      { w0 := bytes4 0 6 s.seq.mode.code 1 } := Journaled.of_raise (by simp) hroom.one
  refine ⟨_, hexec, rfl, by simp, hjrn, fun a _ hj => ?_, fun a => ?_⟩
  · rw [State.busOk_rd, State.rd_raise _ _ _ _ (ne_jrnStatus_of_not_journalRegs hj), State.rd_atWrite]
  · simp [State.mget]

end

/-- Settles O22: the pin, software and FATAL resets by the course all share, and what each does where it is not due or not permitted. -/
theorem logicResets : Obligations.LogicResets := by
  refine ⟨fun s f hlive => ?_, fun s f hdead => pinReset_dead f hdead, fun s m v f h hv hm => ?_,
    fun s m v f h hv harming hservice hhold hroom => softwareReset_refused f h hv harming hservice hhold hroom,
    fun s f t0 hat hdue hlive => ?_, fun s f t0 hat hearly => fatalReset_early f hat hearly⟩
  · obtain ⟨t, hexec, hclave, hmode, hlatch, hcause, hnext, hpins, hmem⟩ := pinReset_restarts f hlive
    exact ⟨t, hexec, hclave, hmode, hlatch.trans (Bool.or_false _), hcause, hnext, hpins, hmem⟩
  · obtain ⟨t, hexec, hclave, hmode, hlatch, hcause, hnext, hpins, hmem⟩ := softwareReset_restarts f h hv hm
    exact ⟨t, hexec, hclave, hmode, hlatch.trans (Bool.or_false _), hcause, hnext, hpins, hmem⟩
  · obtain ⟨t, hexec, hclave, hmode, hlatch, hcause, hnext, hpins, hmem⟩ := fatalReset_restarts f hat hdue hlive
    exact ⟨t, hexec, hclave, hmode, hlatch.trans (Bool.or_true _), hcause, hnext, hpins, hmem⟩

end Sys2Proof.Machine

/-! A write of CLE_GLB_CTRL carries EN beside RSV: where it enables the engine, what is due is released at once (R145, R166). -/

namespace Sys2Proof.Machine

/-- Reset but for this: pair 0 may write the block of the CLE's global registers, and context 5 is enabled and its release is due,
once ADC sequence 4 is complete. The sequence is, and yet the release has not come, since the engine is disabled (R148, R166). -/
def dueWhileDisabled : State :=
  ((State.reset.wr (R.SYS_FW_BLK_WR 0) 0x80).fput (F.CLE_CTX_CTRL_EN 5) true).setCtx 5 { due := some { inst := 1, seqs := [4] } }

/-- The leading core of pair 0 in Machine mode. -/
abbrev leadingCore : Master := .core 0 .leading true

theorem grants_dueWhileDisabled : dueWhileDisabled.grants leadingCore R.CLE_GLB_CTRL := by
  unfold State.grants
  decide +kernel

/-- In it context 5 has not been released. -/
theorem fbit_busy_dueWhileDisabled : dueWhileDisabled.fbit (F.CLE_CTX_STAT_BUSY 5) = false := by decide +kernel

/-- A write of RSV = 0 with EN = 1 releases the context: its BUSY is set (R145). -/
theorem cleRsvWrite_releases_dueWhileDisabled :
    ∃ t, exec (.cleRsvWrite leadingCore 1) dueWhileDisabled = .next t ∧ t.fbit (F.CLE_CTX_STAT_BUSY 5) = true :=
  ⟨dueWhileDisabled.put leadingCore R.CLE_GLB_CTRL 1, rfl, by decide +kernel⟩

/-- Refutes O27: the clause of the reservation that is stored says that no register but CLE_GLB_CTRL changes, yet the value written may set
EN too, which releases a context that is due and so changes its CLE_CTX_STAT. -/
theorem not_cleStatesCoefficientsAndReservations : ¬ Obligations.CleStatesCoefficientsAndReservations := by
  rintro ⟨-, -, -, -, hstored, -, -⟩
  obtain ⟨t, hexec, -, -, hregs, -⟩ := hstored dueWhileDisabled leadingCore 1 0 grants_dueWhileDisabled (by decide +kernel) (by decide)
  obtain ⟨u, hexec', hbusy⟩ := cleRsvWrite_releases_dueWhileDisabled
  obtain rfl : t = u := Host.Outcome.next.inj (hexec.symm.trans hexec')
  have hstat : t.rd (R.CLE_CTX_STAT 5) = dueWhileDisabled.rd (R.CLE_CTX_STAT 5) := hregs _ (by decide) (by decide)
  have hsame : t.fbit (F.CLE_CTX_STAT_BUSY 5) = dueWhileDisabled.fbit (F.CLE_CTX_STAT_BUSY 5) := congrArg (·.getLsbD 0) hstat
  rw [hbusy, fbit_busy_dueWhileDisabled] at hsame
  exact Bool.noConfusion hsame

end Sys2Proof.Machine

/-! Torque control: the offset measurement (R197), the enable (R220) and the stop that a write of EN = 0 asks for (R231). -/

namespace Sys2Proof.Machine

/-! ### The offset measurement (R197) -/

/-- A change that keeps what waits for the journal, followed by a code raised with an assignment, journals that code. -/
theorem Journaled.of_raiseAs {s u : State} {c : Code} {i k a : Nat} {p : Payload} {d : Bool} (hu : u.jrn = s.jrn) (h : s.room 1) :
    Journaled s (u.raiseAs c.code i k a p d) c i p := by
  have hwait : u.room 1 := by simpa only [State.room, hu] using h
  obtain ⟨hnew, hold⟩ := u.journaled_raiseFrom c i k a p (if d then 160 else 0) d hwait
  simp only [State.noted, hu] at hnew hold
  exact ⟨hnew, hold⟩

section
variable (s : State) (k : Nat) (x : TmuSys)

@[simp] theorem State.tsys_setTsys_self : (s.setTsys k x).tsys k = x := by
  unfold State.setTsys State.tsys
  split <;> rfl

@[simp] theorem State.setTsys_regs : (s.setTsys k x).regs = s.regs := by
  unfold State.setTsys
  split <;> rfl

@[simp] theorem State.setTsys_mem : (s.setTsys k x).mem = s.mem := by
  unfold State.setTsys
  split <;> rfl

@[simp] theorem State.setTsys_jrn : (s.setTsys k x).jrn = s.jrn := by
  unfold State.setTsys
  split <;> rfl

@[simp] theorem State.rd_setTsys (a : Nat) : (s.setTsys k x).rd a = s.rd a := by simp [State.rd]

end

/-- A system's records lie beside the registers. -/
theorem State.tsys_congr {s t : State} (h : t.tmu = s.tmu) (k : Nat) : t.tsys k = s.tsys k := by simp only [State.tsys, h]

/-- TMU_SYS_CAL has REQ, DONE and FAIL. -/
theorem RegMap.impl_sysCal (k : Fin 2) : ∀ i < 3, (RegMap.impl (R.TMU_SYS_CAL k.val)).getLsbD i = true := by
  revert k; decide

theorem RegMap.impl_sysIofsU (k : Fin 2) : RegMap.impl (R.TMU_SYS_IOFS_U k.val) = BitVec.allOnes 32 := by
  revert k; decide +kernel

theorem RegMap.impl_sysIofsV (k : Fin 2) : RegMap.impl (R.TMU_SYS_IOFS_V k.val) = BitVec.allOnes 32 := by
  revert k; decide +kernel

/-- The bit of TMU_SYS_CAL at `i`, as a field. -/
abbrev calBit (k : Fin 2) (i : Nat) : Fld := ⟨R.TMU_SYS_CAL k.val, i, i⟩

/-- A bit of TMU_SYS_CAL after a bit of it is written. -/
theorem State.fbit_fput_calBit (s : State) (k : Fin 2) {i j : Nat} (hj : j < 3) (b : Bool) :
    (s.fput (calBit k i) b).fbit (calBit k j) = if j = i then b else s.fbit (calBit k j) := by
  split
  · next h => exact h ▸ s.fbit_fput (calBit k j) b rfl (RegMap.impl_sysCal k j hj)
  · next h => exact s.fbit_fset (calBit k i) (calBit k j) _ (.inr (Nat.lt_or_gt_of_ne h)) fun _ => RegMap.impl_sysCal k j hj

theorem State.route_sysCal (s : State) (w : WriteBy) (k : Fin 2) (v : Word) : s.route w (R.TMU_SYS_CAL k.val) v = s.writeCal k.val v :=
  match k with
  | 0 => rfl
  | 1 => rfl

/-- REQ set, DONE and FAIL cleared: the registers of a measurement that has begun. -/
def State.calAsked (s : State) (k : Fin 2) : State := ((s.fput (calBit k 0) true).fput (calBit k 1) false).fput (calBit k 2) false

/-- A write of REQ begins the measurement of a system in use. -/
theorem State.writeCal_begins {s : State} {k : Fin 2} {v : Word} (hv : v.getLsbD 0 = true) (huse : s.mach = 2 → k = 0) :
    s.writeCal k.val v = (s.calAsked k).setTsys k.val { s.tsys k.val with cal := some 0, sumU := 0, sumV := 0 } := by
  have hin : ¬ (s.mach = 2 ∧ k.val = 1) := fun ⟨hmach, hk⟩ => by simp [huse hmach] at hk
  rw [State.writeCal, if_pos hv, State.calBegin, if_neg hin]
  rfl

/-- The measurement of a system in use begins with REQ (R197). -/
theorem tmuOffsetCalReq_begins {s : State} {m : Master} {k : Fin 2} {v : Word} (h : s.grants m (R.TMU_SYS_CAL k.val)) (hv : v.getLsbD 0 = true)
    (huse : s.mach = 2 → k = 0) :
    ∃ t, exec (.tmuOffsetCalReq m k v) s = .next t ∧ t.answered 0 ∧ (t.tsys k.val).cal = some 0 ∧
      t.fbit (F.TMU_SYS_CAL_REQ k.val) = true ∧ t.fbit (F.TMU_SYS_CAL_DONE k.val) = false ∧ t.fbit (F.TMU_SYS_CAL_FAIL k.val) = false ∧
      SameRegs s t [R.TMU_SYS_CAL k.val] ∧ SameMem s t := by
  let u := s.atWrite m (R.TMU_SYS_CAL k.val)
  have huse' : u.mach = 2 → k = 0 := fun hmach => huse ((s.fget_atWrite m _ F.TMU_CFG_MACH).symm.trans hmach)
  obtain ⟨w, hexec⟩ := State.wrote_granted_eq h ((State.route_sysCal u _ k v).trans (State.writeCal_begins hv huse'))
  have hrd (a : Nat) : ((u.calAsked k).setTsys k.val { u.tsys k.val with cal := some 0, sumU := 0, sumV := 0 }).rd a = (u.calAsked k).rd a :=
    State.rd_setTsys ..
  have hbit (i : Nat) (hi : i < 3) : (u.calAsked k).fbit (calBit k i) = decide (i = 0) := by
    simp only [State.calAsked, State.fbit_fput_calBit _ k hi]
    grind
  refine ⟨_, hexec, rfl, congrArg TmuSys.cal (State.tsys_setTsys_self ..), ?_, ?_, ?_, fun a ha _ => ?_, fun a => ?_⟩
  · exact (congrArg (·.getLsbD 0) (hrd _)).trans (hbit 0 (by decide))
  · exact (congrArg (·.getLsbD 1) (hrd _)).trans (hbit 1 (by decide))
  · exact (congrArg (·.getLsbD 2) (hrd _)).trans (hbit 2 (by decide))
  · have hne : a ≠ R.TMU_SYS_CAL k.val := by simpa using ha
    refine (hrd a).trans ?_
    simp only [State.calAsked, State.rd_fput_of_ne _ (calBit k _) _ hne]
    exact s.rd_atWrite ..
  · exact congrArg (SMap.get memDefault · a) ((State.setTsys_mem ..).trans (s.mem_atWrite ..))

/-- What the end of a measurement shows first: the measurement over, REQ cleared and DONE set. -/
def State.calOver (s : State) (k : Fin 2) : State :=
  ((s.setTsys k.val { s.tsys k.val with cal := none }).fput (calBit k 0) false).fput (calBit k 1) true

section
variable (s : State) (k : Fin 2)

theorem State.tsys_calOver : (s.calOver k).tsys k.val = { s.tsys k.val with cal := none } := State.tsys_setTsys_self ..

theorem State.fbit_req_calOver : (s.calOver k).fbit (calBit k 0) = false := by
  simp [State.calOver, State.fbit_fput_calBit _ k]

theorem State.fbit_done_calOver : (s.calOver k).fbit (calBit k 1) = true := by
  simp [State.calOver, State.fbit_fput_calBit _ k]

theorem State.rd_calOver_of_ne {a : Nat} (h : a ≠ R.TMU_SYS_CAL k.val) : (s.calOver k).rd a = s.rd a := by
  simp only [State.calOver, State.rd_fput_of_ne _ (calBit k _) _ h, State.rd_setTsys]

end

/-- With both averages within the limit the end of the measurement stores them as the offsets (R197). -/
theorem tmuOffsetCalDone_stores {s : State} {k : Fin 2} (hcal : (s.tsys k.val).cal = some 1024)
    (hu : fLt (s.rd (R.TMU_SYS_IOFS_MAX k.val)) (fAbs (fMul (s.tsys k.val).sumU fPer1024)) = false)
    (hv : fLt (s.rd (R.TMU_SYS_IOFS_MAX k.val)) (fAbs (fMul (s.tsys k.val).sumV fPer1024)) = false) :
    ∃ t, exec (.tmuOffsetCalDone k) s = .next t ∧ (t.tsys k.val).cal = none ∧
      t.fbit (F.TMU_SYS_CAL_REQ k.val) = false ∧ t.fbit (F.TMU_SYS_CAL_DONE k.val) = true ∧
      t.rd (R.TMU_SYS_IOFS_U k.val) = fMul (s.tsys k.val).sumU fPer1024 ∧ t.rd (R.TMU_SYS_IOFS_V k.val) = fMul (s.tsys k.val).sumV fPer1024 ∧
      SameRegs s t [R.TMU_SYS_CAL k.val, R.TMU_SYS_IOFS_U k.val, R.TMU_SYS_IOFS_V k.val] ∧ SameMem s t := by
  let e := ((s.calOver k).wr (R.TMU_SYS_IOFS_U k.val) (fMul (s.tsys k.val).sumU fPer1024)).wr (R.TMU_SYS_IOFS_V k.val)
    (fMul (s.tsys k.val).sumV fPer1024)
  have hexec : exec (.tmuOffsetCalDone k) s = .next e := by
    change Host.Outcome.next (s.calDone k.val) = _
    simp only [State.calDone, hcal, hu, hv, ne_eq, not_true_eq_false, if_false, Bool.or_self, Bool.false_eq_true]
    rfl
  have huv : R.TMU_SYS_IOFS_U k.val ≠ R.TMU_SYS_IOFS_V k.val := by simp [R.TMU_SYS_IOFS_U, R.TMU_SYS_IOFS_V]
  have hcu : R.TMU_SYS_CAL k.val ≠ R.TMU_SYS_IOFS_U k.val := by simp [R.TMU_SYS_IOFS_U, R.TMU_SYS_CAL]
  have hcv : R.TMU_SYS_CAL k.val ≠ R.TMU_SYS_IOFS_V k.val := by simp [R.TMU_SYS_IOFS_V, R.TMU_SYS_CAL]
  have hother {a : Nat} (hau : a ≠ R.TMU_SYS_IOFS_U k.val) (hav : a ≠ R.TMU_SYS_IOFS_V k.val) : e.rd a = (s.calOver k).rd a :=
    (State.rd_wr_of_ne _ _ hav).trans (State.rd_wr_of_ne _ _ hau)
  refine ⟨e, hexec, congrArg TmuSys.cal (s.tsys_calOver k), ?_, ?_, ?_, ?_, fun a ha _ => ?_, fun a => ?_⟩
  · exact (congrArg (·.getLsbD 0) (hother hcu hcv)).trans (s.fbit_req_calOver k)
  · exact (congrArg (·.getLsbD 1) (hother hcu hcv)).trans (s.fbit_done_calOver k)
  · exact (State.rd_wr_of_ne _ _ huv).trans (State.rd_wr_full _ _ (RegMap.impl_sysIofsU k))
  · exact State.rd_wr_full _ _ (RegMap.impl_sysIofsV k)
  · simp only [List.mem_cons, List.not_mem_nil, or_false, not_or] at ha
    obtain ⟨hac, hau, hav⟩ := ha
    exact (hother hau hav).trans (s.rd_calOver_of_ne k hac)
  · exact congrArg (SMap.get memDefault · a) (s.setTsys_mem ..)

/-- With the average of phase U beyond the limit the end of the measurement reports a sensor fault of the system (R197). -/
theorem tmuOffsetCalDone_fails {s : State} {k : Fin 2} (hcal : (s.tsys k.val).cal = some 1024)
    (hu : fLt (s.rd (R.TMU_SYS_IOFS_MAX k.val)) (fAbs (fMul (s.tsys k.val).sumU fPer1024)) = true) (hroom : s.room 4) :
    ∃ t, exec (.tmuOffsetCalDone k) s = .next t ∧ t.fbit (F.TMU_SYS_CAL_DONE k.val) = true ∧ t.fbit (F.TMU_SYS_CAL_FAIL k.val) = true ∧
      Journaled s t C.TMU_SENSOR_FAULT k.val { w0 := bytes4 0 1 0 0, w1 := fMul (s.tsys k.val).sumU fPer1024 } ∧
      SameRegs s t [R.TMU_SYS_CAL k.val] ∧ SameMem s t := by
  let u := (s.calOver k).fput (calBit k 2) true
  let p : Payload := { w0 := bytes4 0 1 0 0, w1 := fMul (s.tsys k.val).sumU fPer1024 }
  have hexec : exec (.tmuOffsetCalDone k) s = .next (u.raiseSys C.TMU_SENSOR_FAULT k.val p) := by
    change Host.Outcome.next (s.calDone k.val) = _
    simp only [State.calDone, hcal, hu, ne_eq, not_true_eq_false, if_false, Bool.true_or, if_true]
    rfl
  have hrd {a : Nat} (ha : a ≠ R.JRN_STATUS) : (u.raiseSys C.TMU_SENSOR_FAULT k.val p).rd a = u.rd a := u.rd_raiseAs _ _ _ _ _ _ ha
  have hcalReg : R.TMU_SYS_CAL k.val ≠ R.JRN_STATUS := by
    simp only [R.TMU_SYS_CAL, R.JRN_STATUS]
    omega
  refine ⟨_, hexec, ?_, ?_, Journaled.of_raiseAs (s.setTsys_jrn ..) hroom.one, fun a ha hj => ?_, fun a => ?_⟩
  · refine (congrArg (·.getLsbD 1) (hrd hcalReg)).trans ((State.fbit_fput_calBit _ k (j := 1) (by decide) true).trans ?_)
    exact s.fbit_done_calOver k
  · exact (congrArg (·.getLsbD 2) (hrd hcalReg)).trans (State.fbit_fput_calBit _ k (j := 2) (by decide) true)
  · have hne : a ≠ R.TMU_SYS_CAL k.val := by simpa using ha
    exact (hrd (ne_jrnStatus_of_not_journalRegs hj)).trans ((State.rd_fput_of_ne _ (calBit k 2) _ hne).trans (s.rd_calOver_of_ne k hne))
  · exact congrArg (SMap.get memDefault · a) ((u.raiseAs_mem ..).trans (s.setTsys_mem ..))

/-! ### The enable (R220) -/

theorem State.route_tmuCfg (s : State) (w : WriteBy) (v : Word) : s.route w R.TMU_CFG v = s.writeTmuCfg w v := rfl

/-- The fields of TMU_CFG (05, TMU registers). -/
def tmuCfgSpec : RegSpec :=
  ⟨R.TMU_CFG, 1, 4, 1, 4, [⟨16, 16, .rw, 0⟩, ⟨9, 8, .rw, 0⟩, ⟨6, 6, .rw, 0⟩, ⟨5, 5, .rws, 0⟩, ⟨4, 4, .rw, 0⟩, ⟨3, 2, .rw, 0⟩, ⟨1, 0, .rw, 0⟩], false⟩

theorem RegMap.find_tmuCfg : RegMap.find R.TMU_CFG = some tmuCfgSpec := by decide

theorem tmuCfgSpec_en : tmuCfgSpec.OnlyField ⟨16, 16, .rw, 0⟩ 16 := ⟨by decide, by decide, by decide, by decide, by decide⟩

theorem tmuCfgSpec_mach {i : Nat} (h : i < 2) : tmuCfgSpec.OnlyField ⟨1, 0, .rw, 0⟩ i :=
  ⟨by decide, Nat.zero_le i, Nat.le_of_lt_succ h, by omega, by revert i; decide⟩

section
variable (s : State) (w : WriteBy) (v : Word)

/-- EN after TMU_CFG is written by its access codes. -/
theorem State.fbit_en_plainWrite : (s.plainWrite w R.TMU_CFG v).fbit F.TMU_CFG_EN = v.getLsbD 16 :=
  s.getLsbD_rd_plainWrite w v RegMap.find_tmuCfg tmuCfgSpec_en

/-- MACH after TMU_CFG is written by its access codes. -/
theorem State.mach_plainWrite : (s.plainWrite w R.TMU_CFG v).mach = fldOf F.TMU_CFG_MACH v :=
  bits_congr fun _ _ hhi => s.getLsbD_rd_plainWrite w v RegMap.find_tmuCfg (tmuCfgSpec_mach (Nat.lt_succ_of_le hhi))

end

/-- The periods of R220 are read from registers other than TMU_CFG. -/
theorem State.tmuPeriodsOk_congr {s t : State} (h : ∀ a, a ≠ R.TMU_CFG → t.rd a = s.rd a) (mach : Nat) :
    t.tmuPeriodsOk mach = s.tmuPeriodsOk mach := by
  have hregs : ∀ g : Fin 2, R.PWM_GRP_PER g.val ≠ R.TMU_CFG ∧ R.PWM_GRP_CFG g.val ≠ R.TMU_CFG := by decide
  have hperiod (g : Fin 2) : t.period g.val = s.period g.val := by
    have hper : t.fget (F.PWM_GRP_PER_PER g.val) = s.fget (F.PWM_GRP_PER_PER g.val) := congrArg (bits · 23 0) (h _ (hregs g).1)
    have hcarr : t.fbit (F.PWM_GRP_CFG_CARR g.val) = s.fbit (F.PWM_GRP_CFG_CARR g.val) := congrArg (·.getLsbD 0) (h _ (hregs g).2)
    simp only [State.period, hper, hcarr]
  have h0 : t.period 0 = s.period 0 := hperiod 0
  have h1 : t.period 1 = s.period 1 := hperiod 1
  simp only [State.tmuPeriodsOk, h0, h1]

section
variable (s : State) (a reason : Nat)

/-- A refused write of a TMU register leaves the registers alone but for the journal's. -/
theorem State.rd_tmuLocked {b : Nat} (h : b ≠ R.JRN_STATUS) : (s.tmuLocked a reason).rd b = s.rd b := s.rd_raise _ _ _ h

@[simp] theorem State.tmuLocked_mem : (s.tmuLocked a reason).mem = s.mem := s.raise_mem ..

/-- The record of a refused write of TMU_CFG. -/
theorem State.tmuLocked_cfg : s.tmuLocked R.TMU_CFG reason = s.raise C.TMU_CFG_LOCKED 255 { w0 := bytes4 0 0 reason 0 } := rfl

@[simp] theorem State.tmuLocked_pwm : (s.tmuLocked a reason).pwm = s.pwm := s.raise_pwm ..

end

/-- A write of TMU_CFG refused for its value is journalled as invalid. -/
theorem Journaled.tmuLocked_cfg {s u : State} (hu : u.jrn = s.jrn) (h : s.room 1) :
    Journaled s (u.tmuLocked R.TMU_CFG 1) C.TMU_CFG_LOCKED 255 { w0 := bytes4 0 0 1 0 } :=
  u.tmuLocked_cfg 1 ▸ Journaled.of_raise hu h

/-- What a write of EN = 1 stores before EN is set: the value with EN still 0. -/
def State.tmuCfgStored (s : State) (w : WriteBy) (v : Word) : State := s.plainWrite w R.TMU_CFG (putBits v 16 16 0)

section
variable (s : State) (w : WriteBy) (v : Word)

theorem State.fbit_en_tmuCfgStored : (s.tmuCfgStored w v).fbit F.TMU_CFG_EN = false := by
  rw [State.tmuCfgStored, State.fbit_en_plainWrite, getLsbD_putBits]
  simp

theorem State.mach_tmuCfgStored : (s.tmuCfgStored w v).mach = fldOf F.TMU_CFG_MACH v := by
  rw [State.tmuCfgStored, State.mach_plainWrite]
  refine bits_congr fun i _ hhi => ?_
  have hlow : ¬ (16 ≤ i ∧ i ≤ 16) := fun h => absurd (Nat.le_trans h.1 hhi) (by decide)
  rw [getLsbD_putBits, if_neg hlow]

theorem State.rd_tmuCfgStored_of_ne {a : Nat} (h : a ≠ R.TMU_CFG) : (s.tmuCfgStored w v).rd a = s.rd a :=
  s.rd_plainWrite_of_ne w _ RegMap.find_tmuCfg h

end

/-- A value in a field's range is written as it is. -/
theorem State.ranged_within (s : State) {f : Fld} {lo hi : Nat} {v : Word} (h : lo ≤ fldOf f v ∧ fldOf f v ≤ hi) : s.ranged f lo hi v = v := by
  simp [State.ranged, State.keep, within, h]

/-- EN = 1 written while it is 0, with MACH and MOD in their ranges: EN is set where the periods of R220 hold, and else reported. -/
theorem State.writeTmuCfg_enables {s : State} (w : WriteBy) {v : Word} (hen : s.fbit F.TMU_CFG_EN = false) (hv : v.getLsbD 16 = true)
    (hmach : fldOf F.TMU_CFG_MACH v ≤ 2) (hmod : fldOf F.TMU_CFG_MOD v ≤ 1) :
    s.writeTmuCfg w v =
      if s.tmuPeriodsOk (fldOf F.TMU_CFG_MACH v) then (s.tmuCfgStored w v).fput F.TMU_CFG_EN true
      else (s.tmuCfgStored w v).tmuLocked R.TMU_CFG 1 := by
  have hperiods : (s.tmuCfgStored w v).tmuPeriodsOk (s.tmuCfgStored w v).mach = s.tmuPeriodsOk (fldOf F.TMU_CFG_MACH v) := by
    rw [State.mach_tmuCfgStored, State.tmuPeriodsOk_congr fun a ha => s.rd_tmuCfgStored_of_ne w v ha]
  rw [← hperiods]
  simp only [State.writeTmuCfg, s.ranged_within (f := F.TMU_CFG_MOD) ⟨Nat.zero_le _, hmod⟩, s.ranged_within (f := F.TMU_CFG_MACH) ⟨Nat.zero_le _, hmach⟩,
    hen, hv]
  rfl

/-- A field below EN in the value that a command to enable writes is the one of its operand. -/
theorem fldOf_or_en {f : Fld} (v : Word) (hf : f.hi < 16) : fldOf f (v ||| 0x10000) = fldOf f v := by
  refine bits_congr fun i _ hhi => ?_
  have hbit : ∀ i < 16, (0x10000 : Word).getLsbD i = false := by decide
  rw [BitVec.getLsbD_or, hbit i (by omega), Bool.or_false]

/-- What a granted command to enable stores before EN is set. -/
abbrev State.enableStored (s : State) (m : Master) (v : Word) : State :=
  (s.atWrite m R.TMU_CFG).tmuCfgStored (s.writer m 0) (v ||| 0x10000)

section
variable (s : State) (m : Master) (v : Word)

theorem State.mach_enableStored : (s.enableStored m v).mach = fldOf F.TMU_CFG_MACH v :=
  (State.mach_tmuCfgStored ..).trans (fldOf_or_en v (by decide))

theorem State.rd_enableStored_of_ne {a : Nat} (h : a ≠ R.TMU_CFG) : (s.enableStored m v).rd a = s.rd a :=
  (State.rd_tmuCfgStored_of_ne _ _ _ h).trans (s.rd_atWrite ..)

theorem State.enableStored_mem : (s.enableStored m v).mem = s.mem := (State.plainWrite_mem ..).trans (s.mem_atWrite ..)

theorem State.enableStored_jrn : (s.enableStored m v).jrn = s.jrn := by
  simp [State.tmuCfgStored, State.plainWrite_eq _ _ _ RegMap.find_tmuCfg]

end

section
variable {s : State} {m : Master} {v : Word} (h : s.grants m R.TMU_CFG) (hen : s.fbit F.TMU_CFG_EN = false)
  (hmach : fldOf F.TMU_CFG_MACH v ≤ 2) (hmod : fldOf F.TMU_CFG_MOD v ≤ 1)
include h hen hmach hmod

/-- A granted command to enable ends well, with EN set where the periods of R220 hold, and else reported. -/
theorem exec_tmuEnable :
    ∃ w, exec (.tmuEnable m v) s = .next ((if s.tmuPeriodsOk (fldOf F.TMU_CFG_MACH v) then (s.enableStored m v).fput F.TMU_CFG_EN true
      else (s.enableStored m v).tmuLocked R.TMU_CFG 1).ended w) := by
  have hfmach := fldOf_or_en (f := F.TMU_CFG_MACH) v (by decide)
  have hfmod := fldOf_or_en (f := F.TMU_CFG_MOD) v (by decide)
  have heffect := State.writeTmuCfg_enables (s := s.atWrite m R.TMU_CFG) (v := v ||| 0x10000) (s.writer m 0) (by simpa using hen) (by simp)
    (by rwa [hfmach]) (by rwa [hfmod])
  rw [hfmach, State.tmuPeriodsOk_congr fun b _ => s.rd_atWrite m R.TMU_CFG b] at heffect
  exact State.wrote_granted_eq h ((State.route_tmuCfg ..).trans heffect)

/-- With the periods of R220 the command sets EN. -/
theorem tmuEnable_sets (hok : s.tmuPeriodsOk (fldOf F.TMU_CFG_MACH v) = true) :
    ∃ t, exec (.tmuEnable m v) s = .next t ∧ t.answered 0 ∧ t.mach = fldOf F.TMU_CFG_MACH v ∧ t.fbit F.TMU_CFG_EN = true ∧
      SameRegs s t [R.TMU_CFG] ∧ SameMem s t := by
  obtain ⟨w, hexec⟩ := exec_tmuEnable h hen hmach hmod
  rw [if_pos hok] at hexec
  have himpl : ∀ i < 2, (RegMap.impl R.TMU_CFG).getLsbD i = true := by decide
  refine ⟨_, hexec, rfl, Eq.trans ?_ (s.mach_enableStored m v), ?_, fun a ha _ => ?_,
    fun a => congrArg (SMap.get memDefault · a) (s.enableStored_mem m v)⟩
  · exact State.fget_fset_of_disjoint _ F.TMU_CFG_EN F.TMU_CFG_MACH _ (by decide) fun i _ hhi => himpl i (Nat.lt_succ_of_le hhi)
  · exact State.fbit_fput _ F.TMU_CFG_EN true rfl (by decide)
  · have hne : a ≠ R.TMU_CFG := by simpa using ha
    exact (State.rd_fput_of_ne _ F.TMU_CFG_EN true hne).trans (s.rd_enableStored_of_ne m v hne)

/-- Without them EN stays 0, and the command is reported. -/
theorem tmuEnable_refused (hok : s.tmuPeriodsOk (fldOf F.TMU_CFG_MACH v) = false) (hroom : s.room 4) :
    ∃ t, exec (.tmuEnable m v) s = .next t ∧ t.answered 0 ∧ t.mach = fldOf F.TMU_CFG_MACH v ∧ t.fbit F.TMU_CFG_EN = false ∧
      Journaled s t C.TMU_CFG_LOCKED 255 { w0 := bytes4 0 0 1 0 } ∧ SameRegs s t [R.TMU_CFG] ∧ SameMem s t := by
  obtain ⟨w, hexec⟩ := exec_tmuEnable h hen hmach hmod
  rw [if_neg (by simp [hok])] at hexec
  have hcfg : ((s.enableStored m v).tmuLocked R.TMU_CFG 1).rd R.TMU_CFG = (s.enableStored m v).rd R.TMU_CFG :=
    State.rd_tmuLocked _ _ _ (by decide)
  refine ⟨_, hexec, rfl, ?_, ?_, (Journaled.tmuLocked_cfg (s.enableStored_jrn m v) hroom.one).ended w, fun a ha hj => ?_, fun a => ?_⟩
  · exact (congrArg (bits · 1 0) hcfg).trans (s.mach_enableStored m v)
  · exact (congrArg (·.getLsbD 16) hcfg).trans (State.fbit_en_tmuCfgStored ..)
  · exact (State.rd_tmuLocked _ _ _ (ne_jrnStatus_of_not_journalRegs hj)).trans (s.rd_enableStored_of_ne m v (by simpa using ha))
  · exact congrArg (SMap.get memDefault · a) ((State.tmuLocked_mem ..).trans (s.enableStored_mem m v))

/-- EN needs the periods of R220. -/
theorem tmuEnable_needs_periods (hroom : s.room 4) :
    ∃ t, exec (.tmuEnable m v) s = .next t ∧ t.answered 0 ∧ t.mach = fldOf F.TMU_CFG_MACH v ∧
      t.fbit F.TMU_CFG_EN = s.tmuPeriodsOk (fldOf F.TMU_CFG_MACH v) ∧
      (s.tmuPeriodsOk (fldOf F.TMU_CFG_MACH v) = false → Journaled s t C.TMU_CFG_LOCKED 255 { w0 := bytes4 0 0 1 0 }) ∧
      SameRegs s t [R.TMU_CFG] ∧ SameMem s t := by
  cases hok : s.tmuPeriodsOk (fldOf F.TMU_CFG_MACH v) with
  | true =>
    obtain ⟨t, hexec, hans, htmach, hset, hsame⟩ := tmuEnable_sets h hen hmach hmod hok
    exact ⟨t, hexec, hans, htmach, hset, nofun, hsame⟩
  | false =>
    obtain ⟨t, hexec, hans, htmach, hclear, hjrn, hsame⟩ := tmuEnable_refused h hen hmach hmod hok hroom
    exact ⟨t, hexec, hans, htmach, hclear, fun _ => hjrn, hsame⟩

end

end Sys2Proof.Machine

/-! What the gates of a group leave alone as they follow their commands (R312, R316 to R320), and the stop of the systems (R231). -/

namespace Sys2Proof.Machine

/-! ### Readings that gates, counters and records do not show in -/

/-- A reading of the state that depends on nothing gates that follow their commands change: the gate outputs, the counters, what a raised code
adds, and the registers from the timer groups' up. -/
structure GateBlind {α : Type} (φ : State → α) : Prop where
  wr : ∀ (s : State) (a : Nat) (v : Word), R.PWM_GRP_CFG 0 ≤ a → φ (s.wr a v) = φ s
  raiseAs : ∀ (s : State) (c : BitVec 16) (i k a : Nat) (p : Payload) (d : Bool), φ (s.raiseAs c i k a p d) = φ s
  pwm : ∀ (s : State) (x : Pwm), φ { s with pwm := x } = φ s
  pmc : ∀ (s : State) (x : Pmc), φ { s with pmc := x } = φ s

theorem grpCfg_le_grpStat (g : Nat) : R.PWM_GRP_CFG 0 ≤ R.PWM_GRP_STAT g := by simp only [R.PWM_GRP_CFG, R.PWM_GRP_STAT]; omega

theorem grpCfg_le_grpSwallow (g : Nat) : R.PWM_GRP_CFG 0 ≤ R.PWM_GRP_SWALLOW g := by simp only [R.PWM_GRP_CFG, R.PWM_GRP_SWALLOW]; omega

theorem grpCfg_le_pmcOvf (n : Nat) : R.PWM_GRP_CFG 0 ≤ R.PMC_OVF n := by simp only [R.PWM_GRP_CFG, R.PMC_OVF]; omega

namespace GateBlind

variable {α : Type} {φ : State → α} (h : GateBlind φ) (s : State)
include h

theorem count (n c : Nat) : φ (s.count n c) = φ s := by
  have hadd (u : State) (k : Nat) (x : PmcCyc) : φ (u.pmcAdd k x).1 = φ u := by
    obtain ⟨p, hp⟩ := u.pmcAdd_eq k x
    rw [hp, h.pmc]
  have hwrap (u : State) (k : Nat) : φ (u.pmcWrap k) = φ u := (h.raiseAs ..).trans (h.wr u _ _ (grpCfg_le_pmcOvf _))
  simp only [State.count]
  repeat' split
  all_goals simp only [hwrap, hadd]

theorem chanFollow (c : Nat) : φ (s.chanFollow c) = φ s := by
  have hcount (u : State) (g n : Nat) : φ ((u.finc (F.PWM_GRP_SWALLOW_CNT g) 1).count n 1) = φ u :=
    (h.count ..).trans (h.wr u _ _ (grpCfg_le_grpSwallow g))
  simp only [State.chanFollow]
  repeat' split
  · rfl
  · exact h.pwm ..
  · exact h.pwm ..
  · exact (hcount ..).trans (h.pwm ..)

theorem legConflict (g l kept : Nat) : φ (s.legConflict g l kept) = φ s := by
  have hcount (n : Nat) : φ ((s.rput (R.PWM_GRP_STAT g) (8 + l) true).count n 1) = φ s := (h.count ..).trans (h.wr s _ _ (grpCfg_le_grpStat g))
  simp only [State.legConflict]
  split
  · exact (h.raiseAs ..).trans ((h.pwm ..).trans (hcount _))
  · exact (h.pwm ..).trans (hcount _)

theorem legFollow (g l : Nat) : φ (s.legFollow g l) = φ s := by
  have hchans : φ ((s.chanFollow (chanOf g l 0)).chanFollow (chanOf g l 1)) = φ s := (h.chanFollow ..).trans (h.chanFollow ..)
  simp only [State.legFollow]
  split
  · split
    · exact hchans
    · exact (h.legConflict ..).trans hchans
  · split
    · exact (h.pwm ..).trans hchans
    · exact hchans

theorem grpFollow (g : Nat) : φ (s.grpFollow g) = φ s := by
  have hlegs (k : Nat) : φ (s.legsFollow g k) = φ s := by
    induction k with
    | zero => rfl
    | succ k ih => exact (h.legFollow ..).trans ih
  unfold State.grpFollow
  split
  · exact h.chanFollow ..
  · exact hlegs _

theorem removePattern (g : Nat) : φ (s.removePattern g) = φ s := by
  have hshow (u : State) : φ (u.showOverride g) = φ u := (h.wr _ _ _ (grpCfg_le_grpStat g)).trans (h.wr u _ _ (grpCfg_le_grpStat g))
  simp only [State.removePattern]
  generalize (if (s.patternAsked g).1 = 0 then 0 else (s.grp g).pat) = pat
  split
  · rfl
  · exact (hshow _).trans (h.pwm ..)

end GateBlind

/-! ### What a stop keeps -/

/-- What a write of EN = 0 is about, and the memory: TMU_CFG, the applied torque as the register and as the TMU hold it. -/
def State.torqueView (s : State) : Word × Word × F32 × SMap Byte := (s.rd R.TMU_CFG, s.rd R.TMU_TQ_APPLIED, s.tmu.tApp, s.mem)

section
variable (s : State)

/-- A write of another register keeps it. -/
theorem State.torqueView_wr {a : Nat} (v : Word) (hcfg : R.TMU_CFG ≠ a) (happ : R.TMU_TQ_APPLIED ≠ a) : (s.wr a v).torqueView = s.torqueView := by
  simp only [State.torqueView, s.rd_wr_of_ne v hcfg, s.rd_wr_of_ne v happ, State.wr_tmu, State.wr_mem]

theorem torqueView_gateBlind : GateBlind State.torqueView where
  wr s a v ha := s.torqueView_wr v (Nat.ne_of_lt (Nat.lt_of_lt_of_le (by decide) ha)) (Nat.ne_of_lt (Nat.lt_of_lt_of_le (by decide) ha))
  raiseAs s c i k a p d := by
    simp only [State.torqueView, s.rd_raiseAs c i k a p d (b := R.TMU_CFG) (by decide), s.rd_raiseAs c i k a p d (b := R.TMU_TQ_APPLIED) (by decide),
      State.raiseAs_tmu, State.raiseAs_mem]
  pwm _ _ := rfl
  pmc _ _ := rfl

theorem State.torqueView_setSysState (k v : Nat) : (s.setSysState k v).torqueView = s.torqueView := by
  unfold State.setSysState
  split
  · exact s.torqueView_wr _ (by decide) (by decide)
  · exact s.torqueView_wr _ (by decide) (by decide)

/-- Turning a system off (R231). -/
theorem State.torqueView_sysOffNow (k : Nat) : (s.sysOffNow k).torqueView = s.torqueView := by
  have hleg (v : Word) : (s.wr (R.PWM_GRP_LEGMODE k) v).torqueView = s.torqueView :=
    torqueView_gateBlind.wr s _ v (by simp only [R.PWM_GRP_CFG, R.PWM_GRP_LEGMODE]; omega)
  have hasked (u : State) : (if k = 0 then { u with pwm.ovrA := 0, tmu.stopA := false } else { u with pwm.ovrB := 0, tmu.stopB := false } : State).torqueView =
      u.torqueView := by split <;> rfl
  have hpattern (u : State) (run : Bool) : (if run then u else u.removePattern k).torqueView = u.torqueView := by
    cases run
    · exact torqueView_gateBlind.removePattern u k
    · rfl
  exact (torqueView_gateBlind.grpFollow ..).trans ((hpattern ..).trans ((hasked _).trans ((State.torqueView_setSysState ..).trans (hleg _))))

/-! A disabled context (R136, R161): its registers lie below the TMU's. -/

/-- A write below the TMU's registers. -/
theorem State.torqueView_wr_below {a : Nat} (v : Word) (ha : a < R.TMU_CFG) : (s.wr a v).torqueView = s.torqueView :=
  s.torqueView_wr v (Nat.ne_of_gt ha) (Nat.ne_of_gt (Nat.lt_trans ha (by decide)))

variable {n : Nat} (hn : n < 128)
include hn

theorem State.torqueView_zeroStates {lo k : Nat} (hk : lo + k ≤ 16) : (s.zeroStates n lo k).torqueView = s.torqueView := by
  induction k generalizing s lo with
  | zero => rfl
  | succ k ih =>
    have h1 : R.CLE_CTX_S1 n lo < R.TMU_CFG := by simp only [R.CLE_CTX_S1, R.TMU_CFG]; omega
    have h2 : R.CLE_CTX_S2 n lo < R.TMU_CFG := by simp only [R.CLE_CTX_S2, R.TMU_CFG]; omega
    rw [State.zeroStates, ih _ (by omega), State.torqueView_wr_below _ _ h2, State.torqueView_wr_below _ _ h1]

theorem State.torqueView_ctxCtrl (v : Word) : (s.wr (R.CLE_CTX_CTRL n) v).torqueView = s.torqueView :=
  s.torqueView_wr_below v (by simp only [R.CLE_CTX_CTRL, R.TMU_CFG]; omega)

theorem State.torqueView_ctxStat (v : Word) : (s.wr (R.CLE_CTX_STAT n) v).torqueView = s.torqueView :=
  s.torqueView_wr_below v (by simp only [R.CLE_CTX_STAT, R.TMU_CFG]; omega)

theorem State.torqueView_bankSwap : (s.bankSwap n).torqueView = s.torqueView := by
  have hlen (w : Word) (b : Nat) : (chainOf w b).2 < 16 := by
    unfold chainOf
    split <;> exact Nat.mod_lt _ (by decide)
  have hold : (s.chainAct n).2 < 16 := hlen ..
  have hnew := hlen (s.rd (R.CLE_CTX_CHAIN n)) (s.fget (F.CLE_CTX_CTRL_BANK n))
  simp only [State.bankSwap]
  repeat' split
  · rfl
  · exact (State.torqueView_zeroStates _ hn (by decide)).trans (s.torqueView_ctxCtrl hn _)
  · exact (State.torqueView_zeroStates _ hn (by omega)).trans (s.torqueView_ctxCtrl hn _)

theorem State.torqueView_ctxDisable : (s.ctxDisable n).torqueView = s.torqueView := by
  simp only [State.ctxDisable]
  split
  · exact s.torqueView_ctxCtrl hn _
  · exact (State.torqueView_bankSwap _ hn).trans ((State.torqueView_ctxStat _ hn _).trans (s.torqueView_ctxCtrl hn _))

end

/-! The managed contexts (R172) are among the 128. -/

theorem State.fget_lt (s : State) (f : Fld) : s.fget f < 2 ^ (f.hi + 1 - f.lo) := Nat.mod_lt _ (Nat.two_pow_pos _)

theorem State.managed_lt (s : State) (plane : Nat) : ∀ p ∈ s.managed plane, p.1 < 128 := by
  have hopt (b : Bool) (f : Fld) (x : Nat × Nat) (hf : f.hi + 1 - f.lo = 7) : ∀ p ∈ (if b then [(s.fget f, x)] else []), p.1 < 128 := by
    have hlt : s.fget f < 128 := lt_of_lt_of_eq (s.fget_lt f) (congrArg (2 ^ ·) hf)
    cases b <;> simp [hlt]
  unfold State.managed
  split
  · simp only [List.forall_mem_append]
    exact ⟨⟨⟨⟨hopt _ _ _ rfl, hopt _ _ _ rfl⟩, hopt _ _ _ rfl⟩, hopt _ _ _ rfl⟩, hopt _ _ _ rfl⟩
  · induction planeSystems s.mach plane with
    | nil => simp
    | cons k l ih =>
      simp only [List.foldr_cons, List.forall_mem_append]
      exact ⟨⟨⟨hopt _ _ _ rfl, hopt _ _ _ rfl⟩, hopt _ _ _ rfl⟩, ih⟩

theorem State.torqueView_disableManaged (s : State) (plane : Nat) : (s.disableManaged plane).torqueView = s.torqueView := by
  have hall (l : List (Nat × Nat × Nat)) (hl : ∀ p ∈ l, p.1 < 128) (u : State) :
      (l.foldl (fun u p => u.ctxDisable p.1) u).torqueView = u.torqueView := by
    induction l generalizing u with
    | nil => rfl
    | cons p l ih =>
      obtain ⟨hp, hrest⟩ := List.forall_mem_cons.mp hl
      exact (ih hrest _).trans (u.torqueView_ctxDisable hp)
  exact hall _ (s.managed_lt plane) s

theorem State.torqueView_disableAllManaged (s : State) : s.disableAllManaged.torqueView = s.torqueView := by
  simp only [State.disableAllManaged, State.torqueView_disableManaged]

/-! ### The stop (R231) -/

/-- The stop asked for: both systems are to stop at their update events, and no torque is applied. -/
def State.stopAsked (s : State) : State :=
  (({ s with tmu := { s.tmu with stopA := true, stopB := true, tApp := 0 } } : State).wr R.TMU_TQ_APPLIED 0).sput 0x08F 0

theorem State.torqueView_stopAsked (s : State) : s.stopAsked.torqueView = (s.rd R.TMU_CFG, 0, 0, s.mem) := by
  have hcfg : s.stopAsked.rd R.TMU_CFG = s.rd R.TMU_CFG := (State.rd_sput ..).trans (State.rd_wr_of_ne _ _ (by decide))
  have happ : s.stopAsked.rd R.TMU_TQ_APPLIED = 0 := (State.rd_sput ..).trans ((State.rd_wr_self ..).trans BitVec.zero_and)
  simp only [State.torqueView, hcfg, happ]
  rfl

/-- A system whose carrier stands still is off at once. -/
def State.offAtRest (s : State) (k : Nat) : State := if (s.grp k).running then s else s.sysOffNow k

theorem State.torqueView_offAtRest (s : State) (k : Nat) : (s.offAtRest k).torqueView = s.torqueView := by
  unfold State.offAtRest
  split
  · rfl
  · exact s.torqueView_sysOffNow k

theorem State.offAtRest_running {s : State} {k : Nat} (h : (s.grp k).running = true) : s.offAtRest k = s := if_pos h

/-- A stop in its three steps. -/
theorem State.tmuStop_eq (s : State) :
    s.tmuStop = if ((s.stopAsked.offAtRest 0).offAtRest 1).tmu.stopA || ((s.stopAsked.offAtRest 0).offAtRest 1).tmu.stopB then
      (s.stopAsked.offAtRest 0).offAtRest 1 else ((s.stopAsked.offAtRest 0).offAtRest 1).disableAllManaged := rfl

/-- A stop leaves TMU_CFG and the memory alone, and no torque is applied. -/
theorem State.torqueView_tmuStop (s : State) : s.tmuStop.torqueView = (s.rd R.TMU_CFG, 0, 0, s.mem) := by
  rw [State.tmuStop_eq, ← s.torqueView_stopAsked]
  have hboth : ((s.stopAsked.offAtRest 0).offAtRest 1).torqueView = s.stopAsked.torqueView := by simp only [State.torqueView_offAtRest]
  split
  · exact hboth
  · exact (State.torqueView_disableAllManaged _).trans hboth

/-- With both carriers running both systems wait for their update events. -/
theorem State.tmuStop_running {s : State} (h0 : (s.grp 0).running = true) (h1 : (s.grp 1).running = true) : s.tmuStop = s.stopAsked := by
  have hrest0 : s.stopAsked.offAtRest 0 = s.stopAsked := State.offAtRest_running h0
  have hrest1 : s.stopAsked.offAtRest 1 = s.stopAsked := State.offAtRest_running h1
  have hstop : s.stopAsked.tmu.stopA = true := rfl
  rw [State.tmuStop_eq, hrest0, hrest1, if_pos (by rw [hstop, Bool.true_or])]

/-- EN = 0 written while it is 1: with EN cleared, the systems are to stop. -/
theorem State.writeTmuCfg_disables {s : State} (w : WriteBy) {v : Word} (hen : s.fbit F.TMU_CFG_EN = true) (hv : v.getLsbD 16 = false) :
    ∃ u : State, s.writeTmuCfg w v = (u.fput F.TMU_CFG_EN false).tmuStop ∧ u.mem = s.mem ∧ u.pwm = s.pwm := by
  have hmem (x : Word) : (s.plainWrite w R.TMU_CFG x).mem = s.mem := s.plainWrite_mem ..
  have hpwm (x : Word) : (s.plainWrite w R.TMU_CFG x).pwm = s.pwm := by rw [s.plainWrite_eq w x RegMap.find_tmuCfg, State.wr_pwm]
  simp only [State.writeTmuCfg, hen, hv, Bool.false_and, Bool.not_false, Bool.and_self, Bool.false_eq_true, if_false, if_true]
  refine ⟨_, rfl, ?_, ?_⟩
  · split <;> simp only [State.tmuLocked_mem, hmem]
  · split <;> simp only [State.tmuLocked_pwm, hpwm]

/-- A write of EN = 0 stops the systems (R231). -/
theorem tmuDisable_stops {s : State} {m : Master} {v : Word} (h : s.grants m R.TMU_CFG) (hen : s.fbit F.TMU_CFG_EN = true) :
    ∃ t, exec (.tmuDisable m v) s = .next t ∧ t.answered 0 ∧ t.fbit F.TMU_CFG_EN = false ∧ t.tmu.tApp = 0 ∧ t.rd R.TMU_TQ_APPLIED = 0 ∧
      ((s.grp 0).running = true → (s.grp 1).running = true → t.tmu.stopA = true ∧ t.tmu.stopB = true) ∧ SameMem s t := by
  obtain ⟨u, heffect, humem, hupwm⟩ := State.writeTmuCfg_disables (s := s.atWrite m R.TMU_CFG) (v := v &&& ~~~ 0x10000) (s.writer m 0)
    (by simpa using hen) (by simp)
  obtain ⟨w, hexec⟩ := State.wrote_granted_eq h ((State.route_tmuCfg ..).trans heffect)
  have hview := (u.fput F.TMU_CFG_EN false).torqueView_tmuStop
  simp only [State.torqueView, Prod.mk.injEq] at hview
  obtain ⟨hcfg, happ, htapp, hmem⟩ := hview
  have hgrp (g : Nat) : (u.fput F.TMU_CFG_EN false).grp g = s.grp g := by
    simp only [State.grp, State.fput_pwm, hupwm, State.accessed_pwm, State.spend_pwm]
  refine ⟨_, hexec, rfl, ?_, htapp, happ, fun h0 h1 => ?_, fun a => ?_⟩
  · exact (congrArg (·.getLsbD 16) hcfg).trans (u.fbit_fput F.TMU_CFG_EN false rfl (by decide))
  · rw [State.ended_tmu, State.tmuStop_running (by rwa [hgrp]) (by rwa [hgrp])]
    exact ⟨rfl, rfl⟩
  · exact congrArg (SMap.get memDefault · a) (hmem.trans (humem.trans (s.mem_atWrite ..)))

/-- Settles O30: the measurement's beginning and its two ends, the enable and the stop, each a lemma above. -/
theorem torqueCalibrationAndEnable : Obligations.TorqueCalibrationAndEnable :=
  ⟨fun _ _ _ _ => tmuOffsetCalReq_begins, fun _ _ => tmuOffsetCalDone_stores, fun _ _ => tmuOffsetCalDone_fails,
    fun _ _ _ => tmuEnable_needs_periods, fun _ _ _ => tmuDisable_stops⟩

end Sys2Proof.Machine

/-! What the other blocks leave of position feedback: its registers below the Hall decoders', the resolver's records and the memory. The engine's
triggers (R143 to R150), the ADC's (R175 to R178), the patterns of the timer groups (R311), the compare channels and the moves that their fires
carry on (R288, R291, R432) and the loss of the position (R233) write elsewhere. -/

namespace Sys2Proof.Machine

/-! ### The reading -/

/-- Position feedback but for the Hall decoders and the compare channels, and the memory. -/
def State.resView (s : State) : (Fin 0x300 → Word) × Pfb × SMap Byte :=
  (fun i => s.rd (R.PFB_CFG + i.val), { s.pfb with cmpDirs := [], cmpWrote := [] }, s.mem)

section
variable {s t : State} (h : t.resView = s.resView)
include h

theorem State.rd_of_resView {a : Nat} (hlo : R.PFB_CFG ≤ a) (hhi : a < R.PFB_HALL_CFG 0) : t.rd a = s.rd a := by
  have hlt : a - R.PFB_CFG < 0x300 := by simp only [R.PFB_CFG, R.PFB_HALL_CFG] at *; omega
  have hrd := congrFun (congrArg Prod.fst h) ⟨a - R.PFB_CFG, hlt⟩
  simpa only [State.resView, Nat.add_sub_cancel' hlo] using hrd

/-- The records of position feedback, but for what the compare channels keep. -/
theorem State.pfb_of_resView : { t.pfb with cmpDirs := [], cmpWrote := [] } = ({ s.pfb with cmpDirs := [], cmpWrote := [] } : Pfb) :=
  congrArg (·.2.1) h

theorem State.mem_of_resView : t.mem = s.mem := congrArg (·.2.2) h

end

section
variable (s : State)

/-- A write of a register outside the range. -/
theorem State.resView_wr {a : Nat} (v : Word) (h : a < R.PFB_CFG ∨ R.PFB_HALL_CFG 0 ≤ a) : (s.wr a v).resView = s.resView := by
  have hne (i : Fin 0x300) : R.PFB_CFG + i.val ≠ a := by simp only [R.PFB_CFG, R.PFB_HALL_CFG] at *; omega
  simp only [State.resView, fun i => s.rd_wr_of_ne v (hne i), State.wr_pfb, State.wr_mem]

theorem State.resView_fset (f : Fld) (n : Nat) (h : f.addr < R.PFB_CFG ∨ R.PFB_HALL_CFG 0 ≤ f.addr) : (s.fset f n).resView = s.resView :=
  s.resView_wr _ h

theorem State.resView_fput (f : Fld) (b : Bool) (h : f.addr < R.PFB_CFG ∨ R.PFB_HALL_CFG 0 ≤ f.addr) : (s.fput f b).resView = s.resView :=
  s.resView_wr _ h

@[simp] theorem State.resView_sput (i : Nat) (v : F32) : (s.sput i v).resView = s.resView := rfl

@[simp] theorem State.resView_irq (p : Fin 3) (x : Half) (c : BitVec 16) (i : BitVec 8) (v : Tick) : (s.irq p x c i v).resView = s.resView := rfl

@[simp] theorem State.resView_raiseAs (c : BitVec 16) (i k a : Nat) (p : Payload) (d : Bool) : (s.raiseAs c i k a p d).resView = s.resView := by
  have hne (j : Fin 0x300) : R.PFB_CFG + j.val ≠ R.JRN_STATUS := by simp only [R.PFB_CFG, R.JRN_STATUS]; omega
  simp only [State.resView, fun j => s.rd_raiseAs c i k a p d (hne j), State.raiseAs_pfb, State.raiseAs_mem]

@[simp] theorem State.resView_raise (c : Code) (i : Nat) (p : Payload) : (s.raise c i p).resView = s.resView := s.resView_raiseAs ..

theorem pfbHallCfg_le_grpCfg : R.PFB_HALL_CFG 0 ≤ R.PWM_GRP_CFG 0 := by decide

theorem resView_gateBlind : GateBlind State.resView where
  wr s _ v ha := s.resView_wr v (.inr (Nat.le_trans pfbHallCfg_le_grpCfg ha))
  raiseAs s := s.resView_raiseAs
  pwm _ _ := rfl
  pmc _ _ := rfl

@[simp] theorem State.resView_count (n c : Nat) : (s.count n c).resView = s.resView := resView_gateBlind.count s n c

@[simp] theorem State.resView_setCtx (n : Nat) (c : CleCtx) : (s.setCtx n c).resView = s.resView := rfl

end

/-! ### Contexts of the engine -/

/-- The registers of the 128 contexts lie below position feedback's. -/
theorem ctxReg_lt_pfbCfg {n : Nat} (hn : n < 128) {i : Nat} (hi : i < 256) : 0x20050000 + i + 256 * n < R.PFB_CFG := by
  simp only [R.PFB_CFG]; omega

section
variable (s : State) {n : Nat} (hn : n < 128)
include hn

theorem State.resView_wrCtx {a i : Nat} (v : Word) (hi : i < 256) (ha : a = 0x20050000 + i + 256 * n) : (s.wr a v).resView = s.resView :=
  s.resView_wr v (.inl (ha ▸ ctxReg_lt_pfbCfg hn hi))

theorem State.resView_ctrl (v : Word) : (s.wr (R.CLE_CTX_CTRL n) v).resView = s.resView := s.resView_wrCtx hn v (i := 0) (by decide) rfl

theorem State.resView_stat (v : Word) : (s.wr (R.CLE_CTX_STAT n) v).resView = s.resView := s.resView_wrCtx hn v (i := 0x20) (by decide) rfl

theorem State.resView_zeroStates {lo k : Nat} (hk : lo + k ≤ 16) : (s.zeroStates n lo k).resView = s.resView := by
  induction k generalizing s lo with
  | zero => rfl
  | succ k ih =>
    have h1 (u : State) : (u.wr (R.CLE_CTX_S1 n lo) 0).resView = u.resView :=
      u.resView_wrCtx hn 0 (i := 0x80 + 8 * lo) (by omega) (by simp only [R.CLE_CTX_S1]; omega)
    have h2 (u : State) : (u.wr (R.CLE_CTX_S2 n lo) 0).resView = u.resView :=
      u.resView_wrCtx hn 0 (i := 0x84 + 8 * lo) (by omega) (by simp only [R.CLE_CTX_S2]; omega)
    rw [State.zeroStates, ih _ (by omega), h2, h1]

theorem State.resView_bankSwap : (s.bankSwap n).resView = s.resView := by
  have hlen (w : Word) (b : Nat) : (chainOf w b).2 < 16 := by
    unfold chainOf
    split <;> exact Nat.mod_lt _ (by decide)
  have hold : (s.chainAct n).2 < 16 := hlen ..
  have hnew := hlen (s.rd (R.CLE_CTX_CHAIN n)) (s.fget (F.CLE_CTX_CTRL_BANK n))
  simp only [State.bankSwap]
  repeat' split
  · rfl
  · exact (State.resView_zeroStates _ hn (by decide)).trans (s.resView_ctrl hn _)
  · exact (State.resView_zeroStates _ hn (by omega)).trans (s.resView_ctrl hn _)

theorem State.resView_ctxSuspend (g : Nat) : (s.ctxSuspend n g).resView = s.resView := by
  simp only [State.ctxSuspend]
  repeat' split
  · rfl
  · rfl
  · exact (State.resView_raise ..).trans (State.resView_stat _ hn _)

theorem State.resView_ctxEnable : (s.ctxEnable n).1.resView = s.resView := by
  have hstat (u : State) (f : Fld) (x : Nat) (hf : f.addr = R.CLE_CTX_STAT n) : (u.fset f x).resView = u.resView := by
    rw [State.fset, hf, u.resView_stat hn]
  have htmr (u : State) : (u.wr (R.CLE_CTX_FE_TMR n) 0).resView = u.resView := u.resView_wrCtx hn 0 (i := 0x7C) (by decide) rfl
  simp only [State.ctxEnable]
  split
  · exact (State.resView_raise ..).trans (s.resView_ctrl hn _)
  · generalize hset : State.setCtx _ n _ = u
    have hu : u.resView = s.resView := by
      rw [← hset, State.resView_setCtx, htmr, hstat _ _ _ rfl, State.fput, hstat _ _ _ rfl,
        State.fput, hstat _ _ _ rfl, State.fput, hstat _ _ _ rfl]
      exact s.resView_ctrl hn _
    generalize hzero : (if s.fbit (F.CLE_CTX_CTRL_ZERO_ON_EN n) then u.zeroStates n 0 8 else u) = w
    have hw : w.resView = s.resView := by
      rw [← hzero, apply_ite State.resView, State.resView_zeroStates _ hn (by decide), ite_self, hu]
    rw [apply_ite State.resView, State.resView_ctxSuspend _ hn, ite_self, hw]

theorem State.resView_ctxOverrun : (s.ctxOverrun n).resView = s.resView := by
  have hcount : ((s.finc (F.CLE_CTX_OVR_COUNT n) 1).count 0x049 1).resView = s.resView :=
    (State.resView_count ..).trans (s.resView_wrCtx hn _ (i := 0x30) (by decide) rfl)
  simp only [State.ctxOverrun]
  split
  · exact (State.resView_raise ..).trans hcount
  · exact hcount

theorem State.resView_ctxRelease (inst : Nat) : (s.ctxRelease n inst).resView = s.resView := by
  have hstamp (u : State) (x : Tick) : (u.wr64 (R.CLE_CTX_STAMP_LO n) (R.CLE_CTX_STAMP_HI n) x).resView = u.resView :=
    (State.resView_wrCtx _ hn _ (i := 0x78) (by decide) rfl).trans (u.resView_wrCtx hn _ (i := 0x74) (by decide) rfl)
  rw [State.ctxRelease, State.resView_count, State.resView_setCtx, hstamp, ← s.resView_bankSwap hn]
  exact State.resView_stat _ hn _

theorem State.resView_releaseIfReady : (s.releaseIfReady n).resView = s.resView := by
  unfold State.releaseIfReady
  repeat' split
  · rfl
  · exact s.resView_ctxRelease hn _
  · rfl

theorem State.resView_ctxCount (inst : Nat) (fm : Formers) : (s.ctxCount n inst fm).resView = s.resView := by
  simp only [State.ctxCount]
  repeat' split
  · rfl
  · exact s.resView_ctxSuspend hn _
  · exact s.resView_stat hn _
  · exact (State.resView_ctxOverrun _ hn).trans (s.resView_stat hn _)
  · exact (State.resView_releaseIfReady _ hn).trans ((State.resView_setCtx ..).trans (s.resView_stat hn _))

end

section
variable (s : State)

theorem State.resView_triggerAll (hit : Nat → Nat → Bool) (inst : Nat) (fm : Formers) {k : Nat} (hk : k ≤ 128) :
    (s.triggerAll hit inst fm k).resView = s.resView := by
  induction k with
  | zero => rfl
  | succ k ih => rw [State.triggerAll, apply_ite State.resView, State.resView_ctxCount _ hk, ite_self, ih (by omega)]

/-- A firing of a rate generator at the engine. -/
theorem State.resView_cleRate (m : Nat) : (s.cleRate m).resView = s.resView := State.resView_triggerAll _ _ _ _ (by decide)

theorem State.resView_suspendGroup (g : Nat) {k : Nat} (hk : k ≤ 128) : (s.suspendGroup g k).resView = s.resView := by
  induction k with
  | zero => rfl
  | succ k ih => rw [State.suspendGroup, apply_ite State.resView, State.resView_ctxSuspend _ hk, ite_self, ih (by omega)]

/-! ### The ADC -/

theorem State.resView_adcHold (q : Nat) : (s.adcHold q).resView = s.resView := by
  have hstamp (u : State) (x : Tick) : (u.wr64 (R.ADC_SEQ_STAMP_LO q) (R.ADC_SEQ_STAMP_HI q) x).resView = u.resView :=
    (State.resView_wr _ _ (.inr (by simp only [R.PFB_HALL_CFG, R.ADC_SEQ_STAMP_HI]; omega))).trans
      (u.resView_wr _ (.inr (by simp only [R.PFB_HALL_CFG, R.ADC_SEQ_STAMP_LO]; omega)))
  simp only [State.adcHold]
  split
  · exact hstamp _ _
  · exact hstamp _ _

theorem State.resView_adcTrigger (q : Nat) : (s.adcTrigger q).resView = s.resView := by
  simp only [State.adcTrigger]
  repeat' split
  · rfl
  · exact (State.resView_count ..).trans (s.resView_wr _ (.inr (by simp only [R.PFB_HALL_CFG, R.ADC_SEQ_LATE]; omega)))
  · exact s.resView_adcHold q
  · rfl

/-- A firing of a rate generator at the ADC. -/
theorem State.resView_adcRate (m : Nat) : (s.adcRate m).resView = s.resView := by
  have hall (hit : Nat → Nat → Bool) (k : Nat) : (s.adcTriggerAll hit k).resView = s.resView := by
    induction k with
    | zero => rfl
    | succ k ih => rw [State.adcTriggerAll, apply_ite State.resView, State.resView_adcTrigger, ite_self, ih]
  exact hall _ _

/-! ### The loss of the position -/

theorem State.resView_applyPattern (g : Nat) : (s.applyPattern g).resView = s.resView := by
  have hstat (u : State) (v : Word) : (u.wr (R.PWM_GRP_STAT g) v).resView = u.resView :=
    u.resView_wr v (.inr (Nat.le_trans pfbHallCfg_le_grpCfg (grpCfg_le_grpStat g)))
  have hshow (u : State) : (u.showOverride g).resView = u.resView := (hstat ..).trans (hstat ..)
  simp only [State.applyPattern]
  split
  · rw [resView_gateBlind.grpFollow, apply_ite State.resView, State.resView_suspendGroup _ _ (by decide), ite_self, hshow]
    rfl
  · rfl

theorem State.resView_holdSys (k : Nat) : (s.holdSys k).resView = s.resView := by
  have hshown (u : State) (v : Nat) : (u.setSysState k v).resView = u.resView := by
    unfold State.setSysState
    split
    · exact u.resView_fset _ _ (.inl (by decide))
    · exact u.resView_fset _ _ (.inl (by decide))
  rw [State.holdSys, State.resView_applyPattern, hshown, apply_ite State.resView]
  exact ite_self _

theorem State.resView_holdBoth : s.holdBoth.resView = s.resView := by
  simp only [State.holdBoth, apply_ite State.resView, State.resView_holdSys, ite_self]

theorem State.resView_posInvalid : s.posInvalid.resView = s.resView := by
  simp only [State.posInvalid, State.resView_raiseAs, apply_ite State.resView, State.resView_fput _ F.TMU_STAT_POS_HOLD _ (.inl (by decide)),
    ite_self, State.resView_holdBoth, State.resView_sput]
  exact State.resView_wr _ _ (.inl (by decide))

/-! ### The compare channels and the moves they carry on -/

theorem pfbHallCfg_le_cmp (c : Nat) : R.PFB_HALL_CFG 0 ≤ R.PFB_CMP_CTRL c ∧ R.PFB_HALL_CFG 0 ≤ R.PFB_CMP_VAL c ∧ R.PFB_HALL_CFG 0 ≤ R.PFB_CMP_STAT c ∧
    R.PFB_HALL_CFG 0 ≤ R.PFB_CMP_STAMP_LO c ∧ R.PFB_HALL_CFG 0 ≤ R.PFB_CMP_STAMP_HI c := by
  simp only [R.PFB_HALL_CFG, R.PFB_CMP_CTRL, R.PFB_CMP_VAL, R.PFB_CMP_STAT, R.PFB_CMP_STAMP_LO, R.PFB_CMP_STAMP_HI]
  omega

theorem State.resView_cmpFire (c : Nat) (behind : Bool) (stamp : Tick) : (s.cmpFire c behind stamp).resView = s.resView := by
  obtain ⟨-, -, hstat, hlo, hhi⟩ := pfbHallCfg_le_cmp c
  simp only [State.cmpFire, apply_ite State.resView, State.resView_raise, ite_self, State.resView_irq, State.resView_count, State.wr64,
    State.resView_wr _ _ (.inr hhi), State.resView_wr _ _ (.inr hlo), State.resView_fput _ (F.PFB_CMP_STAT_ARMED c) _ (.inr hstat),
    State.resView_fput _ (F.PFB_CMP_STAT_FIRED c) _ (.inr hstat), State.resView_fput _ (F.PFB_CMP_STAT_CMP_BEHIND c) _ (.inr hstat)]

theorem State.resView_cmpTest (c : Nat) (v : Word) : (s.cmpTest c v).1.resView = s.resView := by
  obtain ⟨-, hval, hstat, -, -⟩ := pfbHallCfg_le_cmp c
  simp only [State.cmpTest, apply_ite Prod.fst, apply_ite State.resView, State.resView_cmpFire, ite_self,
    State.resView_fput _ (F.PFB_CMP_STAT_ARMED c) _ (.inr hstat), State.resView_fput _ (F.PFB_CMP_STAT_D c) _ (.inr hstat),
    State.resView_fput _ (F.PFB_CMP_STAT_CMP_BEHIND c) _ (.inr hstat), State.resView_wr _ _ (.inr hval)]

theorem State.resView_cmpArmAt (c : Nat) (v : Word) : (s.cmpArmAt c v).1.resView = s.resView := (State.resView_cmpTest _ c v).trans rfl

theorem State.resView_actEnter (m st : Nat) : (s.actEnter m st).resView = s.resView := by
  have hstate : (s.fset (F.ACT_STAT_STATE m) st).resView = s.resView :=
    s.resView_fset _ _ (.inr (by simp only [F.ACT_STAT_STATE, R.PFB_HALL_CFG, R.ACT_STAT]; omega))
  have henable (u : State) : (u.ctxEnable (u.actCtx m)).1.resView = u.resView := u.resView_ctxEnable (u.fget_lt (F.ACT_CFG_CTX m))
  simp only [State.actEnter, apply_ite State.resView, henable, hstate, ite_self]

theorem State.resView_actArm (m : Nat) (v : Word) : (s.actArm m v).1.resView = s.resView := by
  simp only [State.actArm]
  generalize 5 + m = c
  obtain ⟨hctrl, -, -, -, -⟩ := pfbHallCfg_le_cmp c
  rw [State.resView_cmpArmAt, State.resView_fset _ (F.PFB_CMP_CTRL_DIR c) _ (.inr hctrl), State.resView_fset _ (F.PFB_CMP_CTRL_SRC c) _ (.inr hctrl),
    State.resView_fput _ (F.PFB_CMP_CTRL_EN c) _ (.inr hctrl)]

theorem State.resView_actFired (m : Nat) : (s.actFired m).resView = s.resView := by
  unfold State.actFired
  repeat' split
  · rfl
  · simp only [State.actCreep, apply_ite State.resView, State.resView_actEnter, State.resView_actArm, ite_self]
  · exact s.resView_actEnter m 1
  · rfl

theorem State.resView_cmpFires (src : Nat) (p q : Word) (stamp : Tick) (k : Nat) : (s.cmpFires src p q stamp k).1.resView = s.resView := by
  induction k with
  | zero => rfl
  | succ k ih =>
    simp only [State.cmpFires]
    repeat' split
    · exact (State.resView_cmpTest ..).trans ih
    · exact (State.resView_cmpTest ..).trans ih
    · exact (State.resView_cmpFire ..).trans ih
    · exact ih

/-- A counter has changed. -/
theorem State.resView_counterChange (src : Nat) (p q : Word) (stamp : Tick) : (s.counterChange src p q stamp).resView = s.resView := by
  have hevents (l : List Nat) (u : State) : (u.actEvents l).resView = u.resView := by
    induction l generalizing u with
    | nil => rfl
    | cons c l ih => rw [State.actEvents, ih, apply_ite State.resView, State.resView_actFired, ite_self]
  rw [State.counterChange, hevents, State.cmpChange]
  split
  · rfl
  · exact State.resView_cmpFires ..

end

end Sys2Proof.Machine

/-! PFB_STAT, the published position and the movement of the resolver's angle (R250 to R254, R259, R264, R267). -/

namespace Sys2Proof.Machine

/-! ### Bits and fields of PFB_STAT -/

/-- The bit of PFB_STAT at `i`, as a field. -/
abbrev statBit (i : Nat) : Fld := ⟨R.PFB_STAT, i, i⟩

/-- PFB_STAT has VALID, ACQ, LOCK and ENC_REF. -/
theorem RegMap.impl_pfbStat : ∀ i < 4, (RegMap.impl R.PFB_STAT).getLsbD i = true := by decide

theorem RegMap.impl_pfbStat_cause (i : Nat) (hlo : 8 ≤ i) (hhi : i ≤ 11) : (RegMap.impl R.PFB_STAT).getLsbD i = true := by
  have hbits : ∀ i < 12, 8 ≤ i → (RegMap.impl R.PFB_STAT).getLsbD i = true := by decide
  exact hbits i (Nat.lt_succ_of_le hhi) hlo

section
variable (s : State)

theorem State.fbit_fput_statBit {i j : Nat} (hj : j < 4) (b : Bool) :
    (s.fput (statBit i) b).fbit (statBit j) = if j = i then b else s.fbit (statBit j) := by
  split
  · next h => exact h ▸ s.fbit_fput (statBit j) b rfl (RegMap.impl_pfbStat j hj)
  · next h => exact s.fbit_fset (statBit i) (statBit j) _ (.inr (Nat.lt_or_gt_of_ne h)) fun _ => RegMap.impl_pfbStat j hj

theorem State.fbit_fset_cause {j : Nat} (hj : j < 4) (n : Nat) : (s.fset F.PFB_STAT_CAUSE n).fbit (statBit j) = s.fbit (statBit j) :=
  s.fbit_fset F.PFB_STAT_CAUSE (statBit j) n (.inr (.inl (Nat.lt_of_lt_of_le hj (by decide)))) fun _ => RegMap.impl_pfbStat j hj

theorem State.fget_cause_fput {i : Nat} (hi : i < 4) (b : Bool) : (s.fput (statBit i) b).fget F.PFB_STAT_CAUSE = s.fget F.PFB_STAT_CAUSE :=
  s.fget_fset_of_disjoint (statBit i) F.PFB_STAT_CAUSE _ (.inr (Nat.lt_of_lt_of_le hi (by decide))) RegMap.impl_pfbStat_cause

theorem State.fget_cause_fset {n : Nat} (hn : n < 16) : (s.fset F.PFB_STAT_CAUSE n).fget F.PFB_STAT_CAUSE = n :=
  s.fget_fset_self F.PFB_STAT_CAUSE hn (by decide) RegMap.impl_pfbStat_cause

/-! ### The published position (R250, R251) -/

@[simp] theorem State.rd_posPublish (a : Nat) : s.posPublish.rd a = s.rd a := by
  rw [State.posPublish]
  split
  · rw [State.rd_sput, State.rd_sput, State.rd_sput, State.rd_sput, State.rd_sput]
  · rw [State.rd_sput]

@[simp] theorem State.resView_posPublish : s.posPublish.resView = s.resView := by
  rw [State.posPublish]
  split
  · rw [State.resView_sput, State.resView_sput, State.resView_sput, State.resView_sput, State.resView_sput]
  · rw [State.resView_sput]

theorem State.rd_encForm (a : Nat) : s.encForm.rd a = s.rd a := by
  rw [State.encForm, State.encPublish, State.rd_posPublish, State.rd_sput, State.rd_sput]

theorem State.encForm_mem : s.encForm.mem = s.mem := by
  have hview : s.encForm.resView = s.resView := by
    rw [State.encForm, State.encPublish, State.resView_posPublish, State.resView_sput, State.resView_sput]
  exact State.mem_of_resView hview

/-! ### VALID (R233, R254, R267) -/

/-- What bringing VALID up to date stores in PFB_STAT and the records of position feedback. -/
def State.validShown (cause : Nat) : State :=
  if s.fbit F.PFB_STAT_VALID = s.srcValid then s
  else if s.srcValid then { s.fput F.PFB_STAT_VALID true with pfb.validSince := some s.time }
  else ({ s.fput F.PFB_STAT_VALID false with pfb.validSince := none } : State).fset F.PFB_STAT_CAUSE cause

theorem State.resView_validUpdate (cause : Nat) : (s.validUpdate cause).resView = (s.validShown cause).resView := by
  simp only [State.validUpdate, State.validShown]
  repeat' split
  · rfl
  · exact State.resView_posPublish _
  · exact State.resView_posInvalid _

/-- Any other register of position feedback. -/
theorem State.rd_validUpdate_of_ne (cause : Nat) {a : Nat} (hlo : R.PFB_CFG ≤ a) (hhi : a < R.PFB_HALL_CFG 0) (hne : a ≠ R.PFB_STAT) :
    (s.validUpdate cause).rd a = s.rd a := by
  rw [State.rd_of_resView (s.resView_validUpdate cause) hlo hhi, State.validShown]
  repeat' split
  · rfl
  · exact s.rd_fput_of_ne F.PFB_STAT_VALID true hne
  · exact (State.rd_fset_of_ne _ F.PFB_STAT_CAUSE _ hne).trans (s.rd_fput_of_ne F.PFB_STAT_VALID false hne)

theorem State.rd_stat_validUpdate (cause : Nat) : (s.validUpdate cause).rd R.PFB_STAT = (s.validShown cause).rd R.PFB_STAT :=
  State.rd_of_resView (s.resView_validUpdate cause) (by decide) (by decide)

/-- VALID is whether the selected source gives a valid position. -/
theorem State.fbit_valid_validUpdate (cause : Nat) : (s.validUpdate cause).fbit F.PFB_STAT_VALID = s.srcValid := by
  refine (congrArg (·.getLsbD 0) (s.rd_stat_validUpdate cause)).trans ?_
  unfold State.validShown
  split
  · next h => exact h
  · split
    · next h => exact (s.fbit_fput_statBit (j := 0) (by decide) true).trans h.symm
    · next h =>
      rw [eq_false_of_ne_true h]
      exact (State.fbit_fset_cause _ (j := 0) (by decide) cause).trans (s.fbit_fput_statBit (j := 0) (by decide) false)

/-- ACQ, LOCK and ENC_REF stay. -/
theorem State.fbit_statBit_validUpdate (cause : Nat) {j : Nat} (hj : j < 4) (h0 : j ≠ 0) :
    (s.validUpdate cause).fbit (statBit j) = s.fbit (statBit j) := by
  have hput (b : Bool) : (s.fput (statBit 0) b).fbit (statBit j) = s.fbit (statBit j) := (s.fbit_fput_statBit hj b).trans (if_neg h0)
  refine (congrArg (·.getLsbD j) (s.rd_stat_validUpdate cause)).trans ?_
  unfold State.validShown
  repeat' split
  · rfl
  · exact hput true
  · exact (State.fbit_fset_cause _ hj cause).trans (hput false)

/-- CAUSE, where the cause is shown already. -/
theorem State.fget_cause_validUpdate {cause : Nat} (h : s.fget F.PFB_STAT_CAUSE = cause) (hc : cause < 16) :
    (s.validUpdate cause).fget F.PFB_STAT_CAUSE = cause := by
  refine (congrArg (bits · 11 8) (s.rd_stat_validUpdate cause)).trans ?_
  unfold State.validShown
  repeat' split
  · exact h
  · exact (s.fget_cause_fput (i := 0) (by decide) true).trans h
  · exact State.fget_cause_fset _ hc

/-- Of the records of position feedback it writes since when VALID holds. -/
theorem State.pfb_validUpdate (cause : Nat) : { (s.validUpdate cause).pfb with cmpDirs := [], cmpWrote := [], validSince := none } =
    ({ s.pfb with cmpDirs := [], cmpWrote := [], validSince := none } : Pfb) := by
  have hshown : { (s.validShown cause).pfb with validSince := none } = ({ s.pfb with validSince := none } : Pfb) := by
    unfold State.validShown
    repeat' split
    all_goals rfl
  have hpfb := State.pfb_of_resView (s.resView_validUpdate cause)
  exact (congrArg (fun p : Pfb => { p with validSince := none }) hpfb).trans
    (congrArg (fun p : Pfb => { p with cmpDirs := [], cmpWrote := [] }) hshown)

theorem State.validUpdate_mem (cause : Nat) : (s.validUpdate cause).mem = s.mem := by
  rw [State.mem_of_resView (s.resView_validUpdate cause), State.validShown]
  repeat' split
  all_goals rfl

/-! ### The angle φ̂ (R259) -/

/-- A position moved by the difference of two fractions of a turn has the second as its fraction. -/
theorem w32_add_toInt_sub (turns : Nat) (old new : Word) :
    w32 ((Int.ofNat (turns * 2 ^ 32 + old.toNat) + (new - old).toInt) % (2 ^ 48 : Int)).toNat = new := by
  have hnew := new.isLt
  have hold := old.isLt
  refine BitVec.eq_of_toNat_eq ?_
  rw [w32, BitVec.toNat_ofNat, BitVec.toInt_eq_toNat_cond, BitVec.toNat_sub]
  simp only [Int.ofNat_eq_natCast]
  split <;> omega

/-- φ̂ set to a fraction of a turn shows in PFB_RES_FINE and PFB_RES_ANGLE. -/
theorem State.resView_phiSet (f : Word) : ∃ x, (s.phiSet f).resView = ((s.wr R.PFB_RES_FINE f).wr R.PFB_RES_ANGLE x).resView := by
  have hmove (d : Int) : ∃ x, (s.phiMove d).resView =
      ((s.wr R.PFB_RES_FINE (w32 ((Int.ofNat (s.fget F.PFB_RES_ANGLE_TURNS * 2 ^ 32 + (s.rd R.PFB_RES_FINE).toNat) + d) % (2 ^ 48 : Int)).toNat)).wr
        R.PFB_RES_ANGLE x).resView :=
    ⟨_, (State.resView_posPublish _).trans (State.resView_counterChange ..)⟩
  obtain ⟨x, hx⟩ := hmove (f - s.rd R.PFB_RES_FINE).toInt
  rw [w32_add_toInt_sub] at hx
  exact ⟨x, hx⟩

theorem RegMap.impl_resFine : RegMap.impl R.PFB_RES_FINE = BitVec.allOnes 32 := by decide

theorem State.rd_fine_phiSet (f : Word) : (s.phiSet f).rd R.PFB_RES_FINE = f := by
  obtain ⟨x, hx⟩ := s.resView_phiSet f
  rw [State.rd_of_resView hx (by decide) (by decide), State.rd_wr_of_ne _ _ (by decide), State.rd_wr_full _ _ RegMap.impl_resFine]

theorem State.pfb_phiSet (f : Word) : { (s.phiSet f).pfb with cmpDirs := [], cmpWrote := [] } = ({ s.pfb with cmpDirs := [], cmpWrote := [] } : Pfb) := by
  obtain ⟨x, hx⟩ := s.resView_phiSet f
  exact (State.pfb_of_resView hx).trans rfl

end

end Sys2Proof.Machine

/-! The enables of position feedback and of the resolver (R253, R256, R262). -/

namespace Sys2Proof.Machine

/-! ### The end of a granted write -/

/-- A granted write whose effect in its block leaves `e` ends well, with the registers, position feedback, the memory and the journal of `e`. -/
theorem State.wrote_granted_frame {s e : State} {m : Master} {a : Nat} {v : Word} (h : s.grants m a)
    (he : (s.atWrite m a).route (s.writer m 0) a v = e) :
    ∃ t, s.wrote m a v = .next t ∧ t.answered 0 ∧ (∀ b, t.rd b = e.rd b) ∧ t.pfb = e.pfb ∧ t.mem = e.mem ∧ t.jrn = e.jrn := by
  obtain ⟨w, hexec⟩ := State.wrote_granted_eq h he
  exact ⟨e.ended w, hexec, rfl, fun _ => rfl, rfl, rfl, rfl⟩

theorem SameMem.of_mem {s t : State} (h : t.mem = s.mem) : SameMem s t := fun a => congrArg (SMap.get memDefault · a) h

theorem Journaled.congr {s t u : State} {c : Code} {i : Nat} {p : Payload} (h : Journaled s t c i p) (hu : u.jrn = t.jrn) : Journaled s u c i p := by
  simp only [Journaled, State.noted, hu] at h ⊢
  exact h

/-! ### The enable of position feedback (R253) -/

/-- A field of a register after the register is written. -/
theorem State.fget_wr_self (s : State) (f : Fld) (v : Word) (himpl : ∀ i, f.lo ≤ i → i ≤ f.hi → (RegMap.impl f.addr).getLsbD i = true) :
    (s.wr f.addr v).fget f = fldOf f v := by
  refine bits_congr fun i hlo hhi => ?_
  rw [State.rd_wr_self, BitVec.getLsbD_and, himpl i hlo hhi, Bool.and_true]

/-- A value in a field's stated range is written as it is. -/
theorem State.openRange_within (s : State) {f : Fld} {lo hi : Nat} {v : Word} (h : lo ≤ fldOf f v ∧ fldOf f v ≤ hi) : s.openRange f lo hi v = v := by
  simp [State.openRange, within, h]

/-- PFB_CFG has POLE, RPOLE and SRC. -/
theorem RegMap.impl_pfbCfg : ∀ i < 21, 16 ≤ i ∨ (8 ≤ i ∧ i < 12) ∨ i < 2 → (RegMap.impl R.PFB_CFG).getLsbD i = true := by decide

theorem RegMap.impl_pfbCfg_pole (i : Nat) (hlo : 16 ≤ i) (hhi : i ≤ 20) : (RegMap.impl R.PFB_CFG).getLsbD i = true :=
  RegMap.impl_pfbCfg i (by omega) (.inl hlo)

theorem RegMap.impl_pfbCfg_rpole (i : Nat) (hlo : 8 ≤ i) (hhi : i ≤ 11) : (RegMap.impl R.PFB_CFG).getLsbD i = true :=
  RegMap.impl_pfbCfg i (by omega) (.inr (.inl ⟨hlo, by omega⟩))

theorem RegMap.impl_pfbCfg_src (i : Nat) (hhi : i ≤ 1) : (RegMap.impl R.PFB_CFG).getLsbD i = true :=
  RegMap.impl_pfbCfg i (by omega) (.inr (.inr (by omega)))

theorem fldOf_lt (f : Fld) (v : Word) : fldOf f v < 2 ^ (f.hi + 1 - f.lo) := Nat.mod_lt _ (Nat.two_pow_pos _)

/-- POLE, RPOLE and SRC of a value at their places, EN clear. -/
def cfgWord (v : Word) : Word := w32 (fldOf F.PFB_CFG_POLE v * 2 ^ 16 + fldOf F.PFB_CFG_RPOLE v * 2 ^ 8 + fldOf F.PFB_CFG_SRC v)

section
variable (v : Word)

theorem cfgWord_toNat : (cfgWord v).toNat = fldOf F.PFB_CFG_POLE v * 2 ^ 16 + fldOf F.PFB_CFG_RPOLE v * 2 ^ 8 + fldOf F.PFB_CFG_SRC v ∧
    fldOf F.PFB_CFG_POLE v < 32 ∧ fldOf F.PFB_CFG_RPOLE v < 16 ∧ fldOf F.PFB_CFG_SRC v < 4 := by
  have hpole : fldOf F.PFB_CFG_POLE v < 32 := fldOf_lt ..
  have hrpole : fldOf F.PFB_CFG_RPOLE v < 16 := fldOf_lt ..
  have hsrc : fldOf F.PFB_CFG_SRC v < 4 := fldOf_lt ..
  refine ⟨?_, hpole, hrpole, hsrc⟩
  rw [cfgWord, w32, BitVec.toNat_ofNat]
  omega

theorem fldOf_pole_cfgWord : fldOf F.PFB_CFG_POLE (cfgWord v) = fldOf F.PFB_CFG_POLE v := by
  obtain ⟨hv, hpole, hrpole, hsrc⟩ := cfgWord_toNat v
  change (cfgWord v).toNat / 2 ^ 16 % 2 ^ 5 = _
  omega

theorem fldOf_rpole_cfgWord : fldOf F.PFB_CFG_RPOLE (cfgWord v) = fldOf F.PFB_CFG_RPOLE v := by
  obtain ⟨hv, hpole, hrpole, hsrc⟩ := cfgWord_toNat v
  change (cfgWord v).toNat / 2 ^ 8 % 2 ^ 4 = _
  omega

theorem fldOf_src_cfgWord : fldOf F.PFB_CFG_SRC (cfgWord v) = fldOf F.PFB_CFG_SRC v := by
  obtain ⟨hv, hpole, hrpole, hsrc⟩ := cfgWord_toNat v
  change (cfgWord v).toNat / 2 ^ 0 % 2 ^ 2 = _
  omega

theorem getLsbD_en_cfgWord : (cfgWord v).getLsbD 31 = false := by
  obtain ⟨hv, hpole, hrpole, hsrc⟩ := cfgWord_toNat v
  exact Nat.testBit_lt_two_pow (by omega)

end

/-- What a write of PFB_CFG shows of the fields of its value. -/
structure State.ShowsCfg (t : State) (v : Word) : Prop where
  pole : t.fget F.PFB_CFG_POLE = fldOf F.PFB_CFG_POLE v
  rpole : t.fget F.PFB_CFG_RPOLE = fldOf F.PFB_CFG_RPOLE v
  src : t.fget F.PFB_CFG_SRC = fldOf F.PFB_CFG_SRC v

theorem State.ShowsCfg.congr {s t : State} {v : Word} (h : s.ShowsCfg v) (hrd : t.rd R.PFB_CFG = s.rd R.PFB_CFG) : t.ShowsCfg v :=
  ⟨(congrArg (bits · 20 16) hrd).trans h.pole, (congrArg (bits · 11 8) hrd).trans h.rpole, (congrArg (bits · 1 0) hrd).trans h.src⟩

theorem State.showsCfg_wr (s : State) (v : Word) : (s.wr R.PFB_CFG (cfgWord v)).ShowsCfg v where
  pole := (s.fget_wr_self F.PFB_CFG_POLE _ RegMap.impl_pfbCfg_pole).trans (fldOf_pole_cfgWord v)
  rpole := (s.fget_wr_self F.PFB_CFG_RPOLE _ RegMap.impl_pfbCfg_rpole).trans (fldOf_rpole_cfgWord v)
  src := (s.fget_wr_self F.PFB_CFG_SRC _ fun i _ => RegMap.impl_pfbCfg_src i).trans (fldOf_src_cfgWord v)

theorem State.ShowsCfg.fput_en {s : State} {v : Word} (h : s.ShowsCfg v) (b : Bool) : (s.fput F.PFB_CFG_EN b).ShowsCfg v where
  pole := (s.fget_fset_of_disjoint F.PFB_CFG_EN F.PFB_CFG_POLE _ (by decide) RegMap.impl_pfbCfg_pole).trans h.pole
  rpole := (s.fget_fset_of_disjoint F.PFB_CFG_EN F.PFB_CFG_RPOLE _ (by decide) RegMap.impl_pfbCfg_rpole).trans h.rpole
  src := (s.fget_fset_of_disjoint F.PFB_CFG_EN F.PFB_CFG_SRC _ (by decide) fun i _ => RegMap.impl_pfbCfg_src i).trans h.src

theorem State.route_pfbCfg (s : State) (w : WriteBy) (v : Word) : s.route w R.PFB_CFG v = s.pfbCfgWrite v := rfl

/-- EN = 1 written while it is 0, with POLE, RPOLE and SRC in their ranges: EN is set where POLE is a multiple of RPOLE, and else reported. -/
theorem State.pfbCfgWrite_enables {s : State} {v : Word} (hen : s.fbit F.PFB_CFG_EN = false) (hv : v.getLsbD 31 = true)
    (hpole : 1 ≤ fldOf F.PFB_CFG_POLE v ∧ fldOf F.PFB_CFG_POLE v ≤ 16) (hrpole : 1 ≤ fldOf F.PFB_CFG_RPOLE v ∧ fldOf F.PFB_CFG_RPOLE v ≤ 8)
    (hsrc : fldOf F.PFB_CFG_SRC v ≤ 1) :
    s.pfbCfgWrite v = if fldOf F.PFB_CFG_POLE v % fldOf F.PFB_CFG_RPOLE v = 0 then
        (((s.wr R.PFB_CFG (cfgWord v)).fput F.PFB_CFG_EN true).validUpdate 0).encForm
      else (s.wr R.PFB_CFG (cfgWord v)).raise C.PFB_CFG_INVALID 255 {} := by
  have hoff : (s.rd R.PFB_CFG).getLsbD 31 = false := hen
  have hsrc' : bits v 1 0 ≤ 1 := hsrc
  simp only [State.pfbCfgWrite, hoff, Bool.false_eq_true, if_false, s.openRange_within hrpole, s.openRange_within hpole, hv, Bool.not_true,
    if_pos hsrc']
  rfl

section
variable {s : State} {m : Master} {v : Word} (h : s.grants m R.PFB_CFG) (hen : s.fbit F.PFB_CFG_EN = false) (hv : v.getLsbD 31 = true)
  (hpole : 1 ≤ fldOf F.PFB_CFG_POLE v ∧ fldOf F.PFB_CFG_POLE v ≤ 16) (hrpole : 1 ≤ fldOf F.PFB_CFG_RPOLE v ∧ fldOf F.PFB_CFG_RPOLE v ≤ 8)
  (hsrc : fldOf F.PFB_CFG_SRC v ≤ 1)
include h hen hv hpole hrpole hsrc

/-- With POLE a multiple of RPOLE position feedback is enabled. -/
theorem pfbEnable_sets (hmul : fldOf F.PFB_CFG_POLE v % fldOf F.PFB_CFG_RPOLE v = 0) :
    ∃ t, exec (.pfbEnable m v) s = .next t ∧ t.answered 0 ∧ t.fbit F.PFB_CFG_EN = true ∧ t.ShowsCfg v ∧ SameMem s t := by
  have heffect := State.pfbCfgWrite_enables (s := s.atWrite m R.PFB_CFG) (by simpa using hen) hv hpole hrpole hsrc
  rw [if_pos hmul] at heffect
  obtain ⟨t, hexec, hans, hrd, -, hmem, -⟩ := State.wrote_granted_frame h ((State.route_pfbCfg ..).trans heffect)
  let u := ((s.atWrite m R.PFB_CFG).wr R.PFB_CFG (cfgWord v)).fput F.PFB_CFG_EN true
  have hcfg : t.rd R.PFB_CFG = u.rd R.PFB_CFG :=
    (hrd _).trans ((State.rd_encForm ..).trans (u.rd_validUpdate_of_ne 0 (by decide) (by decide) (by decide)))
  have hset : u.fbit F.PFB_CFG_EN = true := State.fbit_fput _ F.PFB_CFG_EN true rfl (by decide)
  refine ⟨t, hexec, hans, (congrArg (·.getLsbD 31) hcfg).trans hset, ((State.showsCfg_wr _ v).fput_en true).congr hcfg, .of_mem (hmem.trans ?_)⟩
  rw [State.encForm_mem, State.validUpdate_mem, State.fput_mem, State.wr_mem, State.mem_atWrite]

/-- Else EN stays 0, and the command is reported. -/
theorem pfbEnable_refused (hmul : fldOf F.PFB_CFG_POLE v % fldOf F.PFB_CFG_RPOLE v ≠ 0) :
    ∃ t, exec (.pfbEnable m v) s = .next t ∧ t.answered 0 ∧ t.fbit F.PFB_CFG_EN = false ∧ t.ShowsCfg v ∧
      (s.room 4 → Journaled s t C.PFB_CFG_INVALID 255 {}) ∧ SameRegs s t [R.PFB_CFG] ∧ SameMem s t := by
  have heffect := State.pfbCfgWrite_enables (s := s.atWrite m R.PFB_CFG) (by simpa using hen) hv hpole hrpole hsrc
  rw [if_neg hmul] at heffect
  obtain ⟨t, hexec, hans, hrd, -, hmem, hjrn⟩ := State.wrote_granted_frame h ((State.route_pfbCfg ..).trans heffect)
  let u := (s.atWrite m R.PFB_CFG).wr R.PFB_CFG (cfgWord v)
  have hreg {a : Nat} (ha : a ≠ R.JRN_STATUS) : t.rd a = u.rd a := (hrd a).trans (u.rd_raise _ _ _ ha)
  have hcfg : t.rd R.PFB_CFG = u.rd R.PFB_CFG := hreg (by decide)
  have hclear : (u.rd R.PFB_CFG).getLsbD 31 = false := by
    rw [State.rd_wr_self, BitVec.getLsbD_and, getLsbD_en_cfgWord, Bool.false_and]
  refine ⟨t, hexec, hans, (congrArg (·.getLsbD 31) hcfg).trans hclear, (State.showsCfg_wr _ v).congr hcfg, fun hroom => ?_, fun a ha hj => ?_,
    .of_mem (hmem.trans ?_)⟩
  · have hsame : u.jrn = s.jrn := by simp [u]
    exact (Journaled.of_raise hsame hroom.one).congr hjrn
  · rw [hreg (ne_jrnStatus_of_not_journalRegs hj), s.rd_wr_atWrite_of_ne m _ (by simpa using ha)]
  · rw [State.raise_mem, State.wr_mem, State.mem_atWrite]

/-- EN needs POLE to be a multiple of RPOLE. -/
theorem pfbEnable_needs_multiple :
    ∃ t, exec (.pfbEnable m v) s = .next t ∧ t.answered 0 ∧
      t.fbit F.PFB_CFG_EN = decide (fldOf F.PFB_CFG_POLE v % fldOf F.PFB_CFG_RPOLE v = 0) ∧ t.fget F.PFB_CFG_POLE = fldOf F.PFB_CFG_POLE v ∧
      t.fget F.PFB_CFG_RPOLE = fldOf F.PFB_CFG_RPOLE v ∧ t.fget F.PFB_CFG_SRC = fldOf F.PFB_CFG_SRC v ∧
      (fldOf F.PFB_CFG_POLE v % fldOf F.PFB_CFG_RPOLE v ≠ 0 → s.room 4 → Journaled s t C.PFB_CFG_INVALID 255 {} ∧ SameRegs s t [R.PFB_CFG]) ∧
      SameMem s t := by
  by_cases hmul : fldOf F.PFB_CFG_POLE v % fldOf F.PFB_CFG_RPOLE v = 0
  · obtain ⟨t, hexec, hans, hset, ⟨htpole, htrpole, htsrc⟩, hmem⟩ := pfbEnable_sets h hen hv hpole hrpole hsrc hmul
    exact ⟨t, hexec, hans, hset.trans (decide_eq_true hmul).symm, htpole, htrpole, htsrc, fun hne => absurd hmul hne, hmem⟩
  · obtain ⟨t, hexec, hans, hclear, ⟨htpole, htrpole, htsrc⟩, hjrn, hregs, hmem⟩ := pfbEnable_refused h hen hv hpole hrpole hsrc hmul
    exact ⟨t, hexec, hans, hclear.trans (decide_eq_false hmul).symm, htpole, htrpole, htsrc, fun _ hroom => ⟨hjrn hroom, hregs⟩, hmem⟩

end

/-! ### The enable of the resolver (R256, R262) -/

theorem State.route_resCtrl (s : State) (w : WriteBy) (v : Word) : s.route w R.PFB_RES_CTRL v = s.resCtrlWrite v := rfl

/-- PFB_RES_CTRL as a write stores it before EN is set. -/
def State.resCtrlStored (s : State) (v : Word) : State := s.wr R.PFB_RES_CTRL (putBits v 0 0 0)

theorem State.fget_gen_resCtrlStored (s : State) (v : Word) : (s.resCtrlStored v).fget F.PFB_RES_CTRL_GEN = fldOf F.PFB_RES_CTRL_GEN v := by
  have himpl : ∀ i < 7, 4 ≤ i → (RegMap.impl R.PFB_RES_CTRL).getLsbD i = true := by decide
  refine (s.fget_wr_self F.PFB_RES_CTRL_GEN _ fun i hlo hhi => himpl i (Nat.lt_succ_of_le hhi) hlo).trans (bits_congr fun i hlo _ => ?_)
  have hlow : ¬ (0 ≤ i ∧ i ≤ 0) := fun hi => absurd (Nat.le_trans hlo hi.2) (by decide)
  rw [getLsbD_putBits, if_neg hlow]

/-- The generators' periods are read from registers of their own. -/
theorem State.resPerOk_resCtrlStored (s : State) (v : Word) {g : Nat} (hg : g < 8) : (s.resCtrlStored v).resPerOk g = s.resPerOk g := by
  have hne : R.CLE_GLB_RATE g ≠ R.PFB_RES_CTRL := by simp only [R.CLE_GLB_RATE, R.PFB_RES_CTRL]; omega
  simp only [State.resPerOk, State.resCtrlStored, s.rd_wr_of_ne _ hne]

/-- The resolver enabled: the excitation starts and the acquisition begins. -/
def State.resStarted (s : State) (v : Word) : State :=
  ({ ((s.resCtrlStored v).fput F.PFB_RES_CTRL_EN true).sput 0x107 0 with pfb := s.pfb.excited s.time } : State).resAcquireStart

/-- EN = 1 written while it is 0, with a generator whose period suits the excitation. -/
theorem State.resCtrlWrite_starts {s : State} {v : Word} (hen : s.fbit F.PFB_RES_CTRL_EN = false) (hv : v.getLsbD 0 = true)
    (hper : s.resPerOk (fldOf F.PFB_RES_CTRL_GEN v) = true) : s.resCtrlWrite v = s.resStarted v := by
  have hoff : (s.rd R.PFB_RES_CTRL).getLsbD 0 = false := hen
  have hgen : (s.resCtrlStored v).resPerOk ((s.resCtrlStored v).fget F.PFB_RES_CTRL_GEN) = true := by
    rw [State.fget_gen_resCtrlStored, s.resPerOk_resCtrlStored v (fldOf_lt F.PFB_RES_CTRL_GEN v), hper]
  simp only [State.resCtrlStored] at hgen
  simp only [State.resCtrlWrite, hoff, hv, b2n, Bool.false_eq_true, if_false, Bool.not_false, Bool.and_self, if_true, hgen]
  rfl

/-- A register other than PFB_RES_CTRL and PFB_STAT. -/
theorem State.rd_resStarted_of_ne (s : State) (v : Word) {a : Nat} (hctrl : a ≠ R.PFB_RES_CTRL) (hstat : a ≠ R.PFB_STAT) :
    (s.resStarted v).rd a = s.rd a :=
  (State.rd_fput_of_ne _ F.PFB_STAT_ACQ true hstat).trans ((State.rd_fput_of_ne _ F.PFB_RES_CTRL_EN true hctrl).trans (s.rd_wr_of_ne _ hctrl))

theorem State.fbit_en_resStarted (s : State) (v : Word) : (s.resStarted v).fbit F.PFB_RES_CTRL_EN = true :=
  (State.fbit_fset_of_ne _ F.PFB_STAT_ACQ F.PFB_RES_CTRL_EN _ (by decide)).trans (State.fbit_fput _ F.PFB_RES_CTRL_EN true rfl (by decide))

theorem State.fbit_acq_resStarted (s : State) (v : Word) : (s.resStarted v).fbit F.PFB_STAT_ACQ = true :=
  State.fbit_fput _ F.PFB_STAT_ACQ true rfl (by decide)

theorem State.pfb_resStarted (s : State) (v : Word) :
    (s.resStarted v).pfb = { s.pfb.excited s.time with stage := .clean, locks := 0, trkBad := false, cleanSince := s.time } := rfl

theorem State.resStarted_mem (s : State) (v : Word) : (s.resStarted v).mem = s.mem := rfl

/-- The resolver's enable, its generator's period suiting the excitation. -/
theorem pfbResEnable_starts {s : State} {m : Master} {v : Word} (h : s.grants m R.PFB_RES_CTRL) (hen : s.fbit F.PFB_RES_CTRL_EN = false)
    (hv : v.getLsbD 0 = true) (hper : s.resPerOk (fldOf F.PFB_RES_CTRL_GEN v) = true) :
    ∃ t, exec (.pfbResEnable m v) s = .next t ∧ t.answered 0 ∧ t.fbit F.PFB_RES_CTRL_EN = true ∧ t.pfb.exc = true ∧
      t.pfb.stage = .clean ∧ t.pfb.pairs = [] ∧ t.pfb.lossOn = false ∧ t.pfb.excStart = s.time ∧ t.fbit F.PFB_STAT_ACQ = true ∧
      SameRegs s t [R.PFB_RES_CTRL, R.PFB_STAT] ∧ SameMem s t := by
  have hper' : (s.atWrite m R.PFB_RES_CTRL).resPerOk (fldOf F.PFB_RES_CTRL_GEN v) = true := by simpa [State.resPerOk] using hper
  have heffect := State.resCtrlWrite_starts (s := s.atWrite m R.PFB_RES_CTRL) (by simpa using hen) hv hper'
  obtain ⟨t, hexec, hans, hrd, hpfb, hmem, -⟩ := State.wrote_granted_frame h ((State.route_resCtrl ..).trans heffect)
  have htime : (s.atWrite m R.PFB_RES_CTRL).time = s.time := by simp
  rw [State.pfb_resStarted, htime] at hpfb
  refine ⟨t, hexec, hans, (congrArg (·.getLsbD 0) (hrd _)).trans (State.fbit_en_resStarted ..), by rw [hpfb]; rfl, by rw [hpfb], by rw [hpfb]; rfl,
    by rw [hpfb]; rfl, by rw [hpfb]; rfl, (congrArg (·.getLsbD 1) (hrd _)).trans (State.fbit_acq_resStarted ..), fun a ha _ => ?_, .of_mem ?_⟩
  · simp only [List.mem_cons, List.not_mem_nil, or_false, not_or] at ha
    rw [hrd, State.rd_resStarted_of_ne _ v ha.1 ha.2, s.rd_atWrite]
  · rw [hmem, State.resStarted_mem, s.mem_atWrite]

end Sys2Proof.Machine

/-! The resolver's acquisition, its lock and its loss (R262 to R267, R270). -/

namespace Sys2Proof.Machine

/-! ### The acquisition (R262) -/

/-- With both results there, ω_acq takes up some speed, φ̂ the last angle, and ACQ is cleared. -/
theorem State.resAcquired_eq {s : State} (h : s.pfb.stage = .second) :
    ∃ w, s.resAcquired = (((({ s with pfb := { s.pfb with stage := .track, locks := 0 } } : State).sput 0x107 w).phiSet
      (radFraction s.pfb.angLast)).fput F.PFB_STAT_ACQ false).count 0x0C2 1 :=
  ⟨_, if_pos h⟩

/-- Tracking starts at the last angle. -/
theorem resAcquire_tracks {s : State} (h : s.pfb.stage = .second) :
    ∃ t, exec .resAcquire s = .next t ∧ t.pfb.stage = .track ∧ t.pfb.locks = 0 ∧ t.fbit F.PFB_STAT_ACQ = false ∧
      t.rd R.PFB_RES_FINE = radFraction s.pfb.angLast := by
  have hexec : exec .resAcquire s = .next s.resAcquired := rfl
  obtain ⟨w, hw⟩ := State.resAcquired_eq h
  rw [hw] at hexec
  generalize hset : State.phiSet _ (radFraction s.pfb.angLast) = u at hexec
  have hpfb : { u.pfb with cmpDirs := [], cmpWrote := [] } =
      ({ s.pfb with stage := .track, locks := 0, cmpDirs := [], cmpWrote := [] } : Pfb) := by
    rw [← hset, State.pfb_phiSet]
    rfl
  have hfine : u.rd R.PFB_RES_FINE = radFraction s.pfb.angLast := by rw [← hset, State.rd_fine_phiSet]
  refine ⟨_, hexec, ?_, ?_, ?_, ?_⟩
  · rw [State.count_pfb, State.fput_pfb]
    exact congrArg Pfb.stage hpfb
  · rw [State.count_pfb, State.fput_pfb]
    exact congrArg Pfb.locks hpfb
  · rw [State.fbit, State.rd_count _ _ (by decide) (by decide)]
    exact u.fbit_fput F.PFB_STAT_ACQ false rfl (by decide)
  · rw [State.rd_count _ _ (by decide) (by decide), State.rd_fput_of_ne _ F.PFB_STAT_ACQ _ (by decide), hfine]

/-! ### The lock (R264) -/

/-- 32 results within the limit lock the resolver, which makes its position valid where it is the selected source. -/
theorem resLock_locks {s : State} (hen : s.fbit F.PFB_RES_CTRL_EN = true) (hstage : s.pfb.stage = .track) (hlocks : 32 ≤ s.pfb.locks)
    (hlock : s.fbit F.PFB_STAT_LOCK = false) (htrk : s.trkOk = true) :
    ∃ t, exec .resLock s = .next t ∧ t.fbit F.PFB_STAT_LOCK = true ∧
      (s.fbit F.PFB_CFG_EN = true → s.fget F.PFB_CFG_SRC = 0 → t.fbit F.PFB_STAT_VALID = true) := by
  let u := s.fput F.PFB_STAT_LOCK true
  have hexec : exec .resLock s = .next (u.validUpdate 0) := by
    change execResLock s = _
    rw [execResLock, if_pos (by simp [hen, hstage, hlocks, hlock, htrk])]
  have hset : u.fbit F.PFB_STAT_LOCK = true := s.fbit_fput F.PFB_STAT_LOCK true rfl (by decide)
  refine ⟨_, hexec, (u.fbit_statBit_validUpdate 0 (j := 2) (by decide) (by decide)).trans hset, fun hcfg hsrc => ?_⟩
  have hcfg' : u.fbit F.PFB_CFG_EN = true := (s.fbit_fset_of_ne F.PFB_STAT_LOCK F.PFB_CFG_EN _ (by decide)).trans hcfg
  have hsrc' : u.fget F.PFB_CFG_SRC = 0 := (s.fget_fset_of_ne F.PFB_STAT_LOCK F.PFB_CFG_SRC _ (by decide)).trans hsrc
  rw [State.fbit_valid_validUpdate, State.srcValid, hcfg', hsrc', hset]
  rfl

/-! ### What a loss leaves (R266, R267) -/

/-- From `s` to `t` a loss of the resolver with this cause is declared and the acquisition begins again. -/
structure State.LostFor (s t : State) (cause : Nat) : Prop where
  lock : t.fbit F.PFB_STAT_LOCK = false
  cause : t.fget F.PFB_STAT_CAUSE = cause
  acq : t.fbit F.PFB_STAT_ACQ = true
  stage : t.pfb.stage = .clean
  lossOn : t.pfb.lossOn = true
  invalid : s.fget F.PFB_CFG_SRC = 0 → t.fbit F.PFB_STAT_VALID = false

/-- The selected source is all it takes from the state before. -/
theorem State.LostFor.of_rd {s u t : State} {k : Nat} (h : u.LostFor t k) (hcfg : u.rd R.PFB_CFG = s.rd R.PFB_CFG) : s.LostFor t k :=
  { h with invalid := fun hsrc => h.invalid ((congrArg (bits · 1 0) hcfg).trans hsrc) }

/-- The records of position feedback without those that a loss and VALID bring up to date. -/
def Pfb.lossBlind (p : Pfb) : Pfb := { p with locks := 0, trkBad := false, cleanSince := 0, validSince := none, cmpDirs := [], cmpWrote := [] }

/-- The loss as PFB_STAT and the records show it, before VALID is brought up to date. -/
def State.lossShown (s : State) (cause : Nat) : State :=
  (({ s with pfb.lossOn := true } : State).fput F.PFB_STAT_LOCK false).fset F.PFB_STAT_CAUSE cause

section
variable (s : State) {cause : Nat}

theorem State.fbit_lock_lossShown : (s.lossShown cause).fbit F.PFB_STAT_LOCK = false :=
  (State.fbit_fset_cause _ (j := 2) (by decide) cause).trans (State.fbit_fput _ F.PFB_STAT_LOCK false rfl (by decide))

theorem State.rd_lossShown_of_ne {a : Nat} (h : a ≠ R.PFB_STAT) : (s.lossShown cause).rd a = s.rd a :=
  (State.rd_fset_of_ne _ F.PFB_STAT_CAUSE _ h).trans (State.rd_fput_of_ne _ F.PFB_STAT_LOCK false h)

/-- Without LOCK the resolver gives no valid position. -/
theorem State.srcValid_lossShown (hsrc : s.fget F.PFB_CFG_SRC = 0) : (s.lossShown cause).srcValid = false := by
  have hsrc' : (s.lossShown cause).fget F.PFB_CFG_SRC = 0 := (congrArg (bits · 1 0) (s.rd_lossShown_of_ne (by decide))).trans hsrc
  rw [State.srcValid, hsrc', s.fbit_lock_lossShown]
  exact Bool.and_false _

theorem State.rd_resAcquireStart (u : State) (a : Nat) : u.resAcquireStart.rd a = (u.fput F.PFB_STAT_ACQ true).rd a := by
  rw [State.resAcquireStart, State.rd_sput]
  rfl

theorem State.pfb_resLost (c : Code) (p : Payload) :
    (s.resLost cause c p).pfb.lossBlind = { s.pfb with stage := .clean, lossOn := true : Pfb }.lossBlind := by
  have hvalid := (s.lossShown cause).pfb_validUpdate cause
  have hraise := ((s.lossShown cause).validUpdate cause).raiseAs_pfb c.code 0 (s.lossClass 0) 0 p false
  rw [← hraise] at hvalid
  exact congrArg (fun q : Pfb => { q with stage := .clean, locks := 0, trkBad := false, cleanSince := 0 }) hvalid

/-- A declared loss clears LOCK, shows its cause and begins the acquisition; the position it gave is no longer valid. -/
theorem State.lostFor_resLost (hcause : cause < 16) (c : Code) (p : Payload) : s.LostFor (s.resLost cause c p) cause := by
  have hpfb := s.pfb_resLost (cause := cause) c p
  let v := (s.lossShown cause).validUpdate cause
  let w := v.raiseAs c.code 0 (s.lossClass 0) 0 p false
  have hw : w.rd R.PFB_STAT = v.rd R.PFB_STAT := v.rd_raiseAs _ _ _ _ _ _ (by decide)
  have hstat : (s.resLost cause c p).rd R.PFB_STAT = (w.fput F.PFB_STAT_ACQ true).rd R.PFB_STAT := w.rd_resAcquireStart _
  have hlock : v.fbit F.PFB_STAT_LOCK = false :=
    (State.fbit_statBit_validUpdate _ cause (j := 2) (by decide) (by decide)).trans s.fbit_lock_lossShown
  have hcauseV : v.fget F.PFB_STAT_CAUSE = cause := State.fget_cause_validUpdate _ (State.fget_cause_fset _ hcause) hcause
  have hbit {j : Nat} (hj : j < 4) : (s.resLost cause c p).fbit (statBit j) = if j = 1 then true else v.fbit (statBit j) := by
    rw [State.fbit, hstat]
    exact (w.fbit_fput_statBit hj true).trans (congrArg (fun b => if j = 1 then true else b) (congrArg (·.getLsbD j) hw))
  exact {
    lock := (hbit (j := 2) (by decide)).trans hlock
    cause := (congrArg (bits · 11 8) hstat).trans ((w.fget_cause_fput (i := 1) (by decide) true).trans ((congrArg (bits · 11 8) hw).trans hcauseV))
    acq := hbit (j := 1) (by decide)
    stage := congrArg Pfb.stage hpfb
    lossOn := congrArg Pfb.lossOn hpfb
    invalid := fun hsrc => (hbit (j := 0) (by decide)).trans ((State.fbit_valid_validUpdate _ cause).trans (s.srcValid_lossShown hsrc)) }

end

/-! ### The condition that is declared (R265) -/

section
variable {s : State}

/-- A loss declared already is not declared again. -/
theorem State.resDeclare_on (h : s.pfb.lossOn = true) : s.resDeclare = s := by
  rw [State.resDeclare, if_pos h]

/-- Nothing is declared, or one loss is. -/
theorem State.resDeclare_cases (s : State) : s.resDeclare = s ∨ ∃ k c p, s.resDeclare = s.resLost k c p := by
  unfold State.resDeclare
  dsimp only
  repeat' split
  · exact .inl rfl
  · exact .inr ⟨_, _, _, rfl⟩
  · exact .inr ⟨_, _, _, rfl⟩
  · exact .inr ⟨_, _, _, rfl⟩
  · exact .inr ⟨_, _, _, rfl⟩
  · exact .inr ⟨_, _, _, rfl⟩
  · exact .inr ⟨_, _, _, rfl⟩
  · exact .inl rfl

/-- Declaring a loss keeps the counts of bad samples. -/
theorem State.resDeclare_bad (s : State) : s.resDeclare.pfb.ampBad = s.pfb.ampBad ∧ s.resDeclare.pfb.excBad = s.pfb.excBad := by
  obtain hsame | ⟨k, c, p, hlost⟩ := s.resDeclare_cases
  · rw [hsame]
    exact ⟨rfl, rfl⟩
  · have hamp := congrArg Pfb.ampBad (s.pfb_resLost (cause := k) c p)
    have hexc := congrArg Pfb.excBad (s.pfb_resLost (cause := k) c p)
    rw [hlost]
    exact ⟨hamp, hexc⟩

variable (hoff : s.pfb.lossOn = false)
include hoff

theorem State.resDeclare_amplitude (hamp : s.pfb.ampBad = 3) : s.LostFor s.resDeclare 1 := by
  rw [State.resDeclare, if_neg (by simp [hoff]), if_pos hamp]
  exact s.lostFor_resLost (by decide) ..

variable (hamp : s.pfb.ampBad ≠ 3)
include hamp

theorem State.resDeclare_excitation (hexc : s.pfb.excBad = 3) : s.LostFor s.resDeclare 2 := by
  rw [State.resDeclare, if_neg (by simp [hoff]), if_neg hamp, if_pos hexc]
  exact s.lostFor_resLost (by decide) ..

variable (hexc : s.pfb.excBad ≠ 3)
include hexc

theorem State.resDeclare_current (hcur : s.pfb.curLim = true) : s.LostFor s.resDeclare 2 := by
  rw [State.resDeclare, if_neg (by simp [hoff]), if_neg hamp, if_neg hexc, if_pos hcur]
  exact s.lostFor_resLost (by decide) ..

variable (hcur : s.pfb.curLim = false)
include hcur

theorem State.resDeclare_tracking (htrk : s.pfb.trkBad = true) : s.LostFor s.resDeclare 3 := by
  rw [State.resDeclare, if_neg (by simp [hoff]), if_neg hamp, if_neg hexc, if_neg (by simp [hcur]), if_pos htrk]
  exact s.lostFor_resLost (by decide) ..

/-- A deviation of either converter. -/
theorem State.resDeclare_converter (htrk : s.pfb.trkBad = false) (hdev : 16 < s.pfb.devSin.toInt.natAbs ∨ 16 < s.pfb.devCos.toInt.natAbs) :
    s.LostFor s.resDeclare 4 := by
  rw [State.resDeclare, if_neg (by simp [hoff]), if_neg hamp, if_neg hexc, if_neg (by simp [hcur]), if_neg (by simp [htrk])]
  split
  · exact s.lostFor_resLost (by decide) ..
  · next hsin =>
    rw [if_pos (hdev.resolve_left hsin)]
    exact s.lostFor_resLost (by decide) ..

end

/-! ### The sender's view of the condition (R265, R270) -/

/-- What the records say of the loss conditions: bad samples, the current limit, the tracking error, the converters' deviations (R265). -/
def Pfb.conds (p : Pfb) : Nat × Nat × Bool × Bool × BitVec 16 × BitVec 16 := (p.ampBad, p.excBad, p.curLim, p.trkBad, p.devSin, p.devCos)

/-- Noting since when no condition holds keeps the registers and what the records say of the conditions, and declares no loss. -/
theorem State.lossNote_frame (s : State) (t : Nat) : (∀ a, (s.lossNote t).rd a = s.rd a) ∧ (s.lossNote t).pfb.conds = s.pfb.conds ∧
    (s.pfb.lossOn = false → (s.lossNote t).pfb.lossOn = false) := by
  unfold State.lossNote
  split
  · exact ⟨fun _ => rfl, rfl, id⟩
  · exact ⟨fun _ => rfl, rfl, fun _ => rfl⟩

section
variable {s : State} {r : Pfb} {t : Nat} (hoff : r.lossOn = false)
include hoff

/-- A condition that is noted in the records, with no loss declared yet, is declared. -/
theorem State.lossNote_lost {k : Nat} (hdecl : ∀ u : State, u.pfb.lossOn = false → u.pfb.conds = r.conds → u.LostFor u.resDeclare k) :
    s.LostFor (({ s with pfb := r } : State).lossNote t).resDeclare k := by
  obtain ⟨hrd, hpfb, hnote⟩ := ({ s with pfb := r } : State).lossNote_frame t
  exact (hdecl _ (hnote hoff) hpfb).of_rd (hrd _)

variable (hamp : r.ampBad ≠ 3) (hexc : r.excBad ≠ 3)
include hamp hexc

theorem State.lossNote_current (hcur : r.curLim = true) : s.LostFor (({ s with pfb := r } : State).lossNote t).resDeclare 2 := by
  refine State.lossNote_lost hoff fun u hu hr => ?_
  simp only [Pfb.conds, Prod.mk.injEq] at hr
  obtain ⟨ha, he, hc, -, -, -⟩ := hr
  exact State.resDeclare_current hu (ha ▸ hamp) (he ▸ hexc) (hc.trans hcur)

theorem State.lossNote_converter (hcur : r.curLim = false) (htrk : r.trkBad = false)
    (hdev : 16 < r.devSin.toInt.natAbs ∨ 16 < r.devCos.toInt.natAbs) : s.LostFor (({ s with pfb := r } : State).lossNote t).resDeclare 4 := by
  refine State.lossNote_lost hoff fun u hu hr => ?_
  simp only [Pfb.conds, Prod.mk.injEq] at hr
  obtain ⟨ha, he, hc, ht, hs, hd⟩ := hr
  exact State.resDeclare_converter hu (ha ▸ hamp) (he ▸ hexc) (hc.trans hcur) (ht.trans htrk) (by rwa [hs, hd])

end

/-- A pair is not taken, or it is taken and what it shows is noted and declared. -/
theorem State.pairIn_cases (s : State) (x : ResPair) : s.pairIn x = s ∨
    ∃ (r : Pfb) (t : Nat), s.pairIn x = (({ s with pfb := r } : State).lossNote t).resDeclare ∧ r.lossOn = s.pfb.lossOn := by
  unfold State.pairIn
  split
  · exact .inl rfl
  · dsimp only
    split
    · exact .inl rfl
    · exact .inr ⟨_, _, rfl, rfl⟩

/-- Where a pair leaves counts with which a loss is declared, the loss is declared, with the pair or after it. -/
theorem State.pairIn_lost {s : State} {x : ResPair} {k : Nat} (hoff : s.pfb.lossOn = false)
    (hdecl : ∀ u : State, u.pfb.lossOn = false → u.pfb.ampBad = (s.pairIn x).pfb.ampBad → u.pfb.excBad = (s.pairIn x).pfb.excBad →
      u.LostFor u.resDeclare k) : s.LostFor (s.pairIn x).resDeclare k := by
  obtain hsame | ⟨r, t, htaken, hr⟩ := s.pairIn_cases x
  · rw [hsame] at hdecl ⊢
    exact hdecl s hoff rfl rfl
  · obtain ⟨hamp, hexc⟩ := (({ s with pfb := r } : State).lossNote t).resDeclare_bad
    obtain ⟨-, hconds, -⟩ := ({ s with pfb := r } : State).lossNote_frame t
    simp only [Pfb.conds, Prod.mk.injEq] at hconds
    obtain ⟨hamp', hexc', -⟩ := hconds
    rw [htaken, hamp, hexc, hamp', hexc'] at hdecl
    have hlost : s.LostFor (s.pairIn x) k := htaken ▸ State.lossNote_lost (hr.trans hoff) fun u hu hc => by
      simp only [Pfb.conds, Prod.mk.injEq] at hc
      obtain ⟨ha, he, -⟩ := hc
      exact hdecl u hu ha he
    rwa [State.resDeclare_on hlost.lossOn]

section
variable {s : State} (hen : s.fbit F.PFB_RES_CTRL_EN = true) (hexc : s.pfb.exc = true)
include hen hexc

/-- With the excitation on, what the sender sees enters the state and is declared. -/
theorem exec_resLoss (c : ResCond) : exec (.resLoss c) s = .next (s.lossSeen c).resDeclare := by
  change Host.Outcome.next (s.resLossEv c) = _
  rw [State.resLossEv, if_neg (by simp [hen, hexc])]

variable (hoff : s.pfb.lossOn = false)
include hoff

/-- A loss is declared on three consecutive samples out of the amplitude's limits, or with a wrong excitation, on the excitation's current
limit, on a tracking error and on a converter's deviation, each where none before it holds. -/
theorem resLoss_declares {c : ResCond} {k : Nat}
    (hcond : (∃ x, c = .samples [x] ∧ k = 1 ∧ (s.pairIn x).pfb.ampBad = 3) ∨
      (∃ x, c = .samples [x] ∧ k = 2 ∧ (s.pairIn x).pfb.ampBad ≠ 3 ∧ (s.pairIn x).pfb.excBad = 3) ∨
      (s.pfb.ampBad ≠ 3 ∧ s.pfb.excBad ≠ 3 ∧ ((∃ n, c = .current n ∧ k = 2 ∧ 800 ≤ n) ∨
        (s.pfb.curLim = false ∧ ((c = .tracking ∧ k = 3 ∧ s.pfb.trkBad = true) ∨
          (s.pfb.trkBad = false ∧ ∃ cosine dev, c = .converter cosine dev ∧ k = 4 ∧ 16 < dev.toInt.natAbs)))))) :
    ∃ t, exec (.resLoss c) s = .next t ∧ t.fbit F.PFB_STAT_LOCK = false ∧ t.fget F.PFB_STAT_CAUSE = k ∧ t.fbit F.PFB_STAT_ACQ = true ∧
      t.pfb.stage = .clean ∧ t.pfb.lossOn = true ∧ (s.fget F.PFB_CFG_SRC = 0 → t.fbit F.PFB_STAT_VALID = false) := by
  suffices hlost : s.LostFor (s.lossSeen c).resDeclare k from
    ⟨_, exec_resLoss hen hexc c, hlost.lock, hlost.cause, hlost.acq, hlost.stage, hlost.lossOn, hlost.invalid⟩
  obtain ⟨x, rfl, rfl, hamp⟩ | ⟨x, rfl, rfl, hamp, hbad⟩ | ⟨hamp, hbad, ⟨n, rfl, rfl, hn⟩ | ⟨hcur, ⟨rfl, rfl, htrk⟩ | ⟨htrk, cosine, dev, rfl, rfl, hdev⟩⟩⟩ :=
    hcond
  · exact State.pairIn_lost hoff fun u hu ha _ => State.resDeclare_amplitude hu (ha.trans hamp)
  · exact State.pairIn_lost hoff fun u hu ha he => State.resDeclare_excitation hu (fun h => hamp (ha.symm.trans h)) (he.trans hbad)
  · exact State.lossNote_current (r := { s.pfb with curLim := decide (800 ≤ n) }) hoff hamp hbad (decide_eq_true hn)
  · exact State.resDeclare_tracking hoff hamp hbad hcur htrk
  · cases cosine
    · exact State.lossNote_converter (r := { s.pfb with devSin := dev }) hoff hamp hbad hcur htrk (.inl hdev)
    · exact State.lossNote_converter (r := { s.pfb with devCos := dev }) hoff hamp hbad hcur htrk (.inr hdev)

end

end Sys2Proof.Machine

/-! The online calibration (R269) and the resolver's check during ARMING (R272). -/

namespace Sys2Proof.Machine

/-! ### The fit (R269) -/

/-- The fit of a complete revolution: one within its limits is due at the next result, one outside is reported. -/
theorem resCalFit_fits {s : State} {l : List (F32 × F32)} (hdone : s.pfb.revDone = some l) (hcal : s.fbit F.PFB_RES_CTRL_CAL_EN = true)
    (hvalid : s.fbit F.PFB_STAT_VALID = true) (hmin : fLe (s.rd R.PFB_RES_CAL_WMIN) (fAbs s.wHat) = true)
    (hmax : fLe (fAbs s.wHat) (s.rd R.PFB_RES_CAL_WMAX) = true) (hroom : s.room 4) :
    ∃ t, exec .resCalFit s = .next t ∧ t.pfb.revDone = none ∧ (s.fitBad (Config.ellipseFit l) = none → t.pfb.fitDue = some l) ∧
      (∀ i v, s.fitBad (Config.ellipseFit l) = some (i, v) → Journaled s t C.PFB_RES_CAL_LIMIT 0 { w0 := bytes4 i 0 0 0, w1 := v }) ∧
      SameRegs s t [] ∧ SameMem s t := by
  have hruns : s.calRuns = true := by simp [State.calRuns, hcal, hvalid, hmin, hmax]
  let u : State := { s with pfb := { s.pfb with revDone := none } }
  have hexec : exec .resCalFit s = .next (match s.fitBad (Config.ellipseFit l) with
      | some (i, v) => u.raise C.PFB_RES_CAL_LIMIT 0 { w0 := bytes4 i 0 0 0, w1 := v }
      | none => { u with pfb := { u.pfb with fitDue := some l } }) := by
    change Host.Outcome.next s.resCalFit = _
    simp only [State.resCalFit, hdone, hruns, Bool.not_true, Bool.false_eq_true, if_false]
    rfl
  cases hfit : s.fitBad (Config.ellipseFit l) with
  | none =>
    rw [hfit] at hexec
    exact ⟨_, hexec, rfl, fun _ => rfl, nofun, fun _ _ _ => rfl, fun _ => rfl⟩
  | some x =>
    obtain ⟨i, v⟩ := x
    rw [hfit] at hexec
    refine ⟨_, hexec, by rw [State.raise_pfb], nofun, fun j w hjw => ?_, fun a _ hj => ?_, .of_mem (State.raise_mem ..)⟩
    · obtain ⟨rfl, rfl⟩ := Prod.mk.inj (Option.some.inj hjw)
      exact Journaled.of_raise rfl hroom.one
    · exact u.rd_raise _ _ _ (ne_jrnStatus_of_not_journalRegs hj)

/-! ### The next result takes the fit (R269) -/

/-- What the calibration has: the fit that is due, the parameters in force, and the memory beside them. -/
def State.calView (s : State) : Option (List (F32 × F32)) × Word × Word × Word × Word × SMap Byte :=
  (s.pfb.fitDue, s.rd R.PFB_RES_CAL_S0, s.rd R.PFB_RES_CAL_C0, s.rd R.PFB_RES_CAL_G, s.rd R.PFB_RES_CAL_DELTA, s.mem)

theorem State.calView_of_resView {s t : State} (h : t.resView = s.resView) : t.calView = s.calView := by
  have hpfb := congrArg Pfb.fitDue (State.pfb_of_resView h)
  have hfit : t.pfb.fitDue = s.pfb.fitDue := hpfb
  simp only [State.calView, hfit, State.rd_of_resView h (a := R.PFB_RES_CAL_S0) (by decide) (by decide),
    State.rd_of_resView h (a := R.PFB_RES_CAL_C0) (by decide) (by decide), State.rd_of_resView h (a := R.PFB_RES_CAL_G) (by decide) (by decide),
    State.rd_of_resView h (a := R.PFB_RES_CAL_DELTA) (by decide) (by decide), State.mem_of_resView h]

/-- The parameters have all 32 bits. -/
theorem RegMap.impl_resCal : ∀ a ∈ [R.PFB_RES_CAL_S0, R.PFB_RES_CAL_C0, R.PFB_RES_CAL_G, R.PFB_RES_CAL_DELTA], RegMap.impl a = BitVec.allOnes 32 := by
  decide

/-- The parameter at `a` moves one sixteenth of the way to a value. -/
def State.calStep (s : State) (a : Nat) (x : F32) : State := s.wr a (sixteenth (s.rd a) x)

/-- A fit that is due is taken by all four parameters, and is due no longer. -/
theorem State.calView_calMove {s : State} {l : List (F32 × F32)} (h : s.pfb.fitDue = some l) : s.calMove.calView =
    (none, sixteenth (s.rd R.PFB_RES_CAL_S0) (Config.ellipseFit l 0), sixteenth (s.rd R.PFB_RES_CAL_C0) (Config.ellipseFit l 1),
      sixteenth (s.rd R.PFB_RES_CAL_G) (Config.ellipseFit l 2), sixteenth (s.rd R.PFB_RES_CAL_DELTA) (Config.ellipseFit l 3), s.mem) := by
  let u : State := { s with pfb := { s.pfb with fitDue := none } }
  have hmove : s.calMove = (((u.calStep R.PFB_RES_CAL_S0 (Config.ellipseFit l 0)).calStep R.PFB_RES_CAL_C0 (Config.ellipseFit l 1)).calStep
      R.PFB_RES_CAL_G (Config.ellipseFit l 2)).calStep R.PFB_RES_CAL_DELTA (Config.ellipseFit l 3) := by
    simp only [State.calMove, h]
    rfl
  have hrd (t : State) (b : Nat) (x : F32) {a : Nat} (ha : RegMap.impl a = BitVec.allOnes 32) :
      (t.calStep a x).rd b = if b = a then sixteenth (t.rd a) x else t.rd b := by
    rw [State.calStep, State.rd_wr, ha, BitVec.and_allOnes]
  obtain ⟨hs0, hc0, hg, hdelta, -⟩ := by simpa only [List.forall_mem_cons] using RegMap.impl_resCal
  rw [hmove]
  simp only [State.calView, hrd _ _ _ hs0, hrd _ _ _ hc0, hrd _ _ _ hg, hrd _ _ _ hdelta]
  simp only [R.PFB_RES_CAL_S0, R.PFB_RES_CAL_C0, R.PFB_RES_CAL_G, R.PFB_RES_CAL_DELTA, Nat.reduceEqDiff, reduceIte]
  rfl

theorem State.calView_calGather (s : State) (d : F32 × F32) : (s.calGather d).calView = s.calView := by
  simp only [State.calGather]
  repeat' split
  all_goals rfl

theorem State.calView_phiSet (s : State) (f : Word) : (s.phiSet f).calView = s.calView := by
  obtain ⟨x, hx⟩ := s.resView_phiSet f
  have hother {a : Nat} (hangle : a ≠ R.PFB_RES_ANGLE) (hfine : a ≠ R.PFB_RES_FINE) :
      ((s.wr R.PFB_RES_FINE f).wr R.PFB_RES_ANGLE x).rd a = s.rd a :=
    (State.rd_wr_of_ne _ _ hangle).trans (State.rd_wr_of_ne _ _ hfine)
  rw [State.calView_of_resView hx, State.calView, hother (by decide) (by decide), hother (by decide) (by decide), hother (by decide) (by decide),
    hother (by decide) (by decide)]
  rfl

theorem State.calView_resTake (s : State) (ang eps : F32) : (s.resTake ang eps).calView = s.calView := by
  unfold State.resTake
  dsimp only
  cases s.pfb.stage with
  | off => rfl
  | clean =>
    dsimp only
    split
    · exact State.calView_phiSet ..
    · rfl
  | first =>
    dsimp only
    split <;> rfl
  | second =>
    dsimp only
    split <;> rfl
  | track => rfl

/-- A result publishes the amplitude and the error, is counted, and goes to the acquisition and the calibration. -/
theorem State.resDemod_eq (s : State) : ∃ a e ang raw u, u = ((s.calMove.sput 0x106 a).sput 0x105 e).count 0x0C0 1 ∧
    s.resDemod = (({ u with pfb := { u.pfb with lastRes := s.calMove.time } } : State).resTake ang e).calGather raw :=
  ⟨_, _, _, _, _, rfl, rfl⟩

theorem State.calView_resDemod (s : State) : s.resDemod.calView = s.calMove.calView := by
  obtain ⟨a, e, ang, raw, u, hu, heq⟩ := s.resDemod_eq
  have hview : u.resView = s.calMove.resView := by rw [hu, State.resView_count, State.resView_sput, State.resView_sput]
  rw [heq, State.calView_calGather, State.calView_resTake, ← State.calView_of_resView hview]
  rfl

theorem State.calView_lossNote (s : State) (t : Nat) : (s.lossNote t).calView = s.calView := by
  unfold State.lossNote
  split <;> rfl

theorem State.calView_eighthNext (s : State) : s.eighthNext.calView = s.calView := rfl

/-! ### A firing of the resolver's generator (R255 to R258, R269) -/

/-- With all eight pairs held, a further one is not taken. -/
theorem State.pairIn_full {s : State} (h : s.pfb.taken = 8) (x : ResPair) : s.pairIn x = s := by
  simp only [State.pairIn, h, Nat.le_refl, if_true]
  split <;> rfl

theorem State.pairsIn_full {s : State} (h : s.pfb.taken = 8) (l : List ResPair) : s.pairsIn l = s := by
  induction l with
  | nil => rfl
  | cons x l ih =>
    rw [State.pairsIn, List.foldl_cons, State.pairIn_full h]
    exact ih

theorem State.pairsFree_full {s : State} (h : s.pfb.taken = 8) (n : Nat) : s.pairsFree n = s := by
  induction n with
  | zero => rfl
  | succ n ih => rw [State.pairsFree, if_neg (by simp [h]), ih]

/-- Where no condition holds, no loss is declared. -/
theorem State.resDeclare_clean {s : State} (h : s.pfb.lossHolds = false) : s.resDeclare = s := by
  simp only [Pfb.lossHolds, Bool.or_eq_false_iff, beq_eq_false_iff_ne, decide_eq_false_iff_not] at h
  obtain ⟨⟨⟨⟨⟨⟨hamp, hexc⟩, hcur⟩, -⟩, htrk⟩, hsin⟩, hcos⟩ := h
  simp [State.resDeclare, hamp, hexc, hcur, htrk, hsin, hcos]

/-- A firing of the resolver's generator with all pairs held and no condition gives the result alone. -/
theorem State.resFiring_full {s : State} {g : Nat} (l : List ResPair) (hen : s.fbit F.PFB_RES_CTRL_EN = true) (hexc : s.pfb.exc = true)
    (hgen : s.fget F.PFB_RES_CTRL_GEN = g) (htaken : s.pfb.taken = 8) (hloss : s.pfb.lossHolds = false) :
    s.resFiring g l = (s.resDemod.lossNote s.time).eighthNext := by
  rw [State.resFiring, if_pos (by simp [hen, hexc, hgen]), State.pairsIn_full htaken, State.pairsFree_full htaken, State.resDeclare_clean hloss]

/-- A generator's firing noted, at the latest multiple of its period. -/
def State.rateNoted (s : State) (g : Nat) : State :=
  { s with cle.rateLast := SMap.set (fun _ => 0) s.cle.rateLast g (dueAt s.now (s.rd (R.CLE_GLB_RATE g)).toNat + 1) }

/-- A generator that is due fires at the ADC, at the resolver and at the engine. -/
theorem State.rateGen_due {s : State} {g : Nat} (l : List ResPair) (hper : 0 < (s.rd (R.CLE_GLB_RATE g)).toNat)
    (hdue : SMap.get (fun _ => 0) s.cle.rateLast g ≤ dueAt s.now (s.rd (R.CLE_GLB_RATE g)).toNat) :
    s.rateGen g l = (((s.rateNoted g).adcRate g).resFiring g l).cleRate g := by
  have hreached : ¬ s.now / (s.rd (R.CLE_GLB_RATE g)).toNat * (s.rd (R.CLE_GLB_RATE g)).toNat < SMap.get (fun _ => 0) s.cle.rateLast g :=
    Nat.not_lt.mpr hdue
  simp only [State.rateGen, hreached, Nat.ne_of_gt hper, decide_false, Bool.or_self, Bool.false_eq_true, if_false]
  rfl

/-- The firing at which a due fit is taken: the parameters move one sixteenth of the way to it. -/
theorem cleRateGen_takes_fit {s : State} {g : Fin 8} {p : List ResPair} {l : List (F32 × F32)} (hper : 0 < (s.rd (R.CLE_GLB_RATE g.val)).toNat)
    (hdue : SMap.get (fun _ => 0) s.cle.rateLast g.val ≤ dueAt s.now (s.rd (R.CLE_GLB_RATE g.val)).toNat)
    (hen : s.fbit F.PFB_RES_CTRL_EN = true) (hexc : s.pfb.exc = true) (hgen : s.fget F.PFB_RES_CTRL_GEN = g.val) (htaken : s.pfb.taken = 8)
    (hloss : s.pfb.lossHolds = false) (hfit : s.pfb.fitDue = some l) :
    ∃ t, exec (.cleRateGen g p) s = .next t ∧ t.pfb.fitDue = none ∧
      t.rd R.PFB_RES_CAL_S0 = sixteenth (s.rd R.PFB_RES_CAL_S0) (Config.ellipseFit l 0) ∧
      t.rd R.PFB_RES_CAL_C0 = sixteenth (s.rd R.PFB_RES_CAL_C0) (Config.ellipseFit l 1) ∧
      t.rd R.PFB_RES_CAL_G = sixteenth (s.rd R.PFB_RES_CAL_G) (Config.ellipseFit l 2) ∧
      t.rd R.PFB_RES_CAL_DELTA = sixteenth (s.rd R.PFB_RES_CAL_DELTA) (Config.ellipseFit l 3) ∧ SameMem s t := by
  have hexec : exec (.cleRateGen g p) s = .next ((((s.rateNoted g.val).adcRate g.val).resFiring g.val p).cleRate g.val) := by
    change Host.Outcome.next (s.rateGen g.val p) = _
    rw [State.rateGen_due p hper hdue]
  have hview : ((s.rateNoted g.val).adcRate g.val).resView = s.resView := State.resView_adcRate (s.rateNoted g.val) g.val
  generalize (s.rateNoted g.val).adcRate g.val = u at hexec hview
  have hpfb := State.pfb_of_resView hview
  have hctrl : u.rd R.PFB_RES_CTRL = s.rd R.PFB_RES_CTRL := State.rd_of_resView hview (by decide) (by decide)
  have hexc' := congrArg Pfb.exc hpfb
  have htaken' := congrArg Pfb.taken hpfb
  have hloss' := congrArg Pfb.lossHolds hpfb
  have hfiring := State.resFiring_full p ((congrArg (·.getLsbD 0) hctrl).trans hen) (hexc'.trans hexc)
    ((congrArg (bits · 6 4) hctrl).trans hgen) (htaken'.trans htaken) (hloss'.trans hloss)
  have hcal : ((u.resFiring g.val p).cleRate g.val).calView = u.calMove.calView := by
    rw [State.calView_of_resView (State.resView_cleRate _ g.val), hfiring, State.calView_eighthNext, State.calView_lossNote, State.calView_resDemod]
  have hstart := State.calView_of_resView hview
  simp only [State.calView, Prod.mk.injEq] at hstart
  obtain ⟨hfit', hs0, hc0, hg, hdelta, hmem⟩ := hstart
  rw [State.calView_calMove (hfit'.trans hfit), hs0, hc0, hg, hdelta, hmem] at hcal
  simp only [State.calView, Prod.mk.injEq] at hcal
  obtain ⟨hnone, hs0', hc0', hg', hdelta', hmem'⟩ := hcal
  exact ⟨_, hexec, hnone, hs0', hc0', hg', hdelta', .of_mem hmem'⟩

/-! ### The check during ARMING (R272) -/

/-- SYS_ARM_STAT has the bits of DONE and of FAILED. -/
theorem RegMap.impl_armStat : ∀ i ∈ [5, 13], (RegMap.impl R.SYS_ARM_STAT).getLsbD i = true := by decide

/-- The check passed: bit 5 of DONE is set where the diagnostics are done too. -/
theorem State.armBit5_frame (s : State) : s.armBit5.seq = s.seq ∧ (s.seq.diagOk = true → s.seq.resOk = true → s.armBit5.rbit R.SYS_ARM_STAT 5 = true) ∧
    (∀ a, a ≠ R.SYS_ARM_STAT → s.armBit5.rd a = s.rd a) ∧ s.armBit5.mem = s.mem := by
  unfold State.armBit5
  split
  · refine ⟨rfl, fun _ _ => ?_, fun a ha => ?_, rfl⟩
    · have hkeep (u : State) : (u.rput R.SYS_ARM_STAT 13 false).rbit R.SYS_ARM_STAT 5 = u.rbit R.SYS_ARM_STAT 5 :=
        u.fbit_fset ⟨R.SYS_ARM_STAT, 13, 13⟩ ⟨R.SYS_ARM_STAT, 5, 5⟩ _ (by decide) fun _ => RegMap.impl_armStat 5 (by decide)
      rw [hkeep, State.rbit_rput_self _ _ (RegMap.impl_armStat 5 (by decide))]
    · rw [State.rd_rput_of_ne _ _ _ _ ha, State.rd_rput_of_ne _ _ _ _ ha]
  · next h => exact ⟨rfl, fun hd hr => absurd (by simp [hd, hr]) h, fun _ _ => rfl, rfl⟩

/-- VALID held for 10 ms passes the check. -/
theorem resCheckPass_passes {s : State} (hmode : s.inMode .arming = true) (hheld : s.lasted s.pfb.validSince 8000000 = true)
    (hok : s.seq.resOk = false) :
    ∃ t, exec .resCheckPass s = .next t ∧ t.seq.resOk = true ∧ (s.seq.diagOk = true → (t.rd R.SYS_ARM_STAT).getLsbD 5 = true) ∧
      SameRegs s t [R.SYS_ARM_STAT] ∧ SameMem s t := by
  let u : State := { s with seq.resOk := true }
  have hexec : exec .resCheckPass s = .next u.armBit5 := by
    change execResCheckPass s = _
    rw [execResCheckPass, if_pos (by simp [hmode, hok, msTicks, hheld])]
  obtain ⟨hseq, hdone, hrd, hmem⟩ := u.armBit5_frame
  exact ⟨_, hexec, by rw [hseq], fun hd => hdone hd rfl, fun a ha _ => hrd a (by simpa using ha), .of_mem hmem⟩

/-- VALID not held for 10 ms within 100 ms of the excitation's start fails it. -/
theorem pfbResCheckFail_fails {s : State} (hmode : s.inMode .arming = true) (hen : s.fbit F.PFB_RES_CTRL_EN = true)
    (hlate : s.pfb.excStart + 80000000 ≤ s.time) (hok : s.seq.resOk = false) (hfail : s.pfb.chkFail = false) (hheld : s.heldInTime = false)
    (hroom : s.room 4) :
    ∃ t, exec .pfbResCheckFail s = .next t ∧ t.pfb.chkFail = true ∧
      Journaled s t C.PFB_RES_CHECK_FAIL 0 { w0 := bytes4 (s.fget F.PFB_STAT_CAUSE) 0 0 0 } ∧ t.rbit R.SYS_ARM_STAT 13 = true ∧
      SameRegs s t [R.SYS_ARM_STAT] ∧ SameMem s t := by
  let u := ({ s with pfb.chkFail := true } : State).rput R.SYS_ARM_STAT 13 true
  have hexec : exec .pfbResCheckFail s = .next (u.raise C.PFB_RES_CHECK_FAIL 0 { w0 := bytes4 (s.fget F.PFB_STAT_CAUSE) 0 0 0 }) := by
    change execPfbResCheckFail s = _
    rw [execPfbResCheckFail, if_pos (by simp [hmode, hen, State.past, msTicks, hlate, hok, hfail, hheld])]
  refine ⟨_, hexec, by rw [State.raise_pfb]; rfl, Journaled.of_raise rfl hroom.one, ?_, fun a ha hj => ?_, .of_mem (State.raise_mem ..)⟩
  · rw [State.rbit, State.rd_raise _ _ _ _ (by decide)]
    exact State.rbit_rput_self _ true (RegMap.impl_armStat 13 (by decide))
  · rw [State.rd_raise _ _ _ _ (ne_jrnStatus_of_not_journalRegs hj)]
    exact State.rd_rput_of_ne _ _ _ _ (by simpa using ha)

/-- Settles O32: the two enables, the acquisition, the lock, the losses, the fit and the result that takes it, and the check's two ends, each a
lemma above. -/
theorem resolver : Obligations.Resolver :=
  ⟨fun _ _ _ h hen hv hp hp' hr hr' hs => pfbEnable_needs_multiple h hen hv ⟨hp, hp'⟩ ⟨hr, hr'⟩ hs, fun _ _ _ => pfbResEnable_starts,
    fun _ => resAcquire_tracks, fun _ => resLock_locks, fun _ _ _ hen hexc hoff => resLoss_declares hen hexc hoff, fun _ _ => resCalFit_fits,
    fun _ _ _ _ => cleRateGen_takes_fit, fun _ => resCheckPass_passes, fun _ => pfbResCheckFail_fails⟩

end Sys2Proof.Machine

/-! Counting fields, levels and stores of a DMA: what they leave of the registers (R32, R666), and what a host frame reaches through them. -/

namespace Sys2Proof.Machine

section
variable (s : State)

/-- A level changes the counters and, where its counter wraps, its PMC_OVF bit and the journal (R666, R669). -/
theorem State.countLevel_cases (n : Nat) (l : Bool) :
    ∃ x, s.countLevel n l = { s with pmc := x } ∨ s.countLevel n l = ({ s with pmc := x } : State).pmcWrap n := by
  cases l with
  | false => exact ⟨_, .inl rfl⟩
  | true =>
    obtain ⟨x, hx⟩ := ({ s with pmc := { s.pmc with levels := s.pmc.levels ||| BitVec.ofNat 512 (2 ^ n) } } : State).pmcAdd_eq n
      { add := b2n (!s.pmc.levels.getLsbD n), level := true }
    refine ⟨x, ?_⟩
    simp only [State.countLevel, Bool.not_true, Bool.false_eq_true, if_false, if_true]
    rw [hx]
    split
    · exact .inr rfl
    · exact .inl rfl

theorem State.rd_countLevel {n a : Nat} (l : Bool) (hn : n < 512) (ha : a ∉ journalRegs) : (s.countLevel n l).rd a = s.rd a := by
  obtain ⟨x, hx | hx⟩ := s.countLevel_cases n l
  · rw [hx]
    rfl
  · rw [hx, State.rd_pmcWrap _ hn ha]
    rfl

@[simp] theorem State.countLevel_mem (n : Nat) (l : Bool) : (s.countLevel n l).mem = s.mem := by
  obtain ⟨x, hx | hx⟩ := s.countLevel_cases n l <;> simp [hx]

@[simp] theorem State.countLevel_hif (n : Nat) (l : Bool) : (s.countLevel n l).hif = s.hif := by
  obtain ⟨x, hx | hx⟩ := s.countLevel_cases n l <;> simp [hx]

@[simp] theorem State.countLevel_olk (n : Nat) (l : Bool) : (s.countLevel n l).olk = s.olk := by
  obtain ⟨x, hx | hx⟩ := s.countLevel_cases n l <;> simp [hx]

/-- A store of a DMA is carried out, or denied: that shows in SYS_FW_VIOL and the journal alone (R32). -/
theorem State.dmaPuts_cases (a : Nat) (l : List Byte) :
    s.dmaPuts a l = s.mputs a l ∨ ∃ w p, s.dmaPuts a l = (s.wr R.SYS_FW_VIOL w).raise C.FW_WRITE_DENIED 0 p := by
  unfold State.dmaPuts
  split
  · exact .inl rfl
  · simp only [State.deniedBy, Nat.lt_irrefl, if_false]
    exact .inr ⟨_, _, rfl⟩

theorem State.rd_dmaPuts (a : Nat) (l : List Byte) {b : Nat} (hv : b ≠ R.SYS_FW_VIOL) (hj : b ∉ journalRegs) : (s.dmaPuts a l).rd b = s.rd b := by
  obtain h | ⟨w, p, h⟩ := s.dmaPuts_cases a l
  · rw [h, State.rd_mputs]
  · rw [h, State.rd_raise _ _ _ _ (ne_jrnStatus_of_not_journalRegs hj), State.rd_wr_of_ne _ _ hv]

@[simp] theorem State.dmaPuts_hif (a : Nat) (l : List Byte) : (s.dmaPuts a l).hif = s.hif := by
  obtain h | ⟨w, p, h⟩ := s.dmaPuts_cases a l <;> simp [h]

@[simp] theorem State.dmaPuts_olk (a : Nat) (l : List Byte) : (s.dmaPuts a l).olk = s.olk := by
  obtain h | ⟨w, p, h⟩ := s.dmaPuts_cases a l <;> simp [h]

/-- A counting field of 16 bits goes on by one, up to its end. -/
theorem State.fget_finc_half (f : Fld) (hw : f.hi + 1 - f.lo = 16) (h32 : f.hi < 32) (himpl : RegMap.impl f.addr = BitVec.allOnes 32) :
    (s.finc f 1).fget f = min (s.fget f + 1) 65535 := by
  have hsum : satAdd (s.fget f) 1 (2 ^ (f.hi + 1 - f.lo) - 1) = min (s.fget f + 1) 65535 := by
    rw [hw]
    unfold satAdd
    split <;> omega
  rw [State.finc, hsum]
  refine s.fget_fset_self f (by rw [hw]; omega) h32 fun i _ hhi => ?_
  rw [himpl, BitVec.getLsbD_allOnes]
  exact decide_eq_true (Nat.lt_of_le_of_lt hhi h32)

end

theorem State.fget_congr {s t : State} {f : Fld} (h : t.rd f.addr = s.rd f.addr) : t.fget f = s.fget f := by rw [State.fget, State.fget, h]

theorem State.fbit_congr {s t : State} {f : Fld} (h : t.rd f.addr = s.rd f.addr) : t.fbit f = s.fbit f := by rw [State.fbit, State.fbit, h]

end Sys2Proof.Machine

/-! What a host frame leaves on its way to being accepted, on being accepted, and on being served (R566 to R573, R579, R583, R620). -/

namespace Sys2Proof.Machine

/-! ### HIF_STAT -/

theorem RegMap.impl_hifStat : ∀ i < 7, (RegMap.impl R.HIF_STAT).getLsbD i = true := by decide

section
variable (s : State) {i j : Nat}

/-- A bit of HIF_STAT holds what is stored in it. -/
theorem State.fbit_hifStat_self (hi : i < 7) (b : Bool) : (s.fput ⟨R.HIF_STAT, i, i⟩ b).fbit ⟨R.HIF_STAT, i, i⟩ = b :=
  s.fbit_fput _ b rfl (RegMap.impl_hifStat i hi)

/-- A bit of HIF_STAT keeps its value when another is stored. -/
theorem State.fbit_hifStat_of_ne (hj : j < 7) (h : j ≠ i) (b : Bool) :
    (s.fput ⟨R.HIF_STAT, i, i⟩ b).fbit ⟨R.HIF_STAT, j, j⟩ = s.fbit ⟨R.HIF_STAT, j, j⟩ :=
  s.fbit_fset _ _ _ (.inr (Nat.lt_or_gt_of_ne h)) fun _ => RegMap.impl_hifStat j hj

end

/-! ### The host is heard again (R579, R580) -/

/-- From `s` to `t` the host interface may have cleared HOST_LOST, with the torque reference as it was before the loss, and journalled that. -/
structure State.Resumes (s t : State) : Prop where
  rd : SameRegs s t [R.HIF_STAT, R.TMU_TQ_REF]
  sync : t.fbit F.HIF_STAT_RX_SYNC = s.fbit F.HIF_STAT_RX_SYNC
  hif : ∃ x, t.hif = { s.hif with lost := x }
  mem : t.mem = s.mem

theorem State.Resumes.trans {s t u : State} (h : s.Resumes t) (k : t.Resumes u) : s.Resumes u where
  rd a ha hj := (k.rd a ha hj).trans (h.rd a ha hj)
  sync := k.sync.trans h.sync
  hif := by
    obtain ⟨x, hx⟩ := h.hif
    obtain ⟨y, hy⟩ := k.hif
    exact ⟨y, by rw [hy, hx]⟩
  mem := k.mem.trans h.mem

section
variable (s : State) (f : AcpFrame)

theorem State.resumes_hostUnlost : s.Resumes s.hostUnlost := by
  unfold State.hostUnlost
  split
  · refine ⟨fun a ha hj => ?_, ?_, ⟨(0, 0), by simp⟩, by simp⟩
    · simp only [List.mem_cons, List.not_mem_nil, or_false, not_or] at ha
      exact (State.rd_countLevel _ _ (by decide) hj).trans ((State.rd_wr_of_ne _ _ ha.2).trans (s.rd_fput_of_ne F.HIF_STAT_HOST_LOST _ ha.1))
    · refine (State.fbit_congr (State.rd_countLevel _ _ (by decide) (by decide))).trans ?_
      exact (State.fbit_congr (State.rd_wr_of_ne _ _ (by decide))).trans (s.fbit_hifStat_of_ne (by decide) (by decide) _)
  · exact ⟨fun _ _ _ => rfl, rfl, ⟨_, rfl⟩, rfl⟩

theorem State.resumes_hostResumed : s.Resumes (s.hostResumed f) := by
  refine s.resumes_hostUnlost.trans ?_
  simp only [State.hostResumed]
  split
  · refine ⟨fun a ha hj => ?_, ?_, ⟨s.hostUnlost.hif.lost, by simp⟩, by simp⟩
    · rw [State.rd_raise _ _ _ _ (ne_jrnStatus_of_not_journalRegs hj), State.rd_countLevel _ _ (by decide) hj]
      exact State.rd_fput_of_ne _ F.HIF_STAT_HOST_LOST _ (List.ne_of_not_mem_cons ha)
    · refine (State.fbit_congr ((State.rd_raise _ _ _ _ (by decide)).trans (State.rd_countLevel _ _ (by decide) (by decide)))).trans ?_
      exact State.fbit_hifStat_of_ne _ (by decide) (by decide) _
  · exact ⟨fun _ _ _ => rfl, rfl, ⟨_, rfl⟩, rfl⟩

/-- The host counts as present once it is heard (R579). -/
theorem State.fbit_hostLost_hostResumed : (s.hostResumed f).fbit F.HIF_STAT_HOST_LOST = false := by
  simp only [State.hostResumed]
  split
  · refine (State.fbit_congr ((State.rd_raise _ _ _ _ (by decide)).trans (State.rd_countLevel _ _ (by decide) (by decide)))).trans ?_
    exact State.fbit_hifStat_self _ (by decide) _
  · next h => simpa using h

end

/-! ### A frame is accepted (R570) -/

section
variable (s : State) (f : AcpFrame)

/-- The sequence, the timer and the path of an accepted frame are noted. -/
def State.hostNoted : State :=
  let s1 := (s.fput F.HIF_STAT_RX_SYNC true).fset F.HIF_SEQ_LAST_RX f.seq.toNat
  { s1 with hif := { s.hif with hostAt := s.time - f.age, path := f.path.val, port := if f.path = 2 then f.udp.srcPort else s.hif.port
                                can1 := (if f.path = 1 then s.cyc + 1 else 0, (s.rd R.HIF_RXQ_WR).toNat % s.rxqSlots) } }

/-- The acknowledgement that an accepted frame carries is taken (R575). -/
def State.hostAcked : State := if f.flags.getLsbD 0 then (s.fput F.HIF_STAT_RST_PEND false).fset F.HIF_HOST_ACK_ACK f.ack.toNat else s

theorem State.hostAccept_eq : s.hostAccept f = ((((s.hostNoted f).hostAcked f).hostResumed f).sleepRestart).count 0x1A0 1 := rfl

theorem State.rd_hostNoted_of_ne {a : Nat} (hstat : a ≠ R.HIF_STAT) (hseq : a ≠ R.HIF_SEQ) : (s.hostNoted f).rd a = s.rd a :=
  (State.rd_fset_of_ne _ F.HIF_SEQ_LAST_RX _ hseq).trans (s.rd_fput_of_ne F.HIF_STAT_RX_SYNC _ hstat)

theorem State.fget_lastRx_hostNoted : (s.hostNoted f).fget F.HIF_SEQ_LAST_RX = f.seq.toNat := by
  have himpl : ∀ i, i < 16 → (RegMap.impl R.HIF_SEQ).getLsbD i = true := by decide
  exact State.fget_fset_self _ F.HIF_SEQ_LAST_RX f.seq.isLt (by decide) fun i _ hi => himpl i (Nat.lt_succ_of_le hi)

theorem State.fbit_rxSync_hostNoted : (s.hostNoted f).fbit F.HIF_STAT_RX_SYNC = true :=
  (State.fbit_fset_of_ne _ F.HIF_SEQ_LAST_RX F.HIF_STAT_RX_SYNC _ (by decide)).trans (s.fbit_hifStat_self (by decide) _)

theorem State.rd_hostAcked_of_ne {a : Nat} (hstat : a ≠ R.HIF_STAT) (hack : a ≠ R.HIF_HOST_ACK) : (s.hostAcked f).rd a = s.rd a := by
  unfold State.hostAcked
  split
  · exact (State.rd_fset_of_ne _ F.HIF_HOST_ACK_ACK _ hack).trans (s.rd_fput_of_ne F.HIF_STAT_RST_PEND _ hstat)
  · rfl

theorem State.fbit_rxSync_hostAcked : (s.hostAcked f).fbit F.HIF_STAT_RX_SYNC = s.fbit F.HIF_STAT_RX_SYNC := by
  unfold State.hostAcked
  split
  · exact (State.fbit_fset_of_ne _ F.HIF_HOST_ACK_ACK F.HIF_STAT_RX_SYNC _ (by decide)).trans (s.fbit_hifStat_of_ne (by decide) (by decide) _)
  · rfl

theorem State.hostAcked_hif : (s.hostAcked f).hif = s.hif := by
  unfold State.hostAcked
  split <;> rfl

theorem State.hostAcked_mem : (s.hostAcked f).mem = s.mem := by
  unfold State.hostAcked
  split <;> rfl

theorem State.sleepRestart_eq : ∃ q, s.sleepRestart = { s with seq := q } := by
  unfold State.sleepRestart
  split
  · exact ⟨_, rfl⟩
  · exact ⟨_, rfl⟩

/-- What a host frame leaves from its arrival to its being accepted: it is heard, and no register but the interface's own and the torque
reference of a host no longer lost has changed. -/
structure State.TakesHost (t : State) : Prop where
  heard : HostHeard s t f
  rd : SameRegs s t [R.HIF_STAT, R.HIF_SEQ, R.HIF_HOST_ACK, R.HIF_CNT1, R.TMU_TQ_REF]
  nacks : t.hif.nacks = s.hif.nacks
  mem : t.mem = s.mem

theorem State.takesHost_hostAccept : s.TakesHost f (s.hostAccept f) := by
  obtain ⟨q, hq⟩ := (((s.hostNoted f).hostAcked f).hostResumed f).sleepRestart_eq
  obtain ⟨hrd, hsync, ⟨x, hx⟩, hmem⟩ := ((s.hostNoted f).hostAcked f).resumes_hostResumed f
  have hlost := ((s.hostNoted f).hostAcked f).fbit_hostLost_hostResumed f
  rw [State.hostAccept_eq, hq]
  generalize ((s.hostNoted f).hostAcked f).hostResumed f = u at hrd hsync hx hmem hlost
  have hreg {a : Nat} (ha : a ∉ journalRegs) : (({ u with seq := q } : State).count 0x1A0 1).rd a = u.rd a := State.rd_count _ _ (by decide) ha
  have hhif : (({ u with seq := q } : State).count 0x1A0 1).hif = { (s.hostNoted f).hif with lost := x } := by simp [hx, State.hostAcked_hif]
  refine ⟨⟨?_, ?_, by rw [hhif]; rfl, (State.fbit_congr (hreg (by decide))).trans hlost⟩, fun a ha hj => ?_, by rw [hhif]; rfl,
    by rw [State.count_mem]; exact hmem.trans ((State.hostAcked_mem ..).trans rfl)⟩
  · rw [State.fget_congr (hreg (by decide)), State.fget_congr (hrd _ (by decide) (by decide)),
      State.fget_congr ((s.hostNoted f).rd_hostAcked_of_ne f (by decide) (by decide)), s.fget_lastRx_hostNoted]
  · rw [State.fbit_congr (hreg (by decide)), hsync, State.fbit_rxSync_hostAcked, s.fbit_rxSync_hostNoted]
  · simp only [List.mem_cons, List.not_mem_nil, or_false, not_or] at ha
    obtain ⟨hstat, hseq, hack, -, href⟩ := ha
    rw [hreg hj, hrd a (by simp [hstat, href]) hj, State.rd_hostAcked_of_ne _ _ hstat hack, s.rd_hostNoted_of_ne f hstat hseq]

end

end Sys2Proof.Machine

/-! From a frame's arrival to its being served (R566 to R573, R583, R620). -/

namespace Sys2Proof.Machine

/-! ### What arrives is noted (R570, R586) -/

/-- From `s` to `t` the host interface has only journalled and counted missed frames. -/
structure State.RxNoted (s t : State) : Prop where
  rd : SameRegs s t [R.HIF_CNT1]
  hif : t.hif = s.hif
  mem : t.mem = s.mem
  time : t.time = s.time

theorem State.RxNoted.refl (s : State) : s.RxNoted s := ⟨fun _ _ _ => rfl, rfl, rfl, rfl⟩

theorem State.RxNoted.trans {s t u : State} (h : s.RxNoted t) (k : t.RxNoted u) : s.RxNoted u :=
  ⟨fun a ha hj => (k.rd a ha hj).trans (h.rd a ha hj), k.hif.trans h.hif, k.mem.trans h.mem, k.time.trans h.time⟩

/-- A frame accepted after such notes is accepted. -/
theorem State.RxNoted.takesHost {s t u : State} {f : AcpFrame} (h : s.RxNoted t) (k : t.TakesHost f u) : s.TakesHost f u where
  heard := by
    obtain ⟨hseq, hsync, hat, hlost⟩ := k.heard
    exact ⟨hseq, hsync, by rw [hat, h.time], hlost⟩
  rd a ha hj := by
    have hcnt : a ∉ [R.HIF_CNT1] := fun hc => ha (by simp [List.mem_singleton.mp hc])
    exact (k.rd a ha hj).trans (h.rd a hcnt hj)
  nacks := by rw [k.nacks, h.hif]
  mem := k.mem.trans h.mem

section
variable (s : State) (t : Nat) (f : AcpFrame)

/-- A frame journalled under HOST_RX changes no register but the journal's. -/
theorem State.rd_hostRxNote {a : Nat} (hj : a ∉ journalRegs) : (s.hostRxNote t f).rd a = s.rd a := by
  unfold State.hostRxNote
  split
  · exact s.rd_raiseFrom _ _ _ _ _ _ _ (ne_jrnStatus_of_not_journalRegs hj)
  · rfl

theorem State.rxNoted_hostRxNote : s.RxNoted (s.hostRxNote t f) := by
  refine ⟨fun a _ hj => s.rd_hostRxNote t f hj, ?_, ?_, ?_⟩ <;>
  · unfold State.hostRxNote
    split <;> simp

theorem State.rxqSlots_hostRxNote : (s.hostRxNote t f).rxqSlots = s.rxqSlots := by
  rw [State.rxqSlots, State.fget_congr (s.rd_hostRxNote t f (by decide)), State.rxqSlots]

theorem State.rxqFull_hostRxNote : (s.hostRxNote t f).rxqFull = s.rxqFull := by
  simp only [State.rxqFull, State.rxqSlots_hostRxNote, s.rd_hostRxNote t f (a := R.HIF_RXQ_WR) (by decide),
    s.rd_hostRxNote t f (a := R.HIF_RXQ_RD) (by decide)]

theorem State.ahead_hostRxNote : (s.hostRxNote t f).ahead f = s.ahead f := by
  rw [State.ahead, State.fget_congr (s.rd_hostRxNote t f (by decide)), State.ahead]

theorem State.fbit_rxSync_hostRxNote : (s.hostRxNote t f).fbit F.HIF_STAT_RX_SYNC = s.fbit F.HIF_STAT_RX_SYNC :=
  State.fbit_congr (s.rd_hostRxNote t f (by decide))

/-! ### The frame's way (R566 to R573) -/

/-- A frame in sequence is accepted, after the gap before it is noted, and served (R570). -/
theorem State.hostSeq_inOrder (h : s.inOrder f) : ∃ u, s.TakesHost f u ∧ s.hostSeq t f = u.hostServe t f := by
  unfold State.hostSeq
  split
  · exact ⟨_, s.takesHost_hostAccept f, rfl⟩
  · next hsync =>
    obtain ⟨hlo, hhi⟩ := h.resolve_left (by simpa using hsync)
    change 1 ≤ (f.seq - BitVec.ofNat 16 (s.fget F.HIF_SEQ_LAST_RX)).toNat at hlo
    change (f.seq - BitVec.ofNat 16 (s.fget F.HIF_SEQ_LAST_RX)).toNat ≤ 32767 at hhi
    generalize (f.seq - BitVec.ofNat 16 (s.fget F.HIF_SEQ_LAST_RX)).toNat = d at hlo hhi
    have hnew : ¬ (d = 0 || 32768 ≤ d) = true := by
      simp only [Bool.or_eq_true, decide_eq_true_eq]
      omega
    simp only [hnew, Bool.false_eq_true, if_false]
    refine ⟨_, State.RxNoted.takesHost ?_ (State.takesHost_hostAccept _ f), rfl⟩
    split
    · refine ⟨fun a ha hj => ?_, by simp, by simp, by simp⟩
      rw [State.rd_raise _ _ _ _ (ne_jrnStatus_of_not_journalRegs hj)]
      exact s.rd_finc_of_ne F.HIF_CNT1_MISSED _ (List.ne_of_not_mem_cons ha)
    · exact .refl s

variable {s t f}

/-- A frame of good format and CRC goes by its TYPE: STATUS_REQ is served, one for firmware needs room, and the rest by its sequence. -/
theorem State.hostFrame_of_hears (h : s.hears t f) : s.hostFrame t f =
    if t = 3 then
      (if acpLenOk t f.path.val f.len.toNat = some true then { s.hostRxNote t f with hif := { (s.hostRxNote t f).hif with status := true } }
      else (s.hostRxNote t f).nack t 1 f)
    else if acpLenOk t f.path.val f.len.toNat = some true && acpToFw t && s.rxqFull then (s.hostRxNote t f).rxqOverflow f.path.val
    else (s.hostRxNote t f).hostSeq t f := by
  obtain ⟨hon, htakes, hbus, hform, hcrc⟩ := h
  simp [State.hostFrame, hon, htakes, hbus, hform, hcrc, State.rxqFull_hostRxNote]

/-- A good frame in sequence that firmware's queue has room for, or that does not go there, is accepted and served. -/
theorem State.hostFrame_inOrder (h : s.hears t f) (ho : s.inOrder f) (ht : t ≠ 3)
    (hroom : (acpLenOk t f.path.val f.len.toNat = some true && acpToFw t && s.rxqFull) = false) :
    ∃ u, s.TakesHost f u ∧ s.hostFrame t f = u.hostServe t f := by
  have ho' : (s.hostRxNote t f).inOrder f := by
    unfold State.inOrder
    rw [State.fbit_rxSync_hostRxNote, State.ahead_hostRxNote]
    exact ho
  obtain ⟨u, hu, hserve⟩ := (s.hostRxNote t f).hostSeq_inOrder t f ho'
  refine ⟨u, (s.rxNoted_hostRxNote t f).takesHost hu, ?_⟩
  rw [State.hostFrame_of_hears h, if_neg ht, if_neg (by simpa using hroom), hserve]

end

/-! ### Serving an accepted frame (R567, R568, R583, R620) -/

theorem HostHeard.congr {s t u : State} {f : AcpFrame} (h : HostHeard s t f) (hseq : u.rd R.HIF_SEQ = t.rd R.HIF_SEQ)
    (hstat : u.rd R.HIF_STAT = t.rd R.HIF_STAT) (hat : u.hif.hostAt = t.hif.hostAt) : HostHeard s u f := by
  obtain ⟨hlast, hsync, hhost, hlost⟩ := h
  exact ⟨(State.fget_congr hseq).trans hlast, (State.fbit_congr hstat).trans hsync, hat.trans hhost, (State.fbit_congr hstat).trans hlost⟩

section
variable (s : State)

/-- A queue's slots are counted in 4 bits of its size. -/
theorem State.rxqSlots_lt : s.rxqSlots < 2 ^ 32 :=
  Nat.pow_lt_pow_right (by decide) (Nat.lt_trans (s.fget_lt F.HIF_RXQ_CFG_LOG2) (by decide))

theorem State.rxqSlots_pos : 0 < s.rxqSlots := Nat.two_pow_pos _

theorem State.rxqPut_frame (path : Nat) (raw : Bool) (age : Nat) (b : List Byte) :
    (s.rxqPut path raw age b).hif = s.hif ∧ SameRegs s (s.rxqPut path raw age b) [R.HIF_RXQ_WR, R.SYS_FW_VIOL] := by
  refine ⟨by simp [State.rxqPut], fun a ha hj => ?_⟩
  simp only [List.mem_cons, List.not_mem_nil, or_false, not_or] at ha
  rw [State.rxqPut, State.rd_wr_of_ne _ _ ha.1, State.rd_dmaPuts _ _ _ ha.2 hj, State.rd_dmaPuts _ _ _ ha.2 hj]

/-- An entry takes the queue's next slot (R620). -/
theorem State.rxqWr_rxqPut (path : Nat) (raw : Bool) (age : Nat) (b : List Byte) :
    ((s.rxqPut path raw age b).rd R.HIF_RXQ_WR).toNat = ((s.rd R.HIF_RXQ_WR).toNat % s.rxqSlots + 1) % s.rxqSlots := by
  rw [State.rxqPut, State.rd_wr_full _ _ (by decide), w32, BitVec.toNat_ofNat]
  exact Nat.mod_eq_of_lt (Nat.lt_trans (Nat.mod_lt _ s.rxqSlots_pos) s.rxqSlots_lt)

end

section
variable {s : State} {t : Nat} {f : AcpFrame}

theorem State.hostServe_toFw (hlen : acpLenOk t f.path.val f.len.toNat = some true) (hfw : acpToFw t = true) :
    s.hostServe t f = s.rxqPut f.path.val false f.age (frameBytes f t) := by
  have ht : t ≠ 4 := fun h => by simp [h, acpToFw] at hfw
  simp [State.hostServe, hlen, ht, hfw]

end

end Sys2Proof.Machine

/-! Host frames: those accepted, STATUS_REQ, and those counted (R566 to R573, R577, R583, R620). -/

namespace Sys2Proof.Machine

/-! ### Frames that are accepted -/

/-- The commands of frames for firmware, with their TYPE. -/
theorem exec_fwFrame {c : Instr} {ty : Nat} {f : AcpFrame} (s : State)
    (h : (c, ty) ∈ [(Instr.acpCommand f, 1), (.acpUpdateBlock f, 5), (.acpActivate f, 6), (.acpConfirm f, 7)] ∨
      ∃ k : Fin 64, c = .acpFwDefined k f ∧ ty = 0x40 + k.val) : exec c s = .next (s.hostFrame ty f) ∧ acpToFw ty = true := by
  obtain h | ⟨k, rfl, rfl⟩ := h
  · simp only [List.mem_cons, Prod.mk.injEq, List.not_mem_nil, or_false] at h
    obtain ⟨rfl, rfl⟩ | ⟨rfl, rfl⟩ | ⟨rfl, rfl⟩ | ⟨rfl, rfl⟩ := h <;> exact ⟨rfl, rfl⟩
  · refine ⟨rfl, ?_⟩
    simp only [acpToFw, Bool.or_eq_true, Bool.and_eq_true, decide_eq_true_eq]
    omega

section
variable {s : State} {f : AcpFrame}

/-- A frame for firmware takes the next slot of the receive queue. -/
theorem fwFrame_queued {c : Instr} {ty : Nat} (hc : (c, ty) ∈ [(Instr.acpCommand f, 1), (.acpUpdateBlock f, 5), (.acpActivate f, 6), (.acpConfirm f, 7)] ∨
      ∃ k : Fin 64, c = .acpFwDefined k f ∧ ty = 0x40 + k.val) (h : s.hears ty f) (ho : s.inOrder f)
    (hlen : acpLenOk ty f.path.val f.len.toNat = some true) (hroom : s.rxqFull = false) :
    ∃ t, exec c s = .next t ∧ HostHeard s t f ∧
      (t.rd R.HIF_RXQ_WR).toNat = ((s.rd R.HIF_RXQ_WR).toNat % s.rxqSlots + 1) % s.rxqSlots := by
  obtain ⟨hexec, hfw⟩ := exec_fwFrame s hc
  have ht : ty ≠ 3 := fun e => by simp [e, acpToFw] at hfw
  obtain ⟨u, hu, hserve⟩ := State.hostFrame_inOrder h ho ht (by simp [hroom])
  rw [hexec, hserve, State.hostServe_toFw hlen hfw]
  obtain ⟨hhif, hrd⟩ := u.rxqPut_frame f.path.val false f.age (frameBytes f ty)
  refine ⟨_, rfl, hu.heard.congr (hrd _ (by decide) (by decide)) (hrd _ (by decide) (by decide)) (by rw [hhif]), ?_⟩
  have hslots : u.rxqSlots = s.rxqSlots := by
    rw [State.rxqSlots, State.fget_congr (hu.rd _ (by decide) (by decide)), State.rxqSlots]
  rw [State.rxqWr_rxqPut, hslots, hu.rd _ (by decide) (by decide)]

/-- KEEPALIVE only is heard. -/
theorem keepalive_heard (h : s.hears 2 f) (ho : s.inOrder f) (hlen : f.len = 0) :
    ∃ t, exec (.acpKeepalive f) s = .next t ∧ HostHeard s t f ∧ t.rd R.HIF_RXQ_WR = s.rd R.HIF_RXQ_WR ∧ SameMem s t := by
  obtain ⟨u, hu, hserve⟩ := State.hostFrame_inOrder h ho (by decide) (by simp [acpToFw])
  have hok : acpLenOk 2 f.path.val f.len.toNat = some true := by simp [acpLenOk, hlen]
  have hexec : exec (.acpKeepalive f) s = .next u := by
    change Host.Outcome.next (s.hostFrame 2 f) = _
    simp [hserve, State.hostServe, hok, acpToFw]
  exact ⟨u, hexec, hu.heard, hu.rd _ (by decide) (by decide), .of_mem hu.mem⟩

/-- JOURNAL_REQ starts a replay at its first record (R583). -/
theorem journalReq_replays {b0 b1 b2 b3 b4 b5 : Byte} (h : s.hears 4 f) (ho : s.inOrder f) (hlen : f.len = 6)
    (hbody : frameBody f = [b0, b1, b2, b3, b4, b5]) :
    ∃ t, exec (.acpJournalReq f) s = .next t ∧ HostHeard s t f ∧ t.fbit F.HIF_STAT_REPLAY = true ∧
      (∃ r, t.hif.replay = some r ∧ r.first = bytesWord b0 b1 b2 b3 ∧ r.sent = 0 ∧
        ((b5 ++ b4 : BitVec 16).toNat ≤ 4096 → (s.rd R.JRN_NEXT_SEQ - r.first).toNat < 2 ^ 31 →
          r.left = min (b5 ++ b4 : BitVec 16).toNat (s.rd R.JRN_NEXT_SEQ - r.first).toNat)) ∧ t.rd R.HIF_RXQ_WR = s.rd R.HIF_RXQ_WR ∧ SameMem s t := by
  obtain ⟨u, hu, hserve⟩ := State.hostFrame_inOrder h ho (by decide) (by simp [acpToFw])
  have hok : acpLenOk 4 f.path.val f.len.toNat = some true := by simp [acpLenOk, hlen]
  have hexec : exec (.acpJournalReq f) s = .next (u.replayStart (bytesWord b0 b1 b2 b3) (b5 ++ b4 : BitVec 16).toNat) := by
    change Host.Outcome.next (s.hostFrame 4 f) = _
    simp [hserve, State.hostServe, hok, hbody, nth]
  obtain ⟨hseq, hsync, hat, hlost⟩ := hu.heard
  refine ⟨_, hexec, ⟨?_, ?_, hat, ?_⟩, u.fbit_hifStat_self (by decide) true, ⟨_, rfl, rfl, rfl, fun hcount havail => ?_⟩, ?_, .of_mem hu.mem⟩
  · exact (State.fget_congr (u.rd_fput_of_ne F.HIF_STAT_REPLAY true (by decide))).trans hseq
  · exact (u.fbit_hifStat_of_ne (by decide) (by decide) true).trans hsync
  · exact (u.fbit_hifStat_of_ne (by decide) (by decide) true).trans hlost
  · rw [← hu.rd R.JRN_NEXT_SEQ (by decide) (by decide)] at havail ⊢
    rw [if_pos havail, Nat.min_eq_left hcount]
  · exact (u.rd_fput_of_ne F.HIF_STAT_REPLAY true (by decide)).trans (hu.rd _ (by decide) (by decide))

/-- A frame whose TYPE is none "to device" is heard and answered by a NACK (R568). -/
theorem frameInvalid_nacked {ty : Byte} (h : s.hears ty.toNat f) (ho : s.inOrder f) (hlen : acpLenOk ty.toNat f.path.val f.len.toNat = none) :
    ∃ t, exec (.acpFrameInvalid ty f) s = .next t ∧ HostHeard s t f ∧
      t.hif.nacks = s.hif.nacks ++ [{ type := ty, reason := 0, seq := f.seq }] ∧ t.rd R.HIF_RXQ_WR = s.rd R.HIF_RXQ_WR ∧ SameMem s t := by
  have ht : ty.toNat ≠ 3 := fun e => by simp [e, acpLenOk] at hlen
  obtain ⟨u, hu, hserve⟩ := State.hostFrame_inOrder h ho ht (by simp [hlen])
  have hexec : exec (.acpFrameInvalid ty f) s = .next (u.nack ty.toNat 0 f) := by
    change Host.Outcome.next (s.hostFrame ty.toNat f) = _
    simp [hserve, State.hostServe, hlen]
  exact ⟨_, hexec, hu.heard.congr rfl rfl rfl, by simp [State.nack, hu.nacks], hu.rd _ (by decide) (by decide), .of_mem hu.mem⟩

/-! ### Frames that are served or counted without being accepted -/

/-- STATUS_REQ is served whatever its sequence (R571). -/
theorem statusReq_served (h : s.hears 3 f) (hlen : f.len = 0) :
    ∃ t, exec (.acpStatusReq f) s = .next t ∧ t.hif.status = true ∧ t.hif.hostAt = s.hif.hostAt ∧ SameRegs s t [] ∧ SameMem s t := by
  have hok : acpLenOk 3 f.path.val f.len.toNat = some true := by simp [acpLenOk, hlen]
  have hexec : exec (.acpStatusReq f) s = .next { s.hostRxNote 3 f with hif := { (s.hostRxNote 3 f).hif with status := true } } := by
    change Host.Outcome.next (s.hostFrame 3 f) = _
    rw [State.hostFrame_of_hears h, if_pos rfl, if_pos hok]
  have hnote := s.rxNoted_hostRxNote 3 f
  exact ⟨_, hexec, rfl, by rw [hnote.hif], fun _ _ hj => s.rd_hostRxNote 3 f hj, .of_mem hnote.mem⟩

/-- A frame with a bad CRC is counted (R566). -/
theorem command_badCrc (hon : s.hifOn = true) (htakes : s.acpTakes f = true) (hbus : s.busOff f.path.val = false) (hform : frameFormOk f = true)
    (hcrc : s.acpCrc 1 (frameHead f 1) (frameBody f) ≠ f.crc) :
    ∃ t, exec (.acpCommand f) s = .next t ∧ t.fget F.HIF_CNT0_FMT = min (s.fget F.HIF_CNT0_FMT + 1) 65535 ∧
      t.hif.hostAt = s.hif.hostAt ∧ SameRegs s t [R.HIF_CNT0] ∧ SameMem s t := by
  have hexec : exec (.acpCommand f) s = .next (s.hostCrcBad f) := by
    change Host.Outcome.next (s.hostFrame 1 f) = _
    simp [State.hostFrame, hon, htakes, hbus, hform, hcrc]
  have hrd {a : Nat} (hj : a ∉ journalRegs) : (s.hostCrcBad f).rd a = (s.finc F.HIF_CNT0_FMT 1).rd a := by
    simp only [State.hostCrcBad]
    split
    · exact (State.rd_raise _ _ _ _ (ne_jrnStatus_of_not_journalRegs hj)).trans (State.rd_count _ _ (by decide) hj)
    · exact State.rd_count _ _ (by decide) hj
  refine ⟨_, hexec, ?_, ?_, fun a ha hj => ?_, .of_mem ?_⟩
  · rw [State.fget_congr (hrd (by decide)), s.fget_finc_half F.HIF_CNT0_FMT (by decide) (by decide) (by decide)]
  · simp only [State.hostCrcBad]
    split <;> simp
  · exact (hrd hj).trans (s.rd_finc_of_ne F.HIF_CNT0_FMT 1 (List.ne_of_not_mem_cons ha))
  · simp only [State.hostCrcBad]
    split <;> simp

/-- A copy that CAN1 has not delivered in the same cycle is no copy (R559). -/
theorem State.asCan0_other (h : f.path ≠ 0 ∨ s.hif.can1.1 ≠ s.cyc + 1) : s.asCan0 f = s :=
  if_neg fun ⟨hpath, hcyc, _⟩ => h.elim (· hpath) (· hcyc)

/-- A frame not ahead of the last is counted (R570). -/
theorem State.hostSeq_old (t : Nat) (hsync : s.fbit F.HIF_STAT_RX_SYNC = true) (hold : s.ahead f = 0 ∨ 32768 ≤ s.ahead f) :
    s.hostSeq t f = ((s.asCan0 f).finc F.HIF_CNT0_OLD 1).count 0x1A3 1 := by
  have hd : ((f.seq - BitVec.ofNat 16 (s.fget F.HIF_SEQ_LAST_RX)).toNat = 0 || 32768 ≤ (f.seq - BitVec.ofNat 16 (s.fget F.HIF_SEQ_LAST_RX)).toNat) = true := by
    simpa [State.ahead] using hold
  simp only [State.hostSeq, hsync, Bool.not_true, Bool.false_eq_true, if_false]
  rw [if_pos hd]

theorem keepalive_old (h : s.hears 2 f) (hsync : s.fbit F.HIF_STAT_RX_SYNC = true) (hold : s.ahead f = 0 ∨ 32768 ≤ s.ahead f)
    (hcopy : f.path ≠ 0 ∨ s.hif.can1.1 ≠ s.cyc + 1) :
    ∃ t, exec (.acpKeepalive f) s = .next t ∧ t.fget F.HIF_CNT0_OLD = min (s.fget F.HIF_CNT0_OLD + 1) 65535 ∧
      t.hif.hostAt = s.hif.hostAt ∧ SameRegs s t [R.HIF_CNT0] ∧ SameMem s t := by
  have hnote := s.rxNoted_hostRxNote 2 f
  have hcopy' : f.path ≠ 0 ∨ (s.hostRxNote 2 f).hif.can1.1 ≠ (s.hostRxNote 2 f).cyc + 1 := by
    rwa [hnote.hif, State.cyc, hnote.time]
  have hexec : exec (.acpKeepalive f) s = .next (((s.hostRxNote 2 f).finc F.HIF_CNT0_OLD 1).count 0x1A3 1) := by
    change Host.Outcome.next (s.hostFrame 2 f) = _
    rw [State.hostFrame_of_hears h, if_neg (by decide), if_neg (by simp [acpToFw]),
      State.hostSeq_old 2 ((s.fbit_rxSync_hostRxNote 2 f).trans hsync) (by rwa [State.ahead_hostRxNote]), State.asCan0_other hcopy']
  refine ⟨_, hexec, ?_, by rw [State.count_hif, State.finc_hif, hnote.hif], fun a ha hj => ?_, .of_mem ?_⟩
  · rw [State.fget_congr (State.rd_count _ _ (by decide) (by decide)),
      State.fget_finc_half _ F.HIF_CNT0_OLD (by decide) (by decide) (by decide), State.fget_congr (s.rd_hostRxNote 2 f (by decide))]
  · rw [State.rd_count _ _ (by decide) hj]
    exact (State.rd_finc_of_ne _ F.HIF_CNT0_OLD 1 (List.ne_of_not_mem_cons ha)).trans (s.rd_hostRxNote 2 f hj)
  · rw [State.count_mem, State.finc_mem, hnote.mem]

/-- A frame that finds the receive queue full is counted (R573). -/
theorem command_overflows (h : s.hears 1 f) (hlen : f.len = 16) (hfull : s.rxqFull = true) :
    ∃ t, exec (.acpCommand f) s = .next t ∧ t.fget F.HIF_CNT1_OVF = min (s.fget F.HIF_CNT1_OVF + 1) 65535 ∧
      t.hif.hostAt = s.hif.hostAt ∧ SameRegs s t [R.HIF_CNT1] ∧ SameMem s t := by
  have hok : acpLenOk 1 f.path.val f.len.toNat = some true := by simp [acpLenOk, hlen]
  have hexec : exec (.acpCommand f) s = .next ((s.hostRxNote 1 f).rxqOverflow f.path.val) := by
    change Host.Outcome.next (s.hostFrame 1 f) = _
    rw [State.hostFrame_of_hears h, if_neg (by decide), if_pos (by simp [hok, acpToFw, hfull])]
  have hnote := s.rxNoted_hostRxNote 1 f
  have hrd {a : Nat} (hj : a ∉ journalRegs) :
      ((s.hostRxNote 1 f).rxqOverflow f.path.val).rd a = ((s.hostRxNote 1 f).finc F.HIF_CNT1_OVF 1).rd a :=
    State.rd_raise _ _ _ _ (ne_jrnStatus_of_not_journalRegs hj)
  refine ⟨_, hexec, ?_, by simp [State.rxqOverflow, hnote.hif], fun a ha hj => ?_, .of_mem (by simp [State.rxqOverflow, hnote.mem])⟩
  · rw [State.fget_congr (hrd (by decide)), State.fget_finc_half _ F.HIF_CNT1_OVF (by decide) (by decide) (by decide),
      State.fget_congr (s.rd_hostRxNote 1 f (by decide))]
  · rw [hrd hj]
    exact (State.rd_finc_of_ne _ F.HIF_CNT1_OVF 1 (List.ne_of_not_mem_cons ha)).trans (s.rd_hostRxNote 1 f hj)

end

/-- Settles O47: the frames accepted and served, STATUS_REQ, and those counted, each a lemma above. -/
theorem hostFrames : Obligations.HostFrames :=
  ⟨fun _ _ _ _ => fwFrame_queued, fun _ _ => keepalive_heard, fun _ _ _ _ _ _ _ _ => journalReq_replays, fun _ _ _ => frameInvalid_nacked,
    fun _ _ => statusReq_served, fun _ _ => command_badCrc, fun _ _ h _ => keepalive_old h, fun _ _ => command_overflows⟩

end Sys2Proof.Machine

/-! What a port's sends, the ring and the firmware blocks leave of the chain's registers, the ports and the peers (R592, R594, R598 to R603, R611 to R616). -/

namespace Sys2Proof.Machine

/-! ### Ports and peers -/

section
variable (s : State) (p : Nat) (v : OlkPort)

@[simp] theorem State.olkPort_setOlkPort_self : (s.setOlkPort p v).olkPort p = v := by
  unfold State.setOlkPort State.olkPort
  split <;> rfl

/-- Storing a port changes the records of OmterLink alone. -/
theorem State.setOlkPort_eq : ∃ o, s.setOlkPort p v = { s with olk := o } ∧ o.peers = s.olk.peers := by
  unfold State.setOlkPort
  split
  · exact ⟨_, rfl, rfl⟩
  · exact ⟨_, rfl, rfl⟩

@[simp] theorem State.rd_setOlkPort (a : Nat) : (s.setOlkPort p v).rd a = s.rd a := by
  obtain ⟨o, ho, -⟩ := s.setOlkPort_eq p v
  rw [ho]
  rfl

@[simp] theorem State.setOlkPort_mem : (s.setOlkPort p v).mem = s.mem := by
  obtain ⟨o, ho, -⟩ := s.setOlkPort_eq p v
  rw [ho]

@[simp] theorem State.setOlkPort_jrn : (s.setOlkPort p v).jrn = s.jrn := by
  obtain ⟨o, ho, -⟩ := s.setOlkPort_eq p v
  rw [ho]

@[simp] theorem State.peer_setOlkPort (u : Nat) : (s.setOlkPort p v).peer u = s.peer u := by
  obtain ⟨o, ho, hpeers⟩ := s.setOlkPort_eq p v
  simp only [State.peer, ho, hpeers]

theorem State.olkPort_congr {s t : State} (h : t.olk = s.olk) (p : Nat) : t.olkPort p = s.olkPort p := by rw [State.olkPort, State.olkPort, h]

theorem State.peer_congr {s t : State} (h : t.olk = s.olk) (u : Nat) : t.peer u = s.peer u := by rw [State.peer, State.peer, h]

end

/-! ### The reading -/

/-- A register of the chain's state: OLK_STAT or an OLK_PEER_SEQ. -/
def chainReg (a : Nat) : Bool := a == R.OLK_STAT || (decide (R.OLK_PEER_SEQ 0 ≤ a) && decide (a < R.OLK_PORT_CNT 0))

/-- A bit of OLK_STAT other than RING_OK. -/
def chainBit (i : Nat) : Bool := decide (i < 4) || (decide (8 ≤ i) && decide (i < 24))

theorem RegMap.impl_olkStat {i : Nat} (h : chainBit i = true) : (RegMap.impl R.OLK_STAT).getLsbD i = true := by
  have himpl : ∀ i < 24, chainBit i = true → (RegMap.impl R.OLK_STAT).getLsbD i = true := by decide
  refine himpl i ?_ h
  simp only [chainBit, Bool.or_eq_true, Bool.and_eq_true, decide_eq_true_eq] at h
  omega

/-- What neither a port's sends, nor the ring, nor firmware blocks change: OLK_PEER_SEQ, OLK_STAT but for RING_OK, the last answer and the
failures of each port, and when each unit was last heard. -/
def State.chainView (s : State) : (Fin 8 → Word) × (Nat → Bool) × (Nat → Option (Bool × Byte) × Nat) × (Nat → Nat) :=
  (fun u => s.rd (R.OLK_PEER_SEQ u.val), fun i => chainBit i && s.rbit R.OLK_STAT i,
    fun p => ((s.olkPort p).answer, (s.olkPort p).fails), fun u => (s.peer u).heard)

theorem chainReg_peerSeq (u : Fin 8) : chainReg (R.OLK_PEER_SEQ u.val) = true := by
  revert u; decide

/-- The chain's registers are OmterLink's. -/
theorem olkCfg_le_chainReg {a : Nat} (h : chainReg a = true) : R.OLK_CFG ≤ a := by
  simp only [chainReg, Bool.or_eq_true, Bool.and_eq_true, beq_iff_eq, decide_eq_true_eq] at h
  simp only [R.OLK_STAT, R.OLK_PEER_SEQ, R.OLK_CFG] at *
  omega

theorem chainReg_not_journalRegs {a : Nat} (h : chainReg a = true) : a ∉ journalRegs := by
  have hlo := olkCfg_le_chainReg h
  simp only [R.OLK_CFG] at hlo
  simp only [journalRegs, R.JRN_STATUS, R.PMC_OVF, List.mem_cons, List.mem_map, List.mem_range, not_or, not_exists, not_and]
  exact ⟨by omega, fun k hk => by omega⟩

theorem ne_of_chainReg {a b : Nat} (h : chainReg a = true) (hb : chainReg b = false) : a ≠ b := fun e => by simp [e, hb] at h

section
variable {s t : State} (h : t.chainView = s.chainView)
include h

theorem State.rd_of_chainView (u : Fin 8) : t.rd (R.OLK_PEER_SEQ u.val) = s.rd (R.OLK_PEER_SEQ u.val) := congrFun (congrArg (·.1) h) u

theorem State.rbit_of_chainView {i : Nat} (hi : chainBit i = true) : t.rbit R.OLK_STAT i = s.rbit R.OLK_STAT i := by
  have hbit := congrFun (congrArg (·.2.1) h) i
  simpa only [State.chainView, hi, Bool.true_and] using hbit

theorem State.answer_of_chainView (p : Nat) : (t.olkPort p).answer = (s.olkPort p).answer := congrArg Prod.fst (congrFun (congrArg (·.2.2.1) h) p)

theorem State.fails_of_chainView (p : Nat) : (t.olkPort p).fails = (s.olkPort p).fails := congrArg Prod.snd (congrFun (congrArg (·.2.2.1) h) p)

theorem State.peerHeard_of_chainView (u : Nat) : (t.peer u).heard = (s.peer u).heard := congrFun (congrArg (·.2.2.2) h) u

theorem State.portUp_of_chainView (p : Nat) : t.portUp p = s.portUp p := by
  unfold State.portUp
  split
  · exact State.rbit_of_chainView h (by decide)
  · exact State.rbit_of_chainView h (by decide)

end

/-- Unit `u` is heard where its bit of OLK_STAT.PEERS is set. -/
theorem State.heard_eq_rbit (s : State) (u : Fin 8) : s.heard u.val = s.rbit R.OLK_STAT (8 + u.val) := by
  have hu : u.val < 15 + 1 - 8 := u.isLt
  simp only [State.heard, State.fget, F.OLK_STAT_PEERS, bits, Nat.testBit_mod_two_pow, Nat.testBit_div_two_pow, hu, decide_true, Bool.true_and]
  rw [Nat.add_comm]
  rfl

theorem chainBit_heard (u : Fin 8) : chainBit (8 + u.val) = true := by
  revert u; decide

theorem chainBit_sync (u : Fin 8) : chainBit (16 + u.val) = true := by
  revert u; decide

theorem State.heard_of_chainView {s t : State} (h : t.chainView = s.chainView) (u : Fin 8) : t.heard u.val = s.heard u.val := by
  rw [State.heard_eq_rbit, State.heard_eq_rbit, State.rbit_of_chainView h (chainBit_heard u)]

/-! ### What leaves it as it is -/

/-- It is read from the chain's registers and the records of OmterLink alone. -/
theorem State.chainView_congr {s t : State} (holk : t.olk = s.olk) (hrd : ∀ a, chainReg a = true → t.rd a = s.rd a) : t.chainView = s.chainView := by
  simp only [State.chainView, State.rbit, hrd _ (chainReg_peerSeq _), hrd R.OLK_STAT (by decide), State.olkPort_congr holk, State.peer_congr holk]

section
variable (s : State)

theorem State.chainView_wr {a : Nat} (v : Word) (ha : chainReg a = false) : (s.wr a v).chainView = s.chainView :=
  State.chainView_congr rfl fun _ hb => s.rd_wr_of_ne v (ne_of_chainReg hb ha)

theorem State.chainView_fset (f : Fld) (n : Nat) (hf : chainReg f.addr = false) : (s.fset f n).chainView = s.chainView := s.chainView_wr _ hf

@[simp] theorem State.chainView_raiseFrom (c : BitVec 16) (i k a : Nat) (p : Payload) (g : Nat) (d : Bool) :
    (s.raiseFrom c i k a p g d).chainView = s.chainView :=
  State.chainView_congr (by simp) fun _ hb => s.rd_raiseFrom c i k a p g d (ne_jrnStatus_of_not_journalRegs (chainReg_not_journalRegs hb))

@[simp] theorem State.chainView_raise (c : Code) (i : Nat) (p : Payload) : (s.raise c i p).chainView = s.chainView := s.chainView_raiseFrom ..

theorem State.chainView_count {n : Nat} (c : Nat) (hn : n < 512) : (s.count n c).chainView = s.chainView :=
  State.chainView_congr (by simp) fun _ hb => s.rd_count c hn (chainReg_not_journalRegs hb)

@[simp] theorem State.chainView_dmaPuts (a : Nat) (l : List Byte) : (s.dmaPuts a l).chainView = s.chainView :=
  State.chainView_congr (by simp) fun _ hb => s.rd_dmaPuts a l (ne_of_chainReg hb (by decide)) (chainReg_not_journalRegs hb)

/-- A port stored with its answer and its failures as they were. -/
theorem State.chainView_setOlkPort {p : Nat} {v : OlkPort} (ha : v.answer = (s.olkPort p).answer) (hf : v.fails = (s.olkPort p).fails) :
    (s.setOlkPort p v).chainView = s.chainView := by
  have hport : (fun q => (((s.setOlkPort p v).olkPort q).answer, ((s.setOlkPort p v).olkPort q).fails)) =
      fun q => ((s.olkPort q).answer, (s.olkPort q).fails) := funext fun q => by
    unfold State.setOlkPort State.olkPort at *
    split <;> split <;> simp_all
  simp only [State.chainView, State.rbit, State.rd_setOlkPort, State.peer_setOlkPort, hport]

theorem State.chainView_setPeer {u : Nat} {v : OlkPeer} (h : v.heard = (s.peer u).heard) : (s.setPeer u v).chainView = s.chainView := by
  have hpeer : (fun w => ((s.setPeer u v).peer w).heard) = fun w => (s.peer w).heard := funext fun w => by
    by_cases hw : w = u
    · simp [State.setPeer, State.peer, hw] at h ⊢
      exact h
    · simp [State.setPeer, State.peer, SMap.get_set_of_ne _ _ _ _ _ hw]
  exact congrArg (fun x => (s.chainView.1, s.chainView.2.1, s.chainView.2.2.1, x)) hpeer

end

end Sys2Proof.Machine

/-! Sending on a port, forwarding, the ring, the time role and firmware blocks leave the reading of the chain as it is (R594, R598 to R603, R611 to R616). -/

namespace Sys2Proof.Machine

section
variable (s : State)

/-! ### Sending on a port (R594, R598, R599) -/

/-- Port `p` with a frame just started that awaits its acknowledgement. -/
def State.olkOut (p : Nat) (fault : Bool) (w : OlkWait) : State :=
  s.setOlkPort p (if fault then { s.olkPort p with faultWait := some w, out := some w.frame } else { s.olkPort p with wait := some w, out := some w.frame })

theorem State.olkSeqFor_type (p : Nat) (f : OlkFrame) : (s.olkSeqFor p f).2.type = f.type := by
  unfold State.olkSeqFor
  split
  · rfl
  · split <;> rfl

/-- A frame that starts gets its sequence, awaits its acknowledgement, may start an exchange of times, is journalled unless it is a link frame,
and is counted. -/
theorem State.olkStart_cases (p : Nat) (f : OlkFrame) (fault : Bool) :
    ∃ (w : OlkWait) (v : Clv), w.frame.type = f.type ∧
      (s.olkStart p f fault = ({ (s.olkSeqFor p f).1.olkOut p fault w with clv := v } : State).count (0x1B0 + p) 1 ∨
        linkType f.type = false ∧ ∃ x, s.olkStart p f fault =
          (({ (s.olkSeqFor p f).1.olkOut p fault w with clv := v } : State).raise C.OLK_FRAME_TX p x).count (0x1B0 + p) 1) := by
  have hseq := s.olkSeqFor_type p f
  unfold State.olkStart
  extract_lets r start now f0 f' o w s1 clv s2 first seq s3
  have htype : f'.type = f.type := by
    rw [← hseq]
    simp only [f', r]
    split <;> rfl
  have hs2 : s2 = { (s.olkSeqFor p f).1.olkOut p fault w with clv := s2.clv } := by
    simp only [s2]
    split <;> rfl
  refine ⟨w, s2.clv, htype, ?_⟩
  rw [← hs2]
  simp only [s3]
  split
  · next h =>
    simp only [Bool.and_eq_true, Bool.not_eq_true', htype] at h
    exact .inr ⟨h.1.2, _, rfl⟩
  · exact .inl rfl

theorem State.chainView_olkSeqFor (p : Nat) (f : OlkFrame) : (s.olkSeqFor p f).1.chainView = s.chainView := by
  have hseq (n : Nat) : (s.fset F.OLK_SEQ_SEQ n).chainView = s.chainView := s.chainView_fset _ n (by decide)
  unfold State.olkSeqFor
  split
  · rfl
  · split
    · exact s.chainView_setOlkPort rfl rfl
    · dsimp only
      split
      · exact hseq _
      · exact (State.chainView_setOlkPort _ (by rfl) (by rfl)).trans ((State.chainView_setOlkPort _ (by rfl) (by rfl)).trans (hseq _))

theorem State.chainView_olkOut (p : Nat) (fault : Bool) (w : OlkWait) : (s.olkOut p fault w).chainView = s.chainView :=
  s.chainView_setOlkPort (by split <;> rfl) (by split <;> rfl)

theorem State.chainView_olkStart {p : Nat} (hp : p < 2) (f : OlkFrame) (fault : Bool) : (s.olkStart p f fault).chainView = s.chainView := by
  have hout (w : OlkWait) (v : Clv) : ({ (s.olkSeqFor p f).1.olkOut p fault w with clv := v } : State).chainView = s.chainView :=
    (State.chainView_olkOut ..).trans (s.chainView_olkSeqFor p f)
  obtain ⟨w, v, -, h | ⟨-, x, h⟩⟩ := s.olkStart_cases p f fault
  · rw [h, State.chainView_count _ _ (by omega), hout]
  · rw [h, State.chainView_count _ _ (by omega), State.chainView_raise, hout]

/-- A frame leaves the port's queue and starts. -/
theorem State.chainView_olkStart_setOlkPort {p : Nat} (hp : p < 2) {o : OlkPort} (ha : o.answer = (s.olkPort p).answer)
    (hf : o.fails = (s.olkPort p).fails) (f : OlkFrame) (fault : Bool) : ((s.setOlkPort p o).olkStart p f fault).chainView = s.chainView :=
  (State.chainView_olkStart _ hp f fault).trans (s.chainView_setOlkPort ha hf)

theorem State.chainView_kickFault {p : Nat} (hp : p < 2) : (s.kickFault p).chainView = s.chainView := by
  simp only [State.kickFault]
  split
  · rfl
  · split
    · split
      · rfl
      · refine s.chainView_olkStart_setOlkPort hp ?_ ?_ _ true <;>
        · split
          · split <;> rfl
          · rfl
    · rfl

/-- Starting what a port may send. -/
theorem State.chainView_kick {p : Nat} (hp : p < 2) : (s.kick p).chainView = s.chainView := by
  have hfault := s.chainView_kickFault hp
  simp only [State.kick]
  repeat' split
  · rfl
  · exact hfault
  · exact hfault
  · exact (State.chainView_olkStart_setOlkPort _ hp (by rfl) (by rfl) _ _).trans hfault
  · rw [State.chainView_olkStart _ hp, hfault]
  · exact hfault

theorem State.chainView_olkForward (t : Nat) (f : OlkRx) : (s.olkForward t f).chainView = s.chainView := by
  have hq : 1 - f.port.val < 2 := by omega
  have hqueue (x : OlkFrame) : (s.olkQueue (1 - f.port.val) x).chainView = s.chainView := by
    unfold State.olkQueue
    split
    · exact s.chainView_setOlkPort rfl rfl
    · rfl
  unfold State.olkForward
  extract_lets q ok
  split
  · exact (State.chainView_kick _ hq).trans (hqueue _)
  · rfl

/-! ### The ring and the time role (R46, R603) -/

@[simp] theorem State.chainView_timeRole : s.timeRole.chainView = s.chainView := by
  have hclv (u : State) (h n k : Nat) : (((u.fset F.CLV_STATUS_ROLE h).fset F.CLV_STATUS_HOPS n).fset F.CLV_STATUS_PORT k).chainView = u.chainView := by
    rw [State.chainView_fset _ _ _ (by decide), State.chainView_fset _ _ _ (by decide), State.chainView_fset _ _ _ (by decide)]
  simp only [State.timeRole]
  repeat' split
  all_goals exact hclv ..

/-- RING_OK shows in no other bit of OLK_STAT. -/
theorem State.chainView_ringOk (b : Bool) : (s.fput F.OLK_STAT_RING_OK b).chainView = s.chainView := by
  have hbit (i : Nat) : (chainBit i && (s.fput F.OLK_STAT_RING_OK b).rbit R.OLK_STAT i) = (chainBit i && s.rbit R.OLK_STAT i) := by
    by_cases hi : chainBit i = true
    · have hne : i ≠ 4 := fun e => by simp [e, chainBit] at hi
      rw [show (s.fput F.OLK_STAT_RING_OK b).rbit R.OLK_STAT i = s.rbit R.OLK_STAT i from
        s.fbit_fset F.OLK_STAT_RING_OK ⟨R.OLK_STAT, i, i⟩ _ (.inr (Nat.lt_or_gt_of_ne hne)) fun _ => RegMap.impl_olkStat hi]
    · simp [hi]
  have hrd (u : Fin 8) : (s.fput F.OLK_STAT_RING_OK b).rd (R.OLK_PEER_SEQ u.val) = s.rd (R.OLK_PEER_SEQ u.val) :=
    s.rd_fput_of_ne F.OLK_STAT_RING_OK b (by revert u; decide)
  simp only [State.chainView, hbit, hrd]
  rfl

/-- An evaluation of the ring (R603). -/
theorem State.chainView_ringCheck (who : Nat) : (s.ringCheck who).chainView = s.chainView := by
  have hsince (u : State) (x : Option Nat) : ({ u with olk := { u.olk with ringSince := x } } : State).chainView = u.chainView := rfl
  simp only [State.ringCheck]
  repeat' split
  · rfl
  · rw [State.chainView_raise, hsince, State.chainView_ringOk]
  · exact hsince ..

theorem State.chainView_olkTopo (who : Nat) : (s.olkTopo who).chainView = s.chainView := by
  rw [State.olkTopo, State.chainView_timeRole, State.chainView_ringCheck]

/-! ### The receive queue and the firmware blocks (R611 to R615) -/

theorem State.chainView_rput {a i : Nat} (b : Bool) (ha : chainReg a = false) : (s.rput a i b).chainView = s.chainView := s.chainView_wr _ ha

theorem State.chainView_setOlkBuf (b : Nat) (v : OlkBuf) : (s.setOlkBuf b v).chainView = s.chainView := rfl

theorem State.chainView_olkRxqPut (port : Nat) (l : List Byte) : (s.olkRxqPut port l).chainView = s.chainView := by
  simp only [State.olkRxqPut]
  split
  · rfl
  · rw [State.chainView_wr _ _ (by decide), State.chainView_dmaPuts, State.chainView_dmaPuts]

theorem State.chainView_fwSeg (p : Nat) (pl : List Byte) : (s.fwSeg p pl).chainView = s.chainView := by
  unfold State.fwSeg
  split
  · rfl
  · rw [State.chainView_dmaPuts, State.chainView_setOlkBuf]

theorem State.chainView_fwForward (p b : Nat) (pl : List Byte) (hp : p < 2) : (s.fwForward p b pl).chainView = s.chainView := by
  simp only [State.fwForward]
  split
  · refine (State.chainView_kick _ (by omega)).trans ?_
    exact (State.chainView_rput _ _ (by decide)).trans (s.chainView_setOlkPort rfl rfl)
  · rfl

theorem State.chainView_fwEnd (p : Nat) (head pl : List Byte) (hp : p < 2) : (s.fwEnd p head pl).chainView = s.chainView := by
  simp only [State.fwEnd]
  repeat' split
  · rfl
  · rw [State.chainView_fwForward _ _ _ _ hp, State.chainView_count _ _ (by decide), State.chainView_olkRxqPut,
      State.chainView_rput _ _ (by decide), State.chainView_setOlkBuf]
  · rw [State.chainView_setOlkBuf]

/-- A buffer's forwarding that ends. -/
theorem State.chainView_fwdEnded (b : Nat) : (s.fwdEnded b).chainView = s.chainView := by
  have hbufs (u : State) (x : SMap OlkBuf) : ({ u with olk := { u.olk with bufs := x } } : State).chainView = u.chainView := rfl
  simp only [State.fwdEnded]
  repeat' split
  · rfl
  · rw [State.chainView_rput _ _ (by decide), hbufs, State.chainView_rput _ _ (by decide)]
  · rw [hbufs, State.chainView_rput _ _ (by decide)]

end

end Sys2Proof.Machine

/-! What a frame received whole does: one that fails its check, one under the unit's own ID, a duplicate, one without room, and one accepted
(R591, R592, R598, R601, R604 to R606). -/

namespace Sys2Proof.Machine

/-! ### An accepted frame (R604, R606) -/

section
variable (s : State) (t d : Nat) (f : OlkRx)

theorem State.rd_olkAnswer (p : Nat) (nak : Bool) (seq : BitVec 16) (a : Nat) : (s.olkAnswer p nak seq).rd a = s.rd a := s.rd_setOlkPort ..

theorem State.answer_olkAnswer (p : Nat) (nak : Bool) (seq : BitVec 16) :
    ((s.olkAnswer p nak seq).olkPort p).answer = some (nak, seq.setWidth 8) := by
  rw [State.olkAnswer, State.olkPort_setOlkPort_self]

@[simp] theorem State.peer_setPeer_self (u : Nat) (v : OlkPeer) : (s.setPeer u v).peer u = v := by
  simp [State.setPeer, State.peer]

/-- A frame's effect here leaves the reading of the chain as it is. -/
theorem State.chainView_olkEffect (head : List Byte) : (s.olkEffect t f head).chainView = s.chainView := by
  unfold State.olkEffect
  dsimp only
  split
  · exact (State.chainView_olkTopo ..).trans (s.chainView_setPeer rfl)
  · exact s.chainView_raise ..
  · exact s.chainView_fwSeg ..
  · exact s.chainView_fwEnd _ _ _ f.port.isLt
  · rfl

/-- What an accepted frame leaves of the chain: a chain frame's sequence is noted, and the frame is acknowledged. -/
theorem State.chainView_olkAccept : (s.olkAccept t f d).chainView =
    ((if chainType t then s.olkSeqNote f d else s).olkAnswer f.port.val false f.seq).chainView := by
  simp only [State.olkAccept]
  rw [State.chainView_count _ _ (by omega)]
  have hrest (u : State) (head : List Byte) : ((u.olkEffect t f head).olkForward t f).chainView = u.chainView :=
    (State.chainView_olkForward ..).trans (u.chainView_olkEffect t f head)
  repeat' split
  all_goals simp only [State.chainView_olkRxqPut, hrest, State.chainView_raiseFrom, State.chainView_timeRole]

/-- The sequence of an accepted chain frame is its source's. -/
theorem State.fget_seq_olkSeqNote : (s.olkSeqNote f d).fget (F.OLK_PEER_SEQ_SEQ f.src.val) = f.seq.toNat := by
  have hsep (u : Fin 8) : R.OLK_PEER_SEQ u.val ≠ R.OLK_STAT := by revert u; decide
  have himpl (u : Fin 8) : ∀ i < 16, (RegMap.impl (R.OLK_PEER_SEQ u.val)).getLsbD i = true := by revert u; decide
  have hseq : (s.fset (F.OLK_PEER_SEQ_SEQ f.src.val) f.seq.toNat).fget (F.OLK_PEER_SEQ_SEQ f.src.val) = f.seq.toNat :=
    s.fget_fset_self (F.OLK_PEER_SEQ_SEQ f.src.val) f.seq.isLt (show 15 < 32 by decide) fun i _ hi => himpl f.src i (Nat.lt_succ_of_le hi)
  have hstat (u : State) (i k : Nat) (v : OlkPeer) :
      (((u.rput R.OLK_STAT i true).rput R.OLK_STAT k true).setPeer f.src.val v).fget (F.OLK_PEER_SEQ_SEQ f.src.val) = u.fget (F.OLK_PEER_SEQ_SEQ f.src.val) :=
    State.fget_congr ((State.rd_rput_of_ne _ _ _ _ (hsep f.src)).trans (State.rd_rput_of_ne _ _ _ _ (hsep f.src)))
  simp only [State.olkSeqNote]
  rw [hstat]
  split
  · exact (State.fget_fset_of_disjoint _ (F.OLK_PEER_SEQ_MISS f.src.val) (F.OLK_PEER_SEQ_SEQ f.src.val) _ (.inl (show 15 < 16 by decide))
      fun i _ hi => himpl f.src i (Nat.lt_succ_of_le hi)).trans hseq
  · exact hseq

theorem State.rbit_setPeer (u : Nat) (v : OlkPeer) (a i : Nat) : (s.setPeer u v).rbit a i = s.rbit a i := rfl

/-- Its source is in step. -/
theorem State.rbit_sync_olkSeqNote : (s.olkSeqNote f d).rbit R.OLK_STAT (16 + f.src.val) = true := by
  have hkeep (u : State) : (u.rput R.OLK_STAT (8 + f.src.val) true).rbit R.OLK_STAT (16 + f.src.val) = u.rbit R.OLK_STAT (16 + f.src.val) :=
    u.fbit_fset ⟨R.OLK_STAT, 8 + f.src.val, 8 + f.src.val⟩ ⟨R.OLK_STAT, 16 + f.src.val, 16 + f.src.val⟩ _ (.inr (.inr (by dsimp only; omega)))
      fun _ => RegMap.impl_olkStat (chainBit_sync f.src)
  simp only [State.olkSeqNote]
  rw [State.rbit_setPeer, hkeep, State.rbit_rput_self _ true (RegMap.impl_olkStat (chainBit_sync f.src))]

/-- Its source is heard. -/
theorem State.heard_olkSeqNote : (s.olkSeqNote f d).heard f.src.val = true := by
  rw [State.heard_eq_rbit]
  simp only [State.olkSeqNote]
  rw [State.rbit_setPeer, State.rbit_rput_self _ true (RegMap.impl_olkStat (chainBit_heard f.src))]

theorem State.peerHeard_olkSeqNote : ((s.olkSeqNote f d).peer f.src.val).heard = s.time := by
  simp only [State.olkSeqNote, State.peer_setPeer_self]

end

/-! ### The frame's way (R592, R604, R605) -/

section
variable {s : State} {t : Nat} {f : OlkRx} (hon : s.portOn f.port.val = true) (hlen : f.payload.length ≤ 64)
include hon hlen

/-- A good frame on a port that receives goes by its source, its sequence and the room for it. -/
theorem State.olkRx_eq : s.olkRx t f =
    if chainType t && f.src.val == s.olkUnit then
      (s.olkAnswer f.port.val false f.seq).raise C.OLK_ID_CONFLICT f.src.val { w0 := bytes4 t f.hop.toNat 0 0 }
    else if chainType t && ((s.ringOk && f.port.val = 0) || !s.fresher f) then s.olkAnswer f.port.val false f.seq
    else if s.olkNoRoom t f.port.val f.payload then s.olkAnswer f.port.val true f.seq
    else s.olkAccept t f (f.seq - BitVec.ofNat 16 (s.fget (F.OLK_PEER_SEQ_SEQ f.src.val))).toNat := by
  unfold State.olkRx State.fresher
  dsimp only
  rw [if_neg (by simp [hon]), if_neg (Nat.not_lt.mpr hlen)]

/-- A chain frame under the unit's own ID is an ID conflict. -/
theorem State.olkRx_own (hchain : chainType t = true) (hown : f.src.val = s.olkUnit) :
    s.olkRx t f = (s.olkAnswer f.port.val false f.seq).raise C.OLK_ID_CONFLICT f.src.val { w0 := bytes4 t f.hop.toNat 0 0 } := by
  rw [State.olkRx_eq hon hlen, if_pos (by simp [hchain, hown])]

/-- A duplicate is acknowledged. -/
theorem State.olkRx_stale (hchain : chainType t = true) (hother : f.src.val ≠ s.olkUnit) (hold : s.fresher f = false) :
    s.olkRx t f = s.olkAnswer f.port.val false f.seq := by
  rw [State.olkRx_eq hon hlen, if_neg (by simp [hother]), if_pos (by simp [hchain, hold])]

/-- A one-hop frame and a new chain frame of another unit, not on port 0 of an intact ring, go by the room for them. -/
theorem State.olkRx_new (hnew : chainType t = true → f.src.val ≠ s.olkUnit ∧ s.fresher f = true ∧ (s.ringOk = true → f.port = 1)) :
    s.olkRx t f = if s.olkNoRoom t f.port.val f.payload then s.olkAnswer f.port.val true f.seq
      else s.olkAccept t f (f.seq - BitVec.ofNat 16 (s.fget (F.OLK_PEER_SEQ_SEQ f.src.val))).toNat := by
  rw [State.olkRx_eq hon hlen, if_neg ?own, if_neg ?stale]
  case own =>
    intro h
    simp only [Bool.and_eq_true, beq_iff_eq] at h
    exact (hnew h.1).1 h.2
  case stale =>
    intro h
    simp only [Bool.and_eq_true, Bool.or_eq_true, decide_eq_true_eq, Bool.not_eq_true'] at h
    obtain ⟨hchain, ⟨hring, hport⟩ | hold⟩ := h
    · have := (hnew hchain).2.2 hring
      simp [this] at hport
    · simp [(hnew hchain).2.1] at hold

end

end Sys2Proof.Machine

/-! The frames of the chain and of one hop, one lemma for each outcome (R591, R592, R604 to R606). -/

namespace Sys2Proof.Machine

/-! ### The commands of received frames -/

/-- Each form hands its frame to the port under its TYPE. -/
theorem exec_olkRx {c : Instr} {ty : Nat} {f : OlkRx} (s : State)
    (h : (c, ty) ∈ [(Instr.olkStatus f, 1), (.olkFault f, 2), (.olkActivate f, 5), (.olkUpdateReverted f, 6), (.olkApp f, 7),
      (.olkFwSeg f, 3), (.olkFwBlockEnd f, 4)]) : exec c s = .next (s.olkRx ty f) := by
  simp only [List.mem_cons, Prod.mk.injEq, List.not_mem_nil, or_false] at h
  obtain ⟨rfl, rfl⟩ | ⟨rfl, rfl⟩ | ⟨rfl, rfl⟩ | ⟨rfl, rfl⟩ | ⟨rfl, rfl⟩ | ⟨rfl, rfl⟩ | ⟨rfl, rfl⟩ := h <;> rfl

section
variable {c : Instr} {ty : Nat} {f : OlkRx}

theorem exec_chainFrame (s : State)
    (h : (c, ty) ∈ [(Instr.olkStatus f, 1), (.olkFault f, 2), (.olkActivate f, 5), (.olkUpdateReverted f, 6), (.olkApp f, 7)]) :
    exec c s = .next (s.olkRx ty f) ∧ chainType ty = true := by
  refine ⟨exec_olkRx s (List.mem_append_left [(Instr.olkFwSeg f, 3), (Instr.olkFwBlockEnd f, 4)] h), ?_⟩
  simp only [List.mem_cons, Prod.mk.injEq, List.not_mem_nil, or_false] at h
  obtain ⟨-, rfl⟩ | ⟨-, rfl⟩ | ⟨-, rfl⟩ | ⟨-, rfl⟩ | ⟨-, rfl⟩ := h <;> rfl

theorem exec_oneHopFrame (s : State) (h : (c, ty) ∈ [(Instr.olkFwSeg f, 3), (.olkFwBlockEnd f, 4)]) :
    exec c s = .next (s.olkRx ty f) ∧ chainType ty = false := by
  refine ⟨exec_olkRx s (List.mem_append_right
    [(Instr.olkStatus f, 1), (.olkFault f, 2), (.olkActivate f, 5), (.olkUpdateReverted f, 6), (.olkApp f, 7)] h), ?_⟩
  simp only [List.mem_cons, Prod.mk.injEq, List.not_mem_nil, or_false] at h
  obtain ⟨-, rfl⟩ | ⟨-, rfl⟩ := h <;> rfl

end

/-! ### The outcomes -/

theorem RegMap.impl_portCnt (p : Fin 2) : RegMap.impl (R.OLK_PORT_CNT p.val) = BitVec.allOnes 32 := by
  revert p; decide

/-- A frame that fails its check is counted (R591). -/
theorem badFrame_counted {s : State} {p : Fin 2} (hon : s.portOn p.val = true) :
    ∃ t, exec (.olkBadFrame p) s = .next t ∧ t.fget (F.OLK_PORT_CNT_BAD p.val) = min (s.fget (F.OLK_PORT_CNT_BAD p.val) + 1) 65535 ∧
      (∀ a, a ≠ R.OLK_PORT_CNT p.val → t.rd a = s.rd a) ∧ SameMem s t := by
  have hexec : exec (.olkBadFrame p) s = .next (s.finc (F.OLK_PORT_CNT_BAD p.val) 1) := congrArg Host.Outcome.next (if_pos hon)
  exact ⟨_, hexec, s.fget_finc_half (F.OLK_PORT_CNT_BAD p.val) rfl (show 31 < 32 by decide) (RegMap.impl_portCnt p),
    fun _ ha => s.rd_finc_of_ne (F.OLK_PORT_CNT_BAD p.val) 1 ha, .of_mem rfl⟩

/-- An answer alone changes neither registers nor memory. -/
theorem State.olkAnswer_frame (s : State) (p : Nat) (nak : Bool) (seq : BitVec 16) :
    ((s.olkAnswer p nak seq).olkPort p).answer = some (nak, seq.setWidth 8) ∧ SameRegs s (s.olkAnswer p nak seq) [] ∧
      SameMem s (s.olkAnswer p nak seq) :=
  ⟨s.answer_olkAnswer .., fun _ _ _ => s.rd_olkAnswer .., .of_mem (s.setOlkPort_mem ..)⟩

section
variable {s : State} {c : Instr} {ty : Nat} {f : OlkRx} (hon : s.portOn f.port.val = true) (hlen : f.payload.length ≤ 64)
include hon hlen

/-- A chain frame under the unit's own ID is an ID conflict (R605). -/
theorem chainFrame_conflicts
    (hc : (c, ty) ∈ [(Instr.olkStatus f, 1), (.olkFault f, 2), (.olkActivate f, 5), (.olkUpdateReverted f, 6), (.olkApp f, 7)])
    (hown : f.src.val = s.olkUnit) (hroom : s.room 4) :
    ∃ t, exec c s = .next t ∧ (t.olkPort f.port.val).answer = some (false, f.seq.setWidth 8) ∧
      Journaled s t C.OLK_ID_CONFLICT f.src.val { w0 := bytes4 ty f.hop.toNat 0 0 } ∧ SameRegs s t [] ∧ SameMem s t := by
  obtain ⟨hexec, hchain⟩ := exec_chainFrame s hc
  obtain ⟨hans, hrd, hmem⟩ := s.olkAnswer_frame f.port.val false f.seq
  rw [hexec, State.olkRx_own hon hlen hchain hown]
  refine ⟨_, rfl, ?_, Journaled.of_raise (s.setOlkPort_jrn ..) hroom.one, fun a ha hj => ?_, .of_mem ?_⟩
  · rw [State.olkPort_congr (State.raise_olk ..), hans]
  · rw [State.rd_raise _ _ _ _ (ne_jrnStatus_of_not_journalRegs hj), hrd a ha hj]
  · exact (State.raise_mem ..).trans (s.setOlkPort_mem ..)

/-- A duplicate is acknowledged and changes no register (R592). -/
theorem chainFrame_stale
    (hc : (c, ty) ∈ [(Instr.olkStatus f, 1), (.olkFault f, 2), (.olkActivate f, 5), (.olkUpdateReverted f, 6), (.olkApp f, 7)])
    (hother : f.src.val ≠ s.olkUnit) (hold : s.fresher f = false) :
    ∃ t, exec c s = .next t ∧ (t.olkPort f.port.val).answer = some (false, f.seq.setWidth 8) ∧ SameRegs s t [] ∧ SameMem s t := by
  obtain ⟨hexec, hchain⟩ := exec_chainFrame s hc
  rw [hexec, State.olkRx_stale hon hlen hchain hother hold]
  exact ⟨_, rfl, s.olkAnswer_frame ..⟩

/-- A new chain frame of another unit is acknowledged and noted (R604, R606). -/
theorem chainFrame_accepted
    (hc : (c, ty) ∈ [(Instr.olkStatus f, 1), (.olkFault f, 2), (.olkActivate f, 5), (.olkUpdateReverted f, 6), (.olkApp f, 7)])
    (hother : f.src.val ≠ s.olkUnit) (hfresh : s.fresher f = true) (hring : s.ringOk = true → f.port = 1)
    (hroom : s.olkNoRoom ty f.port.val f.payload = false) :
    ∃ t, exec c s = .next t ∧ (t.olkPort f.port.val).answer = some (false, f.seq.setWidth 8) ∧
      t.fget (F.OLK_PEER_SEQ_SEQ f.src.val) = f.seq.toNat ∧ t.heard f.src.val = true ∧ t.rbit R.OLK_STAT (16 + f.src.val) = true ∧
      (t.peer f.src.val).heard = s.time := by
  obtain ⟨hexec, hchain⟩ := exec_chainFrame s hc
  rw [hexec, State.olkRx_new hon hlen fun _ => ⟨hother, hfresh, hring⟩, if_neg (by simp [hroom])]
  generalize (f.seq - BitVec.ofNat 16 (s.fget (F.OLK_PEER_SEQ_SEQ f.src.val))).toNat = d
  have hview := s.chainView_olkAccept ty d f
  rw [if_pos hchain] at hview
  have hrd (a : Nat) := (s.olkSeqNote f d).rd_olkAnswer f.port.val false f.seq a
  refine ⟨_, rfl, ?_, ?_, ?_, ?_, ?_⟩
  · rw [State.answer_of_chainView hview, State.answer_olkAnswer]
  · rw [State.fget_congr (State.rd_of_chainView hview f.src), State.fget_congr (hrd _), s.fget_seq_olkSeqNote]
  · rw [State.heard_of_chainView hview, State.heard, State.fget_congr (hrd _)]
    exact s.heard_olkSeqNote d f
  · rw [State.rbit_of_chainView hview (chainBit_sync f.src), State.rbit, hrd]
    exact s.rbit_sync_olkSeqNote d f
  · rw [State.peerHeard_of_chainView hview, State.olkAnswer, State.peer_setOlkPort, s.peerHeard_olkSeqNote]

/-- A one-hop frame is acknowledged and leaves its source's sequence alone (R598). -/
theorem oneHopFrame_accepted (hc : (c, ty) ∈ [(Instr.olkFwSeg f, 3), (.olkFwBlockEnd f, 4)])
    (hroom : s.olkNoRoom ty f.port.val f.payload = false) :
    ∃ t, exec c s = .next t ∧ (t.olkPort f.port.val).answer = some (false, f.seq.setWidth 8) ∧
      t.rd (R.OLK_PEER_SEQ f.src.val) = s.rd (R.OLK_PEER_SEQ f.src.val) ∧ t.heard f.src.val = s.heard f.src.val := by
  obtain ⟨hexec, hchain⟩ := exec_oneHopFrame s hc
  rw [hexec, State.olkRx_new hon hlen fun h => by simp [hchain] at h, if_neg (by simp [hroom])]
  generalize (f.seq - BitVec.ofNat 16 (s.fget (F.OLK_PEER_SEQ_SEQ f.src.val))).toNat = d
  have hview := s.chainView_olkAccept ty d f
  rw [if_neg (by simp [hchain])] at hview
  refine ⟨_, rfl, ?_, ?_, ?_⟩
  · rw [State.answer_of_chainView hview, State.answer_olkAnswer]
  · rw [State.rd_of_chainView hview, State.rd_olkAnswer]
  · rw [State.heard_of_chainView hview, State.heard, State.fget_congr (s.rd_olkAnswer ..), State.heard]

/-- A frame without room is answered by a NAK (R592, R604). -/
theorem frame_withoutRoom
    (hc : (c, ty) ∈ [(Instr.olkStatus f, 1), (.olkFault f, 2), (.olkActivate f, 5), (.olkUpdateReverted f, 6), (.olkApp f, 7),
      (.olkFwSeg f, 3), (.olkFwBlockEnd f, 4)])
    (hnew : chainType ty = true → f.src.val ≠ s.olkUnit ∧ s.fresher f = true ∧ (s.ringOk = true → f.port = 1))
    (hfull : s.olkNoRoom ty f.port.val f.payload = true) :
    ∃ t, exec c s = .next t ∧ (t.olkPort f.port.val).answer = some (true, f.seq.setWidth 8) ∧ SameRegs s t [] ∧ SameMem s t := by
  rw [exec_olkRx s hc, State.olkRx_new hon hlen hnew, if_pos hfull]
  exact ⟨_, rfl, s.olkAnswer_frame ..⟩

end

end Sys2Proof.Machine

/-! What a port that goes up or down, and the ring after it, leave of the ports and of the journal (R595, R597, R603). -/

namespace Sys2Proof.Machine

section
variable (s : State)

/-! ### The state of a port -/

/-- A port shows the state it is put in. -/
theorem State.portUp_setPortUp (p : Fin 2) (b : Bool) : (s.setPortUp p.val b).portUp p.val = b := by
  have hlevel (u : State) (f : Fld) (hf : f.addr = R.OLK_STAT) : (u.countLevel (0x1B8 + p.val) b).fbit f = u.fbit f := by
    simp only [State.fbit, hf]
    rw [u.rd_countLevel b (by omega) (by decide)]
  unfold State.setPortUp State.portUp
  split
  · rw [hlevel _ _ rfl, State.fbit_fput _ _ _ rfl (by decide)]
  · rw [hlevel _ _ rfl, State.fbit_fput _ _ _ rfl (by decide)]

@[simp] theorem State.setPortUp_olk (p : Nat) (b : Bool) : (s.setPortUp p b).olk = s.olk := by
  unfold State.setPortUp
  split <;> simp

/-- A port shown down journals nothing. -/
theorem State.setPortUp_false_jrn (p : Nat) : (s.setPortUp p false).jrn = s.jrn := by
  unfold State.setPortUp
  split <;> rfl

/-! ### Buffers whose forwarding ends with the port -/

theorem State.olkPort_fwdEnded (b p : Nat) : (s.fwdEnded b).olkPort p = s.olkPort p := by
  simp only [State.fwdEnded]
  repeat' split
  all_goals rfl

theorem State.fwdEnded_jrn (b : Nat) : (s.fwdEnded b).jrn = s.jrn := by
  simp only [State.fwdEnded]
  repeat' split
  all_goals rfl

/-- The forwarding of several buffers ends, and nothing of the chain, the ports or the journal changes. -/
theorem State.foldl_fwdEnded (bufs : List Nat) :
    (bufs.foldl (fun u b => u.fwdEnded b) s).chainView = s.chainView ∧ (∀ p, (bufs.foldl (fun u b => u.fwdEnded b) s).olkPort p = s.olkPort p) ∧
      (bufs.foldl (fun u b => u.fwdEnded b) s).jrn = s.jrn := by
  induction bufs generalizing s with
  | nil => exact ⟨rfl, fun _ => rfl, rfl⟩
  | cons b bufs ih =>
    obtain ⟨hview, hport, hjrn⟩ := ih (s.fwdEnded b)
    exact ⟨hview.trans (s.chainView_fwdEnded b), fun p => (hport p).trans (s.olkPort_fwdEnded b p), hjrn.trans (s.fwdEnded_jrn b)⟩

/-! ### The ring -/

theorem State.olkPort_timeRole (p : Nat) : s.timeRole.olkPort p = s.olkPort p := by
  simp only [State.timeRole]
  repeat' split
  all_goals rfl

theorem State.timeRole_jrn : s.timeRole.jrn = s.jrn := by
  simp only [State.timeRole]
  repeat' split
  all_goals rfl

theorem State.olkPort_ringCheck (who p : Nat) : (s.ringCheck who).olkPort p = s.olkPort p := by
  simp only [State.ringCheck]
  repeat' split
  · rfl
  · exact State.olkPort_congr (State.raise_olk ..) p
  · rfl

/-- An evaluation of the ring loses no record that waits. -/
theorem State.noted_ringCheck (who : Nat) (h : s.room 1) (code : BitVec 16) (inst : BitVec 8) (q : Payload) :
    s.noted code inst q ≤ (s.ringCheck who).noted code inst q := by
  have hbroken (u : State) (hu : u.jrn = s.jrn) (c : Code) (i : Nat) (x : Payload) : s.noted code inst q ≤ (u.raise c i x).noted code inst q :=
    (Journaled.of_raise hu h).2 code inst q
  simp only [State.ringCheck]
  repeat' split
  · exact Nat.le_refl _
  · exact hbroken _ (by simp) ..
  · exact Nat.le_refl _

theorem State.olkPort_olkTopo (who p : Nat) : (s.olkTopo who).olkPort p = s.olkPort p :=
  (State.olkPort_timeRole ..).trans (s.olkPort_ringCheck who p)

/-- What is journalled stays so after a change of the ports. -/
theorem Journaled.olkTopo {t : State} {c : Code} {i : Nat} {p : Payload} (h : Journaled s t c i p) (hroom : t.room 1) (who : Nat) :
    Journaled s (t.olkTopo who) c i p :=
  (h.mono fun _ _ _ => t.noted_ringCheck who hroom ..).congr (State.timeRole_jrn _)

/-! ### A port that rises or falls -/

/-- A port that comes up shows so (R597). -/
theorem State.portUp_portRise (p : Fin 2) : (s.portRise p.val).portUp p.val = true := by
  have hview (u : State) :
      ((((u.setPortUp p.val true).raise C.OLK_LINK_UP p.val {}).olkTopo s.olkUnit).kick p.val).chainView = (u.setPortUp p.val true).chainView := by
    rw [State.chainView_kick _ p.isLt, State.chainView_olkTopo, State.chainView_raise]
  rw [State.portRise, State.portUp_of_chainView (hview _), State.portUp_setPortUp]

/-- A port that goes down shows so, is journalled, and awaits nothing (R595). -/
theorem State.portFall_down (p : Fin 2) (hroom : s.room 2) :
    (s.portFall p.val).portUp p.val = false ∧ Journaled s (s.portFall p.val) C.OLK_LINK_DOWN p.val { w0 := bytes4 (b2n s.ringOk) 0 0 0 } ∧
      ((s.portFall p.val).olkPort p.val).wait = none := by
  simp only [State.portFall]
  generalize hv :
    ({ linkSeq := (s.olkPort p.val).linkSeq, answer := (s.olkPort p.val).answer, out := (s.olkPort p.val).out, lastProbe := s.time } : OlkPort) = v
  generalize (s.olkPort p.val).jobs.filterMap (fun j => j.buf) = bufs
  obtain ⟨hview, hport, hjrn⟩ := ((s.setOlkPort p.val v).setPortUp p.val false).foldl_fwdEnded bufs
  rw [State.setPortUp_false_jrn, State.setOlkPort_jrn] at hjrn
  refine ⟨?_, ?_, ?_⟩
  · rw [State.portUp_of_chainView (((State.chainView_olkTopo ..).trans (State.chainView_raise ..)).trans hview), State.portUp_setPortUp]
  · refine Journaled.olkTopo s (Journaled.of_raise hjrn ?_) (State.room_raiseFrom _ _ _ _ _ 1 _ _ _ ?_) _
    · unfold State.room at *
      omega
    · simpa only [State.room, hjrn] using hroom
  · rw [State.olkPort_olkTopo, State.olkPort_congr (State.raise_olk ..), hport, State.olkPort_congr (State.setPortUp_olk ..),
      State.olkPort_setOlkPort_self, ← hv]

end

end Sys2Proof.Machine

/-! ACK, NAK, retry and timeout of the frame a port awaits an acknowledgement for, and the probes of a port that is down (R592, R595 to R597). -/

namespace Sys2Proof.Machine

/-! ### The symbols -/

/-- A symbol that names the frame awaited names it, not a FAULT frame. -/
theorem OlkPort.names_wait {o : OlkPort} {w : OlkWait} {sym : Byte} (hw : o.wait = some w) (h : w.named sym = true) : o.names sym = some false := by
  simp [OlkPort.names, hw, h]

/-- Port `p` with its frame acknowledged, no failures, and so many acknowledged probes. -/
def State.acked (s : State) (p probes : Nat) : State :=
  (s.waitDone p false).setOlkPort p { (s.waitDone p false).olkPort p with fails := 0, probes := probes }

/-- Port `p` with one more failure. -/
def State.failed (s : State) (p : Nat) : State := s.setOlkPort p { s.olkPort p with fails := (s.olkPort p).fails + 1 }

theorem State.setOlkPort_setOlkPort (s : State) (p : Nat) (v o : OlkPort) : (s.setOlkPort p v).setOlkPort p o = s.setOlkPort p o := by
  unfold State.setOlkPort
  split <;> rfl

section
variable {s : State} {p : Fin 2} {sym : Byte} {w : OlkWait}

/-! ### ACK (R595, R597) -/

section
variable (hon : s.portOn p.val = true) (hw : (s.olkPort p.val).wait = some w) (hsym : w.named sym = true)
include hon hw hsym

/-- An ACK on a port that is up ends the run of failures. -/
theorem olkAckRx_up (hup : s.portUp p.val = true) : ∃ t, exec (.olkAckRx p sym) s = .next t ∧ (t.olkPort p.val).fails = 0 := by
  have hexec : exec (.olkAckRx p sym) s = .next ((s.acked p.val (s.olkPort p.val).probes).kick p.val) := by
    change Host.Outcome.next (if s.portOn p.val then s.ackRx p.val sym else s) = _
    rw [if_pos hon, State.ackRx]
    simp [OlkPort.names_wait hw hsym, hw, hup, State.acked]
  refine ⟨_, hexec, ?_⟩
  rw [State.fails_of_chainView (State.chainView_kick _ p.isLt), State.acked, State.olkPort_setOlkPort_self]

section
variable (hdown : s.portUp p.val = false) (hprobe : w.frame.type = 0x83)
include hdown hprobe

/-- An acknowledged probe of a port that is down is one more of its run; the eighth brings the port up. -/
theorem exec_olkAckRx_probe : exec (.olkAckRx p sym) s = .next
    (if 8 ≤ (s.olkPort p.val).probes + 1 then (s.acked p.val ((s.olkPort p.val).probes + 1)).portRise p.val
      else s.acked p.val ((s.olkPort p.val).probes + 1)) := by
  change Host.Outcome.next (if s.portOn p.val then s.ackRx p.val sym else s) = _
  rw [if_pos hon, State.ackRx]
  simp [OlkPort.names_wait hw hsym, hw, hdown, hprobe, State.acked]

theorem olkAckRx_probe (hfew : (s.olkPort p.val).probes < 7) :
    ∃ t, exec (.olkAckRx p sym) s = .next t ∧ (t.olkPort p.val).probes = (s.olkPort p.val).probes + 1 ∧ (t.olkPort p.val).wait = none ∧
      SameRegs s t [] ∧ SameMem s t := by
  have hdone : s.waitDone p.val false = s.setOlkPort p.val { s.olkPort p.val with wait := none } := by simp [State.waitDone, hw, hprobe]
  refine ⟨_, exec_olkAckRx_probe hon hw hsym hdown hprobe, ?_⟩
  rw [if_neg (by omega), State.acked, hdone, State.setOlkPort_setOlkPort, State.olkPort_setOlkPort_self]
  exact ⟨by rw [State.olkPort_setOlkPort_self], by rw [State.olkPort_setOlkPort_self], fun _ _ _ => s.rd_setOlkPort .., .of_mem (s.setOlkPort_mem ..)⟩

theorem olkAckRx_rises (hlast : (s.olkPort p.val).probes = 7) : ∃ t, exec (.olkAckRx p sym) s = .next t ∧ t.portUp p.val = true := by
  refine ⟨_, exec_olkAckRx_probe hon hw hsym hdown hprobe, ?_⟩
  rw [if_pos (by omega)]
  exact State.portUp_portRise ..

end

end

/-! ### NAK and retry (R596) -/

theorem olkNakRx_marks (hon : s.portOn p.val = true) (hw : (s.olkPort p.val).wait = some w) (hsym : w.named sym = true) :
    ∃ t, exec (.olkNakRx p sym) s = .next t ∧
      (t.olkPort p.val).wait = some { w with nakFirst := some (w.nakFirst.getD s.time), nakAt := some s.time } ∧ SameRegs s t [] ∧ SameMem s t := by
  have hexec : exec (.olkNakRx p sym) s = .next ((s.setOlkPort p.val { s.olkPort p.val with
      wait := some { w with nakFirst := some (w.nakFirst.getD s.time), nakAt := some s.time } }).count (0x1B6 + p.val) 1) := by
    change Host.Outcome.next (if s.portOn p.val then s.nakRx p.val sym else s) = _
    rw [if_pos hon, State.nakRx]
    simp only [OlkPort.names_wait hw hsym, hw, Option.map_some]
  refine ⟨_, hexec, ?_, fun a _ hj => ?_, .of_mem ?_⟩
  · rw [State.olkPort_congr (State.count_olk ..), State.olkPort_setOlkPort_self]
  · rw [State.rd_count _ _ (by omega) hj, State.rd_setOlkPort]
  · rw [State.count_mem, State.setOlkPort_mem]

theorem portCnt_not_journalRegs (p : Fin 2) : R.OLK_PORT_CNT p.val ∉ journalRegs := by
  revert p; decide

/-- A frame sent again goes out as it was, and is counted. -/
theorem State.resend_frame (s : State) (p : Fin 2) (w : OlkWait) :
    ((s.resend p.val false w).olkPort p.val).out = some w.frame ∧
      (s.resend p.val false w).fget (F.OLK_PORT_CNT_RETX p.val) = min (s.fget (F.OLK_PORT_CNT_RETX p.val) + 1) 65535 ∧
      ((s.resend p.val false w).olkPort p.val).fails = (s.olkPort p.val).fails ∧ SameRegs s (s.resend p.val false w) [R.OLK_PORT_CNT p.val] ∧
      SameMem s (s.resend p.val false w) := by
  obtain ⟨v, hv, hout, hfails⟩ : ∃ v : OlkPort, s.resend p.val false w =
      ((((s.setOlkPort p.val v).finc (F.OLK_PORT_CNT_RETX p.val) 1).count (0x1B4 + p.val) 1).count (0x1B0 + p.val) 1) ∧ v.out = some w.frame ∧
        v.fails = (s.olkPort p.val).fails := ⟨_, rfl, rfl, rfl⟩
  have hport : (s.resend p.val false w).olkPort p.val = v := by
    rw [hv, State.olkPort_congr (State.count_olk ..), State.olkPort_congr (State.count_olk ..), State.olkPort_congr (State.finc_olk ..),
      State.olkPort_setOlkPort_self]
  have hrd {a : Nat} (ha : a ∉ journalRegs) : (s.resend p.val false w).rd a = ((s.setOlkPort p.val v).finc (F.OLK_PORT_CNT_RETX p.val) 1).rd a := by
    rw [hv, State.rd_count _ _ (by omega) ha, State.rd_count _ _ (by omega) ha]
  refine ⟨by rw [hport, hout], ?_, by rw [hport, hfails], fun a ha hj => ?_, .of_mem ?_⟩
  · rw [State.fget_congr (hrd (portCnt_not_journalRegs p)),
      State.fget_finc_half _ (F.OLK_PORT_CNT_RETX p.val) rfl (show 15 < 32 by decide) (RegMap.impl_portCnt p), State.fget_congr (State.rd_setOlkPort ..)]
  · rw [hrd hj, State.rd_finc_of_ne _ _ _ (List.ne_of_not_mem_cons ha), State.rd_setOlkPort]
  · rw [hv, State.count_mem, State.count_mem, State.finc_mem, State.setOlkPort_mem]

theorem olkNakRetry_resends {a b : Nat} (hon : s.portOn p.val = true) (hfault : (s.olkPort p.val).faultWait = none)
    (hw : (s.olkPort p.val).wait = some w) (ha : w.nakAt = some a) (hb : w.nakFirst = some b) (hdue : s.past a 1600 = true)
    (hyoung : s.past b 800000 = false) :
    ∃ t, exec (.olkNakRetry p) s = .next t ∧ (t.olkPort p.val).out = some w.frame ∧
      t.fget (F.OLK_PORT_CNT_RETX p.val) = min (s.fget (F.OLK_PORT_CNT_RETX p.val) + 1) 65535 ∧
      (t.olkPort p.val).fails = (s.olkPort p.val).fails ∧ SameRegs s t [R.OLK_PORT_CNT p.val] ∧ SameMem s t := by
  have hretry : s.nakRetry p.val false w = s.resend p.val false w := by
    simp [State.nakRetry, ha, hb, usTicks, msTicks, hdue, hyoung]
  have hexec : exec (.olkNakRetry p) s = .next (s.resend p.val false w) := by
    rw [← hretry]
    change Host.Outcome.next (if !s.portOn p.val then s else _) = _
    simp only [hon, Bool.not_true, Bool.false_eq_true, if_false, hfault, hw]
  exact ⟨_, hexec, s.resend_frame p w⟩

/-! ### Timeout (R595) -/

section
variable (hon : s.portOn p.val = true) (hup : s.portUp p.val = true) (hw : (s.olkPort p.val).wait = some w) (hnak : w.nakAt = none)
  (hlate : s.past w.endAt 1600 = true)
include hon hup hw hnak hlate

/-- Without an answer in time the frame fails: the first failure sends it again, the third takes the port down. -/
theorem exec_olkAckTimeout (hfails : (s.olkPort p.val).fails ≠ 1) : exec (.olkAckTimeout p false) s = .next
    (if (s.olkPort p.val).fails = 0 then (s.failed p.val).resend p.val false w else (s.failed p.val).portFall p.val) := by
  change Host.Outcome.next (if !s.portOn p.val then s else _) = _
  rw [if_neg (by simp [hon])]
  simp only [Bool.false_eq_true, if_false, hw]
  rw [State.ackTimeout, if_neg (by simp [usTicks, hlate, hnak]), if_neg (by simp [hup])]
  dsimp only
  rw [if_neg hfails]
  rfl

theorem olkAckTimeout_resends (hfails : (s.olkPort p.val).fails = 0) :
    ∃ t, exec (.olkAckTimeout p false) s = .next t ∧ (t.olkPort p.val).out = some w.frame ∧ (t.olkPort p.val).fails = 1 ∧
      SameRegs s t [R.OLK_PORT_CNT p.val] ∧ SameMem s t := by
  obtain ⟨hout, -, hone, hrd, hmem⟩ := (s.failed p.val).resend_frame p w
  refine ⟨_, exec_olkAckTimeout hon hup hw hnak hlate (by omega), ?_⟩
  rw [if_pos hfails]
  refine ⟨hout, ?_, fun a ha hj => (hrd a ha hj).trans (s.rd_setOlkPort ..), fun a => (hmem a).trans (SameMem.of_mem (s.setOlkPort_mem ..) a)⟩
  rw [hone, State.failed, State.olkPort_setOlkPort_self, hfails]

theorem olkAckTimeout_falls (hfails : 2 ≤ (s.olkPort p.val).fails) (hroom : s.room 8) :
    ∃ t, exec (.olkAckTimeout p false) s = .next t ∧ t.portUp p.val = false ∧
      Journaled s t C.OLK_LINK_DOWN p.val { w0 := bytes4 (b2n s.ringOk) 0 0 0 } ∧ (t.olkPort p.val).wait = none := by
  have hjrn : (s.failed p.val).jrn = s.jrn := s.setOlkPort_jrn ..
  have hring : (s.failed p.val).ringOk = s.ringOk := congrArg (BitVec.getLsbD · 4) (s.rd_setOlkPort ..)
  have hroom' : (s.failed p.val).room 2 := by
    unfold State.room at *
    rw [hjrn]
    omega
  obtain ⟨hdown, hnoted, hwait⟩ := (s.failed p.val).portFall_down p hroom'
  refine ⟨_, exec_olkAckTimeout hon hup hw hnak hlate (by omega), ?_⟩
  rw [if_neg (by omega)]
  refine ⟨hdown, ?_, hwait⟩
  simpa only [Journaled, State.noted, hjrn, hring] using hnoted

end

/-! ### Probes (R592, R597) -/

/-- A link frame that starts takes the port's own sequence and is counted (R598). -/
theorem State.olkStart_link (s : State) (p : Nat) (f : OlkFrame) (hlink : linkType f.type = true) (hseq : f.seq = none) :
    ∃ (w : OlkWait) (v : Clv), w.frame.type = f.type ∧ s.olkStart p f false =
      ({ s.setOlkPort p { s.olkPort p with linkSeq := (s.olkPort p).linkSeq + 1, wait := some w, out := some w.frame } with clv := v } : State).count
        (0x1B0 + p) 1 := by
  obtain ⟨w, v, htype, h | ⟨hno, -⟩⟩ := s.olkStart_cases p f false
  · refine ⟨w, v, htype, ?_⟩
    have hgive : (s.olkSeqFor p f).1 = s.setOlkPort p { s.olkPort p with linkSeq := (s.olkPort p).linkSeq + 1 } := by
      simp [State.olkSeqFor, hseq, hlink]
    rw [h, hgive, State.olkOut, State.setOlkPort_setOlkPort, State.olkPort_setOlkPort_self]
    rfl
  · exact absurd (hlink.symm.trans hno) (by decide)

theorem olkProbeSend_starts (hon : s.portOn p.val = true) (hdown : s.portUp p.val = false) (hw : (s.olkPort p.val).wait = none)
    (hdue : s.past (s.olkPort p.val).lastProbe 800000 = true) :
    ∃ t, exec (.olkProbeSend p) s = .next t ∧ (t.olkPort p.val).lastProbe = s.time ∧
      (∃ w, (t.olkPort p.val).wait = some w ∧ w.frame.type = 0x83) ∧ SameRegs s t [] ∧ SameMem s t := by
  have hexec : exec (.olkProbeSend p) s = .next ((s.setOlkPort p.val { s.olkPort p.val with lastProbe := s.time }).olkStart p.val
      { type := 0x83, src := s.olkUnit } false) := by
    change Host.Outcome.next (s.probeSend p.val) = _
    rw [State.probeSend]
    simp only [hon, hdown, hw, msTicks, hdue, Bool.not_false, Option.isNone_none, Bool.and_true, if_true, Nat.mul_one]
  obtain ⟨w, v, htype, hstart⟩ := (s.setOlkPort p.val { s.olkPort p.val with lastProbe := s.time }).olkStart_link p.val
    { type := 0x83, src := s.olkUnit } rfl rfl
  rw [hexec, hstart, State.setOlkPort_setOlkPort, State.olkPort_setOlkPort_self]
  generalize ho : ({ s.olkPort p.val with
    lastProbe := s.time, linkSeq := (s.olkPort p.val).linkSeq + 1, wait := some w, out := some w.frame } : OlkPort) = o
  have hport : (({ s.setOlkPort p.val o with clv := v } : State).count (0x1B0 + p.val) 1).olkPort p.val = o :=
    (State.olkPort_congr (State.count_olk ..) _).trans (s.olkPort_setOlkPort_self ..)
  refine ⟨_, rfl, ?_, ⟨w, ?_, htype⟩, fun a _ hj => ?_, .of_mem ?_⟩
  · rw [hport, ← ho]
  · rw [hport, ← ho]
  · exact (State.rd_count _ _ (by omega) hj).trans (s.rd_setOlkPort ..)
  · exact (State.count_mem ..).trans (s.setOlkPort_mem ..)

/-- A received probe is acknowledged. -/
theorem olkProbe_acknowledged (seq : Byte) (hon : s.portOn p.val = true) :
    ∃ t, exec (.olkProbe p seq) s = .next t ∧ (t.olkPort p.val).answer = some (false, seq) ∧ (∀ a, t.rd a = s.rd a) ∧ SameMem s t := by
  have hexec : exec (.olkProbe p seq) s = .next (s.olkAnswer p.val false (seq.setWidth 16)) := congrArg Host.Outcome.next (if_pos hon)
  obtain ⟨hans, -, hmem⟩ := s.olkAnswer_frame p.val false (seq.setWidth 16)
  refine ⟨_, hexec, ?_, fun a => s.rd_olkAnswer .., hmem⟩
  rw [hans, BitVec.setWidth_setWidth_of_le _ (by decide), BitVec.setWidth_eq]

end

/-- Settles O49: a frame received goes by its check, its source, its sequence and the room for it; a port by the symbols and times of the frame
it awaits an acknowledgement for. -/
theorem omterLinkFramesAndAcknowledges : Obligations.OmterLinkFramesAndAcknowledges :=
  ⟨fun _ _ => badFrame_counted, fun _ _ _ _ hc hon hlen => chainFrame_conflicts hon hlen hc,
    fun _ _ _ _ hc hon hlen => chainFrame_stale hon hlen hc, fun _ _ _ _ hc hon hlen => chainFrame_accepted hon hlen hc,
    fun _ _ _ _ hc hon hlen => oneHopFrame_accepted hon hlen hc, fun _ _ _ _ hc hon hlen => frame_withoutRoom hon hlen hc,
    fun _ _ _ _ hon hup hw hsym => olkAckRx_up hon hw hsym hup, fun _ _ _ _ hon hdown hw hsym => olkAckRx_probe hon hw hsym hdown,
    fun _ _ _ _ hon hdown hw hsym => olkAckRx_rises hon hw hsym hdown, fun _ _ _ _ => olkNakRx_marks,
    fun _ _ _ _ _ => olkNakRetry_resends, fun _ _ _ => olkAckTimeout_resends, fun _ _ _ => olkAckTimeout_falls,
    fun _ _ => olkProbeSend_starts, fun _ _ => olkProbe_acknowledged⟩

end Sys2Proof.Machine

/-! Event counters (R667 to R672): the mode that PMC_MODE leaves the present control cycle, the clears of PMC_CLR, and the count of an event up to
a counter's end and past it. -/

namespace Sys2Proof.Machine

/-! ### Gains in the present control cycle -/

/-- What a cycle gains by two gains. -/
def PmcCyc.plus (x y : PmcCyc) : PmcCyc := { clear := x.clear || y.clear, add := x.add + y.add, level := x.level || y.level }

section
variable {s : State} (hcyc : s.pmc.cyc = s.cyc)
include hcyc

/-- Counters already brought up to the present cycle stay as they are. -/
theorem State.pmcSync_of_cyc : s.pmcSync = s := if_pos hcyc

theorem State.pmcAdd_of_cyc (n : Nat) (c : PmcCyc) :
    s.pmcAdd n c = ({ s with pmc.now := SMap.set (fun _ => {}) s.pmc.now n ((s.pmcNow n).plus c) },
      decide ((s.pmcBase n).toNat + pmcGain (s.pmcLevel n) (s.pmcNow n) < 2 ^ 48) &&
        decide (2 ^ 48 ≤ (s.pmcBase n).toNat + pmcGain (s.pmcLevel n) ((s.pmcNow n).plus c))) := by
  simp only [State.pmcAdd, State.pmcSync_of_cyc hcyc]
  rfl

/-- Clearing touches what the present cycle gains alone: the counters below `32k + n` whose bit is 1 are marked. -/
theorem State.pmcClear_of_cyc (k : Nat) (v : Word) (n : Nat) :
    ∃ x, s.pmcClear k v n = { s with pmc.now := x } ∧
      ∀ j, SMap.get (fun _ => {}) x j =
        if 32 * k ≤ j ∧ j < 32 * k + n ∧ v.getLsbD (j - 32 * k) = true then (s.pmcNow j).plus { clear := true } else s.pmcNow j := by
  induction n with
  | zero => exact ⟨s.pmc.now, rfl, fun j => (if_neg (by omega)).symm⟩
  | succ n ih =>
    obtain ⟨x, heq, hget⟩ := ih
    simp only [State.pmcClear, heq]
    split
    · next hv =>
      refine ⟨_, congrArg Prod.fst (State.pmcAdd_of_cyc (s := { s with pmc.now := x }) hcyc _ _), fun j => ?_⟩
      rw [SMap.get_set]
      by_cases hj : j = 32 * k + n
      · have hsame : State.pmcNow { s with pmc.now := x } (32 * k + n) = s.pmcNow (32 * k + n) := (hget _).trans (if_neg (by omega))
        simp [hj, hv, hsame]
      · rw [if_neg hj, hget]
        exact ite_congr (propext (and_congr_right fun _ => and_congr_left fun _ => by omega)) (fun _ => rfl) fun _ => rfl
    · next hv =>
      refine ⟨x, rfl, fun j => ?_⟩
      rw [hget]
      refine ite_congr (propext ⟨fun ⟨hlo, hhi, hbit⟩ => ⟨hlo, by omega, hbit⟩, fun ⟨hlo, hhi, hbit⟩ => ⟨hlo, ?_, hbit⟩⟩)
        (fun _ => rfl) fun _ => rfl
      have hne : j ≠ 32 * k + n := fun h => hv (by simpa [h] using hbit)
      omega

theorem State.pmcClear_frame (k : Nat) (v : Word) (n : Nat) :
    (∀ j, (s.pmcClear k v n).pmcNow j =
      if 32 * k ≤ j ∧ j < 32 * k + n ∧ v.getLsbD (j - 32 * k) = true then (s.pmcNow j).plus { clear := true } else s.pmcNow j) ∧
      (∀ j, (s.pmcClear k v n).pmcBase j = s.pmcBase j) ∧ (∀ a, (s.pmcClear k v n).rd a = s.rd a) ∧ (s.pmcClear k v n).mem = s.mem := by
  obtain ⟨x, heq, hget⟩ := State.pmcClear_of_cyc hcyc k v n
  rw [heq]
  exact ⟨hget, fun _ => rfl, fun _ => rfl, rfl⟩

end

/-! ### Writes of PMC_MODE and PMC_CLR -/

/-- The state in which a write takes effect has its counters as they were. -/
theorem State.pmc_atWrite (s : State) (m : Master) (a : Nat) : (s.atWrite m a).pmc = s.pmc := by simp

theorem State.cyc_atWrite (s : State) (m : Master) (a : Nat) : (s.atWrite m a).cyc = s.cyc := by simp [State.cyc]

theorem State.pmcLevel_congr {s t : State} (hpmc : t.pmc = s.pmc) (hrd : ∀ a, t.rd a = s.rd a) (n : Nat) : t.pmcLevel n = s.pmcLevel n := by
  simp only [State.pmcLevel, hpmc, hrd]

theorem RegMap.impl_pmcMode (w : Fin 16) : RegMap.impl (R.PMC_MODE w.val) = BitVec.allOnes 32 := by
  revert w
  decide

theorem State.route_pmcMode (s : State) (w : WriteBy) (k : Fin 16) (v : Word) : s.route w (R.PMC_MODE k.val) v = s.writePmcMode k.val v := by
  have hblock : blockOf (R.PMC_MODE k.val) = 19 := by revert k; decide
  have hne : R.PMC_MODE k.val ≠ R.PMC_GNG_CTRL := by revert k; decide
  have hslot : slotOf (R.PMC_MODE 0) 4 16 (R.PMC_MODE k.val) = some k.val := by revert k; decide
  simp [State.route, hblock, State.writePmc, hne, hslot]

theorem State.route_pmcClr (s : State) (w : WriteBy) (k : Fin 16) (v : Word) : s.route w (R.PMC_CLR k.val) v = s.pmcClear k.val v 32 := by
  have hblock : blockOf (R.PMC_CLR k.val) = 19 := by revert k; decide
  have hne : R.PMC_CLR k.val ≠ R.PMC_GNG_CTRL := by revert k; decide
  have hmode : slotOf (R.PMC_MODE 0) 4 16 (R.PMC_CLR k.val) = none := by revert k; decide
  have hslot : slotOf (R.PMC_CLR 0) 4 16 (R.PMC_CLR k.val) = some k.val := by revert k; decide
  simp [State.route, hblock, State.writePmc, hne, hmode, hslot]

/-- The modes change, and the present cycle keeps the old one (R668). -/
theorem State.writePmcMode_of_cyc {s : State} (hcyc : s.pmc.cyc = s.cyc) (k : Nat) (v : Word) :
    (∀ a, (s.writePmcMode k v).rd a = (s.wr (R.PMC_MODE k) v).rd a) ∧ (s.writePmcMode k v).mem = s.mem ∧
      ∀ n, n / 32 = k → (s.writePmcMode k v).pmcLevel n = s.pmcLevel n := by
  simp only [State.writePmcMode, State.pmcSync_of_cyc hcyc]
  refine ⟨fun a => rfl, rfl, fun n hn => ?_⟩
  simp only [State.pmcLevel, hn]
  exact congrArg (fun x : Word => x.getLsbD (n % 32)) (SMap.get_set_self (fun i => (s.wr (R.PMC_MODE k) v).rd (R.PMC_MODE i)) ..)

/-- A granted write of PMC_MODE: the mode is the one written, and the present cycle is counted in the old one (R668). -/
theorem pmcModeWrite_keeps_cycle {s : State} {m : Master} {w : Fin 16} {v : Word} (h : s.grants m (R.PMC_MODE w.val)) (hcyc : s.pmc.cyc = s.cyc) :
    ∃ t, exec (.pmcModeWrite m w v) s = .next t ∧ t.answered 0 ∧ t.rd (R.PMC_MODE w.val) = v ∧
      (∀ n, n / 32 = w.val → t.pmcLevel n = s.pmcLevel n) ∧ SameRegs s t [R.PMC_MODE w.val] ∧ SameMem s t := by
  have hcyc' : (s.atWrite m (R.PMC_MODE w.val)).pmc.cyc = (s.atWrite m (R.PMC_MODE w.val)).cyc := by rw [s.pmc_atWrite, s.cyc_atWrite, hcyc]
  obtain ⟨hrd, hmem, hlevel⟩ := State.writePmcMode_of_cyc hcyc' w.val v
  obtain ⟨x, hexec⟩ := State.wrote_granted_eq (v := v) h (State.route_pmcMode ..)
  generalize (s.atWrite m (R.PMC_MODE w.val)).writePmcMode w.val v = e at hexec hrd hmem hlevel
  refine ⟨e.ended x, hexec, rfl, ?_, fun n hn => ?_, fun a ha _ => ?_, .of_mem (hmem.trans (s.mem_atWrite ..))⟩
  · exact (hrd _).trans (State.rd_wr_full _ v (RegMap.impl_pmcMode w))
  · exact (hlevel n hn).trans (State.pmcLevel_congr (s.pmc_atWrite ..) (s.rd_atWrite m _) n)
  · exact (hrd a).trans (s.rd_wr_atWrite_of_ne m v (by simpa using ha))

/-- A granted write of PMC_CLR marks the counters of its bits, and touches no other (R672). -/
theorem pmcClr_marks {s : State} {m : Master} {w : Fin 16} {v : Word} (h : s.grants m (R.PMC_CLR w.val)) (hcyc : s.pmc.cyc = s.cyc) :
    ∃ t, exec (.pmcClr m w v) s = .next t ∧ t.answered 0 ∧
      (∀ i, i < 32 → v.getLsbD i = true → (t.pmcNow (32 * w.val + i)).clear = true) ∧
      (∀ i, i < 32 → v.getLsbD i = false → t.pmcNow (32 * w.val + i) = s.pmcNow (32 * w.val + i)) ∧
      (∀ n, n / 32 ≠ w.val → t.pmcNow n = s.pmcNow n) ∧ (∀ n, t.pmcBase n = s.pmcBase n) ∧ SameRegs s t [] ∧ SameMem s t := by
  have hcyc' : (s.atWrite m (R.PMC_CLR w.val)).pmc.cyc = (s.atWrite m (R.PMC_CLR w.val)).cyc := by rw [s.pmc_atWrite, s.cyc_atWrite, hcyc]
  have hnow (n : Nat) : (s.atWrite m (R.PMC_CLR w.val)).pmcNow n = s.pmcNow n := by rw [State.pmcNow, s.pmc_atWrite, State.pmcNow]
  have hbase (n : Nat) : (s.atWrite m (R.PMC_CLR w.val)).pmcBase n = s.pmcBase n := by rw [State.pmcBase, s.pmc_atWrite, State.pmcBase]
  obtain ⟨hget, hkept, hrd, hmem⟩ := State.pmcClear_frame hcyc' w.val v 32
  obtain ⟨x, hexec⟩ := State.wrote_granted_eq (v := v) h (State.route_pmcClr ..)
  simp only [hnow] at hget
  generalize (s.atWrite m (R.PMC_CLR w.val)).pmcClear w.val v 32 = e at hexec hget hkept hrd hmem
  refine ⟨e.ended x, hexec, rfl, fun i hi hv => ?_, fun i hi hv => ?_, fun n hn => ?_, fun n => ?_, fun a _ _ => ?_, ?_⟩
  · exact (congrArg PmcCyc.clear ((hget _).trans (if_pos ⟨by omega, by omega, by simpa using hv⟩))).trans (Bool.or_true _)
  · exact (hget _).trans (if_neg (by simp [hv]))
  · exact (hget n).trans (if_neg (by omega))
  · exact (hkept n).trans (hbase n)
  · exact (hrd a).trans (s.rd_atWrite m _ a)
  · exact .of_mem (hmem.trans (s.mem_atWrite ..))

/-! ### Counting an event (R667, R669) -/

theorem RegMap.impl_pmcOvf (k : Fin 16) : RegMap.impl (R.PMC_OVF k.val) = BitVec.allOnes 32 := by
  revert k
  decide

/-- A bit of PMC_OVF is set by its own counter. -/
theorem State.rbit_ovf_pmcWrap_self (s : State) (n : Fin 512) : (s.pmcWrap n.val).rbit (R.PMC_OVF (n.val / 32)) (n.val % 32) = true := by
  have himpl : RegMap.impl (R.PMC_OVF (n.val / 32)) = BitVec.allOnes 32 := RegMap.impl_pmcOvf ⟨n.val / 32, by omega⟩
  have hne : R.PMC_OVF (n.val / 32) ≠ R.JRN_STATUS := by simp only [R.PMC_OVF, R.JRN_STATUS]; omega
  have hset := s.rbit_rput_self (a := R.PMC_OVF (n.val / 32)) (i := n.val % 32) true
    (by rw [himpl, BitVec.getLsbD_allOnes]; exact decide_eq_true (Nat.mod_lt _ (by decide)))
  rw [← hset, State.rbit, State.pmcWrap, State.rd_raise _ _ _ _ hne, State.rbit]

/-- No other counter clears it. -/
theorem State.rbit_ovf_pmcWrap {s : State} {n : Fin 512} (h : s.rbit (R.PMC_OVF (n.val / 32)) (n.val % 32) = true) (k : Nat) :
    (s.pmcWrap k).rbit (R.PMC_OVF (n.val / 32)) (n.val % 32) = true := by
  have himpl : RegMap.impl (R.PMC_OVF (n.val / 32)) = BitVec.allOnes 32 := RegMap.impl_pmcOvf ⟨n.val / 32, by omega⟩
  have hne : R.PMC_OVF (n.val / 32) ≠ R.JRN_STATUS := by simp only [R.PMC_OVF, R.JRN_STATUS]; omega
  have hlt : n.val % 32 < 32 := by omega
  simp only [State.rbit] at h ⊢
  rw [State.pmcWrap, State.rd_raise _ _ _ _ hne, State.rput, State.rd_wr]
  split
  · next ha =>
    rw [ha] at h himpl
    rw [BitVec.getLsbD_and, himpl, BitVec.getLsbD_allOnes, getLsbD_putBits]
    split
    · next hi => simp [b2n, hlt, show n.val % 32 - k % 32 = 0 by omega]
    · simp [h, hlt]
  · exact h

/-- A wrap loses no record that waits. -/
theorem State.noted_pmcWrap {s : State} (n : Nat) (hroom : s.room 1) (code : BitVec 16) (inst : BitVec 8) (q : Payload) :
    s.noted code inst q ≤ (s.pmcWrap n).noted code inst q :=
  (Journaled.of_raise (s := s) (u := s.rput (R.PMC_OVF (n / 32)) (n % 32) true) rfl hroom).2 code inst q

theorem State.room_pmcWrap {s : State} (n : Nat) {k : Nat} (h : s.room (k + 1)) : (s.pmcWrap n).room k :=
  State.room_raiseFrom (s.rput (R.PMC_OVF (n / 32)) (n % 32) true) _ _ _ _ k _ _ _ h

theorem State.pmcAdd_jrn (s : State) (n : Nat) (c : PmcCyc) : (s.pmcAdd n c).1.jrn = s.jrn := by
  obtain ⟨p, hp⟩ := s.pmcAdd_eq n c
  rw [hp]

/-- Up to a counter's end an occurrence adds to what the cycle gains, and does nothing else. -/
theorem State.count_below {s : State} {n c : Nat} (hcyc : s.pmc.cyc = s.cyc) (hedge : s.pmcLevel n = false)
    (hsum : (s.pmcBase n).toNat + (s.pmcNow n).add + c < 2 ^ 48) :
    ∃ x, s.count n c = { s with pmc.now := x } ∧ (SMap.get (fun _ => {}) x n).add = (s.pmcNow n).add + c := by
  by_cases hc : c = 0
  · subst hc
    exact ⟨s.pmc.now, if_pos rfl, rfl⟩
  · have hgain : ¬ 2 ^ 48 ≤ (s.pmcBase n).toNat + pmcGain (s.pmcLevel n) ((s.pmcNow n).plus { add := c, level := true }) := by
      rw [hedge]
      exact Nat.not_le.mpr (by simpa [pmcGain, PmcCyc.plus, Nat.add_assoc] using hsum)
    refine ⟨_, ?_, congrArg PmcCyc.add (SMap.get_set_self (fun _ => {}) s.pmc.now n ((s.pmcNow n).plus { add := c, level := true }))⟩
    simp only [State.count, if_neg hc, State.pmcAdd_of_cyc hcyc, hgain, decide_false, Bool.and_false, Bool.false_eq_true, if_false]

/-- What occurrences past a counter's end come to: its wrap, itself an event, whose counter may wrap in turn. -/
theorem State.count_past {s : State} {n c : Nat} (hcyc : s.pmc.cyc = s.cyc) (hedge : s.pmcLevel n = false)
    (hbelow : (s.pmcBase n).toNat + (s.pmcNow n).add < 2 ^ 48) (hpast : 2 ^ 48 ≤ (s.pmcBase n).toNat + (s.pmcNow n).add + c) :
    ∃ u w : State, u.jrn = s.jrn ∧ w.jrn = (u.pmcWrap n).jrn ∧ (∀ a, w.rd a = (u.pmcWrap n).rd a) ∧
      (s.count n c = w ∨ s.count n c = w.pmcWrap 0x1F6) := by
  have hc : c ≠ 0 := by omega
  have hwraps : (s.pmcAdd n { add := c, level := true }).2 = true := by
    rw [State.pmcAdd_of_cyc hcyc, hedge]
    simpa [pmcGain, PmcCyc.plus, ← Nat.add_assoc] using ⟨hbelow, hpast⟩
  refine ⟨(s.pmcAdd n { add := c, level := true }).1, _, s.pmcAdd_jrn .., State.pmcAdd_jrn _ 0x1F6 { add := 1, level := true },
    State.rd_pmcAdd _ _ _, ?_⟩
  simp only [State.count, if_neg hc, hwraps, if_true]
  split
  · exact .inr rfl
  · exact .inl rfl

section
variable {s : State} {n : Fin 512} {c : Fin 4} (hlive : s.lDead = false)
include hlive

theorem exec_pmcOverflow : exec (.pmcOverflow n c) s = .next (s.count n.val c.val) :=
  congrArg Host.Outcome.next (if_neg (by simp [hlive]))

variable (hcyc : s.pmc.cyc = s.cyc) (hedge : s.pmcLevel n.val = false)
include hcyc hedge

/-- In edge mode a counter goes on by the occurrences (R667). -/
theorem pmcOverflow_counts (hsum : (s.pmcBase n.val).toNat + (s.pmcNow n.val).add + c.val < 2 ^ 48) :
    ∃ t, exec (.pmcOverflow n c) s = .next t ∧ (t.pmcNow n.val).add = (s.pmcNow n.val).add + c.val ∧ (∀ k, t.pmcBase k = s.pmcBase k) ∧
      (∀ a, t.rd a = s.rd a) ∧ SameMem s t := by
  obtain ⟨x, heq, hget⟩ := State.count_below hcyc hedge hsum
  exact ⟨_, (exec_pmcOverflow hlive).trans (congrArg _ heq), hget, fun _ => rfl, fun _ => rfl, fun _ => rfl⟩

/-- Past its end it wraps: its PMC_OVF bit and its record (R669). -/
theorem pmcOverflow_wraps (hbelow : (s.pmcBase n.val).toNat + (s.pmcNow n.val).add < 2 ^ 48)
    (hpast : 2 ^ 48 ≤ (s.pmcBase n.val).toNat + (s.pmcNow n.val).add + c.val) (hroom : s.room 4) :
    ∃ t, exec (.pmcOverflow n c) s = .next t ∧ t.rbit (R.PMC_OVF (n.val / 32)) (n.val % 32) = true ∧
      Journaled s t C.PMC_OVERFLOW (n.val % 256) { w0 := halves n.val 0 } ∧ SameRegs s t [] ∧ SameMem s t := by
  obtain ⟨u, w, hu, hw, hrd, hcount⟩ := State.count_past hcyc hedge hbelow hpast
  have hset : w.rbit (R.PMC_OVF (n.val / 32)) (n.val % 32) = true := by
    rw [State.rbit, hrd]
    exact u.rbit_ovf_pmcWrap_self n
  have hfirst : Journaled s w C.PMC_OVERFLOW (n.val % 256) { w0 := halves n.val 0 } :=
    (Journaled.of_raise (s := s) (u := u.rput (R.PMC_OVF (n.val / 32)) (n.val % 32) true) hu hroom.one).congr hw
  have hleft : w.room 1 := by
    have hwrapped : (u.pmcWrap n.val).room 1 := State.room_pmcWrap n.val (by simp only [State.room, hu] at hroom ⊢; omega)
    simpa only [State.room, hw] using hwrapped
  refine ⟨_, exec_pmcOverflow hlive, ?_, ?_, fun a _ hj => s.rd_count _ n.isLt hj, .of_mem (s.count_mem ..)⟩
  · rcases hcount with h | h
    · rw [h, hset]
    · rw [h, State.rbit_ovf_pmcWrap hset]
  · rcases hcount with h | h
    · rw [h]
      exact hfirst
    · rw [h]
      exact hfirst.mono fun code inst q => State.noted_pmcWrap _ hleft code inst q

end

end Sys2Proof.Machine

/-! What the other blocks leave of the Gong record: its registers (R675, R677) and its sources. Counting, the gates of the timer groups (R311 to
R320), the contexts of the engine (R136, R161, R172) and the patterns (R231) write below them. -/

namespace Sys2Proof.Machine

/-! ### The reading -/

/-- The registers of the Gong record and its sources. -/
def State.gongView (s : State) : Word × Word × Word × Word × Gong :=
  (s.rd R.PMC_GNG_CAUSE_LO, s.rd R.PMC_GNG_CAUSE_HI, s.rd R.PMC_GNG_CODE, s.rd R.PMC_GNG_STAT, s.gong)

section
variable (s : State)

/-- A write below the record's registers. -/
theorem State.gongView_wr {a : Nat} (v : Word) (h : a < R.PMC_GNG_CAUSE_LO) : (s.wr a v).gongView = s.gongView := by
  have hne (b : Nat) (hb : R.PMC_GNG_CAUSE_LO ≤ b) : (s.wr a v).rd b = s.rd b := s.rd_wr_of_ne v (by omega)
  simp only [State.gongView, hne _ (Nat.le_refl _), hne R.PMC_GNG_CAUSE_HI (by decide), hne R.PMC_GNG_CODE (by decide),
    hne R.PMC_GNG_STAT (by decide), State.wr_gong]

theorem State.gongView_fset (f : Fld) (n : Nat) (h : f.addr < R.PMC_GNG_CAUSE_LO) : (s.fset f n).gongView = s.gongView := s.gongView_wr _ h

theorem State.gongView_fput (f : Fld) (b : Bool) (h : f.addr < R.PMC_GNG_CAUSE_LO) : (s.fput f b).gongView = s.gongView := s.gongView_wr _ h

@[simp] theorem State.gongView_raiseAs (c : BitVec 16) (i k a : Nat) (p : Payload) (d : Bool) : (s.raiseAs c i k a p d).gongView = s.gongView := by
  have hne (b : Nat) (hb : b ≠ R.JRN_STATUS) : (s.raiseAs c i k a p d).rd b = s.rd b := s.rd_raiseAs c i k a p d hb
  simp only [State.gongView, hne R.PMC_GNG_CAUSE_LO (by decide), hne R.PMC_GNG_CAUSE_HI (by decide), hne R.PMC_GNG_CODE (by decide),
    hne R.PMC_GNG_STAT (by decide), State.raiseAs_gong]

@[simp] theorem State.gongView_setLeg (g l : Nat) (v : LegRec) : (s.setLeg g l v).gongView = s.gongView := rfl

@[simp] theorem State.gongView_raise (c : Code) (i : Nat) (p : Payload) : (s.raise c i p).gongView = s.gongView := s.gongView_raiseAs ..

theorem State.gongView_pmcWrap {n : Nat} (hn : n < 512) : (s.pmcWrap n).gongView = s.gongView :=
  (State.gongView_raise ..).trans (s.gongView_wr _ (by simp only [R.PMC_OVF, R.PMC_GNG_CAUSE_LO]; omega))

theorem State.gongView_pmcAdd (n : Nat) (c : PmcCyc) : (s.pmcAdd n c).1.gongView = s.gongView := by
  obtain ⟨p, hp⟩ := s.pmcAdd_eq n c
  rw [hp]
  rfl

theorem State.gongView_count {n : Nat} (c : Nat) (hn : n < 512) : (s.count n c).gongView = s.gongView := by
  simp only [State.count]
  repeat' split
  all_goals simp only [State.gongView_pmcWrap _ hn, State.gongView_pmcWrap _ (show (0x1F6 : Nat) < 512 by decide), State.gongView_pmcAdd]

/-! ### The timer groups -/

theorem legOf_lt (ch : Nat) : (legOf ch).1 < 12 := by
  simp only [legOf, apply_ite Prod.fst, apply_ite (· < 12), Nat.reduceLT, ite_self]

section
variable {g : Nat} (hg : g < 12)
include hg

/-- The registers of the twelve groups lie below the record's. -/
theorem State.gongView_wrGrp {a i : Nat} (v : Word) (hi : i < 128) (ha : a = 0x20090100 + i + 128 * g) : (s.wr a v).gongView = s.gongView :=
  s.gongView_wr v (by simp only [R.PMC_GNG_CAUSE_LO]; omega)

theorem State.gongView_grpStat (v : Word) : (s.wr (R.PWM_GRP_STAT g) v).gongView = s.gongView := s.gongView_wrGrp hg v (i := 0x50) (by decide) rfl

end

theorem State.gongView_chanFollow (c : Nat) : (s.chanFollow c).gongView = s.gongView := by
  have hg := legOf_lt c
  have hcount (u : State) :
      ((u.finc (F.PWM_GRP_SWALLOW_CNT (legOf c).1) 1).count (0x0E2 + 8 * (legOf c).1) 1).gongView = u.gongView :=
    (State.gongView_count _ 1 (by omega)).trans (u.gongView_wrGrp hg _ (i := 0x58) (by decide) rfl)
  simp only [State.chanFollow]
  repeat' split
  · rfl
  · rfl
  · rfl
  · exact hcount _

section
variable {g : Nat} (hg : g < 12)
include hg

theorem State.gongView_legConflict (l kept : Nat) : (s.legConflict g l kept).gongView = s.gongView := by
  have hcount : ((s.rput (R.PWM_GRP_STAT g) (8 + l) true).count (0x0E3 + 8 * g) 1).gongView = s.gongView :=
    (State.gongView_count _ 1 (by omega)).trans (s.gongView_grpStat hg _)
  simp only [State.legConflict, apply_ite State.gongView, State.gongView_raise, State.gongView_setLeg, hcount, ite_self]

theorem State.gongView_legFollow (l : Nat) : (s.legFollow g l).gongView = s.gongView := by
  have hchans : ((s.chanFollow (chanOf g l 0)).chanFollow (chanOf g l 1)).gongView = s.gongView :=
    (State.gongView_chanFollow ..).trans (State.gongView_chanFollow ..)
  simp only [State.legFollow, apply_ite State.gongView, State.gongView_legConflict _ hg, State.gongView_setLeg, hchans, ite_self]

theorem State.gongView_grpFollow : (s.grpFollow g).gongView = s.gongView := by
  have hlegs (k : Nat) : (s.legsFollow g k).gongView = s.gongView := by
    induction k with
    | zero => rfl
    | succ k ih => exact (State.gongView_legFollow _ hg k).trans ih
  unfold State.grpFollow
  split
  · exact s.gongView_chanFollow 12
  · exact hlegs _

theorem State.gongView_showOverride : (s.showOverride g).gongView = s.gongView :=
  (State.gongView_grpStat _ hg _).trans (s.gongView_grpStat hg _)

theorem State.gongView_removePattern : (s.removePattern g).gongView = s.gongView := by
  simp only [State.removePattern]
  generalize (if (s.patternAsked g).1 = 0 then 0 else (s.grp g).pat) = pat
  split
  · rfl
  · exact State.gongView_showOverride _ hg

theorem State.gongView_runClear : (s.runClear g).gongView = s.gongView :=
  (State.gongView_grpFollow _ hg).trans (s.gongView_wrGrp hg _ (i := 0x0C) (by decide) rfl)

theorem State.gongView_shadowMode (l mode : Nat) : (s.shadowMode g l mode).gongView = s.gongView :=
  State.gongView_wrGrp (s.noteShadow g (R.PWM_GRP_LEGMODE g)) hg _ (i := 0x1C) (by decide) rfl

end

theorem State.gongView_removeStopped (old : State) {k : Nat} (hk : k ≤ 12) : (s.removeStopped old k).gongView = s.gongView := by
  induction k with
  | zero => rfl
  | succ k ih =>
    have hfollow (u : State) : ((u.removePattern k).grpFollow k).gongView = u.gongView :=
      (State.gongView_grpFollow _ hk).trans (u.gongView_removePattern hk)
    rw [State.removeStopped, apply_ite State.gongView, hfollow, ite_self, ih (by omega)]

theorem State.gongView_showGates {k : Nat} (hk : k ≤ 12) : (s.showGates k).gongView = s.gongView := by
  induction k with
  | zero => rfl
  | succ k ih => exact (State.gongView_grpStat _ hk _).trans (ih (by omega))

theorem State.gongView_allFollow {k : Nat} (hk : k ≤ 12) : (s.allFollow k).gongView = s.gongView := by
  induction k with
  | zero => rfl
  | succ k ih => rw [State.allFollow, apply_ite State.gongView, State.gongView_grpFollow _ hk, ite_self, ih (by omega)]

/-! ### The contexts of the engine -/

section
variable {n : Nat} (hn : n < 128)
include hn

/-- The registers of the 128 contexts lie below the record's. -/
theorem State.gongView_wrCtx {a i : Nat} (v : Word) (hi : i < 256) (ha : a = 0x20050000 + i + 256 * n) : (s.wr a v).gongView = s.gongView :=
  s.gongView_wr v (by simp only [R.PMC_GNG_CAUSE_LO]; omega)

theorem State.gongView_ctxCtrl (v : Word) : (s.wr (R.CLE_CTX_CTRL n) v).gongView = s.gongView := s.gongView_wrCtx hn v (i := 0) (by decide) rfl

theorem State.gongView_ctxStat (v : Word) : (s.wr (R.CLE_CTX_STAT n) v).gongView = s.gongView := s.gongView_wrCtx hn v (i := 0x20) (by decide) rfl

theorem State.gongView_zeroStates {lo k : Nat} (hk : lo + k ≤ 16) : (s.zeroStates n lo k).gongView = s.gongView := by
  induction k generalizing s lo with
  | zero => rfl
  | succ k ih =>
    have h1 (u : State) : (u.wr (R.CLE_CTX_S1 n lo) 0).gongView = u.gongView :=
      u.gongView_wrCtx hn 0 (i := 0x80 + 8 * lo) (by omega) (by simp only [R.CLE_CTX_S1]; omega)
    have h2 (u : State) : (u.wr (R.CLE_CTX_S2 n lo) 0).gongView = u.gongView :=
      u.gongView_wrCtx hn 0 (i := 0x84 + 8 * lo) (by omega) (by simp only [R.CLE_CTX_S2]; omega)
    rw [State.zeroStates, ih _ (by omega), h2, h1]

theorem State.gongView_bankSwap : (s.bankSwap n).gongView = s.gongView := by
  have hlen (w : Word) (b : Nat) : (chainOf w b).2 < 16 := by
    unfold chainOf
    split <;> exact Nat.mod_lt _ (by decide)
  have hold : (s.chainAct n).2 < 16 := hlen ..
  have hnew := hlen (s.rd (R.CLE_CTX_CHAIN n)) (s.fget (F.CLE_CTX_CTRL_BANK n))
  simp only [State.bankSwap]
  repeat' split
  · rfl
  · exact (State.gongView_zeroStates _ hn (by decide)).trans (s.gongView_ctxCtrl hn _)
  · exact (State.gongView_zeroStates _ hn (by omega)).trans (s.gongView_ctxCtrl hn _)

theorem State.gongView_ctxDisable : (s.ctxDisable n).gongView = s.gongView := by
  simp only [State.ctxDisable]
  split
  · exact s.gongView_ctxCtrl hn _
  · exact (State.gongView_bankSwap _ hn).trans ((State.gongView_ctxStat _ hn _).trans (s.gongView_ctxCtrl hn _))

theorem State.gongView_ctxSuspend (g : Nat) : (s.ctxSuspend n g).gongView = s.gongView := by
  simp only [State.ctxSuspend]
  repeat' split
  · rfl
  · rfl
  · exact (State.gongView_raise ..).trans (State.gongView_ctxStat _ hn _)

end

theorem State.gongView_suspendGroup (g : Nat) {k : Nat} (hk : k ≤ 128) : (s.suspendGroup g k).gongView = s.gongView := by
  induction k with
  | zero => rfl
  | succ k ih => rw [State.suspendGroup, apply_ite State.gongView, State.gongView_ctxSuspend _ hk, ite_self, ih (by omega)]

theorem State.gongView_disableManaged (plane : Nat) : (s.disableManaged plane).gongView = s.gongView := by
  have hall (l : List (Nat × Nat × Nat)) (hl : ∀ p ∈ l, p.1 < 128) (u : State) :
      (l.foldl (fun u p => u.ctxDisable p.1) u).gongView = u.gongView := by
    induction l generalizing u with
    | nil => rfl
    | cons p l ih =>
      obtain ⟨hp, hrest⟩ := List.forall_mem_cons.mp hl
      exact (ih hrest _).trans (u.gongView_ctxDisable hp)
  exact hall _ (s.managed_lt plane) s

theorem State.gongView_disableAllManaged : s.disableAllManaged.gongView = s.gongView := by
  simp only [State.disableAllManaged, State.gongView_disableManaged]

theorem State.gongView_ctxsOff {l : List Nat} (hl : ∀ n ∈ l, n < 128) : (s.ctxsOff l).gongView = s.gongView := by
  induction l generalizing s with
  | nil => rfl
  | cons n l ih =>
    obtain ⟨hn, hrest⟩ := List.forall_mem_cons.mp hl
    exact (ih _ hrest).trans (s.gongView_ctxDisable hn)

/-! ### The patterns -/

theorem State.gongView_applyPattern {g : Nat} (hg : g < 12) : (s.applyPattern g).gongView = s.gongView := by
  simp only [State.applyPattern]
  split
  · rw [State.gongView_grpFollow _ hg, apply_ite State.gongView, State.gongView_suspendGroup _ _ (by decide), ite_self,
      State.gongView_showOverride _ hg]
    rfl
  · rfl

theorem State.gongView_holdSys {k : Nat} (hk : k < 12) : (s.holdSys k).gongView = s.gongView := by
  have hshown (u : State) (v : Nat) : (u.setSysState k v).gongView = u.gongView := by
    unfold State.setSysState
    split <;> exact u.gongView_fset _ _ (by decide)
  rw [State.holdSys, State.gongView_applyPattern _ hk, hshown, apply_ite State.gongView]
  exact ite_self _

theorem State.gongView_holdBoth : s.holdBoth.gongView = s.gongView := by
  have h0 (u : State) : (u.holdSys 0).gongView = u.gongView := u.gongView_holdSys (by decide)
  have h1 (u : State) : (u.holdSys 1).gongView = u.gongView := u.gongView_holdSys (by decide)
  simp only [State.holdBoth, apply_ite State.gongView, h1, h0, ite_self]

end

end Sys2Proof.Machine

/-! What a SAFE decision leaves of the Gong record: the converters, the charger and the actuators that its mode change stops (R231, R372, R415,
R439), the safety channels (R459 to R470) and the sequencer (R85 to R87) write below it, and the Rattle registers that SERVICE gives up (R683)
lie above. -/

namespace Sys2Proof.Machine

section
variable (s : State)

/-! ### The converters and the charger -/

theorem State.gongView_lvcModes (mode : Nat) (l : List Nat) : (s.lvcModes mode l).gongView = s.gongView := by
  have hleg (p : Nat) : (buckLeg p).1 < 12 := by
    unfold buckLeg
    split <;> simp
  unfold State.lvcModes
  induction l generalizing s with
  | nil => rfl
  | cons p l ih => exact (ih _).trans (s.gongView_shadowMode (hleg p) _ _)

theorem State.gongView_lvcShedEnd : s.lvcShedEnd.gongView = s.gongView := State.gongView_fput { s with lvc.shedJ := 0 } _ _ (by decide)

theorem State.gongView_lvcHalt (st cause : Nat) (why : BitVec 16) : (s.lvcHalt st cause why).gongView = s.gongView := by
  have hrun (u : State) : (((u.runClear 6).runClear 7).runClear 5).gongView = u.gongView := by
    rw [State.gongView_runClear _ (by decide), State.gongView_runClear _ (by decide), State.gongView_runClear _ (by decide)]
  have hctx (u : State) (f : Fld) (hf : f.hi + 1 - f.lo = 7) : (u.ctxDisable (u.fget f)).gongView = u.gongView :=
    u.gongView_ctxDisable (lt_of_lt_of_eq (u.fget_lt f) (congrArg (2 ^ ·) hf))
  have hstat (u : State) :
      ((((u.fset F.LVC_STAT_STATE st).fset F.LVC_STAT_PH_ACT 0).lvcShedEnd).fput F.LVC_STAT_HOLD false).gongView = u.gongView := by
    rw [State.gongView_fput _ _ _ (by decide), State.gongView_lvcShedEnd, State.gongView_fset _ _ _ (by decide),
      State.gongView_fset _ _ _ (by decide)]
  have hlvc (u : State) (x : Lvc) : ({ u with lvc := x } : State).gongView = u.gongView := rfl
  simp only [State.lvcHalt]
  rw [State.gongView_raise, State.gongView_showGates _ (by decide), hlvc, hstat, apply_ite State.gongView,
    hctx _ F.LVC_CFG_BAL_CTX rfl, ite_self, hctx _ F.LVC_CFG_COMP_CTX rfl, hrun]

theorem State.gongView_lvcStop (cause : Nat) : (s.lvcStop cause).gongView = s.gongView := by
  unfold State.lvcStop
  split
  · exact (State.gongView_lvcModes ..).trans ((State.gongView_fset _ F.LVC_STAT_STATE _ (by decide)).trans s.gongView_lvcShedEnd)
  · exact s.gongView_lvcHalt ..
  · exact s.gongView_lvcHalt ..
  · rfl

theorem State.gongView_lvcMode : s.lvcMode.gongView = s.gongView := by
  simp only [State.lvcMode, State.lvcFaultStop, apply_ite State.gongView, State.gongView_lvcStop, State.gongView_lvcHalt, ite_self]

theorem State.gongView_chgHalt (st cause : Nat) (why : BitVec 16) (pBatt : F32) : (s.chgHalt st cause why pBatt).gongView = s.gongView := by
  have hlt (f : Fld) (hf : f.hi + 1 - f.lo = 7) : s.fget f < 128 := lt_of_lt_of_eq (s.fget_lt f) (congrArg (2 ^ ·) hf)
  have hroles : ∀ n ∈ s.chgFrontRoles ++ s.chgDabRoles, n < 128 := by
    have hcur := hlt F.CHG_CTX0_CUR_D rfl
    have hcurQ := hlt F.CHG_CTX0_CUR_Q rfl
    have hbus := hlt F.CHG_CTX0_BUS rfl
    have hvd := hlt F.CHG_CTX1_VD rfl
    have hvq := hlt F.CHG_CTX1_VQ rfl
    have hpll := hlt F.CHG_CTX0_PLL rfl
    have hpwr := hlt F.CHG_CTX1_PWR rfl
    have hbat := hlt F.CHG_CTX1_BAT rfl
    unfold State.chgFrontRoles State.chgDabRoles
    cases s.chgForms
    · simpa using ⟨hcur, hcurQ, hbus, hpll, hpwr, hbat⟩
    · simpa using ⟨hcur, hcurQ, hbus, hvd, hvq, hpwr⟩
  have hchg (u : State) (x : Chg) : ({ u with chg := x } : State).gongView = u.gongView := rfl
  simp only [State.chgHalt]
  rw [State.gongView_raise, hchg, State.gongView_fset _ _ _ (by decide), State.gongView_fset _ _ _ (by decide),
    State.gongView_fput _ _ _ (by decide), State.gongView_ctxsOff _ hroles, State.gongView_runClear _ (by decide),
    State.gongView_runClear _ (by decide)]

theorem State.gongView_chgFaultStop (cause : Nat) (why : BitVec 16) : (s.chgFaultStop cause why).gongView = s.gongView := by
  unfold State.chgFaultStop
  repeat' split
  · exact s.gongView_chgHalt ..
  · exact State.gongView_chgHalt ..
  · rfl

theorem State.gongView_chgMode : s.chgMode.gongView = s.gongView := by
  simp only [State.chgMode, apply_ite State.gongView, State.gongView_chgFaultStop, ite_self]

/-! ### The actuators -/

theorem State.gongView_plUpdate : s.plUpdate.gongView = s.gongView := by
  have hlost (u : State) (st : Nat) : (u.chgParkLost st).gongView = u.gongView := by
    simp only [State.chgParkLost, apply_ite State.gongView, State.gongView_chgFaultStop, State.gongView_raise, ite_self]
  simp only [State.plUpdate, apply_ite State.gongView, hlost, State.gongView_raise, State.gongView_fset _ F.ACT_PL_STAT_STATE _ (by decide), ite_self]

section
variable {m : Nat} (hm : m < 3)
include hm

theorem State.gongView_actStat (v : Word) : (s.wr (R.ACT_STAT m) v).gongView = s.gongView :=
  s.gongView_wr v (by simp only [R.ACT_STAT, R.PMC_GNG_CAUSE_LO]; omega)

theorem State.gongView_actLegsOff : (s.actLegsOff m).gongView = s.gongView := by
  have hg : 8 + m < 12 := by omega
  simp only [State.actLegsOff, State.gongView_shadowMode _ hg]

theorem State.gongView_actLeave (hold : Bool) : (s.actLeave m hold).gongView = s.gongView := by
  have hg : 8 + m < 12 := by omega
  have hctx : s.actCtx m < 128 := s.fget_lt (F.ACT_CFG_CTX m)
  have hset (u : State) (v : ActM) : (u.setActm m v).gongView = u.gongView := by
    unfold State.setActm
    split <;> rfl
  have hlegs (u : State) (k high low : Nat) : (u.actLegs m k high low).gongView = u.gongView := by
    simp only [State.actLegs, State.gongView_shadowMode _ hg, State.gongView_actLegsOff _ hm]
  have hcmp (u : State) : (u.cmpDisarm (5 + m)).gongView = u.gongView :=
    u.gongView_wr _ (by simp only [F.PFB_CMP_STAT_ARMED, R.PFB_CMP_STAT, R.PMC_GNG_CAUSE_LO]; omega)
  simp only [State.actLeave]
  rw [hset, apply_ite State.gongView, hlegs, State.gongView_actLegsOff _ hm, ite_self, hcmp, State.gongView_ctxDisable _ hctx]
  exact (State.gongView_actStat _ hm _).trans (s.gongView_actStat hm _)

theorem State.gongView_actModeOne : (s.actModeOne m).gongView = s.gongView := by
  have hend : (s.actEnd m 2 false).gongView = s.gongView := by
    simp only [State.actEnd, apply_ite State.gongView, State.gongView_plUpdate, State.gongView_raise, ite_self]
    exact (State.gongView_actStat _ hm _).trans (s.gongView_actLeave hm false)
  simp only [State.actModeOne, apply_ite State.gongView, hend, ite_self]

end

theorem State.gongView_actMode : s.actMode.gongView = s.gongView := by
  rw [State.actMode, State.gongView_actModeOne _ (by decide), State.gongView_actModeOne _ (by decide), State.gongView_actModeOne _ (by decide)]

/-! ### The safety channels -/

@[simp] theorem State.gongView_setSmon (c : Chan) (x : Smon) : (s.setSmon c x).gongView = s.gongView := by
  cases c <;> rfl

theorem State.gongView_showChan (c : Chan) : (s.showChan c).gongView = s.gongView := by
  cases c with
  | smonA =>
    change s.showA.gongView = _
    rw [State.showA, State.gongView_removeStopped _ _ (by decide), State.gongView_fput _ _ _ (by decide), State.gongView_wr _ _ (by decide),
      State.gongView_wr _ _ (by decide), State.gongView_wr _ _ (by decide), State.gongView_wr _ _ (by decide)]
  | smonB =>
    change s.showB.gongView = _
    rw [State.showB, State.gongView_wr _ _ (by decide), State.gongView_wr _ _ (by decide), State.gongView_wr _ _ (by decide),
      State.gongView_wr _ _ (by decide)]

theorem State.gongView_reselect (c : Chan) : (s.reselect c).gongView = s.gongView := by
  simp only [State.reselect, State.gongView_showChan, apply_ite State.gongView, State.gongView_raiseAs, State.gongView_setSmon, ite_self]

theorem State.gongView_bothSelect : s.bothSelect.gongView = s.gongView := by
  have hrehold (u : State) {k : Nat} (hk : k < 12) : (u.reholdSys k).gongView = u.gongView := by
    simp only [State.reholdSys, apply_ite State.gongView, State.gongView_holdSys _ hk, ite_self]
  have hcodes (u : State) : u.systemCodes.gongView = u.gongView := by
    rw [State.systemCodes, hrehold _ (by decide), hrehold _ (by decide), State.gongView_wr _ _ (by decide)]
    rfl
  have hinhibit (u : State) (c : Chan) : (u.inhibitStep c).gongView = u.gongView := by
    simp only [State.inhibitStep, apply_ite State.gongView, State.gongView_setSmon, ite_self]
  rw [State.bothSelect, State.gongView_reselect, State.evaluateA, apply_ite State.gongView, State.gongView_reselect, hcodes, hinhibit]
  exact ite_self _

theorem State.gongView_latchCauses : s.latchCauses.gongView = s.gongView := by
  rw [State.latchCauses, State.gongView_bothSelect, apply_ite State.gongView]
  exact ite_self _

theorem State.gongView_setOo (c : Chan) (o : OpenOnce) : (s.setOo c o).gongView = s.gongView := by
  cases c with
  | smonA => exact (State.gongView_fset _ F.SYS_EN_STAT_STATE_A _ (by decide)).trans (s.gongView_setSmon ..)
  | smonB => exact (State.gongView_fset _ F.SYS_EN_STAT_STATE_B _ (by decide)).trans (s.gongView_setSmon ..)

/-! ### The change to SAFE-HOLD -/

theorem State.gongView_setMode (m : Mode) (sub : Sub) (why : BitVec 16) : (s.setMode m sub why).gongView = s.gongView := by
  unfold State.setMode
  split
  · rfl
  · exact State.gongView_raise ..

/-- The Rattle registers lie above the record's. -/
theorem State.gongView_rtlReset : s.rtlReset.gongView = s.gongView := by
  have hrd (a : Nat) (ha : (a / 65536 != 0x201F) = true) : s.rtlReset.rd a = s.rd a :=
    (SMap.get_filter RegMap.reset (fun a => a / 65536 != 0x201F) s.regs a).trans (if_pos ha)
  simp only [State.gongView, hrd R.PMC_GNG_CAUSE_LO (by decide), hrd R.PMC_GNG_CAUSE_HI (by decide), hrd R.PMC_GNG_CODE (by decide),
    hrd R.PMC_GNG_STAT (by decide)]
  rfl

theorem State.gongView_tmuLeave_safeHold : (s.tmuLeave .safeHold).gongView = s.gongView := by
  rw [State.tmuLeave, if_pos rfl, State.gongView_holdBoth, State.gongView_disableAllManaged]
  exact (State.gongView_wr _ (a := R.TMU_TQ_APPLIED) 0 (by decide)).trans (s.gongView_fput F.TMU_STAT_POS_HOLD false (by decide))

theorem State.gongView_testStop : s.testStop.gongView = s.gongView := by
  unfold State.testStop
  split
  · rfl
  · exact (State.gongView_wr _ _ (by decide)).trans ((State.gongView_fset _ _ _ (by decide)).trans (State.gongView_fset _ _ _ (by decide)))

theorem State.gongView_stagesFollow : s.stagesFollow.gongView = s.gongView := by
  have habc (u : State) : u.abcDrive.gongView = u.gongView := State.gongView_fput _ F.GDR_ABC_STAT_ON _ (by decide)
  have hready (u : State) : u.torqueReady.gongView = u.gongView := u.gongView_fput _ _ (by decide)
  simp only [State.stagesFollow, State.gongView_bothSelect, hready, habc, State.gongView_allFollow _ (show 12 ≤ 12 by decide),
    State.gongView_showGates _ (show 12 ≤ 12 by decide), State.gongView_actMode, State.gongView_chgMode, apply_ite State.gongView,
    State.gongView_lvcMode, ite_self]

theorem State.gongView_enter_safeHold (sub : Sub) (red : Bool) (why : BitVec 16) : (s.enter .safeHold sub red why).gongView = s.gongView := by
  have hheld (u : State) (m : Mode) : (u.keepHeld m).gongView = u.gongView := by
    unfold State.keepHeld
    split <;> rfl
  have hmode (x : ModeSeq) : (({ s.keepHeld .safeHold with seq := x } : State).setMode .safeHold sub why).gongView = s.gongView :=
    (State.gongView_setMode ..).trans (hheld s .safeHold)
  have hinhibit (u : State) : (u.fput F.SYS_EN_STAT_TORQUE_INH false).gongView = u.gongView := u.gongView_fput _ _ (by decide)
  have harming : (Mode.safeHold = .arming) = False := eq_false (by decide)
  have hservice : (Mode.safeHold = .service) = False := eq_false (by decide)
  simp only [State.enter, harming, hservice, if_false, if_true, decide_false, Bool.and_false, Bool.false_eq_true, apply_ite State.gongView,
    State.gongView_stagesFollow, State.gongView_testStop, State.gongView_tmuLeave_safeHold, hinhibit, State.gongView_holdBoth,
    State.gongView_rtlReset, hmode, ite_self]

theorem State.gongView_requestFail (req result : Nat) : (s.requestFail req result).gongView = s.gongView :=
  (State.gongView_raise ..).trans (State.gongView_fset { s with seq := { s.seq with acted := none } } F.SYS_MODE_STAT_RESULT result (by decide))

theorem State.gongView_requestEnd (cyc : Option Nat) : (s.requestEnd cyc).gongView = s.gongView := by
  unfold State.requestEnd
  repeat' split
  · exact State.gongView_requestFail ..
  · exact State.gongView_requestFail ..
  · rfl
  · rfl

theorem State.gongView_safeHoldEntry (why : BitVec 16) (cyc : Option Nat) : (s.safeHoldEntry why cyc).gongView = s.gongView := by
  unfold State.safeHoldEntry
  repeat' split
  · rfl
  · exact s.gongView_requestEnd cyc
  · refine (State.gongView_requestEnd ..).trans ((State.gongView_enter_safeHold ..).trans ?_)
    rw [State.gongView_setOo, State.gongView_setOo]
    rfl

/-- A SAFE decision. -/
theorem State.gongView_safeDecide (code : BitVec 16) (cyc : Nat) : (s.safeDecide code cyc).gongView = s.gongView := by
  simp only [State.safeDecide, apply_ite State.gongView, State.gongView_count _ 1 (show 0x183 < 512 by decide), State.gongView_safeHoldEntry,
    State.gongView_latchCauses, ite_self]

end

end Sys2Proof.Machine

/-! The Gong record (R675 to R679): its first FATAL record and the further ones, and the FATAL reset that a write of DONE asks for. -/

namespace Sys2Proof.Machine

/-! ### A FATAL record takes effect (R675, R677) -/

theorem RegMap.impl_gngStat : ∀ i < 32, i = 0 ∨ 16 ≤ i → (RegMap.impl R.PMC_GNG_STAT).getLsbD i = true := by decide

theorem RegMap.impl_gngCode : ∀ i < 24, (RegMap.impl R.PMC_GNG_CODE).getLsbD i = true := by decide

section
variable (s : State) (v0 v1 v2 : Verified)

/-- The first record: the snapshot is frozen, and the registers name the record. -/
theorem State.gongHold_shows (r : React) :
    (s.gongHold r v0 v1 v2).fbit F.PMC_GNG_STAT_FROZEN = true ∧ (s.gongHold r v0 v1 v2).rd R.PMC_GNG_CAUSE_LO = loWord r.stamp ∧
      (s.gongHold r v0 v1 v2).rd R.PMC_GNG_CAUSE_HI = hiWord r.stamp ∧ (s.gongHold r v0 v1 v2).fget F.PMC_GNG_CODE_CODE = r.code.toNat ∧
      (s.gongHold r v0 v1 v2).fget F.PMC_GNG_CODE_INST = r.inst.toNat := by
  have hword : (w32 (r.code.toNat + 2 ^ 16 * r.inst.toNat)).toNat = r.code.toNat + 2 ^ 16 * r.inst.toNat :=
    (BitVec.toNat_ofNat ..).trans (Nat.mod_eq_of_lt (by omega))
  have hcode : fldOf F.PMC_GNG_CODE_CODE (w32 (r.code.toNat + 2 ^ 16 * r.inst.toNat)) = r.code.toNat := by
    simp only [fldOf, bits, hword, F.PMC_GNG_CODE_CODE]
    omega
  have hinst : fldOf F.PMC_GNG_CODE_INST (w32 (r.code.toNat + 2 ^ 16 * r.inst.toNat)) = r.inst.toNat := by
    simp only [fldOf, bits, hword, F.PMC_GNG_CODE_INST]
    omega
  have hstat (u : State) (a : Nat) (ha : a ≠ R.PMC_GNG_STAT) : (u.fput F.PMC_GNG_STAT_FROZEN true).rd a = u.rd a := u.rd_fput_of_ne _ _ ha
  refine ⟨State.fbit_fput _ F.PMC_GNG_STAT_FROZEN true rfl (RegMap.impl_gngStat 0 (by decide) (.inl rfl)), ?_, ?_, ?_, ?_⟩
  · rw [State.gongHold, hstat _ _ (by decide), State.rd_wr_of_ne _ _ (by decide), State.wr64, State.rd_wr_of_ne _ _ (by decide)]
    exact State.rd_wr_full _ _ (by decide)
  · rw [State.gongHold, hstat _ _ (by decide), State.rd_wr_of_ne _ _ (by decide), State.wr64]
    exact State.rd_wr_full _ _ (by decide)
  · rw [State.gongHold, State.fget_congr (hstat _ _ (by decide))]
    exact (State.fget_wr_self _ F.PMC_GNG_CODE_CODE _ fun i _ hhi => RegMap.impl_gngCode i (Nat.lt_of_le_of_lt hhi (by decide))).trans hcode
  · rw [State.gongHold, State.fget_congr (hstat _ _ (by decide))]
    exact (State.fget_wr_self _ F.PMC_GNG_CODE_INST _ fun i _ hhi => RegMap.impl_gngCode i (Nat.lt_of_le_of_lt hhi (by decide))).trans hinst

/-- A further record is counted in EXTRA, up to its end. -/
theorem State.fget_extra_finc : (s.finc F.PMC_GNG_STAT_EXTRA 1).fget F.PMC_GNG_STAT_EXTRA = min (s.fget F.PMC_GNG_STAT_EXTRA + 1) 65535 := by
  have hsum (n : Nat) : satAdd n 1 65535 = min (n + 1) 65535 := by
    unfold satAdd
    split <;> omega
  change (s.fset F.PMC_GNG_STAT_EXTRA (satAdd (s.fget F.PMC_GNG_STAT_EXTRA) 1 65535)).fget F.PMC_GNG_STAT_EXTRA = _
  rw [hsum]
  exact s.fget_fset_self F.PMC_GNG_STAT_EXTRA (Nat.lt_of_le_of_lt (Nat.min_le_right ..) (by decide)) (by decide)
    fun i hlo hhi => RegMap.impl_gngStat i (Nat.lt_of_le_of_lt hhi (by decide)) (.inr hlo)

/-- The record a FATAL reaction makes, with `l` still waiting: the first freezes the snapshot, a further one is counted. -/
def State.fatalTaken (r : React) (l : List React) : State :=
  let s1 := { s with reacts := l }
  if s1.fbit F.PMC_GNG_STAT_FROZEN then s1.finc F.PMC_GNG_STAT_EXTRA 1 else s1.gongHold r v0 v1 v2

/-- The decision in SMON-A and the interrupt that follow leave the record alone, and its reset falls due. -/
theorem State.gongView_gongFreeze {r : React} {l : List React} (h : takeReact 5 s.reacts = some (r, l)) :
    ∃ t0, (s.gongFreeze v0 v1 v2).gongView =
      ({ s.fatalTaken v0 v1 v2 r l with gong := { (s.fatalTaken v0 v1 v2 r l).gong with fatalAt := some t0 } } : State).gongView := by
  have hirq (u : State) (p : Fin 3) (x : Half) (c : BitVec 16) (i : BitVec 8) (t : Tick) : (u.irq p x c i t).gongView = u.gongView := rfl
  refine ⟨(s.fatalTaken v0 v1 v2 r l).gong.fatalAt.getD (s.time - (s.now - r.stamp.toNat)), ?_⟩
  simp only [State.gongFreeze, h, apply_ite State.gongView, hirq, State.gongView_safeDecide, ite_self]
  rfl

variable {s}

theorem gongFreeze_freezes {r : React} {l : List React} (h : takeReact 5 s.reacts = some (r, l)) (hfree : s.fbit F.PMC_GNG_STAT_FROZEN = false) :
    ∃ t, exec (.gongFreeze v0 v1 v2) s = .next t ∧ t.fbit F.PMC_GNG_STAT_FROZEN = true ∧ t.rd R.PMC_GNG_CAUSE_LO = loWord r.stamp ∧
      t.rd R.PMC_GNG_CAUSE_HI = hiWord r.stamp ∧ t.fget F.PMC_GNG_CODE_CODE = r.code.toNat ∧ t.fget F.PMC_GNG_CODE_INST = r.inst.toNat ∧
      t.gong.fatalAt.isSome = true := by
  obtain ⟨t0, hview⟩ := s.gongView_gongFreeze v0 v1 v2 h
  have hu : s.fatalTaken v0 v1 v2 r l = ({ s with reacts := l } : State).gongHold r v0 v1 v2 := if_neg (Bool.eq_false_iff.mp hfree)
  rw [hu] at hview
  obtain ⟨hfrozen, hlo, hhi, hcode, hinst⟩ := State.gongHold_shows { s with reacts := l } v0 v1 v2 r
  simp only [State.gongView, Prod.mk.injEq] at hview
  obtain ⟨hlo', hhi', hcode', hstat', hgong⟩ := hview
  exact ⟨_, rfl, (State.fbit_congr hstat').trans hfrozen, hlo'.trans hlo, hhi'.trans hhi, (State.fget_congr hcode').trans hcode,
    (State.fget_congr hcode').trans hinst, congrArg (·.fatalAt.isSome) hgong⟩

theorem gongFreeze_counts {r : React} {l : List React} (h : takeReact 5 s.reacts = some (r, l)) (hfrozen : s.fbit F.PMC_GNG_STAT_FROZEN = true) :
    ∃ t, exec (.gongFreeze v0 v1 v2) s = .next t ∧ t.gong.win = s.gong.win ∧
      t.fget F.PMC_GNG_STAT_EXTRA = min (s.fget F.PMC_GNG_STAT_EXTRA + 1) 65535 ∧ t.rd R.PMC_GNG_CAUSE_LO = s.rd R.PMC_GNG_CAUSE_LO ∧
      t.rd R.PMC_GNG_CAUSE_HI = s.rd R.PMC_GNG_CAUSE_HI ∧ t.rd R.PMC_GNG_CODE = s.rd R.PMC_GNG_CODE := by
  obtain ⟨t0, hview⟩ := s.gongView_gongFreeze v0 v1 v2 h
  have hu : s.fatalTaken v0 v1 v2 r l = ({ s with reacts := l } : State).finc F.PMC_GNG_STAT_EXTRA 1 := if_pos hfrozen
  rw [hu] at hview
  have hrd (a : Nat) (ha : a ≠ R.PMC_GNG_STAT) : (({ s with reacts := l } : State).finc F.PMC_GNG_STAT_EXTRA 1).rd a = s.rd a :=
    State.rd_finc_of_ne _ _ _ ha
  have hextra : (({ s with reacts := l } : State).finc F.PMC_GNG_STAT_EXTRA 1).fget F.PMC_GNG_STAT_EXTRA =
      min (s.fget F.PMC_GNG_STAT_EXTRA + 1) 65535 := State.fget_extra_finc { s with reacts := l }
  simp only [State.gongView, Prod.mk.injEq] at hview
  obtain ⟨hlo', hhi', hcode', hstat', hgong⟩ := hview
  have hwin := congrArg Gong.win hgong
  exact ⟨_, rfl, hwin, (State.fget_congr hstat').trans hextra, hlo'.trans (hrd _ (by decide)),
    hhi'.trans (hrd _ (by decide)), hcode'.trans (hrd _ (by decide))⟩

end

/-! ### The write of DONE (R679) -/

section
variable {s : State} {m : Master} {v : Word} (f : FlashBoot) (h : s.grants m R.PMC_GNG_CTRL)
include h

theorem exec_pmcGngDone :
    exec (.pmcGngDone m v f) s = .next
      ((if v.getLsbD 0 && s.fbit F.PMC_GNG_STAT_FROZEN then (s.atWrite m R.PMC_GNG_CTRL).lPulse .fatal false f
        else s.atWrite m R.PMC_GNG_CTRL).busOk 0) := by
  change Host.Outcome.next (s.writeAs m R.PMC_GNG_CTRL fun s => s.gongDone v f) = _
  have hfrozen : (s.atWrite m R.PMC_GNG_CTRL).fbit F.PMC_GNG_STAT_FROZEN = s.fbit F.PMC_GNG_STAT_FROZEN := by simp
  rw [s.writeAs_granted h, State.gongDone, hfrozen]

/-- With a snapshot frozen DONE makes the FATAL reset. -/
theorem pmcGngDone_resets (hv : v.getLsbD 0 = true) (hfrozen : s.fbit F.PMC_GNG_STAT_FROZEN = true) :
    ∃ t, exec (.pmcGngDone m v f) s = .next t ∧ t.clave = s.clave ∧ t.seq.mode = .arming ∧ t.rd R.SYS_RESET_CAUSE = 4 := by
  have hexec := exec_pmcGngDone f h (v := v)
  rw [if_pos (by rw [hv, hfrozen]; rfl)] at hexec
  obtain ⟨hclave, hmode, -, hcause, -, -, -⟩ := (s.atWrite m R.PMC_GNG_CTRL).restarted_lPulse (k := .fatal) (by decide) f
  exact ⟨_, hexec, hclave.trans (by simp), hmode, hcause⟩

/-- While nothing is frozen the write is ignored. -/
theorem pmcGngDone_ignored (hfree : s.fbit F.PMC_GNG_STAT_FROZEN = false) :
    ∃ t, exec (.pmcGngDone m v f) s = .next t ∧ t.answered 0 ∧ (∀ a, t.rd a = s.rd a) ∧ SameMem s t := by
  have hexec := exec_pmcGngDone f h (v := v)
  rw [if_neg (by simp [hfree])] at hexec
  exact ⟨_, hexec, rfl, s.rd_atWrite m _, .of_mem (s.mem_atWrite m R.PMC_GNG_CTRL)⟩

end

/-- Settles O55: the write of the modes, the clears, the two outcomes of a count, the first FATAL record and a further one, and the two outcomes
of DONE, each a lemma above. -/
theorem countersAndGong : Obligations.CountersAndGong :=
  ⟨fun _ _ _ _ => pmcModeWrite_keeps_cycle, fun _ _ _ _ => pmcClr_marks, fun _ _ _ => pmcOverflow_counts, fun _ _ _ => pmcOverflow_wraps,
    fun _ v0 v1 v2 _ _ => gongFreeze_freezes v0 v1 v2, fun _ v0 v1 v2 _ _ => gongFreeze_counts v0 v1 v2,
    fun _ _ _ f h => pmcGngDone_resets f h, fun _ _ _ f h => pmcGngDone_ignored f h⟩

end Sys2Proof.Machine

/-! A mismatch forced on a joined pair (R685) makes more records than its own RTL_INJECT, and among those SMA_REACT may lift (R488) the journal
gives up the youngest below SAFE where 64 wait (R63, R64). -/

namespace Sys2Proof.Machine

/-- Reset but for this: SERVICE with the Rattle registers unlocked and writable by pair 0, SMA_REACT entries that lift PMC_OVERFLOW and
LKS_RECOVERY to class 4, the counter of pair 0's mismatches and that of counter overflows at their ends, and 60 records waiting for the journal. -/
def crowdedRattle : State :=
  let s := (State.reset.wr (R.SYS_FW_BLK_WR 0) 0x2000000).fput F.RTL_STAT_UNLOCKED true
  let t := (s.wr (R.SMA_REACT 0) 0x80040112).wr (R.SMA_REACT 1) 0x80040301
  { t with
    seq.mode := .service
    pmc.cyc := t.cyc
    pmc.cnt := [(0x009, 0xFFFFFFFFFFFF), (0x1F6, 0xFFFFFFFFFFFF)]
    jrn.waiting := List.replicate 60 { code := C.MODE_REFUSED.code, src := 0x0100 } }

theorem grants_crowdedRattle : crowdedRattle.grants leadingCore R.RTL_MISM := by
  unfold State.grants
  decide +kernel

/-- There is room for four records. -/
theorem room_crowdedRattle : crowdedRattle.room 4 := by
  unfold State.room
  decide +kernel

/-- A mismatch forced there, of pair 0 with an uncorrectable error in its register file: RTL_INJECT, two PMC_OVERFLOW and LKS_RECOVERY fill the
queue, and for LKS_VRF_UNCORR it gives up RTL_INJECT, the youngest record below class 4 (R64). -/
theorem rtlMismGo_loses_inject :
    ∃ t, exec (.rtlMismGo leadingCore 0 { pc := 0, count := 0, file := [] } (some { word := 0, uncorrectable := true })) crowdedRattle = .next t ∧
      t.noted C.RTL_INJECT.code 0 { w0 := bytes4 0 0 0 0 } = 0 :=
  ⟨_, rfl, by decide +kernel⟩

/-- Refutes O56: the clause of the forced mismatch says that RTL_INJECT waits for the journal wherever four more records have room, yet the
mismatch may make five records, and the fifth, of class FATAL, may take the place of RTL_INJECT. -/
theorem not_rattle : ¬ Obligations.Rattle := by
  rintro ⟨-, -, -, -, hforced, -, -⟩
  obtain ⟨t, hexec, -, hjournaled, -⟩ := hforced crowdedRattle leadingCore 0 { pc := 0, count := 0, file := [] }
    (some { word := 0, uncorrectable := true }) grants_crowdedRattle rfl (by decide +kernel) (by decide +kernel) (by decide) (by decide) (by decide)
    (by decide +kernel) room_crowdedRattle
  obtain ⟨u, hexec', hlost⟩ := rtlMismGo_loses_inject
  obtain rfl : t = u := Host.Outcome.next.inj (hexec.symm.trans hexec')
  have hnone : t.noted C.RTL_INJECT.code (BitVec.ofNat 8 0) { w0 := bytes4 0 0 0 0 } = 0 := hlost
  exact Nat.not_lt_zero _ (lt_of_lt_of_eq hjournaled hnone)

end Sys2Proof.Machine
